-- ==== Sys2Proof/Word.lean ====
section
/-! DEFINITION. The words of the machine: bytes and 32-bit register words (R3), with the plainest
arithmetic on them. -/

namespace Sys2Proof

/-- One byte on a wire, in the buffer or in a memory. -/
abbrev Byte := BitVec 8

/-- One register word (R3). -/
abbrev Word := BitVec 32

/-- The word with the value of `n` modulo 2^32. -/
def Word.ofNat (n : Nat) : Word := BitVec.ofNat 32 n

/-- The byte with the value of `n` modulo 2^8. -/
def Byte.ofNat (n : Nat) : Byte := BitVec.ofNat 8 n

end Sys2Proof
end

