-- ==== Sys2Proof/Syntax.lean ====
section
/-! DEFINITION. The commands: one constructor per row of spec/opcode_table.json, in the table's order, with
the row's operands. A register access names the agent that makes it; an event names the port, Platform or
entry it concerns and whatever reaches the switch from outside with it (bytes from a wire, descriptors and
data read from host memory, verdicts of checks whose keys the model does not hold, sensor readings; DESIGN CHOICE, logs 11 and
60). -/

namespace Sys2Proof

/-- The agent of a register access (R358, R369): 0 PCIe, 1 SPI, 2 firmware. -/
inductive Src
  | pcie | spi | firmware
  deriving DecidableEq, Repr

/-- The two memory windows of the endpoint (R346). -/
inductive Bar
  | bar0 | bar2
  deriving DecidableEq, Repr

/-- What resets the PCIe function (R348). -/
inductive FnReset
  | flr | hotReset | linkDown | perst | d3ToD0
  deriving DecidableEq, Repr

/-- A table-DMA descriptor, or the part of its run that one command moves: until `upTo` of its entries have been moved, all of them
where none is named (R144, R145; DESIGN CHOICE, log 39). -/
structure DmaRun where
  desc : List Word
  upTo : Option Nat := none
  deriving DecidableEq, Repr

/-- What may fail of host memory (R389, R393): the read of a descriptor; of a transmit data buffer, with the frame's
descriptors; a write of receive data or of a completion; the data of a table operation, with its descriptor, how many
entries had been moved and, for WRITE, their bytes. -/
inductive DmaFail
  | txDesc (q : Nat) | txData (q : Nat) (descs : List (List Word)) | rxDesc (q : Nat) | rxData (q : Nat)
  | cqWrite (u : Nat) | tdDesc | tdData (desc : List Word) (moved : Nat) (data : List Byte)
  deriving DecidableEq, Repr

/-- A Flalith frame as it reaches a port (R418, R419): the port, the destination and source address, the tag of its VLAN where it
has one, the EtherType after its tags, the header's fields, and the GCM tag. The payload, in clear, is the command's own operands.
-/
structure FlaHdr where
  port : Nat
  da : Nat
  sa : Nat
  vlan : Option Nat
  etype : Nat
  ver : Nat
  type : Nat
  hops : Nat
  slot : Nat
  dst : Nat
  src : Nat
  seq : Nat
  len : Nat
  tag : Nat
  deriving DecidableEq, Repr

/-- The data of an update piece, and whether the flash programs it without failing (R428). -/
structure Piece where
  data : List Byte
  programOk : Bool := true
  deriving DecidableEq, Repr

/-- The signed response of an unlock (R442): a signature, and the number its signer drew for it. -/
structure DebugSig where
  nonce : Nat
  value : Nat
  deriving DecidableEq, Repr

/-- The items that provisioning writes over JTAG (R438, R440); keys are given in clear and the vault wraps them. -/
inductive JtagItem
  | secret (bits : List Byte)
  | rootId (n : Nat) (keyId : List Byte)
  | debugId (keyId : List Byte)
  | publicKey (key : List Byte)
  | imageKey (key : List Byte)
  | transportKey (slot : Nat) (key : List Byte)
  | policy (v : Nat)
  | revoke (bit : Nat)
  | provLock
  deriving DecidableEq, Repr

/-- What Restore finds of the memories that outlive a reset (R398, R410): whether the capture ring still holds its contents, and
which records of MRAM fail their check in every slot. Bits 0 to 7 are the learned-address blocks, 8 and 9 the headers of the
durable and the generation area, 10 the retained configuration record, 11 the update state, 12 the capture state, 13 the times, 14
the count of partner resets. `older` names, of bits 8 and 10 to 13, the records whose newer slot alone fails. -/
structure MramCheck where
  ringOk : Bool
  lost : Nat := 0
  older : Nat := 0
  deriving DecidableEq, Repr

/-- The queues of a Platform that hold no frame bytes (R464); the two Turntable lanes apart. -/
inductive PlatQueue
  | intake | prio | norm | learn | capture
  deriving DecidableEq, Repr

/-- Whose cells a cell of frame bytes is one of (R464, R465): in the staging cells and the copy source, a frame's of a Platform,
by its number; in the buffer, those of a copy in an egress queue; and those of a frame that a port's MAC has been handed, or is
sending. -/
inductive CellPlace
  | source (plat no : Nat)
  | queued (port cls i : Nat)
  | handed (port cls : Nat)
  | leaving (port : Nat)
  deriving DecidableEq, Repr

/-- Where an error of a memory lies (R464): in the line that the scrubber reads now, in a word met at its access, in a register or
staged value, in a management core's memory, in cell `k` of a frame's bytes, in a Platform's pipeline metadata, in an entry of one
of its queues, or in a unit of MRAM. -/
inductive MemPlace
  | line
  | word (addr : Nat)
  | register (blk offset : Nat)
  | core (memory addr : Nat)
  | cell (at_ : CellPlace) (k : Nat)
  | metadata (plat : Nat)
  | queue (plat : Nat) (q : PlatQueue) (i : Nat)
  | mram (unit : Nat)
  deriving DecidableEq, Repr

/-- An error of a memory: where it lies, and whether it is an uncorrectable one (R464, R469). -/
structure MemErr where
  place : MemPlace
  double : Bool
  deriving DecidableEq, Repr

/-- One command per row of the opcode table. -/
inductive Instr
  | registerWrite (src : Src) (bar : Bar) (addr : Nat) (bytes : List Byte)
  | setViewWrite (src : Src) (addr : Nat) (v : Word)
  | clrViewWrite (src : Src) (addr : Nat) (v : Word)
  | tglViewWrite (src : Src) (addr : Nat) (v : Word)
  | lockSet (src : Src) (blk : Nat)
  | commitGroup (src : Src) (tb group : Nat)
  | commitAll (src : Src) (tb : Nat)
  | commitEdge
  | cntSnap (src : Src) (plat port : Nat)
  | cntSnapDone (plat : Nat)
  | cellDraw (port : Nat) (sfd : Bool) (data : List Byte)
  | frameReceive (port : Nat) (codeErr : Bool)
  | pauseReceived (port : Nat)
  | pfcReceived (port : Nat)
  | pauseTimerExpiry (port cls : Nat)
  | firstPass (plat : Nat)
  | turntablePass (plat : Nat)
  | extraCopyWrite (plat : Nat)
  | waitListAdmit (plat i : Nat)
  | xonSent (port acct : Nat)
  | xoffRefresh (port acct : Nat)
  | copySourceXon (plat : Nat)
  | pauseFrameTx (port : Nat)
  | transmissionSelection (port : Nat) (bufs : List (List Word))
  | projectedStart (port cells : Nat)
  | frameStart (port cells : Nat)
  | txUnderrun (port sent : Nat)
  | txFrameComplete (port : Nat)
  | lpiEntry (port : Nat)
  | linkDown (port : Nat) (localFault remoteFault : Bool)
  | linkUp (port speed : Nat)
  | deadlineDrop (port cls : Nat)
  | holdExpiry (port : Nat)
  | swap (src : Src) (timed : Bool) (tb : Nat)
  | swapEdge
  | genRetired
  | learnEventApply (plat : Nat)
  | agingSweep
  | spreadCopy
  | flush (src : Src) (v : Word)
  | flushDone
  | claim (src : Src) (target : Nat)
  | claimGranted (target : Nat)
  | claimRelease (src : Src) (target : Nat)
  | tblCmdRead (src : Src) (target index : Nat)
  | tblCmdWrite (src : Src) (target index : Nat)
  | tblCmdLookup (src : Src) (target index : Nat)
  | tblCmdInsert (src : Src) (target index : Nat)
  | tblCmdDelete (src : Src) (target index : Nat)
  | cmdDone
  | tableDmaRead (run : DmaRun)
  | tableDmaWrite (run : DmaRun) (data : List Word)
  | gateScheduleStart (sched : Nat)
  | timetableStart (port : Nat)
  | recoverGo (src : Src)
  | testWindowSet (src : Src) (on : Bool)
  | startupWindowClose
  | testWindowExpiry
  | recoveryWindowClose
  | samplePeriod
  | wakeAhead (plat : Nat)
  | check (src : Src)
  | checkDone
  | recoveryReset (fn : Nat)
  | latentErrorTest (fn : Nat)
  | couplerLinkUp
  | couplerLinkDown
  | healthFrameSend
  | healthFrameReceive (frame : List Byte)
  | partnerSilent
  | haltNoticeReceive (frame : List Byte)
  | couplerFrameReceive (frame : List Byte)
  | resetPartner (src : Src)
  | partnerResetTimeout
  | resetRequestSend
  | resetRequestReceive (frame : List Byte)
  | timeCmdStep (src : Src) (tb : Nat)
  | timeCmdSet (src : Src) (tb : Nat)
  | timeCmdTrim (src : Src) (tb : Nat)
  | timeCmdApply
  | timeSnap (src : Src)
  | timeSnapTake
  | timePageRefresh
  | timeSave
  | tcRecordAged (plat : Nat)
  | ppsOutPulse (n : Nat)
  | ppsOutPulseEnd (n : Nat)
  | ppsInEdge (n highNs : Nat)
  | captureDrainRead (plat : Nat)
  | recordWrite
  | blockCloseTimeout
  | openLenSave
  | triggerWrite (src : Src)
  | gpioTrigger (pin : Nat) (rising : Bool)
  | windowPostEnd (w : Nat)
  | windowSealed (w : Nat)
  | windowCommit (src : Src) (mask : Nat)
  | windowRelease (src : Src) (mask : Nat)
  | windowCommitDone (w : Nat)
  | windowCommitError (w : Nat)
  | cxlError
  | functionReset (cause : FnReset)
  | spiWrite (bytes : List Byte)
  | spiRead (bytes : List Byte) (words : Nat)
  | msixUnmask (v : Nat)
  | perfCounterWrite (src : Src) (plat n : Nat) (hi : Bool) (v : Word)
  | enableUnit (src : Src) (u : Nat)
  | disableUnit (src : Src) (u : Nat)
  | unitIdle (u : Nat)
  | txDb (src : Src) (q : Nat) (v : Nat) (user : Bool)
  | rxDb (src : Src) (q : Nat) (v : Nat) (user : Bool)
  | cqDb (src : Src) (q : Nat) (v : Nat) (user : Bool)
  | tdDb (src : Src) (v : Nat)
  | tdcDb (src : Src) (v : Nat)
  | hostTxFetch (q : Nat) (descs : List (List Word)) (data : List Byte)
  | dmaAccessFail (what : DmaFail)
  | rxHoldDrop (q : Nat) (cls : Nat)
  | completionWrite (u : Nat)
  | cqTimerExpiry (u : Nat)
  | vaoRise
  | vaoFall
  | pwrgoodFall
  | resetNAssert
  | resetNRelease (straps : Nat)
  | bootInit (selftestOk : Bool)
  | bootIdentity (flashOk : Bool)
  | bootRestore (found : MramCheck)
  | bootLoad (fails : Bool) (engine : Nat)
  | bootApply
  | bootAdmission
  | bootCommit
  | flalithRead (h : FlaHdr) (addrs : List Nat)
  | flalithWrite (h : FlaHdr) (writes : List (Nat × Word))
  | report (h : FlaHdr) (number offset : Nat)
  | windowRead (h : FlaHdr) (w offset : Nat)
  | updBegin (h : FlaHdr) (pkg bytes : Nat)
  | updPiece (h : FlaHdr) (pkg index : Nat) (piece : Piece)
  | updStatus (h : FlaHdr) (from_ : Nat)
  | updArm (h : FlaHdr) (pkg tries : Nat)
  | updReboot (h : FlaHdr) (delayMs : Nat) (force : Bool)
  | updRebootDelayEnd
  | updAbort (h : FlaHdr)
  | keyRoll (h : FlaHdr) (key : List Byte)
  | debugChallengeRead
  | debugUnlock (sig : DebugSig)
  | debugReset
  | jtagProvision (item : JtagItem)
  | dozeEntry (plat : Nat)
  | sleepEntry (plat : Nat)
  | platformWake (plat cause : Nat)
  | platformRun (plat : Nat)
  | offReturn (plat : Nat)
  | wakeNFall
  | chipRetentionEntry
  | chipWake
  | halt (code : Nat) (detail : List Word)
  | scrubRead (tableErr treeErr : Option MemErr)
  | safWdog (src : Src)
  | watchdogExpiry
  | clockMonitorWindow (readings : List Nat)
  | sensorRead (temps rails : List Int)
  | safetySelftest (failed : Option Nat)
  | lifeHour
  | injectSingleBit (src : Src) (plat : Nat)
  | injectDoubleBit (src : Src) (plat : Nat)
  | injectCellCrc (src : Src) (plat : Nat)
  | injectLockstep (src : Src) (plat : Nat)
  | injectClockMonitor (src : Src) (plat : Nat)
  | injectPipelineParity (src : Src) (plat : Nat)
  | lpiLeadWake (port : Nat)
  | receiveLpiChange (port : Nat) (on : Bool)
  | wakeNRise
  | pcieLinkUp (width speed : Nat)
  | d3hotEntry
  | aocCopyRefresh
  | perfCounterWrap (plat n : Nat)
  | durationCounterHalfRange (bank unit slot : Nat)
  deriving DecidableEq, Repr

end Sys2Proof
end

