-- ==== Sys2Proof/WellFormed.lean ====
section
/-! DEFINITION. Which commands are well-formed: their operands name ports, Platforms, entries and windows that the switch has,
and their numbers fit the fields that carry them. A command that is not well-formed names nothing the switch has, and changes
nothing (Machine.answer). -/

namespace Sys2Proof

/-- A line port (R39). -/
def isLine (n : Nat) : Bool := decide (n < 512)

/-- A port with a MAC: a line port, or the Coupler (R39). -/
def isMac (n : Nat) : Bool := decide (n < 512) || n = 520

/-- A port with egress queues: a line port, the Coupler, a host queue group (R175). -/
def isEgress (n : Nat) : Bool := decide (n < 512) || n = 520 || (decide (528 ≤ n) && decide (n ≤ 543))

/-- The number of a block (R359). -/
def isBlock (b : Nat) : Bool := decide (b < 13) || (decide (16 ≤ b) && decide (b ≤ 24))

/-- A BAR0 offset within the normal view of its block (R4, R499). -/
def isNormal (a : Nat) : Bool := decide (a < 0x4000000) && decide (a % 0x40000 < 0x10000)

/-- The codes of fatal faults (R474). -/
def isFatal (c : Nat) : Bool :=
  c = 0x0001 || c = 0x0002 || c = 0x0010 || c = 0x0011 || c = 0x0012 || c = 0x0020 || c = 0x0030 || c = 0x0040
    || c = 0x0050 || c = 0x0051 || c = 0x0060

/-- Only PCIe reaches the user window (R350). -/
def isUser (src : Src) (user : Bool) : Bool := !user || src = .pcie

/-- OP of a table-DMA descriptor is WRITE (R392). -/
def isWriteDesc (d : List Word) : Bool := ((d[4]?).getD 0).getLsbD 31

/-- The units that a failed access names (R389). -/
def DmaFail.wf : DmaFail → Bool
  | .txDesc q => decide (q < 16)
  | .txData q _ => decide (q < 16)
  | .rxDesc q => decide (q < 16)
  | .rxData q => decide (q < 16)
  | .cqWrite u => decide (u < 17)
  | .tdDesc => true
  | .tdData _ _ _ => true

/-- The key slots, fuses and policies that provisioning may name, and the lengths of keys (R438, R440). -/
def JtagItem.wf : JtagItem → Bool
  | .secret b => b.length = 32
  | .transportKey slot k => decide (slot < 2) && k.length = 32
  | .rootId n id => decide (n < 4) && id.length = 16
  | .debugId id => id.length = 16
  | .imageKey k => k.length = 32
  | .publicKey k => k.length = 97
  | .policy v => decide (v < 4)
  | .revoke b => decide (b < 4)
  | .provLock => true

/-- The request types of R424. -/
def flaTypes : List Nat := [0x01, 0x02, 0x03, 0x04, 0x10, 0x11, 0x12, 0x13, 0x14, 0x15, 0x20]

/-- A frame's fields lie in their widths, and its TYPE is that of the command, or none of R424's (R419, R420). -/
def FlaHdr.wf (h : FlaHdr) (type : Nat) : Bool :=
  decide (h.port < 512 ∨ h.port = 520) && decide (h.da < 2 ^ 48) && decide (h.sa < 2 ^ 48) && decide (h.etype < 65536)
    && decide (h.ver < 256) && decide (h.type < 256) && decide (h.hops < 256) && decide (h.slot < 256) && decide (h.dst < 65536)
    && decide (h.src < 65536) && decide (h.seq < 2 ^ 64) && decide (h.len < 65536) && (h.type = type || !flaTypes.contains h.type)

/-- A cell's place is one that the switch has. -/
def CellPlace.wf : CellPlace → Bool
  | .source p _ => decide (p < 8)
  | .queued e c _ => isEgress e && decide (c < 8)
  | .handed e c => isMac e && decide (c < 8)
  | .leaving e => isMac e

/-- An error lies in a memory that the switch has. -/
def MemErr.wf (e : MemErr) : Bool :=
  match e.place with
  | .line | .core _ _ => true
  | .word a => decide (a < 64 * 1048576)
  | .register b _ => isBlock b
  | .cell c _ => c.wf
  | .metadata p | .queue p _ _ => decide (p < 8)
  | .mram u => decide (u < 2 ^ 32)

/-- The command is well-formed. (DESIGN CHOICE, log 4.) -/
def Instr.wf : Instr → Bool
  | .registerWrite src bar _ _ => bar = .bar0 || src = .pcie
  | .setViewWrite _ a _ => isNormal a
  | .clrViewWrite _ a _ => isNormal a
  | .tglViewWrite _ a _ => isNormal a
  | .lockSet _ b => isBlock b
  | .commitGroup _ tb g => decide (tb < 8) && decide (g < 4096)
  | .commitAll _ tb => decide (tb < 8)
  | .commitEdge => true
  | .cntSnap _ p n => decide (p < 8) && decide (n < 64)
  | .cntSnapDone p => decide (p < 8)
  | .cellDraw n _ d => isLine n && decide (0 < d.length) && decide (d.length ≤ 256)
  | .frameReceive n _ => isLine n
  | .pauseReceived n => isLine n
  | .pfcReceived n => isLine n
  | .pauseTimerExpiry n c => isLine n && decide (c < 8)
  | .firstPass p => decide (p < 8)
  | .turntablePass p => decide (p < 8)
  | .extraCopyWrite p => decide (p < 8)
  | .waitListAdmit p _ => decide (p < 8)
  | .xonSent n a => isMac n && decide (a < 8)
  | .xoffRefresh n a => isMac n && decide (a < 8)
  | .copySourceXon p => decide (p < 8)
  | .pauseFrameTx n => isMac n
  | .transmissionSelection n _ => isEgress n
  | .projectedStart n _ => isMac n
  | .frameStart n _ => isMac n
  | .txUnderrun n _ => isMac n
  | .txFrameComplete n => isMac n
  | .lpiEntry n => isLine n
  | .linkDown n _ _ => isLine n
  | .linkUp n v => isLine n && decide (v < 16)
  | .deadlineDrop n c => isMac n && decide (c < 8)
  | .holdExpiry n => isMac n
  | .swap _ _ tb => decide (tb < 8)
  | .swapEdge => true
  | .genRetired => true
  | .learnEventApply p => decide (p < 8)
  | .agingSweep => true
  | .spreadCopy => true
  | .flush _ _ => true
  | .flushDone => true
  | .claim _ t => decide (t < 22)
  | .claimGranted t => decide (t < 22)
  | .claimRelease _ t => decide (t < 22)
  | .tblCmdRead _ t i => decide (t < 32) && decide (i < 1048576)
  | .tblCmdWrite _ t i => decide (t < 32) && decide (i < 1048576)
  | .tblCmdLookup _ t i => decide (t < 32) && decide (i < 1048576)
  | .tblCmdInsert _ t i => decide (t < 32) && decide (i < 1048576)
  | .tblCmdDelete _ t i => decide (t < 32) && decide (i < 1048576)
  | .cmdDone => true
  | .tableDmaRead d => d.desc.length = 8 && !isWriteDesc d.desc
  | .tableDmaWrite d _ => d.desc.length = 8 && isWriteDesc d.desc
  | .gateScheduleStart n => decide (n < 256)
  | .timetableStart n => isMac n
  | .recoverGo _ => true
  | .testWindowSet _ _ => true
  | .startupWindowClose => true
  | .testWindowExpiry => true
  | .recoveryWindowClose => true
  | .samplePeriod => true
  | .wakeAhead p => decide (p < 8)
  | .check _ => true
  | .checkDone => true
  | .recoveryReset n => decide (n < 131072)
  | .latentErrorTest n => decide (n < 131072)
  | .couplerLinkUp => true
  | .couplerLinkDown => true
  | .healthFrameSend => true
  | .healthFrameReceive _ => true
  | .partnerSilent => true
  | .haltNoticeReceive _ => true
  | .couplerFrameReceive _ => true
  | .resetPartner _ => true
  | .partnerResetTimeout => true
  | .resetRequestSend => true
  | .resetRequestReceive _ => true
  | .timeCmdStep _ tb => decide (tb < 8)
  | .timeCmdSet _ tb => decide (tb < 8)
  | .timeCmdTrim _ tb => decide (tb < 8)
  | .timeCmdApply => true
  | .timeSnap _ => true
  | .timeSnapTake => true
  | .timePageRefresh => true
  | .timeSave => true
  | .tcRecordAged p => decide (p < 8)
  | .ppsOutPulse n => decide (n < 4)
  | .ppsOutPulseEnd n => decide (n < 4)
  | .ppsInEdge n _ => decide (n < 4)
  | .captureDrainRead p => decide (p < 8)
  | .recordWrite => true
  | .blockCloseTimeout => true
  | .openLenSave => true
  | .triggerWrite _ => true
  | .gpioTrigger n _ => decide (n < 16)
  | .windowPostEnd w => decide (w < 4)
  | .windowSealed w => decide (w < 4)
  | .windowCommit _ m => decide (m < 16)
  | .windowRelease _ m => decide (m < 16)
  | .windowCommitDone w => decide (w < 4)
  | .windowCommitError w => decide (w < 4)
  | .cxlError => true
  | .functionReset _ => true
  | .spiWrite _ => true
  | .spiRead _ _ => true
  | .msixUnmask v => decide (v < 64)
  | .perfCounterWrite _ p n _ _ => decide (p < 8) && decide (n ≤ 8)
  | .enableUnit _ u => decide (u < 17)
  | .disableUnit _ u => decide (u < 17)
  | .unitIdle u => decide (u < 17)
  | .txDb src q v user => decide (q < 16) && decide (v < 65536) && isUser src user
  | .rxDb src q v user => decide (q < 16) && decide (v < 65536) && isUser src user
  | .cqDb src q v user => decide (q < 16) && decide (v < 65536) && isUser src user
  | .tdDb _ v => decide (v < 65536)
  | .tdcDb _ v => decide (v < 65536)
  | .hostTxFetch q _ _ => decide (q < 16)
  | .dmaAccessFail w => w.wf
  | .rxHoldDrop q c => decide (q < 16) && decide (c < 8)
  | .completionWrite u => decide (u < 17)
  | .cqTimerExpiry u => decide (u < 17)
  | .vaoRise => true
  | .vaoFall => true
  | .pwrgoodFall => true
  | .resetNAssert => true
  | .resetNRelease v => decide (v < 256)
  | .bootInit _ => true
  | .bootIdentity _ => true
  | .bootRestore x => decide (x.lost < 32768) && decide (x.older < 32768)
  | .bootLoad _ _ => true
  | .bootApply => true
  | .bootAdmission => true
  | .bootCommit => true
  | .flalithRead h _ => h.wf 0x01
  | .flalithWrite h _ => h.wf 0x02
  | .report h _ _ => h.wf 0x03
  | .windowRead h _ _ => h.wf 0x04
  | .updBegin h _ _ => h.wf 0x10
  | .updPiece h _ _ _ => h.wf 0x11
  | .updStatus h _ => h.wf 0x12
  | .updArm h _ _ => h.wf 0x13
  | .updReboot h _ _ => h.wf 0x14
  | .updRebootDelayEnd => true
  | .updAbort h => h.wf 0x15
  | .keyRoll h _ => h.wf 0x20
  | .debugChallengeRead => true
  | .debugUnlock _ => true
  | .debugReset => true
  | .jtagProvision i => i.wf
  | .dozeEntry p => decide (p < 8)
  | .sleepEntry p => decide (p < 8)
  | .platformWake p c => decide (p < 8) && decide (c < 3)
  | .platformRun p => decide (p < 8)
  | .offReturn p => decide (p < 8)
  | .wakeNFall => true
  | .chipRetentionEntry => true
  | .chipWake => true
  | .halt c _ => isFatal c
  | .scrubRead a b => a.all MemErr.wf && b.all MemErr.wf
  | .safWdog _ => true
  | .watchdogExpiry => true
  | .clockMonitorWindow _ => true
  | .sensorRead _ _ => true
  | .safetySelftest _ => true
  | .lifeHour => true
  | .injectSingleBit _ p => decide (p < 8)
  | .injectDoubleBit _ p => decide (p < 8)
  | .injectCellCrc _ p => decide (p < 8)
  | .injectLockstep _ p => decide (p < 8)
  | .injectClockMonitor _ p => decide (p < 8)
  | .injectPipelineParity _ p => decide (p < 8)
  | .lpiLeadWake n => isLine n
  | .receiveLpiChange n _ => isLine n
  | .wakeNRise => true
  | .pcieLinkUp w v => (w = 1 || w = 2 || w = 4) && decide (0 < v) && decide (v < 5)
  | .d3hotEntry => true
  | .aocCopyRefresh => true
  | .perfCounterWrap p n => decide (p < 8) && decide (n ≤ 8)
  | .durationCounterHalfRange b u k => (b = 0 && isLine u && (k = 25 || k = 51 || k = 52)) || (b = 1 && decide (u < 8) && decide (k < 3))

end Sys2Proof
end

