-- ==== Sys2Proof/Config.lean ====
section
/-! DEFINITION. What an implementation fixes and the free values: constants without a body, so that no proof
can see what they are (notes/assumptions). A free value is applied to the operands it depends on or to the
state's plain counter of free values. -/

namespace Sys2Proof.Config

/-- A fresh value that the manual leaves open, by the state's counter (a random challenge, a nonce). (DESIGN CHOICE, log 7.) -/
opaque freeValue : Nat → Nat

/-- SHA-384 of a byte string, 48 bytes as a number (DESIGN CHOICE, log 6). -/
opaque sha384 : List Byte → Nat

/-- The ECDSA P-384 signature of a digest under a private key, by the number that the signer draws for it. (DESIGN CHOICE, log 6.)
-/
opaque signP384 : Nat → Nat → Nat → Nat

/-- The S with which an ECDSA P-384 signature over a digest verifies under a public key, by its R (R404, R442). (DESIGN CHOICE, log
6.) -/
opaque verifiesP384 : List Byte → Nat → Nat → Nat

/-- AES-256 of a block of 16 bytes under a key (R420, R439). (DESIGN CHOICE, log 6.) -/
opaque aes256 : List Byte → List Byte → List Byte

/-- HKDF-SHA-384 of a secret under a label (R439). (DESIGN CHOICE, log 6.) -/
opaque hkdf : List Byte → List Byte → List Byte

/-- The private key that FIPS 186-5 key-pair generation forms from a random input (R439). (DESIGN CHOICE, log 6.) -/
opaque keyPair : List Byte → Nat

/-- The tag of AES-256-GCM over a ciphertext: of the key, the nonce and the additional data (R420). (DESIGN CHOICE, log 6.) -/
opaque gcmTag : List Byte → List Byte → List Byte → List Byte → Nat

/-- The 32-bit word in which a stream gate's TAG shows its interval: cycle number and entry (R168; the
manual gives no encoding). (DESIGN CHOICE, log 18.) -/
opaque gateTag : Int → Nat → Word

/-- The wake time in nanoseconds of a port type, by its lane mode and FEC (R57: Clause 78 and USXGMII give it). (DESIGN CHOICE,
log 17.) -/
opaque lpiWakeNs : Nat → Nat → Nat

/-- What a SerDes lane that runs a mode shows in PLAT_LANE_STAT while none of its ports is link up, by the lane and the instant: the
wire decides (R37, R59). (DESIGN CHOICE, log 59.) -/
opaque laneSignals : Nat → Nat → Nat

/-- The capacity of the CXL memory expander in bytes (R329). (DESIGN CHOICE, log 17.) -/
opaque cxlBytes : Nat

/-- The 64 bytes of a fault-log header by the values it holds (R475 gives no layout). (DESIGN CHOICE, log 18.) -/
opaque logHeader : List Nat → List Byte

/-- The ROOT_IDs that a firmware-configuration section asks to be revoked, bit n for ROOT_ID n (R440; the manual gives the section
no format). (DESIGN CHOICE, log 22.) -/
opaque revokeAsked : List Byte → Nat

/-- The public key of a private key as an uncompressed P-384 point, 97 bytes (R424). (DESIGN CHOICE, log 6.) -/
opaque publicP384 : Nat → List Byte

/-- The part's unique die number (R346). (DESIGN CHOICE, log 17.) -/
opaque dieNumber : Nat

/-- Kyovia's PCI vendor identifier (R346 gives no number). (DESIGN CHOICE, log 17.) -/
opaque pciVendor : BitVec 16

/-- The revision in the PCIe class-code word. (DESIGN CHOICE, log 17.) -/
opaque pciRevision : BitVec 8

/-- The compiled-in version of the admission algorithm, SCH_ADM_INFO.ALGO_VER. (DESIGN CHOICE, log 17.) -/
opaque algoVer : Nat

end Sys2Proof.Config
end

