-- ==== Sys2Proof/Machine/Bits.lean ====
section
/-! DEFINITION. Bit fields and byte strings: the fields of a register word ([msb:lsb] of the manual's
tables), numbers read from and written to byte strings in both byte orders, and the bitwise CRCs. -/

namespace Sys2Proof.Machine

/-- Bits [hi:lo] of the number `n`. -/
def bits (n hi lo : Nat) : Nat := (n >>> lo) % 2 ^ (hi + 1 - lo)

/-- Bit `i` of the number `n`. -/
def bitOf (n i : Nat) : Bool := n.testBit i

/-- Field [hi:lo] of a register word. -/
def fld (w : Word) (hi lo : Nat) : Nat := bits w.toNat hi lo

/-- Bit `i` of a register word. -/
def bitW (w : Word) (i : Nat) : Bool := w.getLsbD i

/-- The word with field [hi:lo] replaced by `v` (taken modulo the field's size). -/
def setFld (w : Word) (hi lo v : Nat) : Word :=
  let m := Word.ofNat ((2 ^ (hi + 1 - lo) - 1) <<< lo)
  (w &&& ~~~m) ||| (Word.ofNat ((v % 2 ^ (hi + 1 - lo)) <<< lo))

/-- The word with bit `i` set to `b`. -/
def setBitW (w : Word) (i : Nat) (b : Bool) : Word := setFld w i i (if b then 1 else 0)

/-- `v` placed at bit `lo`. -/
def at_ (v lo : Nat) : Nat := v <<< lo

/-- 1 for true, 0 for false. -/
def b2n (b : Bool) : Nat := if b then 1 else 0

/-- The value of a signed field of `w` bits. -/
def signed (w n : Nat) : Int := if n < 2 ^ (w - 1) then (n : Int) else (n : Int) - (2 ^ w : Nat)

/-- A signed number as a field of `w` bits. -/
def unsigned (w : Nat) (z : Int) : Nat := (z % ((2 ^ w : Nat) : Int)).toNat

/-- ⌈a / b⌉. -/
def ceilDiv (a b : Nat) : Nat := (a + b - 1) / b

/-- The floor of a signed quotient by a positive number. -/
def floorDiv (a : Int) (b : Nat) : Int := Int.fdiv a b

/-- A list with element `i` replaced (unchanged when `i` lies outside it). -/
def setAt {α : Type} (l : List α) (i : Nat) (a : α) : List α := l.set i a

/-- A list with element `i` changed by `f`. -/
def modAt {α : Type} (l : List α) (i : Nat) (f : α → α) : List α := l.modify i f

/-- A big-endian (network order) number. -/
def beNat (bs : List Byte) : Nat := bs.foldl (fun a b => a * 256 + b.toNat) 0

/-- A little-endian number. -/
def leNat : List Byte → Nat
  | [] => 0
  | b :: bs => b.toNat + 256 * leNat bs

/-- `n` little-endian bytes of `v`. -/
def leBytes : Nat → Nat → List Byte
  | 0, _ => []
  | n + 1, v => Byte.ofNat v :: leBytes n (v / 256)

/-- `n` big-endian bytes of `v`. -/
def beBytes (n v : Nat) : List Byte := (leBytes n v).reverse

/-- `n` bytes at offset `o`; bytes past the end of the string read 0. -/
def sliceZ (bs : List Byte) (o n : Nat) : List Byte :=
  let s := (bs.drop o).take n
  s ++ List.replicate (n - s.length) 0

/-- `n` bytes at offset `o`, only where the string has them all. -/
def slice? (bs : List Byte) (o n : Nat) : Option (List Byte) :=
  if o + n ≤ bs.length then some ((bs.drop o).take n) else none

/-- The big-endian number of `n` bytes at offset `o` (bytes past the end read 0). -/
def be (bs : List Byte) (o n : Nat) : Nat := beNat (sliceZ bs o n)

/-- The little-endian number of `n` bytes at offset `o` (bytes past the end read 0). -/
def le (bs : List Byte) (o n : Nat) : Nat := leNat (sliceZ bs o n)

/-- The string with the bytes from offset `o` overwritten by `new` (bytes beyond its end are dropped). -/
def overlay (bs : List Byte) (o : Nat) (new : List Byte) : List Byte :=
  (bs.take o ++ new.take (bs.length - o)) ++ bs.drop (o + new.length)

/-- One bit of the reflected CRC of IEEE 802.3 (polynomial 0x04C1_1DB7). -/
def crc32Bit (c : Nat) : Nat := if c % 2 = 1 then (c / 2) ^^^ 0xEDB88320 else c / 2

/-- One byte of the reflected CRC of IEEE 802.3. -/
def crc32Byte (c : Nat) (b : Byte) : Nat :=
  let x := c ^^^ b.toNat
  crc32Bit (crc32Bit (crc32Bit (crc32Bit (crc32Bit (crc32Bit (crc32Bit (crc32Bit x)))))))

/-- The CRC-32 of IEEE 802.3 over a byte string. -/
def crc32 (bs : List Byte) : Nat := (bs.foldl crc32Byte 0xFFFFFFFF) ^^^ 0xFFFFFFFF

/-- The four FCS bytes of a frame in wire order, over the bytes before it. -/
def fcsOf (bs : List Byte) : List Byte := leBytes 4 (crc32 bs)

/-- A mask of the numbers below `n` for which `f` holds. -/
def maskOf (n : Nat) (f : Nat → Bool) : Nat := ((List.range n).filter f).foldl (fun a i => a + 2 ^ i) 0

end Sys2Proof.Machine
end

