-- ==== Sys2Proof/Machine/Parser.lean ====
section
/-! DEFINITION. The parser (R67 to R73, R504, R505) and the 512-bit key (R74 to R76): pure functions from a
frame's bytes and the parse settings to the located headers and to the sixteen key words. -/

namespace Sys2Proof.Machine

/-- The settings the parser reads: CLS_TPID and CLS_PARSE_CTRL as they bind the frame. -/
structure ParseCfg where
  tpids : List Nat := []
  vxlanEn : Bool := true
  greEn : Bool := true
  ipipEn : Bool := true
  vxlanPort : Nat := 0x12B5
  deriving DecidableEq, Repr

/-- The type of the header that begins at a parse start (R73). -/
inductive HdrType
  | eth | ipv4 | ipv6
  deriving DecidableEq, Repr

/-- A VLAN tag found: its TPID, its TCI and the offset of its TPID. -/
structure VlanTag where
  tpid : Nat
  tci : Nat
  off : Nat
  deriving DecidableEq, Repr

/-- What the parser found. Offsets count from byte 0 of the received frame. `odd` is the ODD_REASON, 0 for a
frame that is not odd. -/
structure Parsed where
  /-- Offset of the Ethernet header, if the pass has one. -/
  eth : Option Nat := none
  tags : List VlanTag := []
  /-- Sequence tag: its EtherType and offset (R69). -/
  seq : Option (Nat × Nat) := none
  etherType : Nat := 0
  /-- Offset of the first byte after the last L2 header. -/
  l2End : Option Nat := none
  l3 : Nat := 0
  l4 : Nat := 0
  frag : Bool := false
  odd : Nat := 0
  /-- Offset of a complete, well-formed IP header. -/
  ip : Option Nat := none
  /-- Protocol, or the final next header. -/
  proto : Nat := 0
  extBits : Nat := 0
  /-- Offset of a complete L4 fixed part. -/
  l4Off : Option Nat := none
  l4Pay : Option Nat := none
  sport : Nat := 0
  dport : Nat := 0
  l4x : Nat := 0
  /-- The recorded inner start and its header type (R73). -/
  inner : Option (Nat × HdrType) := none
  /-- Offset of a PTP header (R69). -/
  ptp : Option Nat := none
  /-- The end of the bytes key words may carry: the parse window or the frame, whichever ends first. -/
  limit : Nat := 0
  deriving DecidableEq, Repr

/-- One parse: the frame's bytes, where the frame ends for the parser (R68) and where the window ends. -/
structure ParseCtx where
  cfg : ParseCfg
  bs : List Byte
  fend : Nat
  win : Nat
  deriving DecidableEq, Repr

namespace ParseCtx

/-- R504: 0 when the `n` bytes at `o` lie within window and frame, else the ODD_REASON. -/
def short (c : ParseCtx) (o n : Nat) (l4 : Bool) : Nat :=
  if c.win < c.fend then (if o + n ≤ c.win then 0 else 0x01)
  else if o + n ≤ c.fend then 0
  else if l4 then 0x09 else 0x02

/-- R73: an inner start is recorded only within the parse window. -/
def record (c : ParseCtx) (r : Parsed) (o : Nat) (t : HdrType) : Parsed :=
  if o < c.win then { r with inner := some (o, t) } else r

/-- One's complement sum of a header's 16-bit words, folded; 0xFFFF when the checksum is right. -/
def ipSum : List Byte → Nat → Nat
  | a :: b :: r, acc =>
    let s := acc + a.toNat * 256 + b.toNat
    ipSum r (if s > 0xFFFF then s - 0xFFFF else s)
  | [a], acc => let s := acc + a.toNat * 256; if s > 0xFFFF then s - 0xFFFF else s
  | [], acc => acc

/-- GRE after an IP header (R67, R71, R73). -/
def gre (c : ParseCtx) (r : Parsed) (o : Nat) : Parsed :=
  if c.short o 4 false ≠ 0 then { r with odd := c.short o 4 false }
  else
    let f := be c.bs o 2
    if f % 8 ≠ 0 ∨ bitOf f 14 then { r with odd := 0x0B }
    else
      let n := 4 + 4 * (b2n (bitOf f 15) + b2n (bitOf f 13) + b2n (bitOf f 12))
      if c.short o n false ≠ 0 then { r with odd := c.short o n false }
      else
        let t := be c.bs (o + 2) 2
        if t = 0x6558 then c.record r (o + n) .eth
        else if t = 0x0800 then c.record r (o + n) .ipv4
        else if t = 0x86DD then c.record r (o + n) .ipv6
        else r

/-- VXLAN after a UDP header (R67, R73). Where it is cut short, the words of the UDP payload count as its later fields and read 0;
whether they are, R71 leaves open (DESIGN CHOICE, log 61). -/
def vxlan (c : ParseCtx) (r : Parsed) (o : Nat) : Parsed :=
  if c.short o 8 false ≠ 0 then { r with odd := c.short o 8 false, l4x := 0, l4Pay := none }
  else c.record r (o + 8) .eth

/-- The L4 code and fixed length of a protocol number (R67). -/
def l4Kind (proto : Nat) : Option (Nat × Nat) :=
  if proto = 6 then some (1, 20) else if proto = 17 then some (2, 8)
  else if proto = 1 ∨ proto = 58 then some (3, 4) else if proto = 132 then some (4, 12) else none

/-- The L4 header at `o`, and the encapsulations (R67, R70, R71, R73). The payload of TCP begins after its data offset, at the
earliest after 20 bytes (DESIGN CHOICE, log 61). -/
def l4 (c : ParseCtx) (r : Parsed) (proto o : Nat) : Parsed :=
  match l4Kind proto with
  | none =>
    let r := { r with l4 := 5 }
    if proto = 47 then (if c.cfg.greEn then c.gre r o else r)
    else if c.cfg.ipipEn ∧ proto = 4 then c.record r o .ipv4
    else if c.cfg.ipipEn ∧ proto = 41 then c.record r o .ipv6
    else r
  | some (code, n) =>
    if c.short o n true ≠ 0 then { r with l4 := code, odd := c.short o n true }
    else
      let pay := if code = 1 then o + max 20 (4 * bits (be c.bs (o + 12) 1) 7 4) else o + n
      let r := { r with
        l4 := code, l4Off := some o, l4Pay := some pay
        sport := if code = 3 then 0 else be c.bs o 2
        dport := if code = 3 then 0 else be c.bs (o + 2) 2
        l4x := if code = 1 then be c.bs (o + 12) 4
               else if code = 3 then be c.bs o 4
               else if code = 2 then be (c.bs.take (min c.win c.fend)) pay 4
               else 0 }
      if code = 2 then
        let r := if r.dport = 319 ∨ r.dport = 320 then { r with ptp := some pay } else r
        if c.cfg.vxlanEn ∧ r.dport = c.cfg.vxlanPort then c.vxlan r pay else r
      else r

/-- The IPv4 header at `o` (R67, R70, R71). With another version than 4 it is no IPv4 header, and the L3 code is 4 (DESIGN
CHOICE, log 61). -/
def ipv4 (c : ParseCtx) (r : Parsed) (o : Nat) : Parsed :=
  if c.short o 1 false ≠ 0 then { r with l3 := 1, odd := c.short o 1 false }
  else
    let v := be c.bs o 1
    if v / 16 ≠ 4 then { r with l3 := 4 }
    else
      let r := { r with l3 := 1 }
      let n := 4 * (v % 16)
      if v % 16 < 5 then { r with odd := 0x03 }
      else if c.short o n false ≠ 0 then { r with odd := c.short o n false }
      else if ipSum (sliceZ c.bs o n) 0 ≠ 0xFFFF then { r with odd := 0x04 }
      else if o + be c.bs (o + 2) 2 > c.fend then { r with odd := 0x05 }
      else
        let proto := be c.bs (o + 9) 1
        let r := { r with ip := some o, proto := proto }
        if be c.bs (o + 6) 2 % 0x4000 ≠ 0 then { r with frag := true }
        else c.l4 r proto (o + n)

/-- The bit of W12 [3:0] of an IPv6 extension type (R75): types 0, 43, 60 and 44 from bit 0 up (DESIGN CHOICE, log 61). -/
def extBit (nh : Nat) : Option Nat :=
  if nh = 0 then some 1 else if nh = 43 then some 2 else if nh = 60 then some 4
  else if nh = 44 then some 8 else none

/-- The IPv6 extension chain from next header `nh` at `o`; `left` more extensions are allowed. The walk ends at a fragment header,
whose next header is the final one (R70; DESIGN CHOICE, log 61). After a faulty extension header, the third or one cut short, the
final next header is that header's own type; R71 does not say whether it reads 0 (DESIGN CHOICE, log 61). -/
def ipv6Ext (c : ParseCtx) : Nat → Parsed → Nat → Nat → Parsed
  | left, r, nh, o =>
    match extBit nh with
    | none => c.l4 { r with proto := nh } nh o
    | some b =>
      match left with
      | 0 => { r with proto := nh, odd := 0x07 }
      | k + 1 =>
        let r := { r with proto := nh }
        if c.short o 8 false ≠ 0 then { r with odd := c.short o 8 false }
        else
          let n := if nh = 44 then 8 else (be c.bs (o + 1) 1 + 1) * 8
          if c.short o n false ≠ 0 then { r with odd := c.short o n false }
          else
            let r := { r with extBits := r.extBits ||| b }
            let nx := be c.bs o 1
            if nh = 44 then { r with frag := true, proto := nx }
            else ipv6Ext c k r nx (o + n)

/-- The IPv6 header at `o` (R67, R71). With another version than 6 the L3 code is 4 (DESIGN CHOICE, log 61). -/
def ipv6 (c : ParseCtx) (r : Parsed) (o : Nat) : Parsed :=
  if c.short o 1 false ≠ 0 then { r with l3 := 2, odd := c.short o 1 false }
  else if be c.bs o 1 / 16 ≠ 6 then { r with l3 := 4 }
  else
    let r := { r with l3 := 2 }
    if c.short o 40 false ≠ 0 then { r with odd := c.short o 40 false }
    else if o + 40 + be c.bs (o + 4) 2 > c.fend then { r with odd := 0x06 }
    else c.ipv6Ext 2 { r with ip := some o } (be c.bs (o + 6) 1) (o + 40)

/-- What follows the last EtherType `t`, at `o` (R67). -/
def l3 (c : ParseCtx) (r : Parsed) (t o : Nat) : Parsed :=
  if t < 0x0600 then r
  else if t = 0x0806 then { r with l3 := 3 }
  else if t = 0x0800 then c.ipv4 r o
  else if t = 0x86DD then c.ipv6 r o
  else
    let r := { r with l3 := 4 }
    if t = 0x88F7 then { r with ptp := some o } else r

/-- The tags from the EtherType field at `o` on (R67, R71): at most two VLAN tags and one sequence tag can
pass, so three rounds and the final EtherType are enough. -/
def tags (c : ParseCtx) : Nat → Parsed → Nat → Parsed
  | fuel, r, o =>
    let t := be c.bs o 2
    if c.cfg.tpids.contains t then
      if r.tags.length = 2 then { r with odd := 0x08 }
      else if c.short (o + 2) 4 false ≠ 0 then { r with odd := c.short (o + 2) 4 false }
      else
        match fuel with
        | 0 => r
        | k + 1 => tags c k { r with tags := r.tags ++ [⟨t, be c.bs (o + 2) 2, o⟩] } (o + 4)
    else if t = 0xF1C1 ∨ t = 0x892F then
      if r.seq.isSome then { r with odd := 0x08 }
      else if c.short (o + 2) 6 false ≠ 0 then { r with odd := c.short (o + 2) 6 false }
      else
        match fuel with
        | 0 => r
        | k + 1 => tags c k { r with seq := some (t, o) } (o + 6)
    else c.l3 { r with etherType := t, l2End := some (o + 2) } t (o + 2)

/-- The Ethernet header at the parse start (R67). -/
def ethernet (c : ParseCtx) (r : Parsed) (o : Nat) : Parsed :=
  if c.short o 14 false ≠ 0 then { r with odd := c.short o 14 false }
  else c.tags 3 { r with eth := some o } (o + 12)

end ParseCtx

/-- A pass's parse (R67 to R73, R505). On a pass from an inner IP header the payload words of format 0 begin at that header
(DESIGN CHOICE, log 61). `start` is the parse start with its header type, none when INNER was
requested and no inner start was recorded (ODD_REASON 0x0A); `fend` is where the frame ends for the parser
(R68). -/
def parse (cfg : ParseCfg) (bs : List Byte) (fend : Nat) (start : Option (Nat × HdrType)) : Parsed :=
  match start with
  | none => { odd := 0x0A }
  | some (o, t) =>
    let c : ParseCtx := { cfg := cfg, bs := bs.take fend, fend := fend, win := o + 128 }
    let r : Parsed := { limit := min fend (o + 128) }
    match t with
    | .eth => c.ethernet r o
    | .ipv4 => c.ipv4 { r with etherType := 0x0800, l2End := some o } o
    | .ipv6 => c.ipv6 { r with etherType := 0x86DD, l2End := some o } o

/-- What the key takes from elsewhere than the frame's bytes (R74). -/
structure KeyMeta where
  port : Nat := 0
  pass : Nat := 0
  err : Nat := 0
  sta : Option Nat := none
  inner : Bool := false
  lpmCont : Bool := false
  directed : Bool := false
  carry : Nat := 0
  deriving DecidableEq, Repr

/-- `n` words of wire bytes from offset `o`; bytes beyond the limit read 0 (R68). -/
def wireWords (bs : List Byte) (limit : Nat) (o : Option Nat) : Nat → List Nat
  | 0 => []
  | n + 1 =>
    match o with
    | none => 0 :: wireWords bs limit none n
    | some o => be (bs.take limit) o 4 :: wireWords bs limit (some (o + 4)) n

/-- TCI of tag `i`, 0 if none. -/
def Parsed.tci (r : Parsed) (i : Nat) : Nat := ((r.tags[i]?).map (·.tci)).getD 0

/-- Destination and source address of the pass's Ethernet header, 0 without one. -/
def Parsed.da (r : Parsed) (bs : List Byte) : Nat := match r.eth with | some o => be bs o 6 | none => 0
/-- The source address. -/
def Parsed.sa (r : Parsed) (bs : List Byte) : Nat := match r.eth with | some o => be bs (o + 6) 6 | none => 0

/-- A number read at an offset in the IP header, 0 when that header is absent (R76). -/
def Parsed.ipField (r : Parsed) (bs : List Byte) (o n : Nat) : Nat :=
  match r.ip with | some p => be bs (p + o) n | none => 0

/-- Words W0 to W3 (R74). -/
def keyCommon (m : KeyMeta) (r : Parsed) : List Nat :=
  [at_ (m.port % 1024) 22 + at_ (m.pass % 4) 20 + at_ (m.err % 8) 17 + at_ (b2n m.sta.isSome) 16
     + at_ (m.sta.getD 0 % 16) 12 + at_ r.l3 9 + at_ r.l4 6 + at_ (b2n r.frag) 5
     + at_ (b2n (r.odd ≠ 0)) 4 + at_ (b2n m.inner) 3 + at_ (b2n m.lpmCont) 2
     + at_ (b2n r.seq.isSome) 1 + b2n m.directed,
   at_ (r.tci 0) 16 + r.etherType,
   m.carry,
   at_ (r.tci 1) 16 + at_ r.odd 8 + at_ r.tags.length 6]

/-- The three words of DA and SA as R75 places them. -/
def macWords (r : Parsed) (bs : List Byte) : List Nat :=
  [r.da bs / 65536, at_ (r.da bs % 65536) 16 + r.sa bs / 4294967296, r.sa bs % 4294967296]

/-- The sixteen key words in one format (R74, R75, R76). The fields of formats 1 and 2 that an IP header does not give, their
Ethernet fields among them, read 0 on a frame without one, and the undefined FORMAT 3 reads 0 in W4 to W15: the rules leave both
open (DESIGN CHOICE, log 61). -/
def keyWords (m : KeyMeta) (r : Parsed) (bs : List Byte) (format : Nat) : List Nat :=
  let ports := at_ r.sport 16 + r.dport
  keyCommon m r ++
    match format with
    | 0 => macWords r bs ++ wireWords bs r.limit r.l2End 9
    | 1 =>
      if r.l3 = 1 then
        [r.ipField bs 12 4, r.ipField bs 16 4,
         at_ r.proto 24 + at_ (r.ipField bs 1 1) 16 + at_ (r.ipField bs 8 1) 8 + r.ipField bs 6 1,
         ports, r.l4x] ++ macWords r bs ++ wireWords bs r.limit r.l4Pay 4
      else List.replicate 12 0
    | 2 =>
      if r.l3 = 2 then
        [r.ipField bs 8 4, r.ipField bs 12 4, r.ipField bs 16 4, r.ipField bs 20 4,
         r.ipField bs 24 4, r.ipField bs 28 4, r.ipField bs 32 4, r.ipField bs 36 4,
         at_ r.proto 24 + at_ (bits (r.ipField bs 0 2) 11 4) 16 + at_ (r.ipField bs 7 1) 8 + r.extBits,
         ports, r.l4x, at_ (r.ipField bs 0 4 % 0x100000) 12 + r.tci 0 % 4096]
      else List.replicate 12 0
    | _ => List.replicate 12 0

end Sys2Proof.Machine
end

