-- ==== Sys2Proof/Machine/RegMap.lean ====
section
/-! DEFINITION. The register map: every register of the switch by name, where it lies in its block's
normal view (R498, R502 and the layout table of each chapter), the access code of its bits (R8) and its
cold value. A register set with several members (per lane, per port, per class) is one name with an
index; the index counts the members in address order. -/

namespace Sys2Proof.Machine

/-- The register blocks of R359, with the Platform number where there are eight of them. -/
inductive Blk
  | glb | saf | ao | boot | time | host | tbl | cls | psf | red | tm | sch | capt | perf
  | plat (p : Nat)
  deriving DecidableEq, Repr

/-- Every register name of the index (R502); a pair of words of one value is two names. BLK_LOCK,
BLK_ILLEGAL and BLK_ILLEGAL_LAST (R355) are indexed by the block number of R359. -/
inductive RegId
  | blkLock | blkIllegal | blkIllegalLast
  | glbMode | glbCommit | glbCommitStat | glbCommitAt | glbCommitEdge | glbIllegalSum
  | glbIllegalEn
  | safIntStat | safIntEn | safCfg | safStat | safTemp | safWdog | safInject | safLogIdx
  | safLogSel | safLifeHours | safLifeCycles | safLifeHalts | safLogData | safCntLo | safCntHi
  | safCntHalf
  | aoIntStat | aoIntEn | aoWakeCfg | aoPwrCtrl | aoChipStat | aoPlatCfg | aoPlatStat | aoCntHalf
  | aoCntLo | aoCntHi
  | bootIntStat | bootIntEn | bootStat | bootImage | bootNode | bootRet | bootTCommit | bootTFirst
  | bootCfgDigest | bootRetCfg | bootFlaCfg | bootUpdStat | bootUpdPkg | bootUpdCfg | bootSecStat
  | bootSecSignid | bootFlaCntLo | bootFlaCntHi
  | timeIntStat | timeIntEn | timeCmd | timeCmdStat | timeCmdDataLo | timeCmdDataHi | timeSnap
  | timeSnapMonoLo | timeSnapMonoHi | timeSnapTbLo | timeSnapTbHi | timeMonoSavedLo
  | timeMonoSavedHi | timeTbCfg | timeTbTrim | timeTbStat | timeTbOfsLo | timeTbOfsHi | timeTcDom
  | timePpsOutCfg | timePpsOutPeriod | timePpsOutPhase | timePpsOutWidth | timePpsInCfg
  | timePpsInStat | timePpsInTbLo | timePpsInTbHi | timePpsInMonoLo | timePpsInMonoHi | timeCntLo
  | timeCntHi | timeCntHalf
  | hostIntStat | hostIntEn | hostLinkStat | hostIntnEn | hostUserCfg | hostQpCtrl | hostTdCtrl
  | hostQpStat | hostQpTxBaseLo | hostQpTxBaseHi | hostQpTxSize | hostQpTxHead | hostQpRxBaseLo
  | hostQpRxBaseHi | hostQpRxSize | hostQpRxHead | hostQpCqBaseLo | hostQpCqBaseHi | hostQpCqSize
  | hostQpCqHead | hostQpCqWbLo | hostQpCqWbHi | hostQpCqInt | hostQpIntStat | hostQpIntEn
  | hostQpCntHalf | hostQpCntLo | hostQpCntHi | hostTxDb | hostRxDb | hostCqDb
  | tblIntStat | tblIntEn | tblClaim | tblClaimStat | tblCmd | tblCmdStat | tblCmdData | tblAge
  | tblLearnCtrl | tblFlush | tblFlushStat | tblFlushDest | tblLagHash | tblRouterMacLo
  | tblRouterMacHi | tblRouteCtrl | tblLearnStat | tblMacCount | tblCntHalf | tblCap | tblCntLo
  | tblCntHi
  | clsIntStat | clsIntEn | clsGenCtrl | clsGenStat | clsGenSwapAt | clsGenEdge | clsBankGen
  | clsGenInflight | clsBankAct | clsWalkFault | clsWalkFaultAddr | clsTpid | clsParseCtrl
  | clsTreeRoot | clsTreeCfg | clsTtCtrl | clsTtStat | clsCntHalf | clsCntLo | clsCntHi
  | psfIntStat | psfIntEn | psfEditCtrl | psfEditData | psfWinCfg | psfWinCtrl | psfWinStat
  | psfHalfIdx | psfHalfEvt | psfSchedStart | psfSchedFlags | psfSchedHdr | psfSchedCycle
  | psfSchedBase | psfSchedIntv | psfSchedGate | psfCntLo | psfCntHi | psfCntHalf
  | redIntStat | redIntEn | redTwinCfg | redTwinCtrl | redTwinStat | redTwinInfo | redTwinPeer
  | redTwinDelay | redTwinResets | redCplStat | redEvtIdx | redEvt | redPortCfg | redCntLo
  | redCntHi | redCntHalf
  | tmIntStat | tmIntEn | tmPoolSched | tmPoolHr | tmPoolShared | tmPoolFree | tmPoolLow
  | tmPoolAlarm | tmFcCfg | tmReplCfg | tmHrBreach | tmQSel | tmQDepth | tmQResv | tmPlatStat
  | tmCntHalf | tmPortHalfSum | tmClassCfg | tmClassDeadline | tmCntLo | tmCntHi | tmPortFc
  | tmPortLink | tmPortHold | tmPortStat | tmPortResv | tmPortHr | tmPortHrReq | tmPortCntHalf
  | tmPortCntLo | tmPortCntHi
  | schIntStat | schIntEn | schSel | schSmpCtrl | schSmpIdx | schSmpList | schTtChg | schCntLo
  | schCntHi | schCntHalf | schAdmCtrl | schAdmStat | schAdmInfo | schAdmCount | schAdmWorst
  | schAdmSel | schAdmDecl | schAdmRpt | schPortCfg | schPortRate | schPortBurst | schTtCfg
  | schTtCycle | schTtBase | schTtWake | schTtStart | schTtStat | schQCfg | schQSlope | schQRate
  | schQBurst | schQCredit | schQTokens | schTtIntv | schTtGates | schTtOperIntv | schTtOperGates
  | schSmpRing
  | recIntStat | recIntEn | recCfg | recClose | recRingBaseLo | recRingBaseHi | recRingBlocks
  | recStat | recRingWr | recOpenLen | recBsnLo | recBsnHi | recHeadDigest | recTrigCfg
  | recTrigSpan | recTrigCtrl | recNvmeCfg | recNvmeBaseLo | recNvmeBaseHi | recNvmeCount
  | recNvmeWrLo | recNvmeWrHi | recWinStat | recWinId | recWinBsn | recWinBlocks | recWinCtrl
  | recRule | recCntLo | recCntHi | recCntHalf
  | platIntStat | platIntEn | platLinkChg | platTxstartChg | platCntHalfSum | platCntSnap
  | platLaneMode | platLaneStat | platStaLo | platStaHi | platCntSnapbufLo | platCntSnapbufHi
  | platCntHalf | platPortCtrl | platPortFrame | platPortTxstart | platPortLpi | platPortStat
  | platTsRxlat | platTsTxlat | platTsAsym | platTsCfg | platTsLinkdly | platTxtsIdx
  | platTxtsEntry | platPerfCtrl | platPerfOvf | platPerfOvfEn | platPerfCycLo | platPerfCycHi
  | platPerfEvsel | platPerfCntLo | platPerfCntHi | platCntLo | platCntHi
  | perfCtrl | perfUserEn | perfAggLo | perfAggHi | perfIntStat | perfIntEn
  deriving DecidableEq, Repr

/-- One line of a block's layout table: member `i`, `j` of register `id` lies at `base + i*s1 + j*s2`.
`add` is added to the index (the table-DMA set is unit 16 of the queue-pair names); `win` marks the
registers of the SCH window, whose index counts from the port of SCH_SEL (R231). -/
structure MapRow where
  id : RegId
  base : Nat
  n1 : Nat := 1
  s1 : Nat := 0
  n2 : Nat := 1
  s2 : Nat := 0
  add : Nat := 0
  win : Bool := false
  deriving DecidableEq, Repr

/-- The member index at block offset `off`, if `off` lies in this row. -/
def MapRow.index (r : MapRow) (off : Nat) : Option Nat :=
  if off < r.base then none
  else
    let d := off - r.base
    let i := if r.s1 = 0 then 0 else d / r.s1
    let e := d - i * r.s1
    let j := if r.s2 = 0 then 0 else e / r.s2
    if e = j * r.s2 ∧ i < r.n1 ∧ j < r.n2 then some (r.add + i * r.n2 + j) else none

/-- How many members of the row one Platform (or one port, for the SCH window) has. -/
def MapRow.count (r : MapRow) : Nat := r.n1 * r.n2

/-- The layout of the GLB block (R502). -/
def rowsGlb : List MapRow :=
  [⟨.glbMode, 0x10, 1, 0x0, 1, 0x0, 0, false⟩,
   ⟨.glbCommit, 0x100, 1, 0x0, 1, 0x0, 0, false⟩,
   ⟨.glbCommitStat, 0x104, 1, 0x0, 1, 0x0, 0, false⟩,
   ⟨.glbCommitAt, 0x108, 1, 0x0, 1, 0x0, 0, false⟩,
   ⟨.glbCommitEdge, 0x10C, 1, 0x0, 1, 0x0, 0, false⟩,
   ⟨.glbIllegalSum, 0xF10, 1, 0x0, 1, 0x0, 0, false⟩,
   ⟨.glbIllegalEn, 0xF14, 1, 0x0, 1, 0x0, 0, false⟩]

/-- The layout of the SAF block (R502). -/
def rowsSaf : List MapRow :=
  [⟨.safIntStat, 0x0, 1, 0x0, 1, 0x0, 0, false⟩,
   ⟨.safIntEn, 0x4, 1, 0x0, 1, 0x0, 0, false⟩,
   ⟨.safCfg, 0x10, 1, 0x0, 1, 0x0, 0, false⟩,
   ⟨.safStat, 0x14, 1, 0x0, 1, 0x0, 0, false⟩,
   ⟨.safTemp, 0x18, 1, 0x0, 1, 0x0, 0, false⟩,
   ⟨.safWdog, 0x1C, 1, 0x0, 1, 0x0, 0, false⟩,
   ⟨.safInject, 0x20, 1, 0x0, 1, 0x0, 0, false⟩,
   ⟨.safLogIdx, 0x24, 1, 0x0, 1, 0x0, 0, false⟩,
   ⟨.safLogSel, 0x28, 1, 0x0, 1, 0x0, 0, false⟩,
   ⟨.safLifeHours, 0x40, 5, 0x4, 1, 0x0, 0, false⟩,
   ⟨.safLifeCycles, 0x54, 1, 0x0, 1, 0x0, 0, false⟩,
   ⟨.safLifeHalts, 0x58, 1, 0x0, 1, 0x0, 0, false⟩]
  ++ [⟨.safLogData, 0x100, 16, 0x4, 1, 0x0, 0, false⟩,
   ⟨.safCntLo, 0x1000, 16, 0x8, 1, 0x0, 0, false⟩,
   ⟨.safCntHi, 0x1004, 16, 0x8, 1, 0x0, 0, false⟩,
   ⟨.safCntHalf, 0x1080, 1, 0x0, 1, 0x0, 0, false⟩]

/-- The layout of the AO block (R502). -/
def rowsAo : List MapRow :=
  [⟨.aoIntStat, 0x0, 1, 0x0, 1, 0x0, 0, false⟩,
   ⟨.aoIntEn, 0x4, 1, 0x0, 1, 0x0, 0, false⟩,
   ⟨.aoWakeCfg, 0x10, 1, 0x0, 1, 0x0, 0, false⟩,
   ⟨.aoPwrCtrl, 0x14, 1, 0x0, 1, 0x0, 0, false⟩,
   ⟨.aoChipStat, 0x18, 1, 0x0, 1, 0x0, 0, false⟩,
   ⟨.aoPlatCfg, 0x100, 8, 0x10, 1, 0x0, 0, false⟩,
   ⟨.aoPlatStat, 0x104, 8, 0x10, 1, 0x0, 0, false⟩,
   ⟨.aoCntHalf, 0x108, 8, 0x10, 1, 0x0, 0, false⟩,
   ⟨.aoCntLo, 0x1000, 8, 0x100, 32, 0x8, 0, false⟩,
   ⟨.aoCntHi, 0x1004, 8, 0x100, 32, 0x8, 0, false⟩]

/-- The layout of the BOOT block (R502). -/
def rowsBoot : List MapRow :=
  [⟨.bootIntStat, 0x0, 1, 0x0, 1, 0x0, 0, false⟩,
   ⟨.bootIntEn, 0x4, 1, 0x0, 1, 0x0, 0, false⟩,
   ⟨.bootStat, 0x10, 1, 0x0, 1, 0x0, 0, false⟩,
   ⟨.bootImage, 0x14, 1, 0x0, 1, 0x0, 0, false⟩,
   ⟨.bootNode, 0x18, 1, 0x0, 1, 0x0, 0, false⟩,
   ⟨.bootRet, 0x1C, 1, 0x0, 1, 0x0, 0, false⟩,
   ⟨.bootTCommit, 0x20, 1, 0x0, 1, 0x0, 0, false⟩,
   ⟨.bootTFirst, 0x24, 1, 0x0, 1, 0x0, 0, false⟩,
   ⟨.bootCfgDigest, 0x30, 12, 0x4, 1, 0x0, 0, false⟩,
   ⟨.bootRetCfg, 0x60, 1, 0x0, 1, 0x0, 0, false⟩,
   ⟨.bootFlaCfg, 0x100, 1, 0x0, 1, 0x0, 0, false⟩,
   ⟨.bootUpdStat, 0x104, 1, 0x0, 1, 0x0, 0, false⟩]
  ++ [⟨.bootUpdPkg, 0x108, 1, 0x0, 1, 0x0, 0, false⟩,
   ⟨.bootUpdCfg, 0x10C, 1, 0x0, 1, 0x0, 0, false⟩,
   ⟨.bootSecStat, 0x120, 1, 0x0, 1, 0x0, 0, false⟩,
   ⟨.bootSecSignid, 0x130, 4, 0x4, 1, 0x0, 0, false⟩,
   ⟨.bootFlaCntLo, 0x200, 5, 0x8, 1, 0x0, 0, false⟩,
   ⟨.bootFlaCntHi, 0x204, 5, 0x8, 1, 0x0, 0, false⟩]

/-- The layout of the TIME block (R502). -/
def rowsTime : List MapRow :=
  [⟨.timeIntStat, 0x0, 1, 0x0, 1, 0x0, 0, false⟩,
   ⟨.timeIntEn, 0x4, 1, 0x0, 1, 0x0, 0, false⟩,
   ⟨.timeCmd, 0x10, 1, 0x0, 1, 0x0, 0, false⟩,
   ⟨.timeCmdStat, 0x14, 1, 0x0, 1, 0x0, 0, false⟩,
   ⟨.timeCmdDataLo, 0x18, 1, 0x0, 1, 0x0, 0, false⟩,
   ⟨.timeCmdDataHi, 0x1C, 1, 0x0, 1, 0x0, 0, false⟩,
   ⟨.timeSnap, 0x20, 1, 0x0, 1, 0x0, 0, false⟩,
   ⟨.timeSnapMonoLo, 0x28, 1, 0x0, 1, 0x0, 0, false⟩,
   ⟨.timeSnapMonoHi, 0x2C, 1, 0x0, 1, 0x0, 0, false⟩,
   ⟨.timeSnapTbLo, 0x30, 8, 0x8, 1, 0x0, 0, false⟩,
   ⟨.timeSnapTbHi, 0x34, 8, 0x8, 1, 0x0, 0, false⟩,
   ⟨.timeMonoSavedLo, 0x80, 1, 0x0, 1, 0x0, 0, false⟩]
  ++ [⟨.timeMonoSavedHi, 0x84, 1, 0x0, 1, 0x0, 0, false⟩,
   ⟨.timeTbCfg, 0x100, 8, 0x20, 1, 0x0, 0, false⟩,
   ⟨.timeTbTrim, 0x104, 8, 0x20, 1, 0x0, 0, false⟩,
   ⟨.timeTbStat, 0x108, 8, 0x20, 1, 0x0, 0, false⟩,
   ⟨.timeTbOfsLo, 0x10C, 8, 0x20, 1, 0x0, 0, false⟩,
   ⟨.timeTbOfsHi, 0x110, 8, 0x20, 1, 0x0, 0, false⟩,
   ⟨.timeTcDom, 0x400, 8, 0x4, 1, 0x0, 0, false⟩,
   ⟨.timePpsOutCfg, 0x500, 4, 0x10, 1, 0x0, 0, false⟩,
   ⟨.timePpsOutPeriod, 0x504, 4, 0x10, 1, 0x0, 0, false⟩,
   ⟨.timePpsOutPhase, 0x508, 4, 0x10, 1, 0x0, 0, false⟩,
   ⟨.timePpsOutWidth, 0x50C, 4, 0x10, 1, 0x0, 0, false⟩,
   ⟨.timePpsInCfg, 0x600, 4, 0x20, 1, 0x0, 0, false⟩]
  ++ [⟨.timePpsInStat, 0x604, 4, 0x20, 1, 0x0, 0, false⟩,
   ⟨.timePpsInTbLo, 0x608, 4, 0x20, 1, 0x0, 0, false⟩,
   ⟨.timePpsInTbHi, 0x60C, 4, 0x20, 1, 0x0, 0, false⟩,
   ⟨.timePpsInMonoLo, 0x610, 4, 0x20, 1, 0x0, 0, false⟩,
   ⟨.timePpsInMonoHi, 0x614, 4, 0x20, 1, 0x0, 0, false⟩,
   ⟨.timeCntLo, 0x1000, 8, 0x100, 16, 0x8, 0, false⟩,
   ⟨.timeCntHi, 0x1004, 8, 0x100, 16, 0x8, 0, false⟩,
   ⟨.timeCntHalf, 0x1080, 8, 0x100, 1, 0x0, 0, false⟩]

/-- The layout of the HOST block (R502). -/
def rowsHost : List MapRow :=
  [⟨.hostIntStat, 0x0, 1, 0x0, 1, 0x0, 0, false⟩,
   ⟨.hostIntEn, 0x4, 1, 0x0, 1, 0x0, 0, false⟩,
   ⟨.hostLinkStat, 0x10, 1, 0x0, 1, 0x0, 0, false⟩,
   ⟨.hostIntnEn, 0x14, 1, 0x0, 1, 0x0, 0, false⟩,
   ⟨.hostUserCfg, 0x20, 1, 0x0, 1, 0x0, 0, false⟩,
   ⟨.hostQpCtrl, 0x1000, 16, 0x100, 1, 0x0, 0, false⟩,
   ⟨.hostTdCtrl, 0x2000, 1, 0x0, 1, 0x0, 0, false⟩,
   ⟨.hostQpStat, 0x1004, 16, 0x100, 1, 0x0, 0, false⟩,
   ⟨.hostQpStat, 0x2004, 1, 0x0, 1, 0x0, 16, false⟩,
   ⟨.hostQpTxBaseLo, 0x1008, 16, 0x100, 1, 0x0, 0, false⟩,
   ⟨.hostQpTxBaseLo, 0x2008, 1, 0x0, 1, 0x0, 16, false⟩,
   ⟨.hostQpTxBaseHi, 0x100C, 16, 0x100, 1, 0x0, 0, false⟩]
  ++ [⟨.hostQpTxBaseHi, 0x200C, 1, 0x0, 1, 0x0, 16, false⟩,
   ⟨.hostQpTxSize, 0x1010, 16, 0x100, 1, 0x0, 0, false⟩,
   ⟨.hostQpTxSize, 0x2010, 1, 0x0, 1, 0x0, 16, false⟩,
   ⟨.hostQpTxHead, 0x1014, 16, 0x100, 1, 0x0, 0, false⟩,
   ⟨.hostQpTxHead, 0x2014, 1, 0x0, 1, 0x0, 16, false⟩,
   ⟨.hostQpRxBaseLo, 0x1020, 16, 0x100, 1, 0x0, 0, false⟩,
   ⟨.hostQpRxBaseHi, 0x1024, 16, 0x100, 1, 0x0, 0, false⟩,
   ⟨.hostQpRxSize, 0x1028, 16, 0x100, 1, 0x0, 0, false⟩,
   ⟨.hostQpRxHead, 0x102C, 16, 0x100, 1, 0x0, 0, false⟩,
   ⟨.hostQpCqBaseLo, 0x1038, 16, 0x100, 1, 0x0, 0, false⟩,
   ⟨.hostQpCqBaseLo, 0x2038, 1, 0x0, 1, 0x0, 16, false⟩,
   ⟨.hostQpCqBaseHi, 0x103C, 16, 0x100, 1, 0x0, 0, false⟩]
  ++ [⟨.hostQpCqBaseHi, 0x203C, 1, 0x0, 1, 0x0, 16, false⟩,
   ⟨.hostQpCqSize, 0x1040, 16, 0x100, 1, 0x0, 0, false⟩,
   ⟨.hostQpCqSize, 0x2040, 1, 0x0, 1, 0x0, 16, false⟩,
   ⟨.hostQpCqHead, 0x1044, 16, 0x100, 1, 0x0, 0, false⟩,
   ⟨.hostQpCqHead, 0x2044, 1, 0x0, 1, 0x0, 16, false⟩,
   ⟨.hostQpCqWbLo, 0x1050, 16, 0x100, 1, 0x0, 0, false⟩,
   ⟨.hostQpCqWbLo, 0x2050, 1, 0x0, 1, 0x0, 16, false⟩,
   ⟨.hostQpCqWbHi, 0x1054, 16, 0x100, 1, 0x0, 0, false⟩,
   ⟨.hostQpCqWbHi, 0x2054, 1, 0x0, 1, 0x0, 16, false⟩,
   ⟨.hostQpCqInt, 0x1058, 16, 0x100, 1, 0x0, 0, false⟩,
   ⟨.hostQpCqInt, 0x2058, 1, 0x0, 1, 0x0, 16, false⟩,
   ⟨.hostQpIntStat, 0x1060, 16, 0x100, 1, 0x0, 0, false⟩]
  ++ [⟨.hostQpIntStat, 0x2060, 1, 0x0, 1, 0x0, 16, false⟩,
   ⟨.hostQpIntEn, 0x1064, 16, 0x100, 1, 0x0, 0, false⟩,
   ⟨.hostQpIntEn, 0x2064, 1, 0x0, 1, 0x0, 16, false⟩,
   ⟨.hostQpCntHalf, 0x106C, 16, 0x100, 1, 0x0, 0, false⟩,
   ⟨.hostQpCntLo, 0x1080, 16, 0x100, 4, 0x8, 0, false⟩,
   ⟨.hostQpCntHi, 0x1084, 16, 0x100, 4, 0x8, 0, false⟩,
   ⟨.hostTxDb, 0x8000, 16, 0x10, 1, 0x0, 0, false⟩,
   ⟨.hostRxDb, 0x8004, 16, 0x10, 1, 0x0, 0, false⟩,
   ⟨.hostCqDb, 0x8008, 16, 0x10, 1, 0x0, 0, false⟩,
   ⟨.hostTxDb, 0x8100, 1, 0x0, 1, 0x0, 16, false⟩,
   ⟨.hostCqDb, 0x8104, 1, 0x0, 1, 0x0, 16, false⟩]

/-- The layout of the TBL block (R502). -/
def rowsTbl : List MapRow :=
  [⟨.tblIntStat, 0x0, 1, 0x0, 1, 0x0, 0, false⟩,
   ⟨.tblIntEn, 0x4, 1, 0x0, 1, 0x0, 0, false⟩,
   ⟨.tblClaim, 0x10, 1, 0x0, 1, 0x0, 0, false⟩,
   ⟨.tblClaimStat, 0x14, 1, 0x0, 1, 0x0, 0, false⟩,
   ⟨.tblCmd, 0x20, 1, 0x0, 1, 0x0, 0, false⟩,
   ⟨.tblCmdStat, 0x24, 1, 0x0, 1, 0x0, 0, false⟩,
   ⟨.tblCmdData, 0x40, 8, 0x4, 1, 0x0, 0, false⟩,
   ⟨.tblAge, 0x80, 1, 0x0, 1, 0x0, 0, false⟩,
   ⟨.tblLearnCtrl, 0x84, 1, 0x0, 1, 0x0, 0, false⟩,
   ⟨.tblFlush, 0x90, 1, 0x0, 1, 0x0, 0, false⟩,
   ⟨.tblFlushStat, 0x94, 1, 0x0, 1, 0x0, 0, false⟩,
   ⟨.tblFlushDest, 0x98, 1, 0x0, 1, 0x0, 0, false⟩]
  ++ [⟨.tblLagHash, 0xA0, 1, 0x0, 1, 0x0, 0, false⟩,
   ⟨.tblRouterMacLo, 0xB0, 4, 0x8, 1, 0x0, 0, false⟩,
   ⟨.tblRouterMacHi, 0xB4, 4, 0x8, 1, 0x0, 0, false⟩,
   ⟨.tblRouteCtrl, 0xD0, 1, 0x0, 1, 0x0, 0, false⟩,
   ⟨.tblLearnStat, 0x100, 8, 0x10, 1, 0x0, 0, false⟩,
   ⟨.tblMacCount, 0x104, 8, 0x10, 1, 0x0, 0, false⟩,
   ⟨.tblCntHalf, 0x108, 8, 0x10, 1, 0x0, 0, false⟩,
   ⟨.tblCap, 0x200, 26, 0x4, 1, 0x0, 0, false⟩,
   ⟨.tblCntLo, 0x1000, 8, 0x100, 32, 0x8, 0, false⟩,
   ⟨.tblCntHi, 0x1004, 8, 0x100, 32, 0x8, 0, false⟩]

/-- The layout of the CLS block (R502). -/
def rowsCls : List MapRow :=
  [⟨.clsIntStat, 0x0, 1, 0x0, 1, 0x0, 0, false⟩,
   ⟨.clsIntEn, 0x4, 1, 0x0, 1, 0x0, 0, false⟩,
   ⟨.clsGenCtrl, 0x10, 1, 0x0, 1, 0x0, 0, false⟩,
   ⟨.clsGenStat, 0x14, 1, 0x0, 1, 0x0, 0, false⟩,
   ⟨.clsGenSwapAt, 0x18, 1, 0x0, 1, 0x0, 0, false⟩,
   ⟨.clsGenEdge, 0x1C, 1, 0x0, 1, 0x0, 0, false⟩,
   ⟨.clsBankGen, 0x20, 2, 0x4, 1, 0x0, 0, false⟩,
   ⟨.clsGenInflight, 0x28, 2, 0x4, 1, 0x0, 0, false⟩,
   ⟨.clsBankAct, 0x30, 2, 0x4, 1, 0x0, 0, false⟩,
   ⟨.clsWalkFault, 0x38, 1, 0x0, 1, 0x0, 0, false⟩,
   ⟨.clsWalkFaultAddr, 0x3C, 1, 0x0, 1, 0x0, 0, false⟩,
   ⟨.clsTpid, 0x40, 4, 0x4, 1, 0x0, 0, false⟩]
  ++ [⟨.clsParseCtrl, 0x50, 1, 0x0, 1, 0x0, 0, false⟩,
   ⟨.clsTreeRoot, 0x100, 2, 0x80, 16, 0x8, 0, false⟩,
   ⟨.clsTreeCfg, 0x104, 2, 0x80, 16, 0x8, 0, false⟩,
   ⟨.clsTtCtrl, 0x400, 8, 0x10, 1, 0x0, 0, false⟩,
   ⟨.clsTtStat, 0x404, 8, 0x10, 1, 0x0, 0, false⟩,
   ⟨.clsCntHalf, 0x408, 8, 0x10, 1, 0x0, 0, false⟩,
   ⟨.clsCntLo, 0x1000, 8, 0x100, 32, 0x8, 0, false⟩,
   ⟨.clsCntHi, 0x1004, 8, 0x100, 32, 0x8, 0, false⟩]

/-- The layout of the PSF block (R502). -/
def rowsPsf : List MapRow :=
  [⟨.psfIntStat, 0x0, 1, 0x0, 1, 0x0, 0, false⟩,
   ⟨.psfIntEn, 0x4, 1, 0x0, 1, 0x0, 0, false⟩,
   ⟨.psfEditCtrl, 0x10, 1, 0x0, 1, 0x0, 0, false⟩,
   ⟨.psfEditData, 0x20, 8, 0x4, 1, 0x0, 0, false⟩,
   ⟨.psfWinCfg, 0x40, 1, 0x0, 1, 0x0, 0, false⟩,
   ⟨.psfWinCtrl, 0x44, 1, 0x0, 1, 0x0, 0, false⟩,
   ⟨.psfWinStat, 0x48, 1, 0x0, 1, 0x0, 0, false⟩,
   ⟨.psfHalfIdx, 0x50, 1, 0x0, 1, 0x0, 0, false⟩,
   ⟨.psfHalfEvt, 0x100, 64, 0x4, 1, 0x0, 0, false⟩,
   ⟨.psfSchedStart, 0x1000, 256, 0x8, 1, 0x0, 0, false⟩,
   ⟨.psfSchedFlags, 0x1004, 256, 0x8, 1, 0x0, 0, false⟩,
   ⟨.psfSchedHdr, 0x2000, 256, 0x10, 1, 0x0, 0, false⟩]
  ++ [⟨.psfSchedCycle, 0x2004, 256, 0x10, 1, 0x0, 0, false⟩,
   ⟨.psfSchedBase, 0x2008, 256, 0x10, 1, 0x0, 0, false⟩,
   ⟨.psfSchedIntv, 0x4000, 256, 0x80, 16, 0x8, 0, false⟩,
   ⟨.psfSchedGate, 0x4004, 256, 0x80, 16, 0x8, 0, false⟩,
   ⟨.psfCntLo, 0xC000, 8, 0x100, 16, 0x8, 0, false⟩,
   ⟨.psfCntHi, 0xC004, 8, 0x100, 16, 0x8, 0, false⟩,
   ⟨.psfCntHalf, 0xC080, 8, 0x100, 1, 0x0, 0, false⟩]

/-- The layout of the RED block (R502). -/
def rowsRed : List MapRow :=
  [⟨.redIntStat, 0x0, 1, 0x0, 1, 0x0, 0, false⟩,
   ⟨.redIntEn, 0x4, 1, 0x0, 1, 0x0, 0, false⟩,
   ⟨.redTwinCfg, 0x10, 1, 0x0, 1, 0x0, 0, false⟩,
   ⟨.redTwinCtrl, 0x14, 1, 0x0, 1, 0x0, 0, false⟩,
   ⟨.redTwinStat, 0x18, 1, 0x0, 1, 0x0, 0, false⟩,
   ⟨.redTwinInfo, 0x1C, 1, 0x0, 1, 0x0, 0, false⟩,
   ⟨.redTwinPeer, 0x20, 1, 0x0, 1, 0x0, 0, false⟩,
   ⟨.redTwinDelay, 0x24, 1, 0x0, 1, 0x0, 0, false⟩,
   ⟨.redTwinResets, 0x28, 1, 0x0, 1, 0x0, 0, false⟩,
   ⟨.redCplStat, 0x30, 1, 0x0, 1, 0x0, 0, false⟩,
   ⟨.redEvtIdx, 0x40, 1, 0x0, 1, 0x0, 0, false⟩,
   ⟨.redEvt, 0x100, 64, 0x4, 1, 0x0, 0, false⟩]
  ++ [⟨.redPortCfg, 0x1000, 552, 0x4, 1, 0x0, 0, false⟩,
   ⟨.redCntLo, 0x2000, 8, 0x100, 16, 0x8, 0, false⟩,
   ⟨.redCntHi, 0x2004, 8, 0x100, 16, 0x8, 0, false⟩,
   ⟨.redCntHalf, 0x2080, 8, 0x100, 1, 0x0, 0, false⟩]

/-- The layout of the TM block (R502). -/
def rowsTm : List MapRow :=
  [⟨.tmIntStat, 0x0, 1, 0x0, 1, 0x0, 0, false⟩,
   ⟨.tmIntEn, 0x4, 1, 0x0, 1, 0x0, 0, false⟩,
   ⟨.tmPoolSched, 0x10, 1, 0x0, 1, 0x0, 0, false⟩,
   ⟨.tmPoolHr, 0x14, 1, 0x0, 1, 0x0, 0, false⟩,
   ⟨.tmPoolShared, 0x18, 1, 0x0, 1, 0x0, 0, false⟩,
   ⟨.tmPoolFree, 0x20, 1, 0x0, 1, 0x0, 0, false⟩,
   ⟨.tmPoolLow, 0x24, 1, 0x0, 1, 0x0, 0, false⟩,
   ⟨.tmPoolAlarm, 0x28, 1, 0x0, 1, 0x0, 0, false⟩,
   ⟨.tmFcCfg, 0x30, 1, 0x0, 1, 0x0, 0, false⟩,
   ⟨.tmReplCfg, 0x34, 1, 0x0, 1, 0x0, 0, false⟩,
   ⟨.tmHrBreach, 0x40, 1, 0x0, 1, 0x0, 0, false⟩,
   ⟨.tmQSel, 0x50, 1, 0x0, 1, 0x0, 0, false⟩]
  ++ [⟨.tmQDepth, 0x54, 1, 0x0, 1, 0x0, 0, false⟩,
   ⟨.tmQResv, 0x58, 1, 0x0, 1, 0x0, 0, false⟩,
   ⟨.tmPlatStat, 0x100, 8, 0x10, 1, 0x0, 0, false⟩,
   ⟨.tmCntHalf, 0x104, 8, 0x10, 1, 0x0, 0, false⟩,
   ⟨.tmPortHalfSum, 0x180, 18, 0x4, 1, 0x0, 0, false⟩,
   ⟨.tmClassCfg, 0x200, 8, 0x8, 1, 0x0, 0, false⟩,
   ⟨.tmClassDeadline, 0x204, 8, 0x8, 1, 0x0, 0, false⟩,
   ⟨.tmCntLo, 0x400, 8, 0x100, 32, 0x8, 0, false⟩,
   ⟨.tmCntHi, 0x404, 8, 0x100, 32, 0x8, 0, false⟩,
   ⟨.tmPortFc, 0x1000, 552, 0x40, 1, 0x0, 0, false⟩,
   ⟨.tmPortLink, 0x1004, 552, 0x40, 1, 0x0, 0, false⟩,
   ⟨.tmPortHold, 0x1008, 552, 0x40, 1, 0x0, 0, false⟩]
  ++ [⟨.tmPortStat, 0x100C, 552, 0x40, 1, 0x0, 0, false⟩,
   ⟨.tmPortResv, 0x1010, 552, 0x40, 4, 0x4, 0, false⟩,
   ⟨.tmPortHr, 0x1020, 552, 0x40, 4, 0x4, 0, false⟩,
   ⟨.tmPortHrReq, 0x1030, 552, 0x40, 1, 0x0, 0, false⟩,
   ⟨.tmPortCntHalf, 0x1034, 552, 0x40, 1, 0x0, 0, false⟩,
   ⟨.tmPortCntLo, 0xA000, 552, 0x18, 3, 0x8, 0, false⟩,
   ⟨.tmPortCntHi, 0xA004, 552, 0x18, 3, 0x8, 0, false⟩]

/-- The layout of the SCH block (R502). -/
def rowsSch : List MapRow :=
  [⟨.schIntStat, 0x0, 1, 0x0, 1, 0x0, 0, false⟩,
   ⟨.schIntEn, 0x4, 1, 0x0, 1, 0x0, 0, false⟩,
   ⟨.schSel, 0x10, 1, 0x0, 1, 0x0, 0, false⟩,
   ⟨.schSmpCtrl, 0x20, 1, 0x0, 1, 0x0, 0, false⟩,
   ⟨.schSmpIdx, 0x24, 1, 0x0, 1, 0x0, 0, false⟩,
   ⟨.schSmpList, 0x100, 64, 0x4, 1, 0x0, 0, false⟩,
   ⟨.schTtChg, 0x200, 18, 0x4, 1, 0x0, 0, false⟩,
   ⟨.schCntLo, 0x400, 8, 0x100, 16, 0x8, 0, false⟩,
   ⟨.schCntHi, 0x404, 8, 0x100, 16, 0x8, 0, false⟩,
   ⟨.schCntHalf, 0x480, 8, 0x100, 1, 0x0, 0, false⟩,
   ⟨.schAdmCtrl, 0xC00, 1, 0x0, 1, 0x0, 0, false⟩,
   ⟨.schAdmStat, 0xC04, 1, 0x0, 1, 0x0, 0, false⟩]
  ++ [⟨.schAdmInfo, 0xC08, 1, 0x0, 1, 0x0, 0, false⟩,
   ⟨.schAdmCount, 0xC0C, 1, 0x0, 1, 0x0, 0, false⟩,
   ⟨.schAdmWorst, 0xC10, 1, 0x0, 1, 0x0, 0, false⟩,
   ⟨.schAdmSel, 0xC14, 1, 0x0, 1, 0x0, 0, false⟩,
   ⟨.schAdmDecl, 0xC20, 8, 0x4, 1, 0x0, 0, false⟩,
   ⟨.schAdmRpt, 0xC40, 8, 0x4, 1, 0x0, 0, false⟩,
   ⟨.schPortCfg, 0x1000, 1, 0x0, 1, 0x0, 0, true⟩,
   ⟨.schPortRate, 0x1004, 1, 0x0, 1, 0x0, 0, true⟩,
   ⟨.schPortBurst, 0x1008, 1, 0x0, 1, 0x0, 0, true⟩,
   ⟨.schTtCfg, 0x1010, 1, 0x0, 1, 0x0, 0, true⟩,
   ⟨.schTtCycle, 0x1014, 1, 0x0, 1, 0x0, 0, true⟩,
   ⟨.schTtBase, 0x1018, 1, 0x0, 1, 0x0, 0, true⟩]
  ++ [⟨.schTtWake, 0x101C, 1, 0x0, 1, 0x0, 0, true⟩,
   ⟨.schTtStart, 0x1020, 1, 0x0, 1, 0x0, 0, true⟩,
   ⟨.schTtStat, 0x1024, 1, 0x0, 1, 0x0, 0, true⟩,
   ⟨.schQCfg, 0x1100, 8, 0x10, 1, 0x0, 0, true⟩,
   ⟨.schQSlope, 0x1104, 8, 0x10, 1, 0x0, 0, true⟩,
   ⟨.schQRate, 0x1108, 8, 0x10, 1, 0x0, 0, true⟩,
   ⟨.schQBurst, 0x110C, 8, 0x10, 1, 0x0, 0, true⟩,
   ⟨.schQCredit, 0x1180, 8, 0x8, 1, 0x0, 0, true⟩,
   ⟨.schQTokens, 0x1184, 8, 0x8, 1, 0x0, 0, true⟩,
   ⟨.schTtIntv, 0x2000, 256, 0x8, 1, 0x0, 0, true⟩,
   ⟨.schTtGates, 0x2004, 256, 0x8, 1, 0x0, 0, true⟩,
   ⟨.schTtOperIntv, 0x2800, 256, 0x8, 1, 0x0, 0, true⟩]
  ++ [⟨.schTtOperGates, 0x2804, 256, 0x8, 1, 0x0, 0, true⟩,
   ⟨.schSmpRing, 0x8000, 2048, 0x10, 4, 0x4, 0, false⟩]

/-- The layout of the CAPT block (R502). -/
def rowsCapt : List MapRow :=
  [⟨.recIntStat, 0x0, 1, 0x0, 1, 0x0, 0, false⟩,
   ⟨.recIntEn, 0x4, 1, 0x0, 1, 0x0, 0, false⟩,
   ⟨.recCfg, 0x10, 1, 0x0, 1, 0x0, 0, false⟩,
   ⟨.recClose, 0x14, 1, 0x0, 1, 0x0, 0, false⟩,
   ⟨.recRingBaseLo, 0x20, 1, 0x0, 1, 0x0, 0, false⟩,
   ⟨.recRingBaseHi, 0x24, 1, 0x0, 1, 0x0, 0, false⟩,
   ⟨.recRingBlocks, 0x28, 1, 0x0, 1, 0x0, 0, false⟩,
   ⟨.recStat, 0x30, 1, 0x0, 1, 0x0, 0, false⟩,
   ⟨.recRingWr, 0x38, 1, 0x0, 1, 0x0, 0, false⟩,
   ⟨.recOpenLen, 0x3C, 1, 0x0, 1, 0x0, 0, false⟩,
   ⟨.recBsnLo, 0x40, 1, 0x0, 1, 0x0, 0, false⟩,
   ⟨.recBsnHi, 0x44, 1, 0x0, 1, 0x0, 0, false⟩]
  ++ [⟨.recHeadDigest, 0x50, 12, 0x4, 1, 0x0, 0, false⟩,
   ⟨.recTrigCfg, 0x80, 1, 0x0, 1, 0x0, 0, false⟩,
   ⟨.recTrigSpan, 0x84, 1, 0x0, 1, 0x0, 0, false⟩,
   ⟨.recTrigCtrl, 0x88, 1, 0x0, 1, 0x0, 0, false⟩,
   ⟨.recNvmeCfg, 0x90, 1, 0x0, 1, 0x0, 0, false⟩,
   ⟨.recNvmeBaseLo, 0x94, 1, 0x0, 1, 0x0, 0, false⟩,
   ⟨.recNvmeBaseHi, 0x98, 1, 0x0, 1, 0x0, 0, false⟩,
   ⟨.recNvmeCount, 0x9C, 1, 0x0, 1, 0x0, 0, false⟩,
   ⟨.recNvmeWrLo, 0xA0, 1, 0x0, 1, 0x0, 0, false⟩,
   ⟨.recNvmeWrHi, 0xA4, 1, 0x0, 1, 0x0, 0, false⟩,
   ⟨.recWinStat, 0x100, 4, 0x10, 1, 0x0, 0, false⟩,
   ⟨.recWinId, 0x104, 4, 0x10, 1, 0x0, 0, false⟩]
  ++ [⟨.recWinBsn, 0x108, 4, 0x10, 1, 0x0, 0, false⟩,
   ⟨.recWinBlocks, 0x10C, 4, 0x10, 1, 0x0, 0, false⟩,
   ⟨.recWinCtrl, 0x180, 1, 0x0, 1, 0x0, 0, false⟩,
   ⟨.recRule, 0x400, 256, 0x4, 1, 0x0, 0, false⟩,
   ⟨.recCntLo, 0x1000, 8, 0x100, 16, 0x8, 0, false⟩,
   ⟨.recCntHi, 0x1004, 8, 0x100, 16, 0x8, 0, false⟩,
   ⟨.recCntHalf, 0x1080, 8, 0x100, 1, 0x0, 0, false⟩]

/-- The layout of the PLAT block (R502). -/
def rowsPlat : List MapRow :=
  [⟨.platIntStat, 0x10, 1, 0x0, 1, 0x0, 0, false⟩,
   ⟨.platIntEn, 0x14, 1, 0x0, 1, 0x0, 0, false⟩,
   ⟨.platLinkChg, 0x20, 2, 0x4, 1, 0x0, 0, false⟩,
   ⟨.platTxstartChg, 0x28, 2, 0x4, 1, 0x0, 0, false⟩,
   ⟨.platCntHalfSum, 0x30, 2, 0x4, 1, 0x0, 0, false⟩,
   ⟨.platCntSnap, 0x40, 1, 0x0, 1, 0x0, 0, false⟩,
   ⟨.platLaneMode, 0x100, 8, 0x20, 1, 0x0, 0, false⟩,
   ⟨.platLaneStat, 0x104, 8, 0x20, 1, 0x0, 0, false⟩,
   ⟨.platStaLo, 0x400, 16, 0x10, 1, 0x0, 0, false⟩,
   ⟨.platStaHi, 0x404, 16, 0x10, 1, 0x0, 0, false⟩,
   ⟨.platCntSnapbufLo, 0x600, 64, 0x8, 1, 0x0, 0, false⟩,
   ⟨.platCntSnapbufHi, 0x604, 64, 0x8, 1, 0x0, 0, false⟩]
  ++ [⟨.platCntHalf, 0x800, 64, 0x8, 2, 0x4, 0, false⟩,
   ⟨.platPortCtrl, 0x1000, 64, 0x40, 1, 0x0, 0, false⟩,
   ⟨.platPortFrame, 0x1004, 64, 0x40, 1, 0x0, 0, false⟩,
   ⟨.platPortTxstart, 0x1008, 64, 0x40, 1, 0x0, 0, false⟩,
   ⟨.platPortLpi, 0x100C, 64, 0x40, 1, 0x0, 0, false⟩,
   ⟨.platPortStat, 0x1010, 64, 0x40, 1, 0x0, 0, false⟩,
   ⟨.platTsRxlat, 0x1020, 64, 0x40, 1, 0x0, 0, false⟩,
   ⟨.platTsTxlat, 0x1024, 64, 0x40, 1, 0x0, 0, false⟩,
   ⟨.platTsAsym, 0x1028, 64, 0x40, 1, 0x0, 0, false⟩,
   ⟨.platTsCfg, 0x102C, 64, 0x40, 1, 0x0, 0, false⟩,
   ⟨.platTsLinkdly, 0x1030, 64, 0x40, 1, 0x0, 0, false⟩,
   ⟨.platTxtsIdx, 0x2000, 1, 0x0, 1, 0x0, 0, false⟩]
  ++ [⟨.platTxtsEntry, 0x2100, 32, 0x8, 2, 0x4, 0, false⟩,
   ⟨.platPerfCtrl, 0x3000, 1, 0x0, 1, 0x0, 0, false⟩,
   ⟨.platPerfOvf, 0x3004, 1, 0x0, 1, 0x0, 0, false⟩,
   ⟨.platPerfOvfEn, 0x3008, 1, 0x0, 1, 0x0, 0, false⟩,
   ⟨.platPerfCycLo, 0x3010, 1, 0x0, 1, 0x0, 0, false⟩,
   ⟨.platPerfCycHi, 0x3014, 1, 0x0, 1, 0x0, 0, false⟩,
   ⟨.platPerfEvsel, 0x3020, 8, 0x4, 1, 0x0, 0, false⟩,
   ⟨.platPerfCntLo, 0x3040, 8, 0x8, 1, 0x0, 0, false⟩,
   ⟨.platPerfCntHi, 0x3044, 8, 0x8, 1, 0x0, 0, false⟩,
   ⟨.platCntLo, 0x8000, 64, 0x200, 64, 0x8, 0, false⟩,
   ⟨.platCntHi, 0x8004, 64, 0x200, 64, 0x8, 0, false⟩]

/-- The layout of the PERF block (R502). -/
def rowsPerf : List MapRow :=
  [⟨.perfIntStat, 0x0, 1, 0x0, 1, 0x0, 0, false⟩,
   ⟨.perfIntEn, 0x4, 1, 0x0, 1, 0x0, 0, false⟩,
   ⟨.perfCtrl, 0x10, 1, 0x0, 1, 0x0, 0, false⟩,
   ⟨.perfUserEn, 0x14, 1, 0x0, 1, 0x0, 0, false⟩,
   ⟨.perfAggLo, 0x100, 8, 0x8, 1, 0x0, 0, false⟩,
   ⟨.perfAggHi, 0x104, 8, 0x8, 1, 0x0, 0, false⟩]

/-- The rows of one block. -/
def Blk.rows : Blk → List MapRow
  | .glb => rowsGlb
  | .saf => rowsSaf
  | .ao => rowsAo
  | .boot => rowsBoot
  | .time => rowsTime
  | .host => rowsHost
  | .tbl => rowsTbl
  | .cls => rowsCls
  | .psf => rowsPsf
  | .red => rowsRed
  | .tm => rowsTm
  | .sch => rowsSch
  | .capt => rowsCapt
  | .plat _ => rowsPlat
  | .perf => rowsPerf

/-- The bits with code RW (R8). -/
def RegId.rwMask : RegId → Nat
  | .blkLock | .hostTdCtrl => 0x80000000
  | .blkIllegal | .glbCommitAt | .glbIllegalSum | .glbIllegalEn | .timeCmdDataLo => 0xFFFFFFFF
  | .timeCmdDataHi | .timePpsOutPeriod | .timePpsOutPhase | .hostQpTxBaseLo | .hostQpTxBaseHi => 0xFFFFFFFF
  | .hostQpRxBaseLo | .hostQpRxBaseHi | .hostQpCqBaseLo | .hostQpCqBaseHi | .hostQpCqWbLo => 0xFFFFFFFF
  | .hostQpCqWbHi | .hostQpCqInt | .tblCmdData | .tblRouterMacLo | .clsGenSwapAt => 0xFFFFFFFF
  | .psfEditData | .psfWinCfg | .psfSchedCycle | .psfSchedBase | .psfSchedIntv => 0xFFFFFFFF
  | .tmPortLink | .tmPortResv | .tmPortHr | .schTtChg | .schAdmDecl => 0xFFFFFFFF
  | .schPortRate | .schTtCycle | .schTtBase | .schQSlope | .schQRate => 0xFFFFFFFF
  | .schTtIntv | .recRingBaseLo | .recRingBaseHi | .recTrigSpan | .recNvmeCfg => 0xFFFFFFFF
  | .recNvmeBaseLo | .recNvmeBaseHi | .recNvmeCount | .platLinkChg | .platTxstartChg => 0xFFFFFFFF
  | .platStaLo | .platCntHalf | .platTsAsym | .platTsLinkdly | .platPerfCycLo => 0xFFFFFFFF
  | .platPerfCntLo => 0xFFFFFFFF
  | .glbCommitStat => 0x30000000
  | .safIntStat | .bootIntStat | .bootIntEn | .hostQpCntHalf | .tblIntStat => 0xF
  | .clsIntStat | .tmIntEn => 0xF
  | .safIntEn | .tblIntEn | .clsIntEn | .psfIntEn | .redIntEn => 0x1F
  | .schIntEn => 0x1F
  | .safLogSel | .schTtGates => 0xFF
  | .safCntHalf | .recIntStat | .platCntSnap | .platPortTxstart => 0x3F
  | .aoIntEn | .hostIntEn | .psfIntStat | .redIntStat | .tmIntStat => 0x7
  | .tmPortCntHalf | .platIntEn => 0x7
  | .aoCntHalf | .schCntHalf | .recIntEn => 0x7F
  | .timeIntStat => 0x2FFF0000
  | .timeIntEn => 0x6FFFFFFF
  | .timeTbStat => 0x20000000
  | .timeTcDom => 0xE70000FF
  | .timePpsOutCfg => 0xC700FFFF
  | .timePpsOutWidth => 0x3FFFFFFF
  | .timePpsInCfg => 0x8700FFFF
  | .timeCntHalf | .tblLagHash | .recCntHalf => 0x7FF
  | .hostLinkStat => 0x40000000
  | .hostIntnEn => 0x1
  | .hostUserCfg | .hostQpTxSize | .hostQpRxSize | .hostQpCqSize | .hostTxDb => 0xFFFF
  | .hostRxDb | .hostCqDb | .tblLearnCtrl | .tblFlushDest | .platPortLpi => 0xFFFF
  | .platPerfCycHi | .platPerfCntHi => 0xFFFF
  | .hostQpCtrl => 0xF800FFFF
  | .hostQpIntStat | .hostQpIntEn => 0x3
  | .tblClaim => 0x3FFFFF
  | .tblAge => 0x80070FFF
  | .tblFlush => 0x78FF0FFF
  | .tblRouterMacHi | .clsBankGen | .clsTpid => 0x8000FFFF
  | .tblRouteCtrl => 0x8F000000
  | .tblCntHalf => 0x7FFFF
  | .clsGenStat => 0x60000000
  | .clsBankAct | .tmPoolLow | .tmPoolAlarm | .tmClassDeadline => 0xFFFFF
  | .clsParseCtrl => 0xE000FFFF
  | .clsTreeRoot => 0xC01FFFFF
  | .clsTreeCfg => 0x8F030000
  | .clsTtCtrl => 0x1F30FF
  | .clsCntHalf | .tmCntHalf | .tmPortHold | .schTtWake | .platPortFrame => 0x3FFF
  | .psfEditCtrl => 0x1F01FFFF
  | .psfWinCtrl => 0x4000FFFF
  | .psfHalfIdx | .redEvtIdx => 0x8000007F
  | .psfSchedHdr => 0x71F
  | .psfSchedGate => 0xFCFFFFFF
  | .psfCntHalf => 0x1FFF
  | .redTwinCfg => 0xFFF0FFFF
  | .redPortCfg => 0xEF000000
  | .redCntHalf => 0x7FFF
  | .tmFcCfg => 0x70FFFF
  | .tmReplCfg => 0x3FF03FF
  | .tmQSel => 0x3FF0007
  | .tmClassCfg => 0xEC7FFFFF
  | .tmPortFc => 0xC0FFFFFF
  | .schIntStat => 0x6
  | .schSel => 0x3FF0000
  | .schSmpCtrl => 0x8FFFFFFF
  | .schSmpIdx => 0x80000FFF
  | .schSmpList => 0x83FF0007
  | .schAdmSel => 0x80003FFF
  | .schPortCfg => 0x8000FF00
  | .schPortBurst | .schQBurst | .recClose | .platTsRxlat | .platTsTxlat => 0xFFFFFF
  | .schTtCfg => 0x7FF01FF
  | .schQCfg => 0xE0003FFF
  | .recCfg => 0xF00FFFFF
  | .recRingBlocks => 0x7FFFFF
  | .recTrigCfg => 0xF8F00000
  | .recRule => 0xE7003FFF
  | .platLaneMode => 0xFF1F
  | .platStaHi => 0xFF1FFFFF
  | .platPortCtrl => 0xE0FF0000
  | .platTsCfg => 0x87000000
  | .platTxtsIdx => 0x8000003F
  | .platPerfCtrl => 0xE0000000
  | .platPerfOvf | .platPerfOvfEn => 0x1FF
  | .platPerfEvsel => 0xFFBF87
  | .perfCtrl => 0xC0000000
  | _ => 0

/-- The bits with code RO (R8). -/
def RegId.roMask : RegId → Nat
  | .blkIllegalLast => 0xFC00FFFF
  | .glbMode => 0x133303
  | .glbCommitStat => 0xC0FFFFFF
  | .glbCommitEdge | .safLifeHours | .safLifeCycles | .safLifeHalts | .safLogData => 0xFFFFFFFF
  | .safCntLo | .aoCntLo | .bootImage | .bootTCommit | .bootTFirst => 0xFFFFFFFF
  | .bootCfgDigest | .bootUpdPkg | .bootSecSignid | .bootFlaCntLo | .timeSnapMonoLo => 0xFFFFFFFF
  | .timeSnapMonoHi | .timeSnapTbLo | .timeSnapTbHi | .timeMonoSavedLo | .timeMonoSavedHi => 0xFFFFFFFF
  | .timeTbTrim | .timeTbOfsLo | .timeTbOfsHi | .timePpsInTbLo | .timePpsInTbHi => 0xFFFFFFFF
  | .timePpsInMonoLo | .timePpsInMonoHi | .timeCntLo | .hostQpCntLo | .tblCntLo => 0xFFFFFFFF
  | .clsGenEdge | .clsCntLo | .psfSchedStart | .psfCntLo | .redTwinPeer => 0xFFFFFFFF
  | .redCntLo | .tmPortHalfSum | .tmCntLo | .tmPortCntLo | .schCntLo => 0xFFFFFFFF
  | .schAdmWorst | .schAdmRpt | .schTtStart | .schQCredit | .schQTokens => 0xFFFFFFFF
  | .schTtOperIntv | .schSmpRing | .recBsnLo | .recBsnHi | .recHeadDigest => 0xFFFFFFFF
  | .recNvmeWrLo | .recNvmeWrHi | .recWinId | .recWinBsn | .recCntLo => 0xFFFFFFFF
  | .platCntHalfSum | .platCntSnapbufLo | .platTxtsEntry | .platCntLo | .perfAggLo => 0xFFFFFFFF
  | .safIntStat | .tblIntStat | .clsIntStat => 0x10
  | .safStat => 0xE000FFFF
  | .safTemp => 0xF00003FF
  | .safLogIdx | .bootStat | .redTwinInfo => 0xFFFF0000
  | .safCntHi | .aoCntHi | .bootFlaCntHi | .timeCntHi | .hostQpCntHi => 0xFF
  | .tblCntHi | .clsCntHi | .psfCntHi | .redCntHi | .tmCntHi => 0xFF
  | .tmPortCntHi | .schCntHi | .schTtOperGates | .recCntHi | .platCntSnapbufHi => 0xFF
  | .platCntHi => 0xFF
  | .aoIntStat => 0x4
  | .bootNode => 0xFFFF001F
  | .bootRet | .psfWinStat => 0xF000FFFF
  | .bootRetCfg => 0xFFFFC001
  | .bootUpdStat => 0xC000FFFF
  | .bootSecStat => 0xFF00000F
  | .timeIntStat => 0x4000FFFF
  | .timeCmdStat => 0xE0000000
  | .timeSnap | .platCntSnap => 0x40000000
  | .timeTbStat => 0xC0000000
  | .timePpsInStat | .hostQpTxHead | .hostQpRxHead | .hostQpCqHead | .tmQResv => 0xFFFF
  | .perfAggHi => 0xFFFF
  | .hostIntStat | .platIntStat => 0x7
  | .hostLinkStat => 0x800000FF
  | .hostQpStat => 0xC000007F
  | .tblClaimStat => 0x3FFFFF
  | .tblCmdStat => 0xF00FFFFF
  | .tblFlushStat => 0x80FF0000
  | .tblLearnStat => 0x1FFF
  | .tblMacCount | .psfHalfEvt => 0x7FFFF
  | .tblCap | .clsWalkFaultAddr | .recOpenLen => 0x1FFFFF
  | .clsGenStat => 0x9F00FFFF
  | .clsGenInflight | .redTwinDelay | .tmPoolSched | .tmPoolHr | .tmPoolShared => 0xFFFFF
  | .tmPoolFree | .tmQDepth | .tmPortHrReq => 0xFFFFF
  | .clsWalkFault => 0xFFF00001
  | .clsTtStat => 0x1F00FF
  | .psfIntStat | .redIntStat => 0x18
  | .psfHalfIdx | .redEvtIdx => 0x7F0000
  | .psfSchedFlags => 0x3
  | .redTwinStat => 0xF8F0FFFF
  | .redTwinResets => 0xF
  | .redCplStat => 0x8000FFFF
  | .redEvt => 0xF001FFFF
  | .tmIntStat => 0x8
  | .tmHrBreach => 0x3FF0700
  | .tmPlatStat => 0x3FF1FFF
  | .tmPortStat => 0xC0FF0000
  | .schIntStat => 0x19
  | .schSmpIdx => 0xFFF0000
  | .schAdmStat => 0xFC0F3FFF
  | .schAdmInfo | .recWinStat => 0xFF000000
  | .schAdmCount => 0x7FFF7FFF
  | .schTtStat => 0xC1FF00FF
  | .recIntStat => 0x40
  | .recStat => 0xF0000000
  | .recRingWr | .recWinBlocks => 0x7FFFFF
  | .platLaneStat => 0x3F
  | .platPortTxstart | .platTxtsIdx => 0x3F0000
  | .platPortStat => 0xF8FF000F
  | _ => 0

/-- The bits with code WO (R8): they read 0, a write acts. -/
def RegId.woMask : RegId → Nat
  | .glbCommit => 0xC0007FFF
  | .safWdog => 0xFFFFFFFF
  | .safInject => 0xF8000007
  | .timeCmd => 0xF7000000
  | .timeSnap | .tblFlush | .psfWinCtrl | .redTwinCtrl | .schAdmCtrl => 0x80000000
  | .recTrigCtrl | .platCntSnap => 0x80000000
  | .tblCmd => 0xF1FFFFFF
  | .clsGenCtrl => 0xC0007000
  | .recWinCtrl => 0xFF
  | _ => 0

/-- The bits with code RWL (R8): writable while the block is not locked. -/
def RegId.rwlMask : RegId → Nat
  | .safCfg => 0xFFFFFFFF
  | .bootFlaCfg => 0xFFFF000F
  | .bootUpdCfg => 0x8000000F
  | .perfUserEn => 0xFF
  | _ => 0

/-- The bits with code AOC (R8): a copy of an always-on register. -/
def RegId.aocMask : RegId → Nat
  | .aoIntStat => 0x3
  | .aoWakeCfg => 0x800000FF
  | .aoPwrCtrl => 0xFF
  | .aoChipStat => 0x80000000
  | .aoPlatCfg => 0xFFFFFFFF
  | .aoPlatStat => 0xE00000FF
  | .timeTbCfg => 0xC000FFFF
  | _ => 0

/-- The cold value of member `i` (the Cold column of each chapter). Where the table gives a cold value
per member (CLS_TPID) the member decides. -/
def RegId.coldNat (id : RegId) (i : Nat) : Nat :=
  match id with
  | .clsTpid => if i = 0 then 0x80008100 else if i = 1 then 0x800088A8 else if i = 2 then 0x80009100 else 0
  | .safCfg => 0xD0697364
  | .aoWakeCfg => 0x800000FF
  | .aoPlatCfg => 0x32002
  | .bootFlaCfg => 0x88B50004
  | .bootStat => 0xC000000
  | .safLogIdx => 0x2220000
  | .timeTbCfg => 0xC00003E8
  | .timePpsOutPeriod => 0x3B9ACA00
  | .timePpsOutWidth => 0x5F5E100
  | .hostIntnEn => 0x1
  | .hostQpCtrl | .tmClassDeadline | .recClose => 0x3E8
  | .hostQpStat | .perfCtrl => 0x80000000
  | .hostQpCqInt => 0x10000
  | .tblAge => 0x8005003C
  | .tblLearnCtrl => 0xFF
  | .tblFlush | .schTtCfg => 0xFF0000
  | .tblLagHash => 0x1F7
  | .clsParseCtrl => 0xE00012B5
  | .clsTreeCfg => 0x1000000
  | .clsTtCtrl => 0x32000
  | .psfWinCfg => 0x3E807D0
  | .psfWinCtrl => 0xE10
  | .redTwinCfg => 0x1300000
  | .redPortCfg => 0xA000000
  | .tmPoolLow => 0xFFFFF
  | .tmPoolAlarm => 0x4000
  | .tmFcCfg => 0x400040
  | .tmReplCfg => 0x1800100
  | .tmClassCfg => 0x4480000
  | .tmPortFc => 0xFFFF
  | .tmPortLink => 0x6403E8
  | .tmPortHold => 0x32
  | .schSmpCtrl => 0x40003E8
  | .recCfg => 0x10008000
  | .recTrigSpan => 0x27101388
  | .recNvmeCfg => 0x80000001
  | .platPortFrame => 0x5F2
  | .platPortTxstart => 0x2
  | .platPortLpi => 0x64
  | _ => 0

end Sys2Proof.Machine
end

