-- ==== Sys2Proof/Machine/Store.lean ====
section
/-! DEFINITION. The sparse store: a list of (key, value) pairs in one canonical form, keys strictly
rising and no value equal to the default, so that equal stores are equal data. Registers, tables,
memories and counters are stores. -/

namespace Sys2Proof.Machine

/-- A sparse store of values keyed by numbers. -/
abbrev Store (α : Type) := List (Nat × α)

/-- The value at key `k`: what is listed, else the default `d`. -/
def Store.get {α : Type} (d : α) : Store α → Nat → α
  | [], _ => d
  | (j, v) :: r, k => if k = j then v else if k < j then d else Store.get d r k

/-- The store without key `k`. -/
def Store.del {α : Type} : Store α → Nat → Store α
  | [], _ => []
  | (j, v) :: r, k => if k = j then r else if k < j then (j, v) :: r else (j, v) :: Store.del r k

/-- The store with key `k` listed at value `v`. -/
def Store.put {α : Type} : Store α → Nat → α → Store α
  | [], k, v => [(k, v)]
  | (j, u) :: r, k, v =>
    if k = j then (k, v) :: r
    else if k < j then (k, v) :: (j, u) :: r
    else (j, u) :: Store.put r k v

/-- A write: the value at `k` becomes `v`; writing the default removes the entry. -/
def Store.set {α : Type} [DecidableEq α] (d : α) (m : Store α) (k : Nat) (v : α) : Store α :=
  if v = d then m.del k else m.put k v

/-- The keys of a store rise strictly, all above `lo`, and no value is the default. -/
def Store.wfFrom {α : Type} [DecidableEq α] (d : α) : Option Nat → Store α → Bool
  | _, [] => true
  | lo, (k, v) :: r =>
    (match lo with | none => true | some l => decide (l < k)) && decide (v ≠ d) && Store.wfFrom d (some k) r

/-- The canonical form of a store. -/
def Store.wf {α : Type} [DecidableEq α] (d : α) (m : Store α) : Bool := Store.wfFrom d none m

/-- A store whose default depends on the key (the cold values of the registers). -/
def Store.getD {α : Type} (d : Nat → α) (m : Store α) (k : Nat) : α := Store.get (d k) m k

/-- A write to a store whose default depends on the key. -/
def Store.setD {α : Type} [DecidableEq α] (d : Nat → α) (m : Store α) (k : Nat) (v : α) : Store α :=
  Store.set (d k) m k v

/-- Canonical form where the default depends on the key. -/
def Store.wfD {α : Type} [DecidableEq α] (d : Nat → α) : Option Nat → Store α → Bool
  | _, [] => true
  | lo, (k, v) :: r =>
    (match lo with | none => true | some l => decide (l < k)) && decide (v ≠ d k) && Store.wfD d (some k) r

end Sys2Proof.Machine
end

