-- ==== Sys2Proof/Machine/Types.lean ====
section
/-! DEFINITION. The records of the machine's state below State: frames, copies, queues, ports, Platforms,
and the sequencers of each block. Everything is plain data. Instants are femtoseconds since VAO rose. -/

namespace Sys2Proof.Machine

/-- The header of a Coupler frame (R271). -/
structure CplHdr where
  type : Nat := 0
  learn : Bool := false
  gen : Bool := false
  seqValid : Bool := false
  cls : Nat := 0
  colour : Nat := 0
  origPort : Nat := 0
  seq : Nat := 0
  handle : Option Nat := none
  ageNs : Nat := 0
  deriving DecidableEq, Repr

/-- What a transmit descriptor adds to a host frame (R376 to R380). -/
structure HostInfo where
  qp : Nat := 0
  /-- Function resets before the frame was fetched: no completion is written for an older one (R391). -/
  gen : Nat := 0
  /-- Ring index of the first descriptor, number of descriptors, FRAME_LEN and COOKIE (R385). -/
  idx : Nat := 0
  ndesc : Nat := 0
  len : Nat := 0
  cookie : List Word := []
  /-- The named egress port of a directed frame. -/
  directed : Option Nat := none
  cls : Option Nat := none
  /-- Identifier of a requested transmit stamp (R308). -/
  txts : Option Nat := none
  deriving DecidableEq, Repr

/-- LPM resume state (R137). -/
structure LpmState where
  vrf : Nat
  v6 : Bool
  len : Nat
  addr : Nat
  deriving DecidableEq, Repr

/-- Staging charges of a frame (R179, R191): cells from the Platform's floor, from the shared pool, and on an
ingress account's shared and headroom charges. -/
structure Charge where
  floor : Nat := 0
  shared : Nat := 0
  acctShared : Nat := 0
  acctHead : Nat := 0
  /-- Cells of the fixed 8,192 (host and Coupler control frames). -/
  fixed : Nat := 0
  deriving DecidableEq, Repr

/-- Where a sequence number was read (R257): 1 R-TAG, 2 HSR tag, 3 PRP trailer, with its offset. -/
structure SeqEnc where
  kind : Nat
  off : Nat
  deriving DecidableEq, Repr

/-- A frame between its MAC's hand-off and its last reference, with the metadata of R95. -/
structure Frame where
  /-- Arrival number: frames of one ingress port rise in it. -/
  no : Nat := 0
  /-- The stored bytes; the last four are the FCS unless `trunc`. -/
  bytes : List Byte := []
  /-- Received length under R1. -/
  len : Nat := 0
  trunc : Bool := false
  /-- Error mark: 0 none, 1 fcs, 2 oversize, 3 jabber, 4 code (R42, R74). -/
  err : Nat := 0
  port : Nat := 0
  plat : Nat := 0
  /-- Number of the committed settings that bind the frame (R13, R28). -/
  epoch : Nat := 0
  /-- Number of those in force when its delimiter crossed the stamp point (R305). -/
  rxEpoch : Nat := 0
  /-- Bank of the frame's classifier generation. -/
  bank : Nat := 0
  /-- The instant of R154. -/
  instant : Nat := 0
  handoff : Nat := 0
  /-- A window of R165 was open when the first pass began. -/
  blind : Bool := false
  /-- Station entry applied: its number and TARGET (R45). -/
  sta : Option (Nat × Nat) := none
  cpl : Option CplHdr := none
  host : Option HostInfo := none
  pass : Nat := 0
  /-- The class stage 4 and the rules have given so far; none before stage 4 of the first pass. -/
  cls : Option Nat := none
  colour : Nat := 0
  pcp : Nat := 0
  vid : Nat := 0
  /-- Stage 4 has assigned `vid`; a directed frame has no VLAN (R117). -/
  hasVlan : Bool := false
  stream : Option Nat := none
  /-- The stream handle was set by a rule (R89). -/
  streamRule : Bool := false
  /-- STREAM_IDENTIFIED has counted the frame (R139). -/
  identified : Bool := false
  mirror : Option Nat := none
  hostCopy : Option Nat := none
  /-- A host queue group to which a rule or routing sends the frame, with REASON 2 or 4 (R385). -/
  hostWhy : Option (Nat × Nat) := none
  carry : Nat := 0
  inner : Option (Nat × HdrType) := none
  /-- The next pass parses from the inner start (INNER). -/
  wantInner : Bool := false
  lpm : Option LpmState := none
  /-- Class merged at the end of the latest pass, and at last the class that stage 6 leaves: the class of R29's order (R30). -/
  orderCls : Nat := 0
  /-- Stream identification entry whose OVERWRITE stage 10 applies (R141). -/
  overEntry : Option Nat := none
  /-- Next hop whose routing edit stage 10 makes (R138). -/
  route : Option Nat := none
  metered : Bool := false
  /-- The source lookup of the first pass posted a learn event (R122, R278). -/
  posts : Bool := false
  seq : Option Nat := none
  generated : Bool := false
  /-- Stage 7 passed the frame with a VALID handle part (R258). -/
  redDone : Bool := false
  seqEnc : Option SeqEnc := none
  charge : Charge := {}
  /-- Ingress account that the cells are charged to (R191). -/
  acct : Option Nat := none
  /-- Cells whose bytes no longer match their CRC-32C (R465). -/
  badCells : List Nat := []
  deriving DecidableEq, Repr

/-- ⌈L / 256⌉ cells of the stored frame (R180). -/
def Frame.cells (f : Frame) : Nat := ceilDiv f.bytes.length 256

/-- The frame with an error in one of its cells: what is copied from it from now on carries the error (R465). -/
def Frame.spoil (f : Frame) (k : Nat) : Frame := if k < f.cells then { f with badCells := k :: f.badCells } else f

/-- Which pool pays for a copy's cells (R178, R181, R192). -/
inductive Pool
  | reservation | shared | account | fixed
  deriving DecidableEq, Repr

/-- What a frame still owes after stage 8: its capture reference (R15, R181) and, for a rank-3 frame, the charges
on its ingress account until its last copy has left (R192). -/
structure CellRef where
  no : Nat
  plat : Nat := 0
  /-- Cells of the stored frame. -/
  cells : Nat := 0
  /-- A capture reference is held. -/
  cap : Bool := false
  /-- The cells are charged to shared for the capture reference alone. -/
  capShared : Bool := false
  /-- Copies of a rank-3 frame that have not left. -/
  copies : Nat := 0
  port : Nat := 0
  acct : Option Nat := none
  acctShared : Nat := 0
  acctHead : Nat := 0
  /-- Cells of a rank-3 frame's extra copies not yet written. -/
  owed : Nat := 0
  deriving DecidableEq, Repr

/-- One copy of a frame in an egress queue (R175, R177). -/
structure Copy where
  frame : Frame := {}
  port : Nat := 0
  cls : Nat := 0
  rank : Nat := 5
  cells : Nat := 0
  pool : Pool := .shared
  /-- The copy's cells are written; an extra copy waits for the write side until then (R182). -/
  written : Bool := true
  /-- The first admitted copy, which took over the staging cells (R180). -/
  first : Bool := true
  /-- What the rank-3 frame's last copy released on its way to the MAC, to be charged again if it returns. -/
  ref : Option CellRef := none
  /-- LENGTH_DEFER has counted the copy (R207). -/
  deferred : Bool := false
  /-- The copy for port 520 is a replicated frame (R277). -/
  repl : Bool := false
  /-- The copy has been in a link-down hold (R202). -/
  held : Bool := false
  /-- Deadline of a copy of a scheduled class (R201). -/
  deadline : Option Nat := none
  /-- When the hold time ends of a head frame of a host queue that has been ineligible (R382). -/
  holdEnd : Option Nat := none
  deriving DecidableEq, Repr

/-- A token bucket (R213). -/
structure Bucket where
  tokens : Nat := 0
  last : Nat := 0
  deriving DecidableEq, Repr

/-- One egress queue with its shaper state (R175, R213, R215). Credit is kept in 1/31,250,000,000 of a unit, which is a
femtosecond at 1 kbit/s, so that no remainder is lost; `creditAt` is the instant to which it was last brought forward. -/
structure Queue where
  copies : List Copy := []
  resvUsed : Nat := 0
  sharedUsed : Nat := 0
  bucket : Bucket := {}
  credit : Int := 0
  creditAt : Nat := 0
  /-- The last frame of the queue on the wire: the end of the following gap. -/
  wireTo : Nat := 0
  /-- The port's speed in kbit/s when that frame started (R215). -/
  wireKbps : Nat := 0
  /-- Largest delay at selection since the previous sample (R228). -/
  maxDelay : Nat := 0
  deriving DecidableEq, Repr

/-- One ingress account (R191). -/
structure Account where
  shared : Nat := 0
  head : Nat := 0
  xoff : Bool := false
  /-- When XOFF was last sent. -/
  lastXoff : Nat := 0
  deriving DecidableEq, Repr

/-- A frame being received, as far as its cells have been drawn. -/
structure RxCtx where
  bytes : List Byte := []
  sfd : Nat := 0
  /-- Settings in force when the delimiter passed (R41). -/
  epoch : Nat := 0
  charge : Charge := {}
  acct : Option Nat := none
  /-- No cell was left, or the headroom was breached: the frame is dropped (R179, R191). -/
  dropped : Bool := false
  /-- The delimiter reached the MAC before the Platform was in Run (R453). -/
  early : Bool := false
  deriving DecidableEq, Repr

/-- A received pause frame waiting to take effect (R47, R48). -/
inductive PauseInfo
  | pause (quanta : Nat)
  | pfc (enable : Nat) (times : List Nat)
  deriving DecidableEq, Repr

/-- A frame in a MAC transmit queue or on the wire. -/
structure TxFrame where
  /-- The copy it carries; none for a frame the switch makes itself (pause, health). -/
  copy : Option Copy := none
  /-- The bytes that leave, FCS included, as stage 10 made them. -/
  bytes : List Byte := []
  /-- How far the stage-10 edits moved the bytes after the tags. -/
  shift : Int := 0
  projected : Option Nat := none
  start : Nat := 0
  /-- Raw transmit stamp (R302). -/
  stamp : Nat := 0
  /-- The instant in femtoseconds at which the first bit after the delimiter crosses the stamp point (R302): the settings in force
  then are the frame's (R305). -/
  cross : Nat := 0
  /-- The transparent clock of stage 10 has not judged the frame yet: its delimiter had not crossed when it started. -/
  unstamped : Bool := false
  /-- A pause frame: 1 PAUSE, 2 PFC; 0 otherwise. -/
  pause : Nat := 0
  /-- A pause has reached the class since the frame was handed (R211). -/
  hit : Bool := false
  /-- A cell failed its CRC after the start: the bytes end before it, with an inverted check sequence (R465). -/
  bad : Bool := false
  deriving DecidableEq, Repr

/-- The list of a gate schedule or a Timetable with its start (R158, R218): `start` is the nanosecond value of
the time base, not reduced modulo 2^64, at which it starts. Entries are (interval in ns, gate word). -/
structure GateList where
  tb : Nat := 0
  cycle : Nat := 0
  /-- BASE_NS as committed with the list: a restart chooses its start from it again (R160). -/
  base : Nat := 0
  entries : List (Nat × Nat) := []
  start : Int := 0
  deriving DecidableEq, Repr

/-- What a schedule ran until an instant (R173, R160): the list, none for the admin state, with the value that the list's base had
reached then and its rate, in the units of `fineUnit`: a step of the base at that instant changes neither (R219). -/
structure GatePast where
  untilFs : Nat
  list : Option GateList
  endFine : Int := 0
  rate : Int := 2 ^ 40
  deriving DecidableEq, Repr

/-- A gate schedule or a Timetable: the running and the pending list, and what ran before. -/
structure GateSeq where
  run : Option GateList := none
  pend : Option GateList := none
  past : List GatePast := []
  startReg : Nat := 0
  deriving DecidableEq, Repr

/-- One port: its MAC, its queues, its accounts and its scheduler. -/
structure PortSt where
  link : Bool := false
  localFault : Bool := false
  remoteFault : Bool := false
  speed : Nat := 0
  /-- The port has been link up since it was last enabled (R186). -/
  everUp : Bool := false
  txLpi : Bool := false
  rxLpi : Bool := false
  /-- PLAT_PORT_TXSTART.CUR, the start threshold in cells (R53). -/
  cur : Nat := 0
  rx : Option RxCtx := none
  rxPause : List PauseInfo := []
  /-- End of each transmit queue's pause; 0 when not paused. -/
  pauseEnd : List Nat := List.replicate 8 0
  macQ : List (Option TxFrame) := List.replicate 8 none
  tx : Option TxFrame := none
  /-- When something last left the transmit side: the MAC and egress queues, where empty, have been so since then (R57). -/
  idleSince : Nat := 0
  queues : List Queue := List.replicate 8 {}
  hold : Option Nat := none
  expired : Bool := false
  accts : List Account := List.replicate 8 {}
  /-- Pause states to send: (priority, XOFF). -/
  pauseTx : List (Nat × Bool) := []
  bucket : Bucket := {}
  /-- A frame that an underrun ended is leaving: the instant at which its inverted FCS has left, the CUR that stands without that
  underrun, and whether it raised CUR (R60). -/
  cut : Option (Nat × Nat × Bool) := none
  /-- End of the last frame handed plus the gap (R209). -/
  wireFree : Nat := 0
  /-- End of the last frame that left the transmit balls, with its inter-packet gap. -/
  wireEnd : Nat := 0
  tt : GateSeq := {}
  deriving DecidableEq, Repr

/-- A destination that stage 4 or a rule chose (R131). -/
inductive Dest
  | port (n : Nat)
  | lag (g : Nat)
  deriving DecidableEq, Repr

/-- A copy that stage 8 is to decide: its egress port, and whether it is a replicated frame (R277). -/
structure Want where
  port : Nat
  repl : Bool := false
  deriving DecidableEq, Repr

/-- A frame that has ended stage 7, with the copies it asks for, waiting at the admission front (R29) or in the wait
list (R192). -/
structure Ready where
  frame : Frame := {}
  wants : List Want := []
  /-- The frame goes to the management complex (R45). -/
  mgmt : Bool := false
  /-- The frame has passed stage 7, and may be replicated (R277). -/
  ends : Bool := false
  /-- Copies for groups that have no usable member (R193). -/
  lost : Nat := 0
  deriving DecidableEq, Repr

/-- A learn event (R122, R123): destination type 0 port, 1 group. -/
structure LearnEv where
  fid : Nat
  sa : Nat
  destType : Nat
  dest : Nat
  deriving DecidableEq, Repr

/-- A capture reference waiting for the drain (R15, R325). -/
structure CapRef where
  frame : Frame := {}
  rule : Nat := 0
  /-- Copies admitted at stage 8. -/
  copies : Nat := 0
  deriving DecidableEq, Repr

/-- What the record writer still has to write, in drain order (R328): a frame's record with its captured bytes, or a
trigger marker with its window and instant (R336). -/
inductive RecItem
  | frame (r : CapRef) (bytes : List Byte)
  | marker (window mono : Nat)
  deriving DecidableEq, Repr

/-- A block of the capture ring: the header's fields and its record bytes (R331). -/
structure RecBlock where
  /-- NODE, as the header has it once the block is closed (R331, R409). -/
  node : Nat := 0
  flags : Nat := 0
  records : Nat := 0
  bsn : Nat := 0
  first : Nat := 0
  last : Nat := 0
  lost : Nat := 0
  prev : Nat := 0
  data : List Byte := []
  digest : Nat := 0
  deriving DecidableEq, Repr

/-- A capture window (R336 to R341). STATE: 0 free, 1 open, 2 sealing, 3 sealed, 4 committing. -/
structure RecWin where
  state : Nat := 0
  result : Nat := 0
  cut : Bool := false
  unsigned_ : Bool := false
  id : Nat := 0
  firstBsn : Nat := 0
  /-- BSN after the last block, once the window has entered sealing. -/
  endBsn : Nat := 0
  src : Nat := 0
  trigMono : Nat := 0
  trigTb : Nat := 0
  tb : Nat := 0
  /-- Monotonic ns at which the post time ends. -/
  postAt : Nat := 0
  /-- Bytes 0 to 239 of the window header, once sealed. -/
  sealed : List Byte := []
  deriving DecidableEq, Repr

/-- The capture store (chapter 11): the ring in capture memory, the writer, the windows and the drive. (DESIGN CHOICE, log 9.) -/
structure RecSt where
  ring : Store RecBlock := []
  /-- The open block and when its first record was written. -/
  cur : Option (RecBlock × Nat) := none
  wr : Nat := 0
  bsn : Nat := 0
  head : Nat := 0
  /-- FLAGS of the next block beside MARKER: EPOCH before the first block of an epoch, RESUMED (R334, R343). -/
  nextFlags : Nat := 1
  /-- REC_OPEN_LEN (R335). -/
  openLen : Nat := 0
  /-- REC_RING_BASE and REC_RING_BLOCKS of the ring in capture memory, kept with the ring index. -/
  geom : List Word := []
  lost : Nat := 0
  lostUnknown : Bool := false
  queue : List RecItem := []
  /-- The Platform whose record the drain read last (R327). -/
  drainTurn : Nat := 7
  stalled : Bool := false
  cxlErr : Bool := false
  ringLost : Bool := false
  wins : List RecWin := List.replicate 4 {}
  nextId : Nat := 0
  nvmeWr : Nat := 0
  /-- The commit area as written, by LBA, on the first drive and on the mirror's second (R340). -/
  nvme : Store (List Byte) := []
  nvme2 : Store (List Byte) := []
  deriving DecidableEq, Repr

/-- An image in a Platform's copy source (R183, R184). -/
structure CopyImage where
  no : Nat
  bytes : Nat := 0
  /-- Rank of the frame, 0 while it is still arriving. -/
  rank : Nat := 0
  deriving DecidableEq, Repr

/-- A two-step record (R314). -/
structure TcRec where
  port : Nat
  domain : Nat
  src : Nat
  seq : Nat
  value : Int
  at_ : Nat
  deriving DecidableEq, Repr

/-- The state of a Platform (R449, R451). Entering Sleep, STATE 5, is the first 2 µs of `sleep`. -/
inductive PwrState
  | off | run | doze | sleep | waking
  deriving DecidableEq, Repr

/-- What firmware and the switch have to do to a MAC table that waits (R126, R129, R143): delete the entries with a
destination, delete the copy of an origin's entry, or place a copy of an entry's words. -/
inductive TableWork
  | dest (destType dest : Nat)
  | unspread (origin : Nat) (key : List Nat)
  | spread (origin : Nat) (words : List Word)
  /-- The table's share of the flush in progress (R128, R143). -/
  | flush
  deriving DecidableEq, Repr

/-- What a Platform's performance counters 0 to 8 have done in one core clock, for a write of one of them in that clock, whose
events are not counted for it (R364, R368). -/
structure PerfClock where
  /-- The clock, by its instant. -/
  at_ : Nat := 0
  /-- Events counted in it, by counter. -/
  ev : List Nat := List.replicate 9 0
  /-- Bit n: counter n has been written in it, and counts no more. -/
  off : Nat := 0
  /-- Bit n: counter n has wrapped in it; and where that set its bit of OVF. -/
  wrapped : Nat := 0
  ovf : Nat := 0
  deriving DecidableEq, Repr

/-- One Platform: its pipeline's queues and its memories. -/
structure Plat where
  intake : List Frame := []
  /-- Host frames of the Platform that wait in the host port (R98). -/
  hostQ : List Frame := []
  prio : List Frame := []
  norm : List Frame := []
  /-- Frames on a pass: none here, a pass is one step. Frames held at the admission front (R29). -/
  held : List Ready := []
  waitList : List Ready := []
  learnQ : List LearnEv := []
  capQ : List CapRef := []
  images : List CopyImage := []
  copyXoff : Bool := false
  floorUsed : Nat := 0
  tc : List TcRec := []
  /-- Aging sweeps missed while asleep or claimed (R125). -/
  missed : Nat := 0
  /-- Deletions and copies that wait for the claim or for the wake, in order (R143, R147). -/
  delPend : List TableWork := []
  /-- The pipeline has taken a frame from the intake since the last core clock (event 0x04 of R365). -/
  took : Bool := false
  /-- The core clock at which a wrap set FREEZE: that clock still counts (R364). -/
  frozeAt : Option Nat := none
  /-- The core clock in which a performance counter last counted or was written (R364). -/
  perfClk : PerfClock := {}
  snapPort : Nat := 0
  snapBusy : Bool := false
  power : PwrState := .run
  /-- Since when the Platform has been quiet (R450); none while it is not. -/
  quietSince : Option Nat := some 0
  /-- When the present state was entered. -/
  pwrSince : Nat := 0
  /-- The Platform came out of Off with its lanes off (R452). -/
  lanesOff : Bool := false
  deriving DecidableEq, Repr

/-- A time base as a history of segments, newest first (R290, R303): from quarter-nanosecond `q0` on the
value is `v + (q - q0) * (2^40 + trim)` in units of 2^-42 ns. (DEDUCED, log 43.) -/
structure TbSeg where
  q0 : Nat := 0
  v : Int := 0
  trim : Int := 0
  deriving DecidableEq, Repr

/-- An accepted time-base command waiting for its tick (R292). -/
structure TimeCmd where
  op : Nat
  tb : Nat
  data : Nat
  deriving DecidableEq, Repr

/-- A 1PPS output (R317): the instant at which the pulse in progress ends, none when idle, its polarity (true:
active low), and the quarter nanosecond of the tick that asserted it last. -/
structure PpsOut where
  pulse : Option Nat := none
  low : Bool := false
  last : Option Nat := none
  deriving DecidableEq, Repr

/-- The times in MRAM (R301): monotonic time, and each time base's offset and trim. -/
structure TimeSave where
  mono : Nat := 0
  ofs : List Nat := List.replicate 8 0
  trims : List Int := List.replicate 8 0
  deriving DecidableEq, Repr

/-- The time block (chapter 10). -/
structure TimeSt where
  tbs : List (List TbSeg) := List.replicate 8 [{}]
  cmd : Option TimeCmd := none
  snapBusy : Bool := false
  locked : List Bool := List.replicate 8 false
  /-- The last trim of each base at which firmware judged it syntonised (R295). -/
  syn : List Int := List.replicate 8 0
  pps : List PpsOut := List.replicate 4 {}
  /-- What was last saved to MRAM (R301). -/
  saved : TimeSave := {}
  /-- The record of the times in its older slot (R410). -/
  older : TimeSave := {}
  /-- Instant of the last accepted edge of each 1PPS input. -/
  ppsIn : List (Option Nat) := List.replicate 4 none
  /-- The 29 words of the time page (R298). -/
  page : List Word := List.replicate 29 0
  deriving DecidableEq, Repr

/-- The commit unit (R19 to R28). -/
structure CommitSt where
  busy : Bool := false
  /-- Group numbers covered by the pending commit. -/
  groups : List Nat := []
  all : Bool := false
  /-- It was accepted with ALL and SCH_ADM_STAT.PROVED set: its edge makes the staged declarations the running ones
  (R245). -/
  proved : Bool := false
  tb : Nat := 0
  /-- Target of a Timed commit: the nanosecond value, not reduced, that the base has to reach; none in Immediate
  mode. -/
  target : Option Int := none
  deriving DecidableEq, Repr

/-- The classifier's generations and the swap unit (R104 to R110). -/
structure ClsSt where
  cur : Nat := 0
  retiring : Bool := false
  swap : Bool := false
  swapTb : Nat := 0
  swapTarget : Option Int := none
  inflight : List Nat := [0, 0]
  deriving DecidableEq, Repr

/-- A table command in progress (R146). -/
structure TblCmd where
  src : Src
  op : Nat
  target : Nat
  index : Nat
  deriving DecidableEq, Repr

/-- The table engine (R124 to R130, R142 to R146). -/
structure TblSt where
  claimReq : Nat := 0
  claimed : Nat := 0
  cmd : Option TblCmd := none
  cmdResult : Nat := 0
  cmdIndex : Nat := 0
  flushBusy : Bool := false
  flushPlats : Nat := 0
  /-- TBL_FLUSH and TBL_FLUSH_DEST as the flush in progress took them. -/
  flushWord : Word := 0
  flushDest : Nat := 0
  /-- The bucket that the flush has reached in each Platform's table (R128). -/
  flushPos : List Nat := List.replicate 8 0
  /-- Entries that a learn engine wrote, to be spread: Platform, index, and the key written (R126). -/
  spreadQ : List (Nat × Nat × List Nat) := []
  /-- When the last sweep was made, or when aging was enabled (R124). -/
  lastSweep : Nat := 0
  deriving DecidableEq, Repr

/-- One edit-group write kept for frames of before the edge (R172). -/
structure EditPast where
  epoch : Nat
  target : Nat
  index : Nat
  words : List Word
  deriving DecidableEq, Repr

/-- The policing unit (chapter 05). -/
structure PsfSt where
  scheds : Store GateSeq := []
  past : List EditPast := []
  /-- Open windows: closing instants; 0 never opened. -/
  startup : Option Nat := none
  test : Option (Option Nat) := none
  recovery : Option Nat := none
  /-- Interval tag of each gate (cycle number, entry), keyed by gate (R161). -/
  tags : Store (Option (Int × Nat)) := []
  deriving DecidableEq, Repr

/-- Latency admission (R232 to R249): declarations, staged and running, by index × 8 + word, and the reports by
(set × 16,384 + index) × 8 + word. -/
structure AdmSt where
  decl : Store Word := []
  run : Store Word := []
  /-- The running declarations whose bounds have the gated form, by index (R240, R247). -/
  gated : List Nat := []
  rpt : Store Word := []
  /-- A check in progress: nothing was written since it began that keeps PROVED clear (R249). -/
  clean : Bool := true
  deriving DecidableEq, Repr

/-- The sampler (R228, R229). -/
structure SchSt where
  sampleAt : Nat := 0
  deriving DecidableEq, Repr

/-- The twin unit (R270 to R286). -/
structure RedSt where
  /-- RED_TWIN_STAT.STATE of R274. -/
  state : Nat := 0
  reason : Nat := 0
  partner : Nat := 0
  /-- Partner node recorded when last Paired (R284); none where the member has not been Paired since its reset. -/
  pairedNode : Option Nat := none
  cplLink : Bool := false
  cplLock : Nat := 0
  cplAligned : Nat := 0
  /-- Consecutive valid health frames on which every check passed. -/
  goodCount : Nat := 0
  /-- Consecutive valid health frames received (SEES_PARTNER at 16). -/
  seen : Nat := 0
  /-- Reset requests have started since the state became Partner halted. -/
  resetAsked : Bool := false
  lastHealth : Nat := 0
  /-- TX_TIME of the last health frame received and when it was received (ns). -/
  echo : Nat := 0
  echoAt : Nat := 0
  delays : List Int := []
  delayPs : Nat := 0
  stateSince : Nat := 0
  /-- Reset requests are sent until this instant. -/
  resetUntil : Option Nat := none
  count : Nat := 0
  /-- When the last health frame and the last reset request were sent. -/
  lastSend : Nat := 0
  lastReq : Nat := 0
  protoVer : Nat := 0
  winMin : Nat := 0
  winMax : Nat := 0
  /-- Words 1 and 2 of the last valid health frame: what firmware reports of the partner. -/
  peer : List Word := [0, 0]
  deriving DecidableEq, Repr

/-- A completion that waits in the device (R385 to R387, R393), with the heads that advance with it. -/
structure Compl where
  words : List Word := []
  txHead : Option Nat := none
  rxHead : Option Nat := none
  deriving DecidableEq, Repr

/-- A unit of the host port: queue pair 0 to 15, or the table-DMA ring (16). Tails, heads and sizes are registers. -/
structure HostUnit where
  /-- Index of the next transmit or table-DMA descriptor to read. -/
  fetch : Nat := 0
  /-- Index of the next receive buffer to reserve. -/
  rxTake : Nat := 0
  /-- Frames fetched whose first pass has not begun. -/
  inFlight : Nat := 0
  waiting : List Compl := []
  /-- When the oldest entry that has not raised CQ was written (R388). -/
  cqSince : Option Nat := none
  deriving DecidableEq, Repr

/-- What configuration requests assign in the function's configuration space (R346): the addresses of BAR0/1 and BAR2/3. No row
of the table is such a request, so they stand at their cold values. (DESIGN CHOICE, log 28.) -/
structure PciCfg where
  bar0 : Nat := 0
  bar2 : Nat := 0
  deriving DecidableEq, Repr

/-- The host port (chapters 12 and 13). (DESIGN CHOICE, log 9.) -/
structure HostSt where
  d3hot : Bool := false
  pci : PciCfg := {}
  /-- Function resets so far (R391). -/
  gen : Nat := 0
  units : List HostUnit := List.replicate 17 {}
  /-- The queue pair whose turn was last (R378). -/
  turn : Nat := 15
  /-- A table operation in progress: its descriptor, and how many of its entries have been moved (R145, R391). -/
  td : Option (List Word × Nat) := none
  /-- MSI-X table words by vector × 4 + word; vector control is 1 (masked) when cold. -/
  msix : Store Word := []
  /-- Pending bits of the vectors. -/
  pend : Nat := 0
  deriving DecidableEq, Repr

/-- A learned address kept in MRAM (R130, R410). -/
structure KeptAddr where
  key : List Nat
  /-- DEST_TYPE and DEST, bits 17:0 of word 2. -/
  dest : Nat
  deriving DecidableEq, Repr

/-- Power, reset, boot, flash and the retained state (chapter 14). -/
structure BootSt where
  vao : Bool := true
  pwrgood : Bool := true
  /-- RESET_N is low. -/
  inReset : Bool := false
  /-- When RESET_N rose. -/
  riseAt : Nat := 0
  /-- VAO has been lost since the last boot: the time bases are to be restored (R301). -/
  vaoLost : Bool := true
  /-- This boot has been through Restore: after a reset its time bases are not restored again (R301, R487). -/
  restored : Bool := false
  /-- REFCLK_AO has stopped in reset: time stands still (R497). -/
  refOff : Bool := false
  /-- RESET_N is high, but the reset cannot complete before REFCLK_AO runs again: the levels of the balls (R396). -/
  waiting : Option Nat := none
  /-- The bank to be tried from PHASE 1, after the other failed in Load (R408). -/
  retry : Option Nat := none
  /-- The types of the parts applied, in order (R436). -/
  engines : List Nat := []
  /-- The retained configuration record's older slot: BOOT_RET_CFG and CONFIG_DIGEST (R410). -/
  olderCfg : Word × List Byte := (0, [])
  /-- Bytes of the flash; an unlisted byte is erased. -/
  flash : Store Byte := []
  flashBytes : Nat := 67108864
  /-- Levels of the boot balls as last sampled: BOOT_SRC in bits 1:0, TWIN_ROLE in bit 2, NODE_OFS in bits 6:3, DBGEN in
  bit 7 (R397, R442; DESIGN CHOICE, log 8). -/
  straps : Nat := 0
  /-- REFUSE of bank A and of bank B this boot. -/
  refused : List Nat := [0, 0]
  trial : Bool := false
  /-- The image has been loaded as a fallback to the retained configuration. -/
  fallback : Bool := false
  /-- The loaded image's sections in table order: TYPE, ARG and decrypted bytes. -/
  sects : List (Nat × Nat × List Byte) := []
  /-- REFUSE of the first failure of the loaded configuration before Admission; 0 none. -/
  bad : Nat := 0
  /-- Admission has proved the staged configuration (R241). -/
  proved : Bool := false
  /-- CONFIG_DIGEST of the image being booted. -/
  digest : List Byte := []
  /-- The management ports of the running image. -/
  mgmtPorts : List Nat := []
  /-- SUBSYS_VENDOR and SUBSYS_ID of the image header last read (R346, R400, R404). -/
  subsys : Nat × Nat := (0, 0)
  /-- Generation of the generation area; none when the area is not valid. -/
  areaGen : Option Nat := none
  /-- The durable area is valid (R411), and whether it is by the older slot of the store header (R410). -/
  durableOk : Bool := false
  olderOk : Bool := false
  /-- CONFIG_DIGEST of the retained configuration (R414). -/
  retDigest : List Byte := []
  /-- Learned addresses kept for each Platform (R130). -/
  kept : List (List KeptAddr) := List.replicate 8 []
  first : Bool := false
  deriving DecidableEq, Repr

/-- A key wrapped by RFC 3394: the key under which it is wrapped, and the key itself, which comes out under that key alone (R438).
(DESIGN CHOICE, log 6.) -/
structure Wrapped where
  under : List Byte
  key : List Byte
  deriving DecidableEq, Repr

/-- The key vault (R438): the device secret in its fuses; the public keys and the wrapped image and transport keys in vault MRAM;
and in vault SRAM, in clear, what Init derives and unwraps (R439). -/
structure Vault where
  secret : List Byte := List.replicate 32 0
  pubs : List (List Byte) := []
  wrapImage : Option Wrapped := none
  wrapSlots : List (Option Wrapped) := [none, none]
  wrapKey : Option (List Byte) := none
  imageKey : Option (List Byte) := none
  slotKeys : List (Option (List Byte)) := [none, none]
  signKey : Option Nat := none
  deriving DecidableEq, Repr

/-- Update, Flalith and the key vault (chapter 15). BOOT_UPD_STAT, BOOT_UPD_PKG and BOOT_SEC_STAT are registers. (DESIGN CHOICE,
log 9.) -/
structure UpdSt where
  pkgBytes : Nat := 0
  bitmap : Nat := 0
  /-- Accepted sources, least recently accepted first: (node, SEQ) (R421). -/
  sources : List (Nat × Nat) := []
  floor : Nat := 0
  /-- The switch's own SEQ, last used (R421). -/
  seq : Nat := 0
  /-- Frames accepted in the present second, and its start (R423). -/
  rateAt : Nat := 0
  rate : Nat := 0
  /-- A reboot waiting for its delay: its end, the request's frame, FORCE (R431). -/
  reboot : Option (Nat × FlaHdr × Bool) := none
  /-- RST_GPIO is driven low: the end of its 1 ms, and the pin (R431). -/
  rstLow : Option (Nat × Nat) := none
  vault : Vault := {}
  /-- The challenge last issued (DESIGN CHOICE, log 23). -/
  challenge : Option Nat := none
  /-- ROOT_ID 0 to 3: KEY_IDs of the accepted image-signing keys, where provisioned (R438). -/
  rootIds : List (Option (List Byte)) := List.replicate 4 none
  /-- DEBUG_ID: the KEY_ID of the debug authority, where provisioned (R438). -/
  debugId : Option (List Byte) := none
  deriving DecidableEq, Repr

/-- The capture state that MRAM holds (R342, R410). -/
structure CaptRec where
  bsn : Nat := 0
  wr : Nat := 0
  head : Nat := 0
  openLen : Nat := 0
  wins : List RecWin := List.replicate 4 {}
  nextId : Nat := 0
  nvmeWr : Nat := 0
  deriving DecidableEq, Repr

/-- The update state that MRAM holds (R410, R421, R429): BOOT_UPD_STAT, BOOT_UPD_PKG, and what goes with them. -/
structure UpdRec where
  stat : Word := 0
  pkg : Word := 0
  pkgBytes : Nat := 0
  bitmap : Nat := 0
  sources : List (Nat × Nat) := []
  floor : Nat := 0
  deriving DecidableEq, Repr

/-- The older slots of the records that every change of theirs writes (R410). -/
structure OlderSlots where
  capt : CaptRec := {}
  upd : UpdRec := {}
  deriving DecidableEq, Repr

/-- What a halt in its steps puts off until its record is written (R471): an assertion of RESET_N, a debug reset. -/
inductive HeldReset
  | pin | debug
  deriving DecidableEq, Repr

/-- The steps of a halt (R470) that are still to come, with what the fault record is to hold (R473): times and time base 0 as they
stood at detection. -/
structure Halting where
  code : Nat
  detail : List Word
  injected : Bool
  /-- The instant of detection. -/
  at_ : Nat
  mono : Nat
  tb0 : Nat
  /-- Halt notices are to go out (R282). -/
  notify : Bool
  /-- Further faults detected so far, saturating at 15. -/
  secondary : Nat := 0
  /-- The record is written, and its unit of the log. -/
  written : Bool := false
  unit : Nat := 0
  /-- Reset requests that came before the record was written (R286). -/
  asked : List (List Byte) := []
  held : Option HeldReset := none
  deriving DecidableEq, Repr

/-- The Signal Box (chapter 17). SAF_STAT, SAF_LIFE and SAF_LOG_IDX are registers. (DESIGN CHOICE, log 9.) -/
structure SafSt where
  /-- The halt in its steps; none once it is complete, or where there is none. -/
  halting : Option Halting := none
  log : Store (List Byte) := []
  /-- SEQ of the next fault record. -/
  seq : Nat := 0
  /-- When a record of each code was last written (R472). -/
  logged : Store Nat := []
  wdogAt : Nat := 0
  injSingle : Bool := false
  injDouble : Bool := false
  /-- Bit p: a cell CRC error, a parity error, is to be injected on Platform p. -/
  injCell : Nat := 0
  injParity : Nat := 0
  /-- Bit p: the metadata of a frame of Platform p is corrupt, and not by injection (R464). -/
  badParity : Nat := 0
  /-- Since when each rail has been outside its limits (R468). -/
  railOut : List (Option Nat) := List.replicate 6 none
  tableLine : Nat := 0
  treeLine : Nat := 0
  /-- Instants of the cell CRC failures of the last second. -/
  crcAt : List Nat := []
  /-- Consecutive windows in which each of the four clock monitors failed. -/
  clkBad : List Nat := [0, 0, 0, 0]
  /-- Highest reading since the last operating hour was added (0.5 °C). -/
  hourMax : Option Int := none
  /-- Lowest reading of the junction sensors at their last reading (0.5 °C), beside the highest in SAF_TEMP. -/
  lowest : Int := 0
  /-- A power-up that SAF_LIFE_CYCLES has not counted yet (R477). -/
  powerUp : Bool := true
  /-- Header writes so far: the header's two units are written in turn (R472). -/
  headers : Nat := 0
  /-- RED_TWIN_CFG.RESET_MAX as committed at the halt (R284). -/
  resetMax : Nat := 0
  deriving DecidableEq, Repr

/-- The always-on block (chapter 16): the copies of its registers that AOC fields read (R8), and who has written each
since the last refresh (R357). -/
structure AoSt where
  copy : Store Word := []
  wrote : Store Nat := []
  wakeNLow : Bool := false
  /-- HP_PERST_N is low: the PCIe function is in reset (R485, R497). -/
  perstLow : Bool := false
  /-- Since when the conditions of R457 hold without a cause that ends or prevents retention. -/
  chipIdle : Option Nat := none
  /-- When the chip-level blocks last entered retention (R457). -/
  retainedAt : Nat := 0
  /-- GPIO triggers that came in retention, to be served after it, by their instants (R457). -/
  triggers : List Nat := []
  deriving DecidableEq, Repr

end Sys2Proof.Machine
end

