-- ==== Sys2Proof/Machine/State.lean ====
section
/-! DEFINITION. The machine's state as plain data, its faults and refusals, and the state after reset. -/

namespace Sys2Proof.Machine

/-- What leaves the switch: the model's log of its outputs. (DESIGN CHOICE, log 10.) -/
inductive Out
  /-- A frame or a Coupler frame leaves a port; `cut` when it ends with an inverted FCS (R53). -/
  | wire (port : Nat) (bytes : List Byte) (cut : Bool)
  /-- A halt notice on the Coupler (R282). -/
  | coupler (bytes : List Byte)
  /-- An MSI-X message (R352). -/
  | msix (v : Nat)
  /-- A request completes as Unsupported Request (R347). -/
  | unsupported (bar : Bar) (addr : Nat)
  /-- A write to host memory (R32). -/
  | hostMem (addr : Nat) (bytes : List Byte)
  /-- Bytes that the SPI target returns (R349). -/
  | spi (bytes : List Byte)
  /-- A Flalith frame sent on a management port (R418, R419): a reply (R424), or a frame relayed (R422). The header is as it
  leaves, the payload in clear; what leaves is its encryption, with the header's tag. -/
  | flalith (h : FlaHdr) (payload : List Byte)
  /-- A challenge read over JTAG (R446). -/
  | jtag (bytes : List Byte)
  /-- A frame handed to the management complex. -/
  | mgmt (frame : Frame)
  /-- One LBA written to drive 0, or to drive 1 of a mirror, with Force Unit Access where `fua` (R340, R341). -/
  | nvme (drive lba : Nat) (fua : Bool) (bytes : List Byte)
  /-- A Flush on a drive (R341). -/
  | nvmeFlush (drive : Nat)
  /-- An output pin changes: number of the 1PPS output or named pin, and its level. -/
  | pin (name : String) (level : Bool)
  /-- A pin or group of pins is driven no more: high impedance, or its pull (R470, R485). -/
  | release (name : String)
  deriving DecidableEq, Repr

/-- Why the machine stops for good. Who raises each is said with it. -/
inductive Fault
  /-- Not raised by any command: the manual describes every fault of the hardware as an effect on the state
  (a halt, an error flag, an illegal sequence). Safe. -/
  | none
  deriving DecidableEq, Repr

/-- Why a command would be turned away. No command is: every one has a meaning, and each meaning answers a next state. -/
inductive Refusal
  /-- A command whose meaning is not written (Dispatch only). Safe. -/
  | notModelled (mnemonic : String)
  deriving DecidableEq, Repr

/-- The state of the switch. -/
structure State where
  /-- Commands that wait, first in, first out (DESIGN CHOICE, log 1). -/
  pending : List Instr := []
  /-- Femtoseconds since VAO rose. -/
  fs : Nat := 0
  /-- The switch's outputs, newest first (DESIGN CHOICE, log 10). -/
  out : List Out := []
  /-- How many free values have been used (Config.freeValue; DESIGN CHOICE, log 7). -/
  free : Nat := 0
  /-- Arrival number of the next frame (DESIGN CHOICE, log 9). -/
  nextNo : Nat := 0
  /-- Staged and plain register words; a missing word has its cold value (R3, R19). -/
  regs : Store Word := []
  /-- Committed register words, one store per commit edge, newest first (R19, R28; DEDUCED, log 31). -/
  epochs : List (Store Word) := [[]]
  /-- The instants of the commit edges, newest first: one for each store of `epochs` but the cold one (R305). -/
  edges : List Nat := []
  /-- Counter values by bank, unit and slot (R61, R113). -/
  cnt : Store Nat := []
  /-- Snapshot buffers (R63). -/
  snap : Store Nat := []
  ports : Store PortSt := []
  plats : List Plat := List.replicate 8 {}
  /-- Cells charged to the shared pool (R181). -/
  sharedUsed : Nat := 0
  /-- Fixed cells that frames of the host port hold (R179). -/
  fixedUsed : Nat := 0
  refs : List CellRef := []
  commit : CommitSt := {}
  cls : ClsSt := {}
  tbl : TblSt := {}
  psf : PsfSt := {}
  sch : SchSt := {}
  adm : AdmSt := {}
  red : RedSt := {}
  time : TimeSt := {}
  capt : RecSt := {}
  host : HostSt := {}
  boot : BootSt := {}
  upd : UpdSt := {}
  saf : SafSt := {}
  ao : AoSt := {}
  /-- The older slots of records of MRAM (R410). -/
  slots : OlderSlots := {}
  /-- Table entries by target, index and word (R114). -/
  tables : Store Word := []
  /-- Tree memory by bank and word (R77). -/
  tree : Store Word := []
  deriving DecidableEq, Repr

/-- The machine right after reset: RESET_N has just risen, VAO with it, and the boot is in its first phase. (DESIGN CHOICE, log
8.) -/
def State.reset : State := {}

end Sys2Proof.Machine
end

