-- ==== Sys2Proof/Machine/Ops.lean ====
section
/-! DEFINITION. The named operations over the state: registers staged and committed, counters, illegal
sequences, ports and Platforms, tables, instants and time bases. -/

namespace Sys2Proof.Machine

/-! ### Registers -/

/-- The store key of member `i` of register `id`. -/
def regKey (id : RegId) (i : Nat) : Nat := i * 1024 + id.ctorIdx

/-- The cold word of member `i` of register `id`. -/
def coldWord (id : RegId) (i : Nat) : Word := Word.ofNat (id.coldNat i)

/-- The cold word of a store key. -/
def coldKey (k : Nat) : Word := coldWord (RegId.ofNat (k % 1024)) (k / 1024)

/-- A register word of a store. -/
def regOf (m : Store Word) (id : RegId) (i : Nat) : Word := Store.get (coldWord id i) m (regKey id i)

/-- A store with one register word replaced. -/
def setRegOf (m : Store Word) (id : RegId) (i : Nat) (w : Word) : Store Word :=
  Store.set (coldWord id i) m (regKey id i) w

/-- A view of the settings: staged, committed, or as they will stand after a commit. -/
abbrev Cfg := RegId → Nat → Word

/-- The stored (staged or plain) word of a register. -/
def State.reg (s : State) (id : RegId) (i : Nat) : Word := regOf s.regs id i

/-- A field of a stored register word. -/
def State.rf (s : State) (id : RegId) (i hi lo : Nat) : Nat := fld (s.reg id i) hi lo

/-- A bit of a stored register word. -/
def State.rb (s : State) (id : RegId) (i b : Nat) : Bool := bitW (s.reg id i) b

/-- The state with a stored register word replaced. -/
def State.setReg (s : State) (id : RegId) (i : Nat) (w : Word) : State :=
  { s with regs := setRegOf s.regs id i w }

/-- The state with a field of a stored register word replaced. -/
def State.setRf (s : State) (id : RegId) (i hi lo v : Nat) : State :=
  s.setReg id i (setFld (s.reg id i) hi lo v)

/-- The state with bits of a stored register word set. -/
def State.orReg (s : State) (id : RegId) (i : Nat) (m : Nat) : State :=
  s.setReg id i (s.reg id i ||| Word.ofNat m)

/-- The number of the settings now committed (R13, R28). -/
def State.epoch (s : State) : Nat := s.epochs.length - 1

/-- The committed store of epoch `e`. -/
def State.epochStore (s : State) (e : Nat) : Store Word := (s.epochs[s.epochs.length - 1 - e]?).getD []

/-- The settings in force at an instant, by their number: those of the last edge at or before it (R305). -/
def State.epochWhen (s : State) (at_ : Nat) : Nat := (s.edges.filter (· ≤ at_)).length

/-- The settings of epoch `e` (R28). (DEDUCED, log 31.) -/
def State.cfgAt (s : State) (e : Nat) : Cfg := regOf (s.epochStore e)

/-- The settings committed now (R19). -/
def State.cfg (s : State) : Cfg := regOf (s.epochs.headD [])

/-- The staged settings. -/
def State.staged (s : State) : Cfg := regOf s.regs

/-- A field of a setting. -/
def Cfg.f (c : Cfg) (id : RegId) (i hi lo : Nat) : Nat := fld (c id i) hi lo

/-- A bit of a setting. -/
def Cfg.b (c : Cfg) (id : RegId) (i b : Nat) : Bool := bitW (c id i) b

/-! ### Blocks and illegal sequences -/

/-- The block number of R359. -/
def Blk.no : Blk → Nat
  | .glb => 0 | .saf => 1 | .ao => 2 | .boot => 3 | .time => 4 | .host => 5 | .tbl => 6 | .cls => 7
  | .psf => 8 | .red => 9 | .tm => 10 | .sch => 11 | .capt => 12 | .plat p => 16 + p | .perf => 24

/-- The block with a number. -/
def Blk.ofNo (n : Nat) : Option Blk :=
  if n = 0 then some .glb else if n = 1 then some .saf else if n = 2 then some .ao
  else if n = 3 then some .boot else if n = 4 then some .time else if n = 5 then some .host
  else if n = 6 then some .tbl else if n = 7 then some .cls else if n = 8 then some .psf
  else if n = 9 then some .red else if n = 10 then some .tm else if n = 11 then some .sch
  else if n = 12 then some .capt else if n = 24 then some .perf
  else if 16 ≤ n ∧ n < 24 then some (.plat (n - 16)) else none

/-- The BAR0 offset of a block's normal view (R498). -/
def Blk.base : Blk → Nat
  | .plat p => 0x400000 + p * 0x80000
  | .perf => 0x800000
  | b => b.no * 0x40000

/-- The code of an agent in BLK_ILLEGAL_LAST.SOURCE (R369). -/
def srcNo : Src → Nat
  | .pcie => 0 | .spi => 1 | .firmware => 2

/-- Counting an illegal sequence (R358): the saturating count, the cause with its source and offset, and the
block's bit in GLB_ILLEGAL_SUM. -/
def State.illegal (s : State) (b : Blk) (off : Nat) (src : Src) (cause : Nat) : State :=
  let c := (s.reg .blkIllegal b.no).toNat
  let s := s.setReg .blkIllegal b.no (Word.ofNat (if c = 0xFFFFFFFF then c else c + 1))
  let s := s.setReg .blkIllegalLast b.no
    (Word.ofNat (at_ cause 28 + at_ (srcNo src) 26 + off % 65536))
  s.orReg .glbIllegalSum 0 (2 ^ b.no)

/-! ### Counters -/

/-- The banks of 40-bit counters. -/
inductive CntBank
  | plat | cls | tbl | psf | tm | tmPort | sch | red | time | capt | host | fla | ao | saf
  deriving DecidableEq, Repr

/-- The store key of a counter: bank, unit (port, Platform, queue pair) and slot. -/
def cntKey (b : CntBank) (u i : Nat) : Nat := (u * 64 + i) * 16 + b.ctorIdx

/-- The value of a counter. -/
def State.counter (s : State) (b : CntBank) (u i : Nat) : Nat := Store.get 0 s.cnt (cntKey b u i)

/-- The half-range status bit of a counter slot: register, member and bit (R62, R113). -/
def halfBit (b : CntBank) (u i : Nat) : Option (RegId × Nat × Nat) :=
  match b with
  | .plat => some (.platCntHalf, u * 2 + i / 32, i % 32)
  | .cls => some (.clsCntHalf, u, i)
  | .tbl => some (.tblCntHalf, u, i)
  | .psf => some (.psfCntHalf, u, i)
  | .tm => some (.tmCntHalf, u, i)
  | .tmPort => some (.tmPortCntHalf, u, i)
  | .sch => some (.schCntHalf, u, i)
  | .red => some (.redCntHalf, u, i)
  | .time => some (.timeCntHalf, u, i)
  | .capt => some (.recCntHalf, u, i)
  | .host => some (.hostQpCntHalf, u, i)
  | .ao => some (.aoCntHalf, u, i)
  | .saf => some (.safCntHalf, 0, i)
  | .fla => none

/-- A counter put to a value: when bit 39 changes, its half-range bit is set (R62). -/
def State.setCounter (s : State) (b : CntBank) (u i v : Nat) : State :=
  let old := s.counter b u i
  let s := { s with cnt := Store.set 0 s.cnt (cntKey b u i) (v % 2 ^ 40) }
  if bitOf old 39 = bitOf (v % 2 ^ 40) 39 then s
  else match halfBit b u i with
    | some (id, j, bit) => s.orReg id j (2 ^ bit)
    | none => s

/-- A counter adds `n`; 40 bits wide, wrapping (R61). -/
def State.countN (s : State) (b : CntBank) (u i n : Nat) : State :=
  s.setCounter b u i (s.counter b u i + n)

/-- A counter adds 1. -/
def State.count (s : State) (b : CntBank) (u i : Nat) : State := s.countN b u i 1

/-- A counter adds 1 where the condition holds. -/
def State.countIf (s : State) (c : Bool) (b : CntBank) (u i : Nat) : State :=
  if c then s.count b u i else s

/-- An event posted to a ring of 64 (PSF_HALF_EVT, RED_EVT): at index WR mod 64, or lost with OVERFLOW when
WR − RD would exceed 64. -/
def State.postEvent (s : State) (idx evt : RegId) (w : Word) : State :=
  let wr := s.rf idx 0 22 16
  let rd := s.rf idx 0 6 0
  if (wr + 128 - rd) % 128 ≥ 64 then s.orReg idx 0 (2 ^ 31)
  else (s.setReg evt (wr % 64) w).setRf idx 0 22 16 (wr + 1)

/-! ### Ports, Platforms, outputs -/

/-- One port. -/
def State.port (s : State) (n : Nat) : PortSt := Store.get {} s.ports n

/-- One port replaced. -/
def State.setPort (s : State) (n : Nat) (p : PortSt) : State :=
  { s with ports := Store.set {} s.ports n p }

/-- One port changed. -/
def State.modPort (s : State) (n : Nat) (f : PortSt → PortSt) : State := s.setPort n (f (s.port n))

/-- One Platform. -/
def State.plat (s : State) (p : Nat) : Plat := (s.plats[p]?).getD {}

/-- One Platform replaced. -/
def State.setPlat (s : State) (p : Nat) (x : Plat) : State := { s with plats := s.plats.set p x }

/-- One Platform changed. -/
def State.modPlat (s : State) (p : Nat) (f : Plat → Plat) : State := s.setPlat p (f (s.plat p))

/-- Queue `c` of a port. -/
def PortSt.queue (p : PortSt) (c : Nat) : Queue := (p.queues[c]?).getD {}

/-- Queue `c` replaced. -/
def PortSt.setQueue (p : PortSt) (c : Nat) (q : Queue) : PortSt := { p with queues := p.queues.set c q }

/-- The state with queue `(e, c)` replaced. -/
def State.setQueue (s : State) (e c : Nat) (q : Queue) : State := s.modPort e (·.setQueue c q)

/-- Ingress account `a` of a port. -/
def PortSt.acct (p : PortSt) (a : Nat) : Account := (p.accts[a]?).getD {}

/-- Ingress account `a` replaced. -/
def PortSt.setAcct (p : PortSt) (a : Nat) (x : Account) : PortSt := { p with accts := p.accts.set a x }

/-- An output. (DESIGN CHOICE, log 10.) -/
def State.emit (s : State) (o : Out) : State := { s with out := o :: s.out }

/-- A fresh free value, below `m`. (DESIGN CHOICE, log 7.) -/
def State.fresh (s : State) : Nat × State := (Config.freeValue s.free, { s with free := s.free + 1 })

/-- The Platform on which events of an egress port are counted (R10; Platform 0 for the Coupler and the host
queue groups). -/
def egressPlat (e : Nat) : Nat := if e < 512 then e / 64 else 0

/-- A port that has egress queues (R175). -/
def hasQueues (e : Nat) : Bool := e < 512 || e = 520 || (528 ≤ e && e ≤ 543)

/-! ### Tables and tree memory -/

/-- The store key of word `w` of entry `i` of table `t`. -/
def tabKey (t i w : Nat) : Nat := (i * 32 + w) * 32 + t

/-- A table word; 0 at power-up (R114). -/
def State.tab (s : State) (t i w : Nat) : Word := Store.get 0 s.tables (tabKey t i w)

/-- A table word replaced. -/
def State.setTab (s : State) (t i w : Nat) (v : Word) : State :=
  { s with tables := Store.set 0 s.tables (tabKey t i w) v }

/-- A field of a table word. -/
def State.tf (s : State) (t i w hi lo : Nat) : Nat := fld (s.tab t i w) hi lo

/-- A bit of a table word. -/
def State.tb (s : State) (t i w b : Nat) : Bool := bitW (s.tab t i w) b

/-- A word of a tree-memory bank, by word index. -/
def State.treeWord (s : State) (bank i : Nat) : Word := Store.get 0 s.tree (i * 2 + bank)

/-- A word of a tree-memory bank replaced. -/
def State.setTree (s : State) (bank i : Nat) (v : Word) : State :=
  { s with tree := Store.set 0 s.tree (i * 2 + bank) v }

/-- The words of an entry written from a list. -/
def State.setTabs (s : State) (t i : Nat) : Nat → List Word → State
  | _, [] => s
  | w, v :: vs => (s.setTab t i w v).setTabs t i (w + 1) vs

/-- A 40-bit counter of a table entry: low word, then the high byte in the next word (R167, R255). -/
def State.entryCounter (s : State) (t i w : Nat) : Nat :=
  (s.tab t i w).toNat + (s.tab t i (w + 1)).toNat % 256 * 2 ^ 32

/-- Such a counter adds `n`; the flag says that bit 39 changed. -/
def State.countEntry (s : State) (t i w n : Nat) : State × Bool :=
  let old := s.entryCounter t i w
  let v := (old + n) % 2 ^ 40
  ((s.setTab t i w (Word.ofNat v)).setTab t i (w + 1) (Word.ofNat (v / 2 ^ 32)), bitOf old 39 != bitOf v 39)

/-! ### Instants and time bases -/

/-- Monotonic time in whole nanoseconds (R289): 1.25 ns at each tick, rounded down. -/
def monoNs (fs : Nat) : Nat := fs / 1250000 * 5 / 4

/-- Monotonic time now. -/
def State.mono (s : State) : Nat := monoNs s.fs

/-- Monotonic milliseconds, rounded down. -/
def State.monoMs (s : State) : Nat := s.mono / 1000000

/-- An instant on monotonic time in quarter nanoseconds, the resolution of raw stamps (R302). -/
def quarter (fs : Nat) : Nat := fs / 250000

/-- An instant in whole nanoseconds of monotonic time. -/
def instantNs (fs : Nat) : Nat := fs / 1000000

/-- The unit of a time base's exact value: 2^42 to the nanosecond (R290). -/
def tbUnit : Nat := 2 ^ 42

/-- The value of a segment at quarter nanosecond `q`. -/
def TbSeg.at_ (g : TbSeg) (q : Nat) : Int := g.v + (q - g.q0 : Nat) * (2 ^ 40 + g.trim)

/-- The value a history held at quarter nanosecond `q` (R303). (DEDUCED, log 43.) -/
def tbHist : List TbSeg → Nat → Int
  | [], q => (q : Int) * 2 ^ 40
  | [g], q => g.at_ q
  | g :: r, q => if g.q0 ≤ q then g.at_ q else tbHist r q

/-- The segments of time base `k`. -/
def State.tbSegs (s : State) (k : Nat) : List TbSeg := (s.time.tbs[k]?).getD [{}]

/-- The segment of a history in force at quarter nanosecond `q`. -/
def segAt : List TbSeg → Nat → TbSeg
  | [], _ => {}
  | [g], _ => g
  | g :: r, q => if g.q0 ≤ q then g else segAt r q

/-- The trim of time base `k` at quarter nanosecond `q` (R311). -/
def State.tbTrimAt (s : State) (k q : Nat) : Int := (segAt (s.tbSegs k) q).trim

/-- The current trim of time base `k`. -/
def State.tbTrim (s : State) (k : Nat) : Int := ((s.tbSegs k).headD {}).trim

/-- The exact value of time base `k` at an instant (R290, R303). -/
def State.tbExact (s : State) (k fs : Nat) : Int := tbHist (s.tbSegs k) (quarter fs)

/-- The nanosecond value of time base `k` at an instant, not reduced modulo 2^64. -/
def State.tbNs (s : State) (k fs : Nat) : Int := floorDiv (s.tbExact k fs) tbUnit

/-- The 64-bit nanosecond value of time base `k` at an instant. -/
def State.tbAt (s : State) (k fs : Nat) : Nat := unsigned 64 (floorDiv (s.tbExact k fs) tbUnit)

/-- The quarter nanosecond of the last tick (R288). -/
def State.tickQ (s : State) : Nat := s.fs / 1250000 * 5

/-- The nanosecond value of time base `k` now, at the last tick, not reduced modulo 2^64. -/
def State.tbNowNs (s : State) (k : Nat) : Int := floorDiv (tbHist (s.tbSegs k) s.tickQ) tbUnit

/-- The 64-bit nanosecond value of time base `k` now. -/
def State.tbNow (s : State) (k : Nat) : Nat := unsigned 64 (s.tbNowNs k)

/-- The instant at which time base `k`'s present segment reaches a nanosecond value, at the earliest the start
of that segment. -/
def State.tbWhen (s : State) (k : Nat) (ns : Int) : Nat :=
  let g := (s.tbSegs k).headD {}
  let d := ns * tbUnit - g.v
  if d ≤ 0 then g.q0 * 250000
  else (g.q0 + ((d + (2 ^ 40 + g.trim) - 1) / (2 ^ 40 + g.trim)).toNat) * 250000

/-- The 32-bit nanosecond value of time base `k` now (R290). -/
def State.tbNow32 (s : State) (k : Nat) : Nat := s.tbNow k % 2 ^ 32

/-- (a − b) mod 2^32 taken as a signed number. -/
def diff32 (a b : Nat) : Int := signed 32 ((a + 2 ^ 32 - b % 2 ^ 32) % 2 ^ 32)

/-- The nanosecond value, not reduced, that time base `k` has to reach for a 32-bit target, and whether it lies in
the future (R25). (DEDUCED, log 33.) -/
def State.targetOf (s : State) (k ns : Nat) : Int × Bool :=
  let d : Nat := (ns + 2 ^ 32 - s.tbNow32 k) % 2 ^ 32
  (s.tbNowNs k + (d : Int), decide (d < 2 ^ 31))

/-! ### Lanes and ports -/

/-- Lanes, sub-ports and highest speed code of a lane mode (R35); none for a value R35 does not list. -/
def modeInfo (m : Nat) : Option (Nat × Nat × Nat) :=
  if m = 1 then some (4, 1, 9) else if m = 2 then some (2, 1, 8) else if m = 3 then some (4, 1, 8)
  else if m = 4 then some (1, 1, 7) else if m = 5 then some (2, 1, 7) else if m = 6 then some (4, 1, 7)
  else if m = 7 then some (1, 1, 6) else if m = 8 then some (1, 1, 5) else if m = 9 then some (1, 1, 4)
  else if m = 0xA then some (1, 1, 4) else if m = 0xB then some (1, 4, 2) else if m = 0xC then some (1, 4, 3)
  else if m = 0xD then some (1, 8, 2) else none

/-- A USXGMII mode (R35). -/
def usxgmii (m : Nat) : Bool := 0xA ≤ m && m ≤ 0xD

/-- A low-power idle type by lane mode and media (R56). -/
def lpiType (m media : Nat) : Bool :=
  (m = 9 && media = 1) || ((m = 8 || m = 6) && decide (media ≤ 1)) || usxgmii m

/-- The lane index (0–63) of a line port's first lane. -/
def laneOf (n : Nat) : Nat := n / 8

/-- The lane mode of a line port's lane. -/
def Cfg.mode (c : Cfg) (n : Nat) : Nat := c.f .platLaneMode (laneOf n) 4 0

/-- The FEC field of a line port's first lane. -/
def Cfg.fec (c : Cfg) (n : Nat) : Nat := c.f .platLaneMode (laneOf n) 9 8

/-- The media field of a line port's first lane. -/
def Cfg.media (c : Cfg) (n : Nat) : Nat := c.f .platLaneMode (laneOf n) 11 10

/-- A port present in the lane modes (R39): only line ports can be absent. -/
def Cfg.present (c : Cfg) (n : Nat) : Bool :=
  if n < 512 then
    match modeInfo (c.mode n) with
    | some (lanes, subs, _) => decide (laneOf n % 8 % lanes = 0) && decide (n % 8 < subs)
    | none => false
  else n = 520 || (528 ≤ n && n ≤ 543)

/-- Femtoseconds per bit at a speed code of PLAT_PORT_STAT.SPEED; code 10 is the Coupler's 800 Gb/s. -/
def bitFs (code : Nat) : Nat :=
  if code = 1 then 1000000 else if code = 2 then 400000 else if code = 3 then 200000
  else if code = 4 then 100000 else if code = 5 then 40000 else if code = 6 then 20000
  else if code = 7 then 10000 else if code = 8 then 5000 else if code = 9 then 2500 else 1250

/-- The speed of a code in kbit/s. -/
def speedKbps (code : Nat) : Nat := 1000000000000 / bitFs code

/-- The highest speed code of a port in its lane mode; the Coupler's for port 520. -/
def Cfg.topSpeed (c : Cfg) (n : Nat) : Nat :=
  if n < 512 then (match modeInfo (c.mode n) with | some (_, _, v) => v | none => 0) else 10

/-- The speed code a port works at now. -/
def State.speed (s : State) (n : Nat) : Nat := if n < 512 then (s.port n).speed else 10

/-- Receive and transmit latency of R65 in ns. -/
def lanePair (mode fec : Nat) : Nat × Nat :=
  if mode = 1 ∨ mode = 2 ∨ mode = 4 then (170, 60)
  else if mode = 3 ∨ mode = 5 ∨ mode = 7 then (210, 70)
  else if mode = 6 then (240, 75)
  else if mode = 8 then (if fec = 2 then (240, 75) else if fec = 1 then (260, 90) else (60, 40))
  else if mode = 9 ∨ mode = 0xA then (if fec = 1 then (320, 110) else (90, 60))
  else if mode = 0xB then (120, 80) else (110, 70)

/-- INT_RX and INT_TX of R304 in ns. -/
def intPair (mode fec : Nat) : Nat × Nat :=
  if mode = 1 ∨ mode = 2 ∨ mode = 4 then (118, 42)
  else if mode = 3 ∨ mode = 5 ∨ mode = 7 then (152, 50)
  else if mode = 6 then (176, 54)
  else if mode = 8 then (if fec = 2 then (176, 54) else if fec = 1 then (196, 66) else (24, 18))
  else if mode = 9 ∨ mode = 0xA then (if fec = 1 then (250, 80) else (36, 30))
  else if mode = 0xB then (60, 48) else (52, 40)

/-- The latencies of R65 of a port: the 106.25 Gb/s figures for the Coupler (R285). -/
def Cfg.lat (c : Cfg) (n : Nat) : Nat × Nat := if n < 512 then lanePair (c.mode n) (c.fec n) else (170, 60)

/-- INT_RX and INT_TX of a port (R304). -/
def Cfg.intLat (c : Cfg) (n : Nat) : Nat × Nat := if n < 512 then intPair (c.mode n) (c.fec n) else (118, 42)

/-- The maximum frame length of a port (R41, R503). -/
def Cfg.maxFrame (c : Cfg) (n : Nat) : Nat := if n < 512 then c.f .platPortFrame n 13 0 else 10240

/-- ENABLE of a port; the Coupler and the host queue groups have no such bit. -/
def Cfg.enabled (c : Cfg) (n : Nat) : Bool := if n < 512 then c.b .platPortCtrl n 31 else true

/-! ### Profiles -/

/-- Table profile (GLB_MODE.TBL_PROFILE). -/
def State.tblProfile (s : State) : Nat := s.rf .glbMode 0 1 0
/-- Buffer profile (GLB_MODE.BUF_PROFILE). -/
def State.bufProfile (s : State) : Nat := s.rf .glbMode 0 9 8
/-- Configured twin mode: Paired (GLB_MODE.TWIN_CFG). -/
def State.pairedCfg (s : State) : Bool := s.rb .glbMode 0 13
/-- Operating twin mode: Paired (GLB_MODE.TWIN_OPER). -/
def State.pairedOper (s : State) : Bool := s.rb .glbMode 0 12
/-- Commit mode Timed (GLB_MODE.COMMIT_MODE). -/
def State.timedMode (s : State) : Bool := s.rb .glbMode 0 20
/-- Power policy (GLB_MODE.POWER_POLICY). -/
def State.powerPolicy (s : State) : Nat := s.rf .glbMode 0 17 16

/-- Scheduled, headroom and shared pool sizes of a buffer profile (R178). -/
def poolSizes (prof : Nat) : Nat × Nat × Nat :=
  if prof = 0 then (65536, 65536, 376832)
  else if prof = 1 then (32768, 196608, 278528) else (131072, 32768, 344064)

/-- The capacity of a table in a profile (R114, R77); 0 for an unused target. -/
def tblCapacity (prof t : Nat) : Nat :=
  let four (a b c d : Nat) : Nat := if prof = 0 then a else if prof = 1 then b else if prof = 2 then c else d
  if t < 8 then four 131072 262144 65536 131072
  else if t = 0x08 then 4096 else if t = 0x09 then 552 else if t = 0x0A then 65536
  else if t = 0x0B then 8192 else if t = 0x0C then 256
  else if t = 0x0D then four 524288 262144 1048576 524288
  else if t = 0x0E then four 262144 131072 524288 262144
  else if t = 0x0F then 64
  else if t = 0x10 then four 65536 65536 131072 65536
  else if t = 0x11 ∨ t = 0x12 ∨ t = 0x15 then four 65536 65536 65536 131072
  else if t = 0x13 then 8192
  else if t = 0x14 then four 32768 32768 32768 65536
  else if t = 0x18 ∨ t = 0x19 then four 786432 786432 786432 393216
  else 0

/-- Words of one entry of a table (R114). -/
def tblWords (t : Nat) : Nat :=
  if t < 8 ∨ t = 0x08 ∨ t = 0x09 ∨ t = 0x0A ∨ t = 0x0D ∨ t = 0x18 ∨ t = 0x19 then 4
  else if t = 0x0B ∨ t = 0x15 then 32 else 8

/-- The capacity of a table in the running profile. -/
def State.capacity (s : State) (t : Nat) : Nat := tblCapacity s.tblProfile t

/-- Bytes of one classifier bank (R77). -/
def State.bankBytes (s : State) : Nat := if s.tblProfile = 3 then 6291456 else 12582912

/-- Size of the shared pool. -/
def State.sharedSize (s : State) : Nat := (poolSizes s.bufProfile).2.2

/-- The free shared count (R181). -/
def State.sharedFree (s : State) : Nat := s.sharedSize - s.sharedUsed

/-- A change of the shared charges: TM_POOL_LOW follows the free count down, and POOL_LOW is set when it falls
below TM_POOL_ALARM (R181). -/
def State.setShared (s : State) (n : Nat) : State :=
  let before := s.sharedFree
  let s := { s with sharedUsed := n }
  let free := s.sharedFree
  let s := if free < s.rf .tmPoolLow 0 19 0 then s.setRf .tmPoolLow 0 19 0 free else s
  let alarm := s.rf .tmPoolAlarm 0 19 0
  if alarm ≤ before ∧ free < alarm then s.orReg .tmIntStat 0 4 else s

/-- Shared cells charged. -/
def State.takeShared (s : State) (n : Nat) : State := s.setShared (s.sharedUsed + n)

/-- Shared cells released. -/
def State.giveShared (s : State) (n : Nat) : State := s.setShared (s.sharedUsed - n)

/-! ### Performance counters -/

/-- The 48-bit value of a pair of counter words. -/
def State.perf48 (s : State) (lo hi : RegId) (i : Nat) : Nat := (s.reg lo i).toNat + s.rf hi i 15 0 * 2 ^ 32

/-- A 48-bit value written to a pair of counter words. -/
def State.setPerf48 (s : State) (lo hi : RegId) (i v : Nat) : State :=
  (s.setReg lo i (Word.ofNat v)).setReg hi i (Word.ofNat (v / 2 ^ 32 % 2 ^ 16))

/-- The words of a Platform's counter `n`: 0 to 7 the event counters, 8 the cycle counter. -/
def perfRegs (p n : Nat) : RegId × RegId × Nat :=
  if n = 8 then (.platPerfCycLo, .platPerfCycHi, p) else (.platPerfCntLo, .platPerfCntHi, p * 8 + n)

/-- A Platform counts: EN set, FREEZE clear or set by a wrap at this very clock, in Run (R363, R364, R368). -/
def State.perfOn (s : State) (p : Nat) : Bool :=
  s.rb .platPerfCtrl p 31 && (!s.rb .platPerfCtrl p 30 || (s.plat p).frozeAt = some s.fs) && (s.plat p).power = .run

/-- What a Platform's performance counters have done in the present core clock. -/
def State.perfClock (s : State) (p : Nat) : PerfClock :=
  let c := (s.plat p).perfClk
  if c.at_ = s.fs then c else { at_ := s.fs }

/-- Counter `k` of a Platform has been written in this core clock: its events of the clock are not counted (R364). -/
def State.perfDrops (s : State) (p k : Nat) : Bool := bitOf (s.perfClock p).off k

/-- The record of the present core clock replaced. -/
def State.setPerfClock (s : State) (p : Nat) (c : PerfClock) : State := s.modPlat p fun x => { x with perfClk := c }

/-- `n` events of counter `k` noted, with a wrap. -/
def State.notePerf (s : State) (p k n : Nat) (wraps : Bool) : State :=
  let c := s.perfClock p
  let ovf := wraps && !s.rb .platPerfOvf p k
  s.setPerfClock p
    { c with ev := c.ev.modify k (· + n), wrapped := c.wrapped ||| b2n wraps * 2 ^ k, ovf := c.ovf ||| b2n ovf * 2 ^ k }

/-- A counter of a Platform adds `n`; a wrap sets OVF, and FREEZE with FRZ_OVF (R364). -/
def State.perfBump (s : State) (p k n : Nat) : State :=
  if s.perfDrops p k then s
  else
    let (lo, hi, i) := perfRegs p k
    let v := s.perf48 lo hi i + n
    let s := (s.notePerf p k n (decide (2 ^ 48 ≤ v))).setPerf48 lo hi i (v % 2 ^ 48)
    if v < 2 ^ 48 then s
    else
      let s := s.orReg .platPerfOvf p (2 ^ k)
      if ¬ s.rb .platPerfCtrl p 29 then s
      else if s.rb .platPerfCtrl p 30 then s
      else (s.orReg .platPerfCtrl p (2 ^ 30)).modPlat p fun x => { x with frozeAt := some s.fs }

/-- Counter `k` of a Platform is written in this core clock: what the clock's events did to it is taken back, an OVF bit and a
FREEZE that only its wrap in this clock set among them (R364, R368). -/
def State.perfUndo (s : State) (p k : Nat) : State :=
  let c := s.perfClock p
  let n := (c.ev[k]?).getD 0
  let (lo, hi, i) := perfRegs p k
  let s := s.setPerfClock p
    { c with ev := c.ev.set k 0, off := c.off ||| 2 ^ k, wrapped := c.wrapped - (c.wrapped &&& 2 ^ k)
             ovf := c.ovf - (c.ovf &&& 2 ^ k) }
  if n = 0 then s
  else
    let s := s.setPerf48 lo hi i ((s.perf48 lo hi i + 2 ^ 48 - n % 2 ^ 48) % 2 ^ 48)
    let s := if bitOf c.ovf k then s.setRf .platPerfOvf p k k 0 else s
    if c.wrapped = 2 ^ k ∧ (s.plat p).frozeAt = some s.fs then
      (s.setRf .platPerfCtrl p 30 30 0).modPlat p fun x => { x with frozeAt := none }
    else s

/-- An event counter's selection takes an event (R365): `port` and `cls` are the event's local port and class, none
where the event allows no such filter. -/
def evselTakes (w : Word) (ev : Nat) (port cls : Option Nat) : Bool :=
  fld w 23 16 = ev && (!bitW w 15 || port = some (fld w 13 8)) && (!bitW w 7 || cls = some (fld w 2 0))

/-- `n` events of one kind on a Platform (R365). -/
def State.perf (s : State) (p ev : Nat) (port cls : Option Nat) (n : Nat) : State :=
  if n = 0 ∨ ¬ s.perfOn p then s
  else
    (List.range 8).foldl
      (fun s k => if evselTakes (s.reg .platPerfEvsel (p * 8 + k)) ev port cls then s.perfBump p k n else s) s

/-- The filter's local port of a port: none matches for the Coupler and the host groups. -/
def perfPort (e : Nat) : Option Nat := some (if e < 512 then e % 64 else 64)

/-- Aggregate `i` adds `n` (R367). -/
def State.agg (s : State) (i n : Nat) : State :=
  if s.rb .perfCtrl 0 31 ∧ ¬ s.rb .perfCtrl 0 30 then
    s.setPerf48 .perfAggLo .perfAggHi i ((s.perf48 .perfAggLo .perfAggHi i + n) % 2 ^ 48)
  else s

/-- Beats of 64 bytes of a byte string (R182). -/
def beats (n : Nat) : Nat := ceilDiv n 64

end Sys2Proof.Machine
end

