-- ==== Sys2Proof/Machine/Accounts.lean ====
section
/-! DEFINITION. Staging cells, ingress accounts and pause states (R179, R181, R185, R189 to R194), the copy source
(R183, R184), and the charges a copy releases when it leaves its queue (R181, R192). -/

namespace Sys2Proof.Machine

/-- alpha(code) × free in whole cells, with alpha = 2^(code − 4) (R186). -/
def alphaTimes (code free : Nat) : Nat := free * 2 ^ code / 16

/-- The headroom HR(a) of an account (R191, R205). -/
def Cfg.headroom (c : Cfg) (port a : Nat) : Nat :=
  if a % 2 = 0 then c.f .tmPortHr (port * 4 + a / 2) 15 0 else c.f .tmPortHr (port * 4 + a / 2) 31 16

/-- The reservation RESV(e, c) of a queue. -/
def Cfg.resv (c : Cfg) (e k : Nat) : Nat :=
  if k % 2 = 0 then c.f .tmPortResv (e * 4 + k / 2) 15 0 else c.f .tmPortResv (e * 4 + k / 2) 31 16

/-- Flow control MODE of an ingress port (R189). -/
def Cfg.fcMode (c : Cfg) (port : Nat) : Nat := c.f .tmPortFc port 31 30

/-- The account of a frame of priority `p` on a port, if it is flow-controlled (R190, R191). -/
def Cfg.acctOf (c : Cfg) (port p : Nat) : Option Nat :=
  if c.fcMode port = 1 then some 0
  else if c.fcMode port = 2 ∧ bitOf (c.f .tmPortFc port 23 16) p then some p
  else none

/-- The flow-controlled accounts of a port. -/
def Cfg.acctsOf (c : Cfg) (port : Nat) : List Nat :=
  if c.fcMode port = 1 then [0]
  else if c.fcMode port = 2 then (List.range 8).filter (bitOf (c.f .tmPortFc port 23 16) ·)
  else []

/-- The threshold of the ingress accounts under a view of the settings (R191). -/
def State.acctLimitOf (s : State) (c : Cfg) : Nat := alphaTimes (c.f .tmFcCfg 0 22 20) s.sharedFree

/-- The threshold of the ingress accounts now (R191, R194). -/
def State.acctLimit (s : State) : Nat := s.acctLimitOf s.cfg

/-- The Platform on which a port's pause frames are counted. (DEDUCED, log 38.) -/
def portPlat (port : Nat) : Nat := if port < 512 then port / 64 else 0

/-- XOFF requested for an account: the state is sent with the next pause frame (R191, R195). A refresh and a copy source's
XOFF (R185) count in XOFF_SENT as well. (DESIGN CHOICE, log 65: R194.) -/
def State.sendXoff (s : State) (port a : Nat) : State :=
  let s := s.modPort port fun p =>
    { p.setAcct a { p.acct a with xoff := true, lastXoff := s.fs } with pauseTx := p.pauseTx ++ [(a, true)] }
  s.count .tm (portPlat port) 8

/-- A headroom breach counted, and latched where BREACH was clear (R191, R205). -/
def State.breach (s : State) (plat port a : Nat) : State :=
  let s := s.count .tm plat 6
  if s.rb .tmIntStat 0 0 then s
  else
    let prio := if s.cfg.fcMode port = 1 then 0 else a
    (s.setReg .tmHrBreach 0 (Word.ofNat (at_ port 16 + at_ prio 8))).orReg .tmIntStat 0 1

/-- One cell charged to an account (R191): to its shared charge (`some true`), to its headroom (`some false`), or a
breach (`none`). -/
def State.chargeCell (s : State) (port a : Nat) : State × Option Bool :=
  let x := (s.port port).acct a
  if !x.xoff && decide (x.shared + 1 ≤ s.acctLimit) then
    ((s.modPort port fun p => p.setAcct a { x with shared := x.shared + 1 }).takeShared 1, some true)
  else
    let s := if x.xoff then s else s.sendXoff port a
    let x := (s.port port).acct a
    if x.head + 1 ≤ s.cfg.headroom port a then
      (s.modPort port fun p => p.setAcct a { x with head := x.head + 1 }, some false)
    else (s, none)

/-- `n` cells charged to an account: how many went to shared and to headroom; none on a breach. -/
def State.chargeCells (s : State) (port a : Nat) : Nat → Nat → Nat → State × Option (Nat × Nat)
  | 0, sh, hd => (s, some (sh, hd))
  | n + 1, sh, hd =>
    match s.chargeCell port a with
    | (s, some true) => s.chargeCells port a n (sh + 1) hd
    | (s, some false) => s.chargeCells port a n sh (hd + 1)
    | (s, none) => (s, none)

/-- Charges of an account given back. -/
def State.creditAcct (s : State) (port a sh hd : Nat) : State :=
  let s := s.modPort port fun p =>
    p.setAcct a { p.acct a with shared := (p.acct a).shared - sh, head := (p.acct a).head - hd }
  s.giveShared sh

/-- The shared cells among staging charges: those drawn beyond the floor and those of the ingress account. -/
def Charge.sharedCells (c : Charge) (acct : Option Nat) : Nat := c.shared + if acct.isSome then c.acctShared else 0

/-- An account without the charges of a frame. -/
def Account.credit (x : Account) (c : Charge) : Account :=
  { x with shared := x.shared - c.acctShared, head := x.head - c.acctHead }

/-- Staging charges given back while `take` cells are charged to the shared pool, in one change of its free count (R180): the
cells leave the floor, the shared pool, the fixed cells or their account. -/
def State.moveStaging (s : State) (plat port : Nat) (acct : Option Nat) (c : Charge) (take : Nat) : State :=
  let s := s.modPlat plat fun p => { p with floorUsed := p.floorUsed - c.floor }
  let s := { s with fixedUsed := s.fixedUsed - c.fixed }
  let s := match acct with
    | some a => s.modPort port fun p => p.setAcct a ((p.acct a).credit c)
    | none => s
  let give := c.sharedCells acct
  if give = 0 ∧ take = 0 then s else s.setShared (s.sharedUsed - give + take)

/-- Staging charges given back (R180). -/
def State.freeStaging (s : State) (plat port : Nat) (acct : Option Nat) (c : Charge) : State :=
  s.moveStaging plat port acct c 0

/-- A frame's staging charges moved: `take` of its cells are charged to the shared pool (R180). -/
def State.unstage (s : State) (f : Frame) (take : Nat) : State := s.moveStaging f.plat f.port f.acct f.charge take

/-- A frame's staging charges given back. -/
def State.freeFrame (s : State) (f : Frame) : State := s.unstage f 0

/-! ### The copy source -/

/-- Bytes that a Platform's copy source holds. -/
def Plat.copyBytes (p : Plat) : Nat := (p.images.map (·.bytes)).foldl (· + ·) 0

/-- An image released. -/
def State.dropImage (s : State) (plat no : Nat) : State :=
  s.modPlat plat fun p => { p with images := p.images.filter (·.no ≠ no) }

/-- Pending extra copies of frame `no` on any port. -/
def State.pendingOf (s : State) (no : Nat) : Bool :=
  s.ports.any fun (_, p) => p.queues.any fun q => q.copies.any fun x => x.frame.no = no && !x.written

/-- The image of a frame released once none of its extra copies is pending (R183). -/
def State.settleImage (s : State) (plat no : Nat) : State :=
  if s.pendingOf no then s else s.dropImage plat no

/-- R185: above XOFF_KIB every flow-controlled account of the Platform's ports is put in XOFF. -/
def State.copySourceXoff (s : State) (plat : Nat) : State :=
  if (s.plat plat).copyXoff || decide ((s.plat plat).copyBytes ≤ s.cfg.f .tmReplCfg 0 25 16 * 1024) then s
  else
    let s := s.modPlat plat fun p => { p with copyXoff := true }
    (List.range 64).foldl
      (fun s k =>
        let port := plat * 64 + k
        (s.cfg.acctsOf port).foldl
          (fun s a => if ((s.port port).acct a).xoff then s else s.sendXoff port a) s) s

/-! ### References and leaving a queue -/

/-- What a frame still owes. -/
def State.ref (s : State) (no : Nat) : Option CellRef := s.refs.find? (·.no = no)

/-- That record replaced, or removed when nothing is owed any more. -/
def State.setRef (s : State) (r : CellRef) : State :=
  let rest := s.refs.filter (·.no ≠ r.no)
  { s with refs := if r.cap || r.copies ≠ 0 then rest ++ [r] else rest }

/-- The cells of a frame are charged to shared for its capture reference alone (R181). -/
def State.chargeCapture (s : State) (no : Nat) : State :=
  match s.ref no with
  | some r => if r.cap && !r.capShared then (s.setRef { r with capShared := true }).takeShared r.cells else s
  | none => s

/-- A copy leaves its queue: its charge is released (R181, R192), and the cells that a capture reference still holds
are charged to shared. The copy comes back with what it released. -/
def State.release (s : State) (x : Copy) : State × Copy :=
  let q := (s.port x.port).queue x.cls
  match x.pool with
  | .reservation =>
    let s := s.setQueue x.port x.cls { q with resvUsed := q.resvUsed - x.cells }
    (if x.first then s.chargeCapture x.frame.no else s, x)
  | .shared =>
    let s := (s.setQueue x.port x.cls { q with sharedUsed := q.sharedUsed - x.cells }).giveShared x.cells
    (if x.first then s.chargeCapture x.frame.no else s, x)
  | .fixed => (s, x)
  | .account =>
    match s.ref x.frame.no with
    | none => (s, x)
    | some r =>
      if r.copies ≤ 1 then
        let s := match r.acct with
          | some a => s.creditAcct r.port a r.acctShared r.acctHead
          | none => s
        let s := s.setRef { r with copies := 0, acct := none, acctShared := 0, acctHead := 0 }
        (s.chargeCapture x.frame.no, { x with ref := some r })
      else (s.setRef { r with copies := r.copies - 1 }, { x with ref := none })

/-- A handed copy charged again on its return to its queue (R211, R509). -/
def State.recharge (s : State) (x : Copy) : State :=
  let q := (s.port x.port).queue x.cls
  let uncap (s : State) : State :=
    match s.ref x.frame.no with
    | some r => if x.first && r.capShared then (s.setRef { r with capShared := false }).giveShared r.cells else s
    | none => s
  match x.pool with
  | .reservation => uncap (s.setQueue x.port x.cls { q with resvUsed := q.resvUsed + x.cells })
  | .shared => uncap ((s.setQueue x.port x.cls { q with sharedUsed := q.sharedUsed + x.cells }).takeShared x.cells)
  | .fixed => s
  | .account =>
    match x.ref with
    | none =>
      match s.ref x.frame.no with
      | some r => s.setRef { r with copies := r.copies + 1 }
      | none => s
    | some old =>
      let s := match old.acct with
        | some a =>
          (s.modPort old.port fun p =>
            p.setAcct a { p.acct a with shared := (p.acct a).shared + old.acctShared
                                        head := (p.acct a).head + old.acctHead }).takeShared old.acctShared
        | none => s
      let now := s.ref x.frame.no
      let s := match now with
        | some r => if r.capShared then s.giveShared r.cells else s
        | none => s
      s.setRef { old with copies := 1, cap := (now.map (·.cap)).getD false, capShared := false }

/-- Something has just left a port's transmit side: the time that R57 counts runs from here. -/
def State.touchTx (s : State) (e : Nat) : State := s.modPort e fun p => { p with idleSince := s.fs }

/-- A copy is dropped from its queue without being handed: pushed out, refused, flushed or discarded. -/
def State.dropCopy (s : State) (x : Copy) : State :=
  let (s, _) := (s.touchTx x.port).release x
  if x.written then s
  else
    let s := match s.ref x.frame.no with
      | some r => s.setRef { r with owed := r.owed - x.cells }
      | none => s
    s.settleImage x.frame.plat x.frame.no

/-- The copies of a queue replaced. -/
def State.setCopies (s : State) (e c : Nat) (l : List Copy) : State :=
  let q := (s.port e).queue c
  s.setQueue e c { q with copies := l }

/-- Cells of a queue (TM_Q_DEPTH). -/
def Queue.depth (q : Queue) : Nat := (q.copies.map (·.cells)).foldl (· + ·) 0

end Sys2Proof.Machine
end

