-- ==== Sys2Proof/Machine/Classify.lean ====
section
/-! DEFINITION. The classifier: the walk of the decision trees (R77 to R83), the merge (R84), and the
action record with what makes it void by fault (R85 to R87). -/

namespace Sys2Proof.Machine

/-- A walk fault: tree, REASON and the address latched (R83). -/
structure WalkFault where
  tree : Nat
  reason : Nat
  addr : Nat
  deriving DecidableEq, Repr

/-- A matched rule with its action record (R81, R85). -/
structure Hit where
  tree : Nat
  prio : Nat
  /-- ACT_BASE + ACTION. -/
  rec_ : Nat
  w0 : Word
  w1 : Word
  w2 : Word
  w3 : Word
  deriving DecidableEq, Repr

namespace Hit
/-- DROP -/
def drop (h : Hit) : Bool := bitW h.w0 31
/-- FWD_MODE -/
def fwdMode (h : Hit) : Nat := fld h.w0 30 29
/-- COPY_HOST -/
def copyHost (h : Hit) : Bool := bitW h.w0 28
/-- SET_CLASS -/
def setClass (h : Hit) : Bool := bitW h.w0 27
/-- CLASS -/
def cls (h : Hit) : Nat := fld h.w0 26 24
/-- SET_COLOUR -/
def setColour (h : Hit) : Bool := bitW h.w0 23
/-- COLOUR -/
def colour (h : Hit) : Nat := fld h.w0 22 21
/-- MIRROR -/
def mirror (h : Hit) : Bool := bitW h.w0 20
/-- TURNTABLE -/
def turntable (h : Hit) : Bool := bitW h.w0 19
/-- INNER -/
def inner (h : Hit) : Bool := bitW h.w0 18
/-- SET_STREAM -/
def setStream (h : Hit) : Bool := bitW h.w0 17
/-- SET_CARRY -/
def setCarry (h : Hit) : Bool := bitW h.w0 16
/-- PORT -/
def port (h : Hit) : Nat := fld h.w0 9 0
/-- MGROUP -/
def mgroup (h : Hit) : Nat := fld h.w1 31 16
/-- HOSTQ -/
def hostq (h : Hit) : Nat := fld h.w1 15 12
/-- REC_SEL -/
def recSel (h : Hit) : Nat := fld h.w1 7 0
/-- STREAM_HANDLE -/
def handle (h : Hit) : Nat := fld h.w2 16 0
/-- CARRY -/
def carry (h : Hit) : Nat := h.w3.toNat
/-- The rule sets the disposition group (R84). -/
def disposes (h : Hit) : Bool := h.drop || h.turntable || h.fwdMode ≠ 0
end Hit

/-- One of the walk's reads, or a fault. -/
abbrev WalkM (α : Type) := Except WalkFault α

/-- A 32-bit word of the bank at a byte address. -/
def State.mem32 (s : State) (bank byte : Nat) : Word := s.treeWord bank (byte / 4)

/-- The tests of a rule against the key, in increasing word order (R82). `ws` are the key words still to
consider, from word `w` on; `j` counts the tests made. -/
def matchTests (s : State) (bank r tm mm : Nat) : List Nat → Nat → Nat → Bool
  | [], _, _ => true
  | k :: ks, w, j =>
    if bitOf tm w then
      let a := (s.mem32 bank (r * 8 + 8 + j * 8)).toNat
      let b := (s.mem32 bank (r * 8 + 12 + j * 8)).toNat
      let ok := if bitOf mm w then decide (a ≤ k) && decide (k ≤ b) else (k &&& b) = (a &&& b)
      ok && matchTests s bank r tm mm ks (w + 1) (j + 1)
    else matchTests s bank r tm mm ks (w + 1) j

/-- How many bits of a 16-bit mask are set. -/
def popcount16 (m : Nat) : Nat := ((List.range 16).filter (bitOf m ·)).length

/-- Whether the rule at `r` (8-byte units) matches; a rule or its tests outside the bank is a fault. -/
def matchRule (s : State) (bank tree r : Nat) (key : List Nat) : WalkM Bool :=
  if r * 8 + 8 > s.bankBytes then .error ⟨tree, 1, r⟩
  else
    let w := (s.mem32 bank (r * 8 + 4)).toNat
    let tm := bits w 31 16
    if r * 8 + 8 + 8 * popcount16 tm > s.bankBytes then .error ⟨tree, 1, r⟩
    else .ok (matchTests s bank r tm (bits w 15 0) key 0 0)

/-- The rules of a leaf in order, from rule word `i`; the first that matches (R80, R82). -/
def walkLeaf (s : State) (bank tree leaf : Nat) (key : List Nat) : Nat → Nat → WalkM (Option Nat)
  | 0, _ => .ok none
  | n + 1, i =>
    let r := fld (s.mem32 bank (leaf * 16 + i * 4)) 20 0
    match matchRule s bank tree r key with
    | .error e => .error e
    | .ok true => .ok (some r)
    | .ok false => walkLeaf s bank tree leaf key n (i + 1)

/-- The walk of one tree from a pointer; `left` nodes may still be entered (R82, R83). -/
def walkFrom (s : State) (bank tree : Nat) (key : List Nat) : Nat → Word → WalkM (Option Nat)
  | left, ptr =>
    let a := fld ptr 20 0
    match fld ptr 31 30 with
    | 0 => .ok none
    | 1 =>
      match left with
      | 0 => .error ⟨tree, 2, a⟩
      | k + 1 =>
        if a * 16 + 16 > s.bankBytes then .error ⟨tree, 1, a⟩
        else
          let w := s.mem32 bank (a * 16)
          let pos := fld w 24 16
          let n := fld w 3 0
          let base := fld (s.mem32 bank (a * 16 + 4)) 20 0
          if n = 0 ∨ pos % 32 + n > 32 then .error ⟨tree, 4, a⟩
          else if base * 16 + 4 * 2 ^ n > s.bankBytes then .error ⟨tree, 1, base⟩
          else
            let idx := ((key[pos / 32]?).getD 0 >>> (pos % 32)) % 2 ^ n
            walkFrom s bank tree key k (s.mem32 bank (base * 16 + idx * 4))
    | 2 =>
      if a * 16 + 32 > s.bankBytes then .error ⟨tree, 1, a⟩
      else
        let count := fld (s.mem32 bank (a * 16)) 2 0
        if count = 0 then .error ⟨tree, 3, a⟩ else walkLeaf s bank tree a key count 1
    | _ =>
      match matchRule s bank tree a key with
      | .error e => .error e
      | .ok b => .ok (if b then some a else none)

/-- The rule a tree returns, with its action record read (R81, R83, R85). -/
def walkTree (s : State) (bank tree : Nat) (key : List Nat) : WalkM (Option Hit) :=
  match walkFrom s bank tree key 12 (s.reg .clsTreeRoot (bank * 16 + tree)) with
  | .error e => .error e
  | .ok none => .ok none
  | .ok (some r) =>
    let w := s.mem32 bank (r * 8)
    let rec_ := s.rf .clsBankAct bank 19 0 + fld w 15 0
    if rec_ * 16 + 16 > s.bankBytes then .error ⟨tree, 1, rec_ % 2 ^ 21⟩
    else .ok (some
      { tree := tree, prio := fld w 31 16, rec_ := rec_
        w0 := s.mem32 bank (rec_ * 16), w1 := s.mem32 bank (rec_ * 16 + 4)
        w2 := s.mem32 bank (rec_ * 16 + 8), w3 := s.mem32 bank (rec_ * 16 + 12) })

/-- The results of the trees enabled for the pass, from tree `t` on. Of several faults the one latched is that of the
lowest-numbered tree, before any of the merged action (R83; DESIGN CHOICE, log 62). -/
def walkAll (s : State) (bank pass : Nat) (key : Nat → List Nat) : Nat → Nat → WalkM (List Hit)
  | 0, _ => .ok []
  | n + 1, t =>
    let cfg := s.reg .clsTreeCfg (bank * 16 + t)
    if bitW cfg 31 ∧ bitOf (fld cfg 27 24) pass then
      match walkTree s bank t (key (fld cfg 17 16)) with
      | .error e => .error e
      | .ok h =>
        match walkAll s bank pass key n (t + 1) with
        | .error e => .error e
        | .ok r => .ok (h.toList ++ r)
    else walkAll s bank pass key n (t + 1)

/-- The applying rule of a group: the highest priority, and among equals the lowest-numbered tree (R84).
The list rises in tree number. -/
def applying (p : Hit → Bool) : List Hit → Option Hit
  | [] => none
  | h :: r =>
    match applying p r with
    | none => if p h then some h else none
    | some g => if p h ∧ g.prio ≤ h.prio then some h else some g

/-- The merged action: for each group the rule that applies (R84). -/
structure Merged where
  any : Bool := false
  disp : Option Hit := none
  cls : Option Hit := none
  colour : Option Hit := none
  stream : Option Hit := none
  mirror : Option Hit := none
  host : Option Hit := none
  carry : Option Hit := none
  deriving DecidableEq, Repr

/-- The merge of R84. -/
def mergeHits (hs : List Hit) : Merged :=
  { any := !hs.isEmpty
    disp := applying Hit.disposes hs
    cls := applying Hit.setClass hs
    colour := applying Hit.setColour hs
    stream := applying Hit.setStream hs
    mirror := applying Hit.mirror hs
    host := applying Hit.copyHost hs
    carry := applying Hit.setCarry hs }

/-- The merged action as it applies to a frame: for one with an error mark the disposition, mirror and host copy alone (R91),
for one that a station entry directs all but colour and stream (R92). -/
def Merged.applied (m : Merged) (errored station : Bool) : Merged :=
  { m with
    cls := if errored then none else m.cls
    carry := if errored then none else m.carry
    colour := if errored || station then none else m.colour
    stream := if errored || station then none else m.stream }

/-- R87: the action is void by fault in a field that applies. `fwdVoid` says that FWD_MODE 1 and 2 are void for
the frame (R91, R92, R93) and are not judged. Of several faults the colour's is latched first, then the disposition's, then the
stream's (DESIGN CHOICE, log 62). -/
def voidFault (s : State) (cfg : Cfg) (fwdVoid : Bool) (m : Merged) : Option WalkFault :=
  let fault (h : Hit) : WalkFault := ⟨h.tree, 5, h.rec_ % 2 ^ 21⟩
  match m.colour with
  | some h => if h.colour = 3 then some (fault h) else rest fault
  | none => rest fault
where
  rest (fault : Hit → WalkFault) : Option WalkFault :=
    match m.disp with
    | some h =>
      if !fwdVoid && !h.drop && !h.turntable && h.fwdMode = 1
          && !((h.port < 512 || h.port = 520) && cfg.present h.port) then some (fault h)
      else if !fwdVoid && !h.drop && !h.turntable && h.fwdMode = 2
          && decide (s.capacity 0x0A ≤ h.mgroup) then some (fault h)
      else stream fault
    | none => stream fault
  stream (fault : Hit → WalkFault) : Option WalkFault :=
    match m.stream with
    | some h => if s.capacity 0x12 ≤ h.handle then some (fault h) else none
    | none => none

/-- Stage 3 of a pass: the merged action as it applies to the frame, or the walk fault (R82 to R87, R91 to R93). -/
def classify (s : State) (cfg : Cfg) (bank pass : Nat) (key : Nat → List Nat) (errored station directed : Bool) :
    WalkM Merged :=
  match walkAll s bank pass key 16 0 with
  | .error e => .error e
  | .ok hs =>
    let m := (mergeHits hs).applied errored station
    match voidFault s cfg (errored || station || directed) m with
    | some e => .error e
    | none => .ok m

end Sys2Proof.Machine
end

