-- ==== Sys2Proof/Machine/Tables.lean ====
section
/-! DEFINITION. The tables: hashed lookup (R115, R116), the entry formats with their owner rules (R136, R167 to
R170, R254 to R256), learning, aging and flushing of the MAC tables (R123 to R130), and the commands' operations
on one entry (R146). -/

namespace Sys2Proof.Machine

/-! ### Hashing and lookup -/

/-- hash() of R116 over a byte string. -/
def hashBytes (bs : List Byte) : Nat := bs.foldl crc32Byte 0xFFFFFFFF

/-- hash() of R116 over words, least significant byte first. -/
def hashWords (ws : List Nat) : Nat := hashBytes (ws.flatMap (leBytes 4 ·))

/-- The candidate entries of a key in a table of capacity `c`: bucket i0, then bucket i1 (R115, R116). -/
def candidates (c : Nat) (key : List Nat) : List Nat :=
  let b := c / 4
  if b = 0 then []
  else
    let h := hashWords key
    let i0 := h % b
    let i1 := ((h / 65536 + h * 65536) % 2 ^ 32) % b
    (List.range 4).map (i0 * 4 + ·) ++ (List.range 4).map (i1 * 4 + ·)

/-- A hashed target (R115). -/
def isHashed (t : Nat) : Bool := t < 8 || t = 0x0D || t = 0x0E || t = 0x11

/-- The key of an entry's words (R120, R135, R140). -/
def keyOfEntry (t : Nat) (ws : List Word) : List Nat :=
  let w (i : Nat) : Nat := ((ws[i]?).getD 0).toNat
  if t < 8 then [w 0, w 1]
  else if t = 0x0D then [w 0 % 2 ^ 31, w 1]
  else if t = 0x0E then [w 0 % 2 ^ 31, w 1, w 2, w 3, w 4]
  else
    let k0 := bits (w 0) 30 28 + 8 * bits (w 0) 26 26
    if bits (w 0) 30 28 = 4 then [k0, w 2, w 3, w 4, w 5, w 6] else [k0, w 2, w 3]

/-- The VALID bit of an entry's words. -/
def validEntry (t : Nat) (ws : List Word) : Bool :=
  if t < 8 then bitW ((ws[2]?).getD 0) 31 else bitW ((ws[0]?).getD 0) 31

/-- The stored words of an entry. -/
def State.entry (s : State) (t i : Nat) : List Word := (List.range (tblWords t)).map (s.tab t i ·)

/-- The index a lookup finds: the lowest candidate that is VALID and holds the key (R115). -/
def State.lookup (s : State) (t : Nat) (key : List Nat) : Option Nat :=
  (candidates (s.capacity t) key).find? fun i =>
    let ws := s.entry t i
    validEntry t ws && decide (keyOfEntry t ws = key)

/-- Where a new key is placed: the bucket with more free slots, i0 on a tie, its lowest free slot (R123). -/
def State.freeSlot (s : State) (t : Nat) (key : List Nat) : Option Nat :=
  let cs := candidates (s.capacity t) key
  let free (l : List Nat) : List Nat := l.filter fun i => !validEntry t (s.entry t i)
  let f0 := free (cs.take 4)
  let f1 := free (cs.drop 4)
  if f0.length ≥ f1.length then f0.head? else f1.head?

/-! ### Presence of prefix lengths -/

/-- R136: a VALID LPM entry of the VRF and length is in the table. -/
def State.lpmPresent (s : State) (v6 : Bool) (vrf len : Nat) : Bool :=
  s.tables.any fun (k, v) =>
    k % 32 = (if v6 then 0x0E else 0x0D) && (k / 32) % 32 = 0
      && bitW v 31 && fld v 13 8 = vrf && fld v 7 0 = len

/-- The PRESENT bits `lo .. lo + 31` as a word, bit 0 for length `lo` (R136). -/
def State.presentWord (s : State) (v6 : Bool) (vrf lo : Nat) : Word :=
  Word.ofNat ((List.range 32).foldl (fun a j => a + if s.lpmPresent v6 vrf (lo + j) then 2 ^ j else 0) 0)

/-! ### Whole entries as software reads and writes them -/

/-- The writable bits (owner W) of word `w` of a table; the whole word where the format has no owner. -/
def ownerMask (t w : Nat) : Word :=
  if t = 0x12 then
    (if w = 0 then 0xFD803FFF#32 else if w = 1 then 0x1FFFFFFF#32 else 0)
  else if t = 0x13 then
    (if w = 0 then 0xFE8000FF#32 else if w = 1 then 0xFFFFFFFF#32 else 0)
  else if t = 0x14 then
    (if w = 0 then 0xF8FFFFFF#32 else if w = 1 ∨ w = 2 then 0xFFFFFFFF#32
     else if w = 3 then 0x00FFFFFF#32 else 0)
  else if t = 0x15 then
    (if w = 0 then 0xFF01FFFF#32 else if w = 2 then 0xF0F0007F#32
     else if w = 3 ∨ w = 4 then 0xFFFFFFFF#32 else 0)
  else if t = 0x0F then (if 2 ≤ w ∧ w ≤ 6 then 0 else 0xFFFFFFFF#32)
  else 0xFFFFFFFF#32

/-- A word of an entry as a read returns it: presence bits and the gate's interval tag are computed. -/
def State.readWord (s : State) (t i w : Nat) : Word :=
  if t = 0x0F ∧ w = 2 then s.presentWord false i 1
  else if t = 0x0F ∧ 3 ≤ w ∧ w ≤ 6 then s.presentWord true i ((w - 3) * 32 + 1)
  else if t = 0x13 ∧ w = 3 then
    match Store.get none s.psf.tags i with
    | some (c, e) => Config.gateTag c e
    | none => 0
  else s.tab t i w

/-- An entry as a read returns it. -/
def State.readEntry (s : State) (t i : Nat) : List Word := (List.range (tblWords t)).map (s.readWord t i ·)

/-- Whether a write of these words turns the entry's part from not VALID to VALID or carries RESET (R170,
R256). -/
def resets (t : Nat) (old new_ : List Word) : Bool :=
  let o (i : Nat) : Word := (old[i]?).getD 0
  let n (i : Nat) : Word := (new_[i]?).getD 0
  if t = 0x12 then bitW (n 0) 22 || (!bitW (o 0) 31 && bitW (n 0) 31)
  else if t = 0x13 then bitW (n 0) 21 || (!bitW (o 0) 31 && bitW (n 0) 31)
  else if t = 0x14 then bitW (n 0) 25 || (!bitW (o 0) 31 && bitW (n 0) 31)
  else if t = 0x15 then
    bitW (n 2) 27 || (!bitW (o 0) 31 && bitW (n 0) 31) || (!bitW (o 2) 31 && bitW (n 2) 31)
  else false

/-- What RESET does to an entry (R167 to R169, R256). -/
def State.resetEntry (s : State) (t i : Nat) : State :=
  if t = 0x12 then s.setTab t i 0 (setBitW (s.tab t i 0) 25 false)
  else if t = 0x13 then
    let s := s.setTab t i 0 (setBitW (setBitW (s.tab t i 0) 24 false) 22 false)
    let s := s.setTab t i 2 0
    { s with psf := { s.psf with tags := Store.set none s.psf.tags i none } }
  else if t = 0x14 then
    let s := s.setTab t i 0 (setBitW (s.tab t i 0) 26 false)
    let s := s.setTab t i 4 (Word.ofNat (s.tf t i 0 23 0 * 256))
    let s := s.setTab t i 5 (Word.ofNat (s.tf t i 3 23 0 * 256))
    let s := s.setTab t i 6 (Word.ofNat s.mono)
    s.setTab t i 7 (Word.ofNat (s.mono / 2 ^ 32))
  else if t = 0x15 then
    let now := s.monoMs
    let s := s.setTab t i 1 0
    let s := s.setTab t i 5 (setBitW (setBitW (s.tab t i 5) 31 true) 30 false)
    let s := s.setTab t i 6 0
    let s := s.setTab t i 7 0
    let s := s.setTab t i 8 (Word.ofNat now)
    let s := s.setTab t i 9 (Word.ofNat (now + max (s.tf t i 4 31 16) 1))
    let s := s.setTab t i 10 (Word.ofNat (now + s.tf t i 4 15 0))
    let s := s.setTab t i 11 (s.tab t i 16)
    s.setTab t i 12 (s.tab t i 18)
  else s

/-- The words of an entry written under the owner rules, from word `w` on. -/
def State.writeWords (s : State) (t i : Nat) : Nat → List Word → State
  | _, [] => s
  | w, v :: vs =>
    let m := ownerMask t w
    (s.setTab t i w ((s.tab t i w &&& ~~~m) ||| (v &&& m))).writeWords t i (w + 1) vs

/-- A write of an entry (R145): owner rules, RESET and the step from not VALID to VALID included. -/
def State.writeEntry (s : State) (t i : Nat) (ws : List Word) : State :=
  let old := s.entry t i
  let s := s.writeWords t i 0 ws
  if resets t old ws then s.resetEntry t i else s

/-- An entry made invalid (R146 DELETE). -/
def State.deleteEntry (s : State) (t i : Nat) : State :=
  let w := if t < 8 then 2 else 0
  s.setTab t i w (setBitW (s.tab t i w) 31 false)

/-! ### MAC tables -/

/-- The two key words of a MAC entry (R120). -/
def macKey (fid addr : Nat) : List Nat := [addr % 2 ^ 32, at_ fid 16 + addr / 2 ^ 32]

/-- A destination or source lookup in a Platform's MAC table: the hit's index (R120). -/
def State.macLookup (s : State) (p fid addr : Nat) : Option Nat :=
  match s.lookup p (macKey fid addr) with
  | some i => if s.tf p i 2 17 16 = 3 then none else some i
  | none => none

/-- The learn event of R123 applied to Platform `p`'s table; `idx` reports the entry written. -/
def State.learnApply (s : State) (p : Nat) (ev : LearnEv) : State × Option Nat :=
  let dst := at_ ev.destType 16 + ev.dest
  match s.lookup p (macKey ev.fid ev.sa) with
  | some i =>
    let w := s.tab p i 2
    if bitW w 30 then (s, none)
    else
      let moved := decide (fld w 17 0 ≠ dst)
      let w := if moved then setFld w 17 0 dst else w
      let s := s.setTab p i 2 (setBitW (setFld w 26 24 0) 29 false)
      (s.countIf moved .tbl p 1, if moved then some i else none)
  | none =>
    match s.freeSlot p (macKey ev.fid ev.sa) with
    | none => ((s.count .tbl p 3).orReg .tblIntStat 0 8, none)
    | some i =>
      let s := s.setTabs p i 0 [Word.ofNat ev.sa, Word.ofNat (at_ ev.fid 16 + ev.sa / 2 ^ 32),
        Word.ofNat (2 ^ 31 + dst), 0]
      (s.count .tbl p 0, some i)

/-- The indices of a MAC table whose word 2 is listed: the entries that can be VALID. -/
def State.macIndices (s : State) (p : Nat) : List Nat :=
  (s.tables.filter fun (k, _) => k % 32 = p && (k / 32) % 32 = 2).map fun (k, _) => k / 1024

/-- Valid entries of a Platform's MAC table (TBL_MAC_COUNT). -/
def State.macCount (s : State) (p : Nat) : Nat :=
  ((s.macIndices p).filter fun i => s.tb p i 2 31).length

/-- A Platform asleep: in Doze, Sleep or Off, or on its way back (R125, R147, R449). -/
def State.asleep (s : State) (p : Nat) : Bool := (s.plat p).power ≠ .run

/-- A MAC table that sweeps, deletions and copies must wait for: claimed, or its Platform asleep (R143, R147). (DEDUCED, log 35.) -/
def State.tableWaits (s : State) (p : Nat) : Bool := bitOf s.tbl.claimed p || s.asleep p

/-- Work added behind what already waits for Platform `p`'s table. -/
def State.workLater (s : State) (p : Nat) (w : TableWork) : State :=
  s.modPlat p fun x => { x with delPend := x.delPend ++ [w] }

/-- The SPREAD copy of `origin`'s entry removed from Platform `p`'s table (R126, R127). -/
def State.unspread (s : State) (origin : Nat) (key : List Nat) (p : Nat) : State :=
  match s.lookup p key with
  | some i => if s.tb p i 2 29 ∧ s.tf p i 3 31 29 = origin then s.deleteEntry p i else s
  | none => s

/-- The SPREAD copies of an origin entry's address removed from the other Platforms' tables: firmware follows
the origin's aging and deletions into the copies (R126), at once or when the table can be written (R143). -/
def State.dropCopies (s : State) (origin : Nat) (key : List Nat) : List Nat → State
  | [] => s
  | p :: ps =>
    let s :=
      if p = origin then s
      else if s.tableWaits p then s.workLater p (.unspread origin key)
      else s.unspread origin key p
    s.dropCopies origin key ps

/-- A copy of an entry placed in Platform `p`'s table (R126). A static or learned entry of that key stays. (DEDUCED, log 35.) -/
def State.placeCopy (s : State) (origin : Nat) (ws : List Word) (p : Nat) : State :=
  let key := keyOfEntry p ws
  let w2 := setFld ((ws[2]?).getD 0) 31 29 5
  let copy : List Word := [(ws[0]?).getD 0, (ws[1]?).getD 0, setFld w2 26 24 0, Word.ofNat (at_ origin 29)]
  match s.lookup p key with
  | some i => if s.tb p i 2 29 then s.setTabs p i 0 copy else s
  | none =>
    match s.freeSlot p key with
    | some i => s.setTabs p i 0 copy
    | none => (s.count .tbl p 6).orReg .tblIntStat 0 8

/-- A copy placed now, or when the table can be written (R126, R143). -/
def State.spreadTo (s : State) (origin : Nat) (ws : List Word) (p : Nat) : State :=
  if s.tableWaits p then s.workLater p (.spread origin ws) else s.placeCopy origin ws p

/-- One entry aged by `n` sweeps (R124, R125). -/
def State.ageEntry (s : State) (p n maxAge i : Nat) : State :=
  let w := s.tab p i 2
  if bitW w 31 ∧ ¬ bitW w 30 ∧ ¬ bitW w 29 then
    let a := fld w 26 24 + n
    if a ≥ maxAge then
      let key := keyOfEntry p (s.entry p i)
      ((s.deleteEntry p i).dropCopies p key (List.range 8)).count .tbl p 4
    else s.setTab p i 2 (setFld w 26 24 a)
  else s

/-- One sweep of a Platform's table that adds `n` to each AGE (R124, R125). -/
def State.sweep (s : State) (p n : Nat) : State :=
  let maxAge := s.cfg.f .tblAge 0 18 16
  (s.macIndices p).foldl (fun s i => s.ageEntry p n maxAge i) s

/-- Entries of a table deleted where `sel` selects them, each counted in FLUSHED, with the origin and key of each
learned one, whose copies firmware then removes (R126, R128, R129). -/
def State.deleteWhere (s : State) (p : Nat) (sel : Nat → Bool) : State × List (Nat × List Nat) :=
  let l := (s.macIndices p).filter fun i => s.tb p i 2 31 && sel i
  let origins := (l.filter fun i => !s.tb p i 2 30 && !s.tb p i 2 29).map fun i => (p, keyOfEntry p (s.entry p i))
  (l.foldl (fun s i => (s.deleteEntry p i).count .tbl p 5) s, origins)

/-- The same on several tables, and then the copies of what they lost. -/
def State.deleteAll (s : State) (ps : List Nat) (sel : State → Nat → Nat → Bool) : State :=
  let (s, l) := ps.foldl (fun (s, l) p => let (s, m) := s.deleteWhere p (sel s p); (s, l ++ m)) (s, [])
  l.foldl (fun s o => s.dropCopies o.1 o.2 (List.range 8)) s

/-- R129: an entry is learned or SPREAD and has a destination; static entries stay. -/
def State.hasDest (s : State) (destType dest p i : Nat) : Bool :=
  !s.tb p i 2 30 && s.tf p i 2 17 0 = at_ destType 16 + dest

/-- The learned entries of a Platform with an AGE, as MRAM keeps them. -/
def State.keptOfAge (s : State) (p a : Nat) : List KeptAddr :=
  (s.macIndices p).filterMap fun i =>
    let w := s.tab p i 2
    if bitW w 31 ∧ ¬ bitW w 30 ∧ ¬ bitW w 29 ∧ fld w 26 24 = a then
      some { key := keyOfEntry p (s.entry p i), dest := fld w 17 0 }
    else none

/-- The addresses written to MRAM at a completed sweep: up to 16,384, those of lowest AGE first (R130). -/
def State.keepAddrs (s : State) (p : Nat) : State :=
  let l := ((List.range 8).flatMap (s.keptOfAge p ·)).take 16384
  { s with boot := { s.boot with kept := s.boot.kept.set p l } }

/-- R129 on every Platform's table: now, or when the table can be written (R143, R147). -/
def State.deleteEverywhere (s : State) (destType dest : Nat) : State :=
  let wait := (List.range 8).filter s.tableWaits
  let s := wait.foldl (fun s p => s.workLater p (.dest destType dest)) s
  s.deleteAll ((List.range 8).filter fun p => !wait.contains p) fun s p i => s.hasDest destType dest p i

/-- Member `m` of a link-aggregation group (R133). -/
def State.lagMember (s : State) (g m : Nat) : Nat :=
  s.tf 0x0C g (1 + m / 3) (10 * (m % 3) + 9) (10 * (m % 3))

/-- The first COUNT members of a group, COUNT above 16 acting as 16 (R133). -/
def State.lagMembers (s : State) (g : Nat) : List Nat :=
  (List.range (min (s.tf 0x0C g 0 4 0) 16)).map (s.lagMember g ·)

/-- The groups of which a port is the last member whose link is up (R129). -/
def State.lastMemberOf (s : State) (port : Nat) : List Nat :=
  (List.range 256).filter fun g =>
    s.tb 0x0C g 0 31 && (s.lagMembers g).contains port
      && (s.lagMembers g).all (fun m => m = port || !(s.port m).link)

/-- R129: addresses learned on a port, and on the groups whose last member with link it was. -/
def State.forgetPort (s : State) (port : Nat) : State :=
  (s.lastMemberOf port).foldl (fun s g => s.deleteEverywhere 1 g) (s.deleteEverywhere 0 port)

/-- The bucket that the flush in progress has reached in Platform `p`'s table (R128). -/
def State.flushAt (s : State) (p : Nat) : Nat := (s.tbl.flushPos[p]?).getD 0

/-- The criteria of the flush in progress select entry `i` of Platform `p`, in a bucket not yet swept (R128). -/
def State.flushes (s : State) (p i : Nat) : Bool :=
  let w := s.tbl.flushWord
  let e := s.tab p i 2
  decide (s.flushAt p ≤ i / 4) && (bitW w 30 || !bitW e 30)
    && (!bitW w 29 || decide (s.tf p i 1 27 16 = fld w 11 0))
    && (fld w 28 27 = 0 || decide (fld e 17 0 = at_ (fld w 28 27 - 1) 16 + s.tbl.flushDest))

/-- Tables swept whole by the flush in progress, which has no more to do on them (R128). -/
def State.flushTables (s : State) (ps : List Nat) : State :=
  let s := s.deleteAll ps fun s p i => s.flushes p i
  { s with tbl := { s.tbl with flushPlats := s.tbl.flushPlats ^^^ (s.tbl.flushPlats &&& maskOf 8 fun p => ps.contains p) } }

/-- One piece of work on Platform `p`'s table. -/
def State.doWork (s : State) (p : Nat) (w : TableWork) : State :=
  match w with
  | .flush => s.flushTables [p]
  | .dest ty d => s.deleteAll [p] fun s p i => s.hasDest ty d p i
  | .unspread origin key => s.unspread origin key p
  | .spread origin ws => s.placeCopy origin ws p

/-- The flush in progress has not yet swept Platform `p`'s table (R128). -/
def State.flushOwes (s : State) (p : Nat) : Bool := s.tbl.flushBusy && bitOf s.tbl.flushPlats p

/-- The work that waits for Platform `p`'s table, in order: a flush that was sweeping it when its Platform fell asleep comes first.
(DEDUCED, log 35.) -/
def State.tableWork (s : State) (p : Nat) : List TableWork :=
  let l := (s.plat p).delPend
  if s.flushOwes p && !l.contains .flush then .flush :: l else l

/-- What waited for a claim's release or a Platform's wake: the missed sweeps in one, up to 7, then the deletions and
copies in order (R125, R143, R147). -/
def State.catchUpTable (s : State) (p : Nat) : State :=
  if s.tableWaits p then s
  else
    let work := s.tableWork p
    let n := min (s.plat p).missed 7
    let s := s.modPlat p fun x => { x with delPend := [], missed := 0 }
    let s := if n = 0 then s else (s.sweep p n).keepAddrs p
    work.foldl (fun s w => s.doWork p w) s

end Sys2Proof.Machine
end

