-- ==== Sys2Proof/Machine/Forward.lean ====
section
/-! DEFINITION. Stage 4 (R117 to R141): VLAN and class, source learning, stream identification, bridging and
routing, and the expansion of a destination into egress ports. -/

namespace Sys2Proof.Machine

/-! ### The outer headers -/

/-- The parser's settings in a view of the settings (R112). -/
def Cfg.parseCfg (c : Cfg) : ParseCfg :=
  { tpids := ((List.range 4).filter (c.b .clsTpid · 31)).map (c.f .clsTpid · 15 0)
    vxlanEn := c.b .clsParseCtrl 0 31
    greEn := c.b .clsParseCtrl 0 30
    ipipEn := c.b .clsParseCtrl 0 29
    vxlanPort := c.f .clsParseCtrl 0 15 0 }

/-- Where the frame ends for the parser (R68). -/
def Frame.fend (f : Frame) : Nat := if f.trunc then f.bytes.length else f.bytes.length - 4

/-- The frame's bytes before its FCS. -/
def Frame.body (f : Frame) : List Byte := f.bytes.take f.fend

/-- The settings that bind a frame (R28). -/
def State.frameCfg (s : State) (f : Frame) : Cfg := s.cfgAt f.epoch

/-- The frame's own outer headers, parsed from byte 0 (R117). -/
def State.outer (s : State) (f : Frame) : Parsed :=
  parse (s.frameCfg f).parseCfg f.bytes f.fend (some (0, .eth))

/-- The frame's first VLAN tag holds a VID other than 0 (R118). -/
def Parsed.vidTagged (r : Parsed) : Bool := !r.tags.isEmpty && r.tci 0 % 4096 ≠ 0

/-- An IP header that stage 4 uses: an odd header of R72 is none. -/
def Parsed.ipv4 (r : Parsed) : Bool := r.l3 = 1 && r.ip.isSome
/-- The same for IPv6. -/
def Parsed.ipv6 (r : Parsed) : Bool := r.l3 = 2 && r.ip.isSome

/-- Source address of the IP header, 0 without one. -/
def Parsed.ipSrc (r : Parsed) (bs : List Byte) : Nat :=
  if r.ipv4 then r.ipField bs 12 4 else if r.ipv6 then r.ipField bs 8 16 else 0

/-- Destination address of the IP header, 0 without one. -/
def Parsed.ipDst (r : Parsed) (bs : List Byte) : Nat :=
  if r.ipv4 then r.ipField bs 16 4 else if r.ipv6 then r.ipField bs 24 16 else 0

/-- DSCP of the IP header. -/
def Parsed.dscp (r : Parsed) (bs : List Byte) : Nat :=
  if r.ipv4 then r.ipField bs 1 1 / 4 else bits (r.ipField bs 0 2) 11 6

/-- TTL or hop limit. -/
def Parsed.ttl (r : Parsed) (bs : List Byte) : Nat :=
  if r.ipv4 then r.ipField bs 8 1 else r.ipField bs 7 1

/-! ### Port sets, groups and link aggregation -/

/-- The ports a port set names directly, in ascending number (R131). -/
def State.portSet (s : State) (n : Nat) : List Nat :=
  ((List.range 512).filter fun k => s.tb 0x0B n (k / 32) (k % 32))
    ++ (if s.tb 0x0B n 16 0 then [520] else [])
    ++ (((List.range 16).filter fun g => s.tb 0x0B n 16 (16 + g)).map (528 + ·))

/-- The link-aggregation groups a port set names. -/
def State.portSetLags (s : State) (n : Nat) : List Nat :=
  (List.range 256).filter fun g => s.tb 0x0B n (17 + g / 32) (g % 32)

/-- A port is in a port set. -/
def State.inPortSet (s : State) (n p : Nat) : Bool :=
  if p < 512 then s.tb 0x0B n (p / 32) (p % 32)
  else if p = 520 then s.tb 0x0B n 16 0
  else 528 ≤ p && p ≤ 543 && s.tb 0x0B n 16 (16 + (p - 528))

/-- The link-aggregation group of a port, if its port record has IN_LAG (R121). -/
def State.ingressLag (s : State) (p : Nat) : Option Nat :=
  if s.tb 0x09 p 0 27 then some (s.tf 0x09 p 0 23 16) else none

/-- The bytes of the fields TBL_LAG_HASH selects (R133). An absent field counts as 0; how many bytes an IP address that is absent
has, 4 or 16, the rule does not say: it has 4 (DESIGN CHOICE, log 32). -/
def lagHashBytes (sel : Nat) (f : Frame) (r : Parsed) : List Byte :=
  let ipBytes := if r.ipv6 then 16 else 4
  let part (i n v : Nat) : List Byte := if bitOf sel i then beBytes n v else []
  part 0 6 (r.da f.bytes) ++ part 1 6 (r.sa f.bytes) ++ part 2 2 f.vid ++ part 3 2 r.etherType
    ++ part 4 ipBytes (r.ipSrc f.bytes) ++ part 5 ipBytes (r.ipDst f.bytes) ++ part 6 1 r.proto
    ++ part 7 2 r.sport ++ part 8 2 r.dport ++ part 9 2 f.port ++ part 10 3 (f.stream.getD 0)

/-- The member of a group that a frame's copy goes to (R133); none when the group is not VALID or has no member
whose link is up. -/
def State.lagPick (s : State) (f : Frame) (r : Parsed) (g : Nat) : Option Nat :=
  if g < 256 ∧ s.tb 0x0C g 0 31 then
    let up := (s.lagMembers g).filter fun m => (s.port m).link
    if up.isEmpty then none
    else up[hashBytes (lagHashBytes ((s.frameCfg f).f .tblLagHash 0 10 0) f r) % up.length]?
  else none

/-- Where a frame goes before its destination is expanded. -/
inductive Target
  | port (n : Nat)
  | lag (g : Nat)
  | set (n : Nat)
  | mgroup (g : Nat)
  deriving DecidableEq, Repr

/-- Copies for link-aggregation groups: the member chosen, or NO_DEST_DROP (R133). -/
def State.lagCopies (s : State) (f : Frame) (r : Parsed) : List Nat → State × List Nat
  | [] => (s, [])
  | g :: gs =>
    match s.lagPick f r g with
    | some m => let (s, l) := s.lagCopies f r gs; (s, m :: l)
    | none => (s.count .tbl f.plat 13).lagCopies f r gs

/-- A number list in ascending order. -/
def insertNat (n : Nat) : List Nat → List Nat
  | [] => [n]
  | m :: r => if n ≤ m then n :: m :: r else m :: insertNat n r

/-- A number list sorted in ascending order. -/
def sortNat (l : List Nat) : List Nat := l.foldr insertNat []

/-- The expansion of a port set with the exclusions of R121 (R131, R132); none where no copy is left, and the frame is dropped.
A Coupler frame is never sent back over the Coupler (R280). -/
def State.expandSet (s : State) (f : Frame) (r : Parsed) (set : Option Nat) : State × Option (List Nat) :=
  let lag := s.ingressLag f.port
  let members := match lag with | some g => s.lagMembers g | none => []
  let ports := match set with
    | some n => (s.portSet n).filter fun p => p ≠ f.port && !members.contains p && !(f.cpl.isSome && p = 520)
    | none => []
  let lags := match set with
    | some n => (s.portSetLags n).filter fun g => some g ≠ lag
    | none => []
  if ports.isEmpty && lags.isEmpty then (s.count .tbl f.plat 13, none)
  else
    let (s, l) := s.lagCopies f r lags
    (s, some (sortNat (ports ++ l)))

/-- The egress ports of a target (R131 to R133); none where the frame is dropped. -/
def State.expand (s : State) (f : Frame) (r : Parsed) : Target → State × Option (List Nat)
  | .port n => (s, some (if f.cpl.isSome && n = 520 then [] else [n]))
  | .lag g => let (s, l) := s.lagCopies f r [g]; (s, some l)
  | .set n => s.expandSet f r (some n)
  | .mgroup g => s.expandSet f r (if s.tb 0x0A g 0 31 then some (s.tf 0x0A g 0 12 0) else none)

/-- The link-aggregation groups among a target's destinations, after the exclusions of R121. -/
def State.targetLags (s : State) (f : Frame) : Target → List Nat
  | .port _ => []
  | .lag g => [g]
  | .set n => (s.portSetLags n).filter fun g => some g ≠ s.ingressLag f.port
  | .mgroup g =>
    if s.tb 0x0A g 0 31 then (s.portSetLags (s.tf 0x0A g 0 12 0)).filter fun g => some g ≠ s.ingressLag f.port else []

/-- How many of a target's groups have no usable member (R132, R133, R193): link-aggregation groups, and the multicast group itself
where its expansion leaves no copy. -/
def State.lostGroups (s : State) (f : Frame) (r : Parsed) (t : Target) : Nat :=
  ((s.targetLags f t).filter fun g => (s.lagPick f r g).isNone).length
    + match t with | .mgroup _ => b2n (s.expand f r t).2.isNone | _ => 0

/-! ### Learning -/

/-- A learn event posted to a Platform's queue of 4,096 (R122, R123). -/
def State.postLearn (s : State) (p : Nat) (ev : LearnEv) : State :=
  if (s.plat p).learnQ.length < 4096 then s.modPlat p fun x => { x with learnQ := x.learnQ ++ [ev] }
  else (s.count .tbl p 2).orReg .tblIntStat 0 8

/-- The ingress destination of a port: its type (0 port, 1 group) and number (R121). -/
def State.ingressDest (s : State) (p : Nat) : Nat × Nat :=
  match s.ingressLag p with | some g => (1, g) | none => (0, p)

/-- The conditions of R122 under which the source is looked up, but for the error mark. -/
def State.mayLearn (s : State) (f : Frame) (r : Parsed) (dropRule : Bool) : Bool :=
  !dropRule && !bitOf (r.sa f.bytes) 40 && s.tb 0x08 f.vid 0 29 && s.tb 0x09 f.port 0 31
    && bitOf ((s.frameCfg f).f .tblLearnCtrl 0 7 0) f.plat

/-- R122 posts a learn event for a frame that did not come over the Coupler: no entry, a learned entry with another
destination, or one whose AGE is not 0. -/
def State.posts (s : State) (f : Frame) (r : Parsed) (dropRule : Bool) : Bool :=
  let (ty, d) := s.ingressDest f.port
  f.cpl.isNone && s.mayLearn f r dropRule &&
    match s.lookup f.plat (macKey (s.tf 0x08 f.vid 0 11 0) (r.sa f.bytes)) with
    | some i =>
      let w := s.tab f.plat i 2
      !bitW w 30 && (decide (fld w 17 0 ≠ at_ ty 16 + d) || decide (fld w 26 24 ≠ 0))
    | none => true

/-- R122: the source lookup finds DROP_SA. -/
def State.dropsSa (s : State) (f : Frame) (r : Parsed) (dropRule : Bool) : Bool :=
  s.mayLearn f r dropRule &&
    match s.lookup f.plat (macKey (s.tf 0x08 f.vid 0 11 0) (r.sa f.bytes)) with
    | some i => s.tb f.plat i 2 27
    | none => false

/-- The source lookup of the first pass (R122, R278); the flag says that the frame is dropped. -/
def State.sourceLookup (s : State) (f : Frame) (r : Parsed) (dropRule : Bool) : State × Bool :=
  let fid := s.tf 0x08 f.vid 0 11 0
  let sa := r.sa f.bytes
  let (ty, d) := s.ingressDest f.port
  let crossed := match f.cpl with | some h => h.learn | none => false
  let s := if crossed then s.postLearn f.plat ⟨fid, sa, 0, 520⟩
    else if s.posts f r dropRule then s.postLearn f.plat ⟨fid, sa, ty, d⟩ else s
  if s.dropsSa f r dropRule then (s.count .tbl f.plat 12, true) else (s, false)


/-! ### Stream identification -/

/-- The key of an identification method for a frame, if the frame has its fields (R140). -/
def streamKey (f : Frame) (r : Parsed) (method : Nat) : Option (List Nat) :=
  if method = 4 then
    let w6 := at_ (r.dscp f.bytes) 26 + at_ r.proto 16 + r.dport
    if r.ipv4 then some [4, 0, 0, 0, r.ipDst f.bytes, w6]
    else if r.ipv6 then
      let d := r.ipDst f.bytes
      some [12, bits d 127 96, bits d 95 64, bits d 63 32, d % 2 ^ 32, w6]
    else none
  else
    let a := if method = 2 then r.sa f.bytes else r.da f.bytes
    some [method, a % 2 ^ 32, at_ f.vid 16 + a / 2 ^ 32]

/-- The post-checks of an entry found (R139). -/
def State.streamPost (s : State) (f : Frame) (r : Parsed) (method i : Nat) : Bool :=
  let w := s.tab 0x11 i 0
  let tagging := fld w 25 24
  (!bitW w 27 || s.tf 0x11 i 1 9 0 = f.port)
    && (tagging = 0 || (tagging = 1 && r.vidTagged) || (tagging = 2 && !r.vidTagged))
    && !(method = 4 && bitW w 23 && r.ipv4 && (s.tab 0x11 i 7).toNat ≠ r.ipSrc f.bytes)

/-- The first entry found by the methods in order IP, active, null, source (R139). -/
def State.identify (s : State) (f : Frame) (r : Parsed) : Option (Nat × Nat) :=
  [4, 3, 1, 2].findSome? fun m =>
    match streamKey f r m with
    | none => none
    | some k =>
      match s.lookup 0x11 k with
      | some i => if s.streamPost f r m i then some (m, i) else none
      | none => none

/-- Stream identification of a pass (R139, R89, R279). An overwrite noted on an earlier pass stands where a rule of this pass
names the stream, and falls where this pass identifies by another method. (DESIGN CHOICE, log 64: R141.) -/
def State.identifyStream (s : State) (f : Frame) (r : Parsed) : State × Frame :=
  if f.streamRule then (s, f)
  else
    match f.cpl.bind (·.handle) with
    | some h => (s, { f with stream := some h })
    | none =>
      match s.identify f r with
      | none => (s, f)
      | some (m, i) =>
        (s.countIf (!f.identified) .tbl f.plat 18,
          { f with
            stream := some (s.tf 0x11 i 0 16 0), identified := true
            overEntry := if m = 3 ∧ s.tb 0x11 i 5 31 then some i else none })

/-! ### Bridging and routing -/

/-- What stage 4 decided for a frame. -/
inductive Stage4
  /-- Dropped, and counted. -/
  | drop
  /-- The LPM lookup needs another pass (R96). -/
  | cont
  /-- One pass more than MAX_PASSES was needed (R97); counted. -/
  | limit
  /-- Forwarded, or left to a disposition or a station entry. -/
  | to (t : Option Target)
  deriving DecidableEq, Repr

/-- Bridging (R121). -/
def State.bridge (s : State) (f : Frame) (r : Parsed) : State × Stage4 :=
  let v := s.tab 0x08 f.vid 0
  let da := r.da f.bytes
  let flood := Stage4.to (some (.set (s.tf 0x08 f.vid 3 12 0)))
  match s.macLookup f.plat (fld v 11 0) da with
  | some i =>
    let w := s.tab f.plat i 2
    let (ty, d) := s.ingressDest f.port
    if bitW w 28 then (s.count .tbl f.plat 11, .drop)
    else if fld w 17 0 = at_ ty 16 + d then (s.count .tbl f.plat 10, .drop)
    else
      let n := fld w 15 0
      (s, .to (some (if fld w 17 16 = 0 then .port n else if fld w 17 16 = 1 then .lag n else .mgroup n)))
  | none =>
    if da = 0xFFFFFFFFFFFF then (s, flood)
    else if bitOf da 40 ∧ bitW v 27 then (s.count .tbl f.plat 8, .drop)
    else if ¬ bitOf da 40 ∧ bitW v 28 then (s.count .tbl f.plat 8, .drop)
    else (s.count .tbl f.plat 7, flood)

/-- R134: the destination address of an IP frame is unicast. -/
def ipUnicast (v6 : Bool) (d : Nat) : Bool :=
  if v6 then decide (1 < d) && d / 2 ^ 120 ≠ 0xFF
  else d / 2 ^ 24 ≠ 0 && d / 2 ^ 24 ≠ 127 && decide (d / 2 ^ 24 < 224)

/-- A destination address is one of the valid router MACs (R134). -/
def Cfg.routerMac (c : Cfg) (da : Nat) : Bool :=
  (List.range 4).any fun i =>
    c.b .tblRouterMacHi i 31
      && decide (c.f .tblRouterMacHi i 15 0 * 2 ^ 32 + (c .tblRouterMacLo i).toNat = da)

/-- The routing test of R134. -/
def State.routed (s : State) (f : Frame) (r : Parsed) : Bool :=
  s.tb 0x08 f.vid 0 30 && (s.frameCfg f).routerMac (r.da f.bytes) && f.sta.isNone
    && ((r.ipv4 && ipUnicast false (r.ipDst f.bytes)) || (r.ipv6 && ipUnicast true (r.ipDst f.bytes)))

/-- Result of an LPM lookup. -/
inductive LpmRes
  | found (nh : Nat)
  | cont (l : Nat)
  | miss
  deriving DecidableEq, Repr

/-- The key of an LPM probe: the address with the bits below length `l` cleared (R135). -/
def lpmKey (v6 : Bool) (vrf l addr : Nat) : List Nat :=
  let w := if v6 then 128 else 32
  let a := addr / 2 ^ (w - l) * 2 ^ (w - l)
  if v6 then [vrf * 256 + l, bits a 127 96, bits a 95 64, bits a 63 32, a % 2 ^ 32] else [vrf * 256 + l, a]

/-- The probes of one pass from length `l` down, with `left` probes to go (R135). -/
def State.lpmProbe (s : State) (v6 : Bool) (vrf addr : Nat) : Nat → Nat → LpmRes
  | 0, _ => .miss
  | l + 1, left =>
    if s.lpmPresent v6 vrf (l + 1) then
      match left with
      | 0 => .cont (l + 1)
      | k + 1 =>
        let t := if v6 then 0x0E else 0x0D
        match s.lookup t (lpmKey v6 vrf (l + 1) addr) with
        | some i => .found (s.tf t i (if v6 then 5 else 2) 16 0)
        | none => s.lpmProbe v6 vrf addr l k
    else s.lpmProbe v6 vrf addr l left

/-- How many probes that makes. -/
def State.lpmProbes (s : State) (v6 : Bool) (vrf addr : Nat) : Nat → Nat → Nat
  | 0, _ => 0
  | l + 1, left =>
    if s.lpmPresent v6 vrf (l + 1) then
      match left with
      | 0 => 0
      | k + 1 =>
        match s.lookup (if v6 then 0x0E else 0x0D) (lpmKey v6 vrf (l + 1) addr) with
        | some _ => 1
        | none => 1 + s.lpmProbes v6 vrf addr l k
    else s.lpmProbes v6 vrf addr l left

/-- A miss of the LPM lookup (R135). -/
def State.lpmMiss (s : State) (f : Frame) (vrf : Nat) : State × Stage4 :=
  let s := s.count .tbl f.plat 15
  if s.tb 0x0F vrf 0 29 then (s, .to (some (.port (528 + s.tf 0x0F vrf 0 27 24)))) else (s, .drop)

/-- A routed frame takes its destination from its next hop (R138). -/
def State.nextHop (s : State) (f : Frame) (vrf nh : Nat) : State × Frame × Stage4 :=
  let w := s.tab 0x10 nh 0
  if ¬ bitW w 31 then let (s, r) := s.lpmMiss f vrf; (s, f, r)
  else if bitW w 30 then (s.count .tbl f.plat 16, f, .drop)
  else if bitW w 29 then (s, f, .to (some (.port (528 + fld w 27 24))))
  else (s, { f with route := some nh }, .to (some (if bitW w 28 then .lag (fld w 9 0) else .port (fld w 9 0))))

/-- TT_LIMIT_DROP or TT_FULL_DROP counted (R97, R101, R112). -/
def State.ttDrop (s : State) (p slot : Nat) : State := (s.count .cls p slot).orReg .clsIntStat 0 8

/-- The LPM lookup, first or continued, of one pass (R135, R137). -/
def State.lpm (s : State) (f : Frame) (st : LpmState) : State × Frame × Stage4 :=
  let f := { f with lpm := none }
  let s := s.perf f.plat 5 (perfPort f.port) none (s.lpmProbes st.v6 st.vrf st.addr st.len 6)
  match s.lpmProbe st.v6 st.vrf st.addr st.len 6 with
  | .found nh => s.nextHop f st.vrf nh
  | .cont l =>
    if f.pass < (s.frameCfg f).f .clsTtCtrl f.plat 13 12 then
      (s, { f with lpm := some { st with len := l } }, .cont)
    else (s.ttDrop f.plat 3, f, .limit)
  | .miss =>
    let w := s.tab 0x0F st.vrf 0
    if st.v6 ∧ bitW w 30 then s.nextHop f st.vrf (s.tf 0x0F st.vrf 1 16 0)
    else if ¬ st.v6 ∧ bitW w 31 then s.nextHop f st.vrf (fld w 16 0)
    else let (s, r) := s.lpmMiss f st.vrf; (s, f, r)

/-- Routing of a frame on its first lookup: the TTL test, then the LPM lookup (R135, R138). -/
def State.routeFrame (s : State) (f : Frame) (r : Parsed) : State × Frame × Stage4 :=
  if r.ttl f.bytes ≤ 1 then
    let s := s.count .tbl f.plat 17
    let c := s.frameCfg f
    if c.b .tblRouteCtrl 0 31 then (s, f, .to (some (.port (528 + c.f .tblRouteCtrl 0 27 24)))) else (s, f, .drop)
  else
    s.lpm f { vrf := s.tf 0x08 f.vid 0 21 16, v6 := r.ipv6, len := if r.ipv6 then 128 else 32,
              addr := r.ipDst f.bytes }

/-- A destination that routing gave, noted where it is a host queue group (R385). -/
def noteRouted (f : Frame) (x : Stage4) : Frame :=
  match x with
  | .to (some (.port n)) => if 528 ≤ n then { f with hostWhy := some (n - 528, 4) } else f
  | _ => f

/-- R118: the frame is acceptable on its port. -/
def acceptable (accept : Nat) (r : Parsed) : Bool :=
  accept = 0 || (accept = 1 && r.vidTagged) || (accept = 2 && !r.vidTagged)

/-- What stage 4 assigns to a frame by its outer tags and its port record: the VID, the PCP and the default class; none where
the frame is not acceptable or its VLAN does not take it (R117, R118). -/
def State.vlanOf (s : State) (f : Frame) (r : Parsed) : Option (Nat × Nat × Nat) :=
  let pr := s.tab 0x09 f.port 0
  let tagVid := r.tci 0 % 4096
  let vid := if tagVid = 0 then fld pr 11 0 else tagVid
  let pcp := if r.tags.isEmpty then fld pr 26 24 else r.tci 0 / 8192
  if ¬ acceptable (fld pr 29 28) r ∨ ¬ s.tb 0x08 vid 0 31 ∨ vid = 0 ∨ vid = 4095
      ∨ (bitW pr 30 ∧ ¬ s.inPortSet (s.tf 0x08 vid 1 12 0) f.port) then none
  else some (vid, pcp, bits (s.tab 0x09 f.port 1).toNat (3 * pcp + 2) (3 * pcp))

/-- Stage 4 of a frame with an error mark (R43, R88): its VLAN, its default class and its stream handle. It is not learned and
not forwarded, and no test of stage 4 drops it (DEDUCED, log 34). -/
def State.stage4Errored (s : State) (f : Frame) (r : Parsed) : State × Frame :=
  match s.vlanOf f r with
  | none => (s, f)
  | some (vid, pcp, dflt) => s.identifyStream { f with vid := vid, pcp := pcp, hasVlan := true, cls := some dflt } r

/-- Stage 4 of a pass that starts no LPM continuation (R117). `clsSet` says that a rule of the pass set the class,
`dropRule` that its disposition is DROP, `decided` that it has a disposition. -/
def State.stage4First (s : State) (f : Frame) (r : Parsed) (clsSet dropRule decided : Bool) :
    State × Frame × Stage4 :=
  match s.vlanOf f r with
  | none => (s.count .tbl f.plat 9, f, .drop)
  | some (vid, pcp, dflt) =>
    let f := { f with vid := vid, pcp := pcp, hasVlan := true
                      cls := if f.pass = 0 ∧ ¬ clsSet ∧ f.cls.isNone then some dflt else f.cls }
    let f := { f with posts := if f.pass = 0 then s.posts f r dropRule else f.posts }
    let (s, dropSa) := if f.pass = 0 then s.sourceLookup f r dropRule else (s, false)
    if dropSa then (s, f, .drop)
    else
      let (s, f) := s.identifyStream f r
      if decided ∨ f.sta.isSome then (s, f, .to none)
      else if s.routed f r then let (s, f, x) := s.routeFrame f r; (s, noteRouted f x, x)
      else let (s, d) := s.bridge f r; (s, f, d)

/-- Stage 4 of a pass (R117, R96). On a pass whose disposition is TURNTABLE a continued lookup goes on; where it
ends, its result is discarded and the next pass looks up anew (R86; DESIGN CHOICE, log 62). -/
def State.stage4 (s : State) (f : Frame) (r : Parsed) (clsSet dropRule decided turn : Bool) :
    State × Frame × Stage4 :=
  match f.lpm with
  | some st =>
    if turn then
      let s := s.perf f.plat 5 (perfPort f.port) none (s.lpmProbes st.v6 st.vrf st.addr st.len 6)
      match s.lpmProbe st.v6 st.vrf st.addr st.len 6 with
      | .cont l => (s, { f with lpm := some { st with len := l } }, .to none)
      | _ => (s, { f with lpm := none }, .to none)
    else if decided then (s, { f with lpm := none }, .to none)
    else let (s, f, x) := s.lpm f st; (s, noteRouted f x, x)
  | none => s.stage4First f r clsSet dropRule decided

end Sys2Proof.Machine
end

