-- ==== Sys2Proof/Machine/Edits.lean ====
section
/-! DEFINITION. Stage 10: the edits of a copy that leaves a line port (R119, R138, R141, R266, R267), its egress
length (R212), and the Coupler frame (R271). -/

namespace Sys2Proof.Machine

/-- `n` bytes taken out at offset `o`. -/
def cutOut (b : List Byte) (o n : Nat) : List Byte := b.take o ++ b.drop (o + n)

/-- Bytes put in at offset `o`. -/
def putIn (b : List Byte) (o : Nat) (x : List Byte) : List Byte := b.take o ++ x ++ b.drop o

/-- A 16-bit Internet checksum after the word `m` it covers became `m'`. -/
def csumUpdate (hc m m' : Nat) : Nat :=
  let x := (65535 - hc) + (65535 - m) + m'
  let x := x % 65536 + x / 65536
  let x := x % 65536 + x / 65536
  65535 - x

/-- TTL or hop limit lowered by 1, with the IPv4 header checksum updated (R138). -/
def lowerTtl (b : List Byte) (r : Parsed) : List Byte :=
  match r.ip with
  | none => b
  | some o =>
    if r.l3 = 1 then
      let m := be b (o + 8) 2
      let b' := overlay b (o + 8) (beBytes 1 (be b (o + 8) 1 - 1))
      overlay b' (o + 10) (beBytes 2 (csumUpdate (be b (o + 10) 2) m (m - 256)))
    else overlay b (o + 7) (beBytes 1 (be b (o + 7) 1 - 1))

/-- The routing edit of the addresses and the TTL (R138). -/
def State.routeEdit (s : State) (f : Frame) (r : Parsed) (b : List Byte) : List Byte :=
  match f.route with
  | none => b
  | some nh =>
    let sel := s.tf 0x10 nh 3 1 0
    let b := overlay b 0 (beBytes 2 (s.tf 0x10 nh 1 15 0) ++ beBytes 4 (s.tab 0x10 nh 2).toNat)
    let b := overlay b 6
      (beBytes 2 (s.cfg.f .tblRouterMacHi sel 15 0) ++ beBytes 4 (s.cfg .tblRouterMacLo sel).toNat)
    lowerTtl b r

/-- The overwrite of the destination address (R141). -/
def State.overEdit (s : State) (f : Frame) (b : List Byte) : List Byte :=
  match f.overEntry with
  | none => b
  | some i => overlay b 0 (beBytes 2 (s.tf 0x11 i 5 15 0) ++ beBytes 4 (s.tab 0x11 i 4).toNat)

/-- VID and PCP of the outer tag a copy leaves with: the frame's, then the routing edit's VID, then the overwrite's
(R119, R138, R141). `pcp` is the received or default PCP. (DESIGN CHOICE, log 64: of the two VIDs the overwrite's stands.) -/
def State.outVlan (s : State) (f : Frame) (pcp : Nat) : Nat × Nat :=
  match f.overEntry with
  | some i => (s.tf 0x11 i 5 27 16, s.tf 0x11 i 5 30 28)
  | none => ((match f.route with | some nh => s.tf 0x10 nh 1 27 16 | none => f.vid), pcp)

/-- The outer tag of R119: removed where the port is in UNTAG_SET of the frame's VLAN, else kept with the new VID, or
added. `tag` is the offset of the copy's first tag; the answer gives the bytes and the offset after the last VLAN
tag, `last` being that offset before the edit. -/
def State.tagEdit (s : State) (f : Frame) (port : Nat) (b : List Byte) (tag : Option Nat) (last : Nat) :
    List Byte × Nat :=
  if ¬ f.hasVlan then (b, last)
  else
    let untag := s.inPortSet (s.tf 0x08 f.vid 2 12 0) port
    match tag with
    | some o =>
      if untag then (cutOut b o 4, if last = o + 4 then 12 else last - 4)
      else
        let tci := be b (o + 2) 2
        let (vid, pcp) := s.outVlan f (tci / 8192)
        (overlay b (o + 2) (beBytes 2 (at_ pcp 13 + at_ (bits tci 12 12) 12 + vid)), last)
    | none =>
      if untag then (b, last)
      else
        let (vid, pcp) := s.outVlan f f.pcp
        (putIn b 12 (beBytes 2 0x8100 ++ beBytes 2 (at_ pcp 13 + vid)), 16)

/-- A copy as stage 10 makes it: its bytes before the FCS and before the MAC's padding, and what was counted. -/
structure Edited where
  bytes : List Byte
  removed : Bool := false
  encoded : Bool := false
  /-- How far the bytes after the tags have moved. -/
  shift : Int := 0
  deriving DecidableEq, Repr

/-- ENCODE of a frame on a port: 0 where no encoding is written (R266, R268). -/
def State.encodeKind (s : State) (f : Frame) (port : Nat) : Nat :=
  match f.seq, f.stream with
  | some _, some h => if s.cfg.b .redPortCfg port 29 then 0 else s.tf 0x15 h 0 25 24
  | _, _ => 0

/-- The sequence encoding written (R266, R267); `v` is the offset after the last VLAN tag. -/
def State.encodeSeq (s : State) (f : Frame) (port : Nat) (b : List Byte) (v : Nat) : List Byte :=
  let n := beBytes 2 (f.seq.getD 0)
  let lan := s.cfg.f .redPortCfg port 27 24
  match s.encodeKind f port with
  | 1 => putIn b v (beBytes 2 0xF1C1 ++ beBytes 2 0 ++ n)
  | 2 =>
    let size := max (b.length + 6) 60 - (v + 2)
    putIn b v (beBytes 2 0x892F ++ beBytes 2 (at_ lan 12 + size % 4096) ++ n)
  | 3 =>
    let b := b ++ List.replicate (54 - b.length) 0
    b ++ n ++ beBytes 2 (at_ lan 12 + (b.length + 6 - v) % 4096) ++ beBytes 2 0x88FB
  | _ => b

/-- Stage 10 on a copy (R119, R138, R141, R266). Copies for the Coupler and for host queue groups are not edited.
The overwrite's destination address stands over the routing edit's. (DESIGN CHOICE, log 64.) -/
def State.edit (s : State) (f : Frame) (port : Nat) : Edited :=
  if 512 ≤ port then { bytes := f.body }
  else
    let r := s.outer f
    let b := s.overEdit f (s.routeEdit f r f.body)
    let cut := match f.seqEnc with | some e => if e.kind = 3 then none else some e.off | none => none
    let b := match f.seqEnc with
      | some e => if e.kind = 3 then b.take e.off else cutOut b e.off 6
      | none => b
    let move (o : Nat) : Nat := match cut with | some c => if c < o then o - 6 else o | none => o
    let (b, v) := s.tagEdit f port b (r.tags.head?.map (move ·.off))
      (match r.tags.getLast? with | some t => move t.off + 4 | none => 12)
    let before := f.body.length - (match f.seqEnc with | some e => if e.kind = 3 then 6 else 0 | none => 0)
    let k := s.encodeKind f port
    let b' := s.encodeSeq f port b v
    { bytes := b', removed := f.seqEnc.isSome, encoded := k ≠ 0
      shift := (if k = 1 ∨ k = 2 then (b'.length : Int) else b.length) - before }

/-- The bytes that leave a line port: padded to 60 and with the FCS (R52). -/
def wireBytes (b : List Byte) : List Byte :=
  let b := b ++ List.replicate (60 - b.length) 0
  b ++ fcsOf b

/-- The egress length of a copy: its frame length as it will leave (R212, R207). -/
def State.egressLen (s : State) (f : Frame) (port : Nat) : Nat :=
  if 512 ≤ port then f.bytes.length else max (s.edit f port).bytes.length 60 + 4

end Sys2Proof.Machine
end

