-- ==== Sys2Proof/Machine/Capture.lean ====
section
/-! DEFINITION. The capture store: record requests and capture references (R323 to R328), triggers and windows (R336
to R341), blocks, chaining and the record writer (R331 to R335, R339). -/

namespace Sys2Proof.Machine

/-! ### Recording -/

/-- A window replaced. -/
def State.setWin (s : State) (w : Nat) (x : RecWin) : State :=
  { s with capt := { s.capt with wins := s.capt.wins.set w x } }

/-- A window. -/
def State.win (s : State) (w : Nat) : RecWin := (s.capt.wins[w]?).getD {}

/-- REC_STAT.RECORDING: EN committed, not stalled, no CXL error. -/
def State.recording (s : State) : Bool := s.cfg.b .recCfg 0 31 && !s.capt.stalled && !s.capt.cxlErr

/-- Blocks of the ring. -/
def State.ringBlocks (s : State) : Nat := s.cfg.f .recRingBlocks 0 22 0

/-- A BSN lies in a window that pins its blocks (R337). -/
def RecWin.pins (x : RecWin) (bsn : Nat) : Bool :=
  x.state ≠ 0 && decide (x.firstBsn ≤ bsn) && (x.state = 1 || decide (bsn < x.endBsn))

/-- The block that the writer would open next is pinned (R339). -/
def State.nextPinned (s : State) : Bool :=
  s.capt.cur.isNone &&
    match s.capt.ring.find? (·.1 = s.capt.wr) with
    | some (_, b) => s.capt.wins.any (·.pins b.bsn)
    | none => false

/-- The stall of R339 brought up to date. -/
def State.restall (s : State) : State :=
  let p := s.nextPinned
  let s := if p && !s.capt.stalled then s.orReg .recIntStat 0 8 else s
  { s with capt := { s.capt with stalled := p } }

/-- A record is lost (R325). -/
def State.loseRecord (s : State) (plat : Nat) : State :=
  let s := (s.count .capt plat 1).orReg .recIntStat 0 32
  { s with capt := { s.capt with lost := s.capt.lost + 1 } }

/-! ### Blocks -/

/-- The 128 header bytes of a block (R331). -/
def RecBlock.header (b : RecBlock) : List Byte :=
  leBytes 4 0x4B435031 ++ leBytes 2 1 ++ leBytes 2 b.flags ++ leBytes 2 b.node ++ leBytes 2 0 ++ leBytes 4 b.records
    ++ leBytes 8 b.bsn ++ leBytes 8 b.first ++ leBytes 8 b.last ++ leBytes 4 b.data.length ++ leBytes 4 b.lost
    ++ beBytes 48 b.prev ++ List.replicate 32 0

/-- The node number (BOOT_NODE). -/
def State.node (s : State) : Nat := s.rf .bootNode 0 31 16

/-- The open block closed in a ring of `size` blocks (R333, R334): header, digest, ring index and BSN. (DESIGN CHOICE, log 6.) -/
def State.shutBlock (s : State) (size : Nat) : State :=
  match s.capt.cur with
  | none => s
  | some (b, _) =>
    let c := s.capt
    let b := { b with node := s.node, lost := if c.lostUnknown then 0xFFFFFFFF else min c.lost 0xFFFFFFFF }
    let b := { b with digest := Config.sha384 (b.data ++ b.header) }
    let next := if c.wr + 1 < size then c.wr + 1 else 0
    let s := { s with
      capt := { c with
        ring := Store.put c.ring c.wr b, cur := none, wr := next, bsn := c.bsn + 1, head := b.digest
        nextFlags := 0, openLen := 0, lost := 0, lostUnknown := false } }
    s.count .capt 0 5

/-- The open block closed, and the stall of R339 judged again. -/
def State.closeBlock (s : State) : State := if s.capt.cur.isNone then s else (s.shutBlock s.ringBlocks).restall

/-- The block for a record of `n` bytes (R331, R333): the open one where it fits, else a new one. None while the
next block is pinned (R339). -/
def State.blockFor (s : State) (n : Nat) : State × Option (RecBlock × Nat) :=
  let s := match s.capt.cur with
    | some (b, _) => if 128 + b.data.length + n > 2 ^ 20 then s.closeBlock else s
    | none => s
  match s.capt.cur with
  | some x => (s, some x)
  | none =>
    if s.nextPinned then (s.restall, none)
    else (s, some ({ flags := s.capt.nextFlags, bsn := s.capt.bsn, prev := if s.capt.nextFlags % 2 = 1 then 0 else s.capt.head }, s.fs))

/-- A record appended to a block. -/
def State.appendRecord (s : State) (b : RecBlock) (since : Nat) (mark : Bool) (mono : Nat) (bytes : List Byte) :
    State :=
  let b := { b with
    flags := b.flags ||| (if mark then 8 else 0), records := b.records + 1
    first := if b.records = 0 then mono else b.first, last := mono, data := b.data ++ bytes }
  { s with capt := { s.capt with cur := some (b, since) } }

/-- META of a frame's record (R332). -/
def recMeta (f : Frame) (capt : Nat) : Nat :=
  (f.stream.getD 0) + at_ (b2n f.stream.isSome) 17 + at_ (f.cls.getD 0) 18 + at_ f.colour 21 + at_ f.err 23
    + at_ (b2n f.seq.isSome) 26 + at_ (b2n (decide (capt < f.len))) 27

/-- The bytes of a frame's record in block `bsn` (R332). -/
def State.frameRecord (s : State) (r : CapRef) (cap : List Byte) (bsn : Nat) : List Byte :=
  let f := r.frame
  let pad := (8 - cap.length % 8) % 8
  let tb := (s.cfgAt f.epoch).f .recRule r.rule 26 24
  leBytes 2 (32 + cap.length + pad) ++ leBytes 2 bsn ++ leBytes 1 0 ++ leBytes 1 r.rule ++ leBytes 2 f.port
    ++ leBytes 2 (min f.len 65535) ++ leBytes 2 cap.length ++ leBytes 4 (recMeta f cap.length)
    ++ leBytes 8 (instantNs f.instant) ++ leBytes 4 (s.tbAt tb f.instant) ++ leBytes 2 (f.seq.getD 0)
    ++ leBytes 1 (min r.copies 255) ++ leBytes 1 tb ++ cap ++ List.replicate pad 0

/-- A trigger marker (R332, R336). -/
def markerRecord (w mono bsn : Nat) : List Byte :=
  leBytes 2 32 ++ leBytes 2 bsn ++ leBytes 1 1 ++ leBytes 1 w ++ leBytes 10 0 ++ leBytes 8 mono ++ leBytes 8 0

/-- The next record of the writer taken from its queue. -/
def State.popRecord (s : State) : State := { s with capt := { s.capt with queue := s.capt.queue.drop 1 } }

/-- No record waits in a capture queue or at the writer. -/
def State.captureIdle (s : State) : Bool := s.capt.queue.isEmpty && s.plats.all (·.capQ.isEmpty)

/-- With EN committed to 0 and no record left, the open block closes (R333, R344). -/
def State.settleRecording (s : State) : State :=
  if !s.cfg.b .recCfg 0 31 && s.captureIdle then s.closeBlock else s

/-- The length of a frame's record with `n` captured bytes (R332). -/
def recordLen (n : Nat) : Nat := 32 + (n + 7) / 8 * 8

/-- The record writer writes the next record (R328, R331, R339), or loses it after a CXL error (R330). -/
def State.writeRecord (s : State) : State :=
  match s.capt.queue with
  | [] => s
  | .marker w mono :: _ =>
    if s.capt.cxlErr then s.popRecord.settleRecording
    else
      match s.blockFor 32 with
      | (s, none) => s
      | (s, some (b, t)) => (s.popRecord.appendRecord b t true mono (markerRecord w mono b.bsn)).settleRecording
  | .frame r bytes :: _ =>
    if s.capt.cxlErr then (s.popRecord.loseRecord r.frame.plat).settleRecording
    else
      match s.blockFor (recordLen bytes.length) with
      | (s, none) => s
      | (s, some (b, t)) =>
        let s := s.popRecord.appendRecord b t false (instantNs r.frame.instant) (s.frameRecord r bytes b.bsn)
        let s := s.count .capt r.frame.plat 0
        let s := s.countIf (decide ((s.cfgAt r.frame.epoch).f .recRule r.rule 13 0 = 0)) .capt r.frame.plat 4
        s.settleRecording

/-! ### Requests -/

/-- Cells held by capture references. -/
def State.heldCells (s : State) : Nat := ((s.refs.filter (·.cap)).map (·.cells)).foldl (· + ·) 0

/-- The capture reference of a frame taken. Where no admitted copy holds its cells, their charge moves from staging to the
shared pool (R180, R181). -/
def State.takeCapture (s : State) (f : Frame) (copies : Nat) : State :=
  let r : CellRef := (s.ref f.no).getD { no := f.no, plat := f.plat, cells := f.cells }
  let s := (s.setRef { r with cap := true, capShared := r.capShared || copies = 0 }).count .cls f.plat 11
  if copies = 0 then s.unstage f f.cells else s

/-- The capture request of a frame whose copies have been decided (R323 to R325): none where no record is made, else whether
it took a capture reference. -/
def State.postCapture (s : State) (f : Frame) (copies : Nat) : State × Option Bool :=
  match f.mirror with
  | none => (s, none)
  | some k =>
    let c := s.frameCfg f
    if ¬ c.b .recRule k 31 then (s.count .capt f.plat 2, none)
    else if f.err ≠ 0 ∧ ¬ c.b .recRule k 30 then (s.count .capt f.plat 3, none)
    else
      let snap := c.f .recRule k 13 0
      let tooFull := snap ≠ 0 && decide (s.heldCells + f.cells > s.cfg.f .recCfg 0 19 0)
      if 8192 ≤ (s.plat f.plat).capQ.length ∨ tooFull ∨ ¬ s.recording then (s.loseRecord f.plat, none)
      else
        let s := s.modPlat f.plat fun p => { p with capQ := p.capQ ++ [⟨f, k, copies⟩] }
        (if snap = 0 then s else s.takeCapture f copies, some (snap ≠ 0))

/-- The capture reference of a frame released (R181, R327). -/
def State.freeCapture (s : State) (no : Nat) : State :=
  match s.ref no with
  | none => s
  | some r =>
    let s := if r.capShared then s.giveShared r.cells else s
    s.setRef { r with cap := false, capShared := false }

/-- It is Platform `p`'s turn at the drain: it has a request, and none has between it and the Platform served last (R327). -/
def State.drainDue (s : State) (p : Nat) : Bool :=
  !(s.plat p).capQ.isEmpty
    && (List.range ((p + 7 - s.capt.drainTurn) % 8)).all fun k => (s.plat ((s.capt.drainTurn + 1 + k) % 8)).capQ.isEmpty

/-- The drain reads the next record of a Platform (R327); `lost` says that a cell's CRC failed, which loses the
record (R465). -/
def State.drainRead (s : State) (plat : Nat) (lost : Bool) : State :=
  match (s.plat plat).capQ with
  | [] => s
  | r :: rest =>
    let snap := (s.cfgAt r.frame.epoch).f .recRule r.rule 13 0
    let s := { s with capt := { s.capt with drainTurn := plat } }.modPlat plat fun p => { p with capQ := rest }
    let n := beats (min snap r.frame.bytes.length)
    let s := ((if snap = 0 then s else s.freeCapture r.frame.no).perf plat 11 none none n).agg 3 n
    if lost then (s.loseRecord plat).settleRecording
    else { s with capt := { s.capt with queue := s.capt.queue ++ [.frame r (r.frame.bytes.take snap)] } }

/-! ### Triggers and windows -/

/-- The oldest block of a window that opens now (R337): BSNs are walked back from the writer's block, at most
`left` of them; `best` is the oldest seen whose LAST_MONO is late enough. -/
def oldestFrom (ring : Store RecBlock) (since : Nat) : Nat → Nat → Nat → Nat
  | 0, _, best => best
  | left + 1, b, best =>
    if b = 0 then best
    else
      match ring.find? (·.2.bsn = b - 1) with
      | none => best
      | some (_, x) => oldestFrom ring since left (b - 1) (if since ≤ x.last then b - 1 else best)

/-- A window opens in slot `w` (R336, R337). -/
def State.openWindow (s : State) (w src fs : Nat) : State :=
  let t := instantNs fs
  let since := t - s.cfg.f .recTrigSpan 0 31 16 * 1000000
  let most := s.ringBlocks / 4
  let first := oldestFrom s.capt.ring since most s.capt.bsn s.capt.bsn
  let further := oldestFrom s.capt.ring since s.capt.ring.length s.capt.bsn s.capt.bsn
  let tb := s.cfg.f .recTrigCfg 0 29 27
  let s := s.setWin w
    { state := 1, cut := decide (further < first), id := s.capt.nextId, firstBsn := first, src := src, trigMono := t
      trigTb := s.tbAt tb fs, tb := tb, postAt := t + s.cfg.f .recTrigSpan 0 15 0 * 1000000 }
  { s with capt := { s.capt with nextId := s.capt.nextId + 1 } }

/-- A trigger marker handed to the writer (R336, R344). -/
def State.putMarker (s : State) (w fs : Nat) : State :=
  if s.recording then
    { s with capt := { s.capt with queue := s.capt.queue ++ [.marker w (instantNs fs)] } }
  else s

/-- A trigger fires (R336). `src` is 0 for a rule's frame, 1 for a register write, 2 for GPIO. -/
def State.trigger (s : State) (src fs : Nat) : State :=
  let s := s.count .capt 0 6
  match (List.range 4).find? fun w => (s.win w).state = 1 with
  | some w => (s.count .capt 0 7).putMarker w fs
  | none =>
    match (List.range 4).find? fun w => (s.win w).state = 0 with
    | some w => (s.openWindow w src fs).putMarker w fs
    | none =>
      let (v, s) := (s.count .capt 0 8).fresh
      s.putMarker (v % 256) fs

/-- The trigger of a frame's recording rule when the frame reaches stage 8 (R336). -/
def State.ruleTrigger (s : State) (f : Frame) : State :=
  match f.mirror with
  | none => s
  | some k =>
    let c := s.frameCfg f
    if c.b .recRule k 31 ∧ (f.err = 0 ∨ c.b .recRule k 30) ∧ c.b .recRule k 29 then s.trigger 0 f.instant else s

/-- Blocks of a window so far (R337, REC_WIN_BLOCKS). -/
def State.winBlocks (s : State) (x : RecWin) : Nat :=
  if x.state = 1 then s.capt.bsn + b2n s.capt.cur.isSome - x.firstBsn else x.endBsn - x.firstBsn

/-- The blocks of a window in order, as far as the ring holds them. -/
def State.blocksOf (s : State) (x : RecWin) : List RecBlock :=
  (List.range (x.endBsn - x.firstBsn)).filterMap fun k =>
    (s.capt.ring.find? (·.2.bsn = x.firstBsn + k)).map (·.2)

/-- A window enters sealing (R338). -/
def State.endWindow (s : State) (w : Nat) (cut : Bool) : State :=
  let s := s.closeBlock
  let x := s.win w
  s.setWin w { x with state := 2, cut := x.cut || cut, endBsn := s.capt.bsn }

/-- LBAs that a block takes on the drive (R341). -/
def RecBlock.lbas (b : RecBlock) : Nat := ceilDiv (128 + b.data.length) 4096

/-- LBAs of a window's blocks. -/
def State.winLbas (s : State) (x : RecWin) : Nat := ((s.blocksOf x).map (·.lbas)).foldl (· + ·) 0

/-- The 64-bit number of a pair of setting words. -/
def Cfg.wide (c : Cfg) (lo hi : RegId) (i : Nat) : Nat := (c lo i).toNat + (c hi i).toNat * 2 ^ 32

/-- The LBA of a window's header when its blocks take `n` LBAs (R340). -/
def State.headerLba (s : State) (n : Nat) : Nat :=
  let base := s.cfg.wide .recNvmeBaseLo .recNvmeBaseHi 0
  let count := (s.cfg .recNvmeCount 0).toNat
  let wr := s.capt.nvmeWr
  if wr < base ∨ base + count < wr + 1 + n then base else wr

/-- The first 144 bytes of a window's header: the seal (R341). (DESIGN CHOICE, log 6, DEDUCED, log 46.) -/
def State.sealBytes (s : State) (x : RecWin) : List Byte :=
  let bs := s.blocksOf x
  let unknown := bs.any (·.lost = 0xFFFFFFFF)
  let lost := (bs.map (·.lost)).foldl (· + ·) 0
  let flags := b2n x.cut + at_ (b2n x.unsigned_) 1 + at_ (b2n (s.cfg.b .recNvmeCfg 0 30)) 2 + at_ (b2n (decide (lost ≠ 0))) 3
  leBytes 4 0x4B435731 ++ leBytes 2 1 ++ leBytes 2 flags ++ leBytes 2 s.node ++ leBytes 1 x.src ++ leBytes 1 0
    ++ leBytes 4 x.id ++ leBytes 8 x.firstBsn ++ leBytes 8 (x.endBsn - 1) ++ leBytes 8 x.trigMono
    ++ leBytes 8 x.trigTb ++ leBytes 1 x.tb ++ leBytes 7 0 ++ leBytes 4 (x.endBsn - x.firstBsn)
    ++ leBytes 4 (if unknown then 0xFFFFFFFF else min lost 0xFFFFFFFF)
    ++ leBytes 8 (s.headerLba (s.winLbas x) + 1) ++ leBytes 8 0
    ++ beBytes 48 (match bs.getLast? with | some b => b.digest | none => s.capt.head)
    ++ ((List.range 4).flatMap fun i => leBytes 4 (s.reg .bootSecSignid i).toNat)

/-- A sealed window starts its commit, or ends it with RESULT 3 (R341). -/
def State.startCommit (s : State) (w : Nat) : State :=
  let x := s.win w
  if (s.cfg .recNvmeCount 0).toNat < s.winLbas x + 1 then s.setWin w { x with result := 3 }
  else s.setWin w { x with state := 4 }

/-- With AUTO, the sealed windows whose commit has not been tried start theirs (R341). (DEDUCED, log 46.) -/
def State.autoCommit (s : State) : State :=
  if s.cfg.b .recNvmeCfg 0 31 then
    (List.range 4).foldl (fun s w => if (s.win w).state = 3 ∧ (s.win w).result = 0 then s.startCommit w else s) s
  else s

/-- No window that opened before window `w` is still sealing: sealing is done in window order (R344). -/
def State.sealTurn (s : State) (w : Nat) : Bool := s.capt.wins.all fun x => x.state ≠ 2 || decide ((s.win w).id ≤ x.id)

/-- A window sealed (R338), signed where the key vault holds its signing key (R439, R444). The number that the signer draws is free.
(DEDUCED, log 46, DESIGN CHOICE, log 7.) -/
def State.sealWindow (s : State) (w : Nat) : State :=
  let x := { s.win w with state := 3, unsigned_ := s.upd.vault.signKey.isNone }
  let b := s.sealBytes x
  let (s, sig) : State × List Byte := match s.upd.vault.signKey with
    | some k =>
      let (v, s) := s.fresh
      (s, beBytes 96 (Config.signP384 k (Config.sha384 b) v))
    | none => (s, List.replicate 96 0)
  let s := (s.setWin w { x with sealed := b ++ sig }).orReg .recIntStat 0 1
  if s.cfg.b .recNvmeCfg 0 31 then s.startCommit w else s

/-- The drives of the commit area: one, or two with MIRROR (R340). -/
def State.drives (s : State) : List Nat := if s.cfg.b .recNvmeCfg 0 30 then [0, 1] else [0]

/-- One LBA written to a drive. -/
def State.driveWrite (s : State) (fua : Bool) (lba : Nat) (x : List Byte) (drive : Nat) : State :=
  let c := s.capt
  let c := if drive = 0 then { c with nvme := Store.put c.nvme lba x } else { c with nvme2 := Store.put c.nvme2 lba x }
  { s with capt := c }.emit (.nvme drive lba fua x)

/-- LBAs of a byte string written to every drive of the commit area, from an LBA on (R341). -/
def State.nvmeWrite (s : State) (fua : Bool) : Nat → Nat → List Byte → State
  | 0, _, _ => s
  | n + 1, lba, b =>
    let x := b.take 4096
    let x := x ++ List.replicate (4096 - x.length) 0
    (s.drives.foldl (fun s d => s.driveWrite fua lba x d) s).nvmeWrite fua n (lba + 1) (b.drop 4096)

/-- The blocks of a window written (R341). -/
def State.nvmeBlocks (s : State) : Nat → List RecBlock → State × Nat
  | lba, [] => (s, lba)
  | lba, b :: r => (s.nvmeWrite false b.lbas lba (b.header ++ b.data)).nvmeBlocks (lba + b.lbas) r

/-- A Flush on every drive (R341). -/
def State.nvmeFlush (s : State) : State := s.drives.foldl (fun s d => s.emit (.nvmeFlush d)) s

/-- A window's commit completes (R341): the blocks, Flush, then the header with FUA. -/
def State.commitWindow (s : State) (w : Nat) : State :=
  let x := s.win w
  let at0 := s.headerLba (s.winLbas x)
  let (s, next) := s.nvmeBlocks (at0 + 1) (s.blocksOf x)
  let s := s.nvmeFlush.nvmeWrite true 1 at0 x.sealed
  let base := s.cfg.wide .recNvmeBaseLo .recNvmeBaseHi 0
  let s := { s with capt := { s.capt with nvmeWr := if base + (s.cfg .recNvmeCount 0).toNat ≤ next then base else next } }
  let s := ((s.setWin w { x with state := 0, result := 1 }).orReg .recIntStat 0 2).count .capt 0 9
  s.restall

end Sys2Proof.Machine
end

