-- ==== Sys2Proof/Machine/Gates.lean ====
section
/-! DEFINITION. Lists that run by time: gate schedules and Timetables (R156 to R161, R218 to R223): the choice of a
start, the list in force at an instant, the entry a position falls in, and the restart on a time-base step. -/

namespace Sys2Proof.Machine

/-! ### Time bases to the femtosecond -/

/-- The unit of `tbFine`: 2^42 × 250,000 to the nanosecond. -/
def fineUnit : Int := 2 ^ 42 * 250000

/-- The value of a history of segments at an instant, to the femtosecond: as `tbHist`, between its quarters of a nanosecond too. -/
def fineHist : List TbSeg → Nat → Int
  | [], fs => (fs : Int) * 2 ^ 40
  | g :: r, fs =>
    if g.q0 * 250000 ≤ fs ∨ r.isEmpty then g.v * 250000 + ((fs - g.q0 * 250000 : Nat) : Int) * (2 ^ 40 + g.trim)
    else fineHist r fs

/-- The value of time base `k` at an instant, to the femtosecond. -/
def State.tbFine (s : State) (k fs : Nat) : Int := fineHist (s.tbSegs k) fs

/-- What time base `k` shows for the instant `ps` picoseconds after a raw stamp, to the femtosecond: the value and trim in force
at the raw stamp count, so that a stamp at a command's tick sees what the command makes (R304, R320). (DEDUCED, log 44.) -/
def State.stampFine (s : State) (k raw : Nat) (ps : Int) : Int :=
  let g := segAt (s.tbSegs k) (quarter raw)
  g.v * 250000 + ((quarter raw : Int) * 250000 + ps * 1000 - (g.q0 : Int) * 250000) * (2 ^ 40 + g.trim)

/-- Time base `k` as it counted before its latest step. -/
def State.unstep (s : State) (k : Nat) : State :=
  { s with time := { s.time with tbs := s.time.tbs.modify k (·.drop 1) } }

/-- The record of a list that has run until an instant. -/
def State.ended (s : State) (fs : Nat) (l : Option GateList) : GatePast :=
  match l with
  | some x => { untilFs := fs, list := l, endFine := s.tbFine x.tb fs, rate := 2 ^ 40 + s.tbTrim x.tb }
  | none => { untilFs := fs, list := none }

/-- The value of base `k` at an instant of a span that `past` ends, or of the present one: in the tick at which the span ended
the base is read as it counted up to there. -/
def State.fineIn (s : State) (past : Option GatePast) (k fs : Nat) : Int :=
  match past with
  | some p =>
    if p.untilFs / 1250000 = fs / 1250000 then p.endFine - ((p.untilFs : Int) - (fs : Int)) * p.rate else s.tbFine k fs
  | none => s.tbFine k fs

/-! ### Starts -/

/-- The start of a list by R158: `delta` is BASE_NS − now as a signed 32-bit number. -/
def startDelta (delta : Int) (cycle : Nat) : Int :=
  if delta ≥ 2000 then delta
  else if cycle = 0 then 2000
  else delta + (ceilDiv (2000 - delta).toNat cycle * cycle : Nat)

/-- The start, as a nanosecond value of time base `tb`, of a list committed now (R158). -/
def State.chooseStart (s : State) (tb base cycle : Nat) : Int :=
  s.tbNowNs tb + startDelta (diff32 base (s.tbNow32 tb)) cycle

/-- A list has started at an instant. -/
def State.started (s : State) (l : GateList) (fs : Nat) : Bool := decide (l.start ≤ s.tbNs l.tb fs)

/-- The record of what ran at an instant, if the instant lies before a change that `past` (newest first) records. -/
def pastFor (past : List GatePast) (fs : Nat) : Option GatePast :=
  match past with
  | [] => none
  | p :: r =>
    match pastFor r fs with
    | some l => some l
    | none => if fs < p.untilFs then some p else none

/-- The list in force at an instant; none where no list has started (R159, R160, R173). A list of the past ran up to its end,
whatever a step made of its base in that tick. -/
def State.listAt (s : State) (g : GateSeq) (fs : Nat) : Option GateList :=
  match pastFor g.past fs with
  | some p => p.list
  | none =>
    match g.pend.filter (s.started · fs) with
    | some l => some l
    | none => g.run.filter (s.started · fs)

/-- The nanosecond value of a list's base that goes with the list in force at an instant. -/
def State.listNs (s : State) (g : GateSeq) (l : GateList) (fs : Nat) : Int :=
  match pastFor g.past fs with
  | some p => Int.fdiv (s.fineIn (some p) l.tb fs) fineUnit
  | none => s.tbNs l.tb fs

/-- The entry whose interval holds a position, by its index and its gate word. -/
def entryAt (pos : Nat) : List (Nat × Nat) → Nat → Option (Nat × Nat)
  | [], _ => none
  | (n, w) :: r, i => if pos < n then some (i, w) else entryAt (pos - n) r (i + 1)

/-- The position in the cycle, and the cycle's number, at a nanosecond value of the time base. -/
def GateList.pos (l : GateList) (ns : Int) : Nat × Int :=
  (((ns - l.start) % (l.cycle : Int)).toNat, (ns - l.start) / (l.cycle : Int))

/-- A list becomes pending in a sequence (R158, R159, R218, R219). -/
def GateSeq.pended (g : GateSeq) (l : GateList) : GateSeq :=
  { g with pend := some l, startReg := unsigned 32 l.start }

/-- The pending list has started: it becomes the running list (R158, R218). -/
def State.startSeq (s : State) (g : GateSeq) : Option GateSeq :=
  match g.pend with
  | some l =>
    if s.started l s.fs then
      some { g with run := some l, pend := none, past := s.ended (s.tbWhen l.tb l.start) g.run :: g.past }
    else none
  | none => none

/-- The restart on a step of time base `k` (R160, R219); `s` holds the base's value after the step. -/
def State.restartSeq (s : State) (k : Nat) (g : GateSeq) : GateSeq :=
  let on (l : Option GateList) : Bool := match l with | some l => l.tb = k | none => false
  if on g.run || on g.pend then
    match (if g.pend.isSome then g.pend else g.run) with
    | none => g
    | some l =>
      let start := s.chooseStart l.tb l.base l.cycle
      { run := none, pend := some { l with start := start }, past := (s.unstep k).ended s.fs g.run :: g.past
        startReg := unsigned 32 start }
  else g

/-! ### What ran between two instants -/

/-- The spans of `past` (oldest first) between instants `a` and `b`, each with the list that ran and its record, and where they
end. -/
def pastSpans (b : Nat) : List GatePast → Nat → List (Nat × Nat × Option GateList × Option GatePast) × Nat
  | [], a => ([], a)
  | p :: r, a =>
    let m := min b p.untilFs
    if m ≤ a then pastSpans b r a
    else let (l, c) := pastSpans b r m; ((a, m, p.list, some p) :: l, c)

/-- The lists that ran between two instants, each over its span: those of before, the running list, and the pending list from
its start on (R217, R219, R230). -/
def State.spans (s : State) (g : GateSeq) (a b : Nat) : List (Nat × Nat × Option GateList × Option GatePast) :=
  let (l, c) := pastSpans b g.past.reverse a
  match g.pend with
  | none => l ++ [(c, b, g.run, none)]
  | some p =>
    let m := max c (min b (s.tbWhen p.tb p.start))
    l ++ [(c, m, g.run, none), (m, b, some p, none)]

/-! ### Openings -/

/-- Positions at which a gate changes from closed to open in a list (R224): `on` reads an entry's word, and `prev` is the state
of the entry before. -/
def openings (on : Nat → Bool) (prev : Bool) : Nat → List (Nat × Nat) → List Nat
  | _, [] => []
  | o, (n, w) :: r => (if on w && !prev then [o] else []) ++ openings on (on w) (o + n) r

/-- Nanoseconds from a position to the next of the openings, on a cycle. -/
def nextOpening (cycle pos : Nat) : List Nat → Option Nat
  | [] => none
  | o :: r =>
    let d := (o + cycle - pos % cycle) % cycle
    match nextOpening cycle pos r with
    | none => some d
    | some x => some (min d x)

/-- A list that gives gate states: with LEN 0 it leaves them at the admin state (R157, R223). -/
def GateList.live (l : GateList) : Bool := !l.entries.isEmpty && l.cycle ≠ 0

/-- The state a list gives a gate at a nanosecond value of its base; `phase` delays the gate's positions (R161), and `admin` is
its admin state. -/
def GateList.opens (l : GateList) (on : Nat → Bool) (phase : Nat) (admin : Bool) (ns : Int) : Bool :=
  if l.live then
    match entryAt (l.pos (ns - phase)).1 l.entries 0 with
    | some (_, w) => on w
    | none => false
  else admin

/-- Nanoseconds from a value of a list's base to the next opening that the list makes, 0 for one at that very value. -/
def GateList.wait (l : GateList) (on : Nat → Bool) (phase : Nat) (ns : Int) : Option Nat :=
  if l.live then
    let last := match l.entries.getLast? with | some (_, w) => on w | none => false
    nextOpening l.cycle (l.pos (ns - phase)).1 (openings on last 0 l.entries)
  else none

/-- Femtoseconds from instant `fs` to the first opening that a list makes from value `ns` of its base on. -/
def State.listWait (s : State) (l : GateList) (on : Nat → Bool) (phase : Nat) (ns : Int) (fs : Nat) : Option Nat :=
  (l.wait on phase ns).map fun w => s.tbWhen l.tb (ns + w) - fs

/-- Femtoseconds from instant `fs` to the next opening of a gate that follows a sequence of lists: under the list in force, at the
start of the pending list, or under that one after its start (R219, R220, R224). Each list counts on its own base, so what they
give is compared as instants. -/
def State.seqWait (s : State) (g : GateSeq) (on : Nat → Bool) (phase : Nat) (admin : Bool) (fs : Nat) : Option Nat :=
  let cur := s.listAt g fs
  let inCur := cur.bind fun l => s.listWait l on phase (s.tbNs l.tb fs) fs
  match g.pend.filter fun p => !s.started p fs with
  | none => inCur
  | some p =>
    let starts := s.tbWhen p.tb p.start
    match inCur.filter (· < starts - fs) with
    | some w => some w
    | none =>
      let before := match cur with | some l => l.opens on phase admin (s.tbNs l.tb (starts - 1)) | none => admin
      if !before && p.opens on phase admin p.start then some (starts - fs)
      else s.listWait p on phase (p.start + 1) fs

end Sys2Proof.Machine
end

