-- ==== Sys2Proof/Machine/Shapers.lean ====
section
/-! DEFINITION. Shapers and Timetable gates: token buckets (R213, R214), the credit-based shaper (R215 to R217), timed
ports (R209) and the gates of a Timetable over an interval (R220). -/

namespace Sys2Proof.Machine

/-! ### Timed ports and gates -/

/-- A port is timed while its Timetable has a list running or pending (R209). -/
def PortSt.timed (p : PortSt) : Bool := p.tt.run.isSome || p.tt.pend.isSome

/-- ADMIN_GATES of a port. (DEDUCED, log 13.) -/
def State.adminGates (s : State) (e : Nat) : Nat := s.cfg.f .schTtCfg e 23 16

/-- D(e) of R209 in femtoseconds. -/
def State.leadD (s : State) (e : Nat) : Nat := 134400000 + (s.cfg.lat e).2 * 1000000

/-- The rest of a list's intervals from a position, twice round: (length, open) in fine units. -/
def runsFrom (c : Nat) (es : List (Nat × Nat)) (pos : Int) : List (Int × Bool) :=
  match es with
  | [] => []
  | (n, w) :: r =>
    let len : Int := n * fineUnit
    if pos < len then (len - pos, bitOf w c) :: r.map fun (n, w) => ((n : Int) * fineUnit, bitOf w c)
    else runsFrom c r (pos - len)

/-- The gate stays open for `need` along the intervals; a whole list of open intervals is open for ever. -/
def openFor : List (Int × Bool) → Int → Bool
  | [], _ => true
  | (n, o) :: r, need => if need ≤ 0 then true else o && openFor r (need - n)

/-- The gate of class `c` is open from `a` to `b`, fine values of the list's base, under one list (R220). -/
def State.openUnder (s : State) (e c : Nat) (l : Option GateList) (a b : Int) : Bool :=
  let admin := bitOf (s.adminGates e) c || decide (b ≤ a)
  match l with
  | none => admin
  | some l =>
    if l.entries.isEmpty ∨ l.cycle = 0 then admin
    else
      let pos := (a - l.start * fineUnit) % ((l.cycle : Int) * fineUnit)
      openFor (runsFrom c l.entries pos ++ l.entries.map fun (n, w) => ((n : Int) * fineUnit, bitOf w c)) (b - a)

/-- open_through of R207 (R220): the gate of class `c` is open at every instant from `a` to `b` (femtoseconds). Each list is judged
on its own base; the running one until the instant at which the pending list's base reaches its start. -/
def State.openThrough (s : State) (e c a b : Nat) : Bool :=
  let g := (s.port e).tt
  match g.pend with
  | none =>
    let k := match g.run with | some l => l.tb | none => 0
    s.openUnder e c g.run (s.tbFine k a) (s.tbFine k b)
  | some l =>
    let st := l.start * fineUnit
    let a' := s.tbFine l.tb a
    let b' := s.tbFine l.tb b
    if st ≤ a' then s.openUnder e c (some l) a' b'
    else
      let k := match g.run with | some r => r.tb | none => l.tb
      let ka := s.tbFine k a
      let kb := s.tbFine k b
      if b' ≤ st then s.openUnder e c g.run ka kb
      else s.openUnder e c g.run ka (ka + (st - a') * (kb - ka) / (b' - a')) && s.openUnder e c (some l) st b'

/-- Time of open gate in one cycle before position `x`. -/
def openBefore (c : Nat) : List (Nat × Nat) → Nat → Nat
  | [], _ => 0
  | (n, w) :: r, x => (if bitOf w c then min n x else 0) + openBefore c r (x - n)

/-- Femtoseconds of open gate of class `c` from `a` to `b` under one list, none before the list's start, where its base keeps one
trim. A gate's opening and closing are instants of the list's time base (DEDUCED, log 13). `past` is the record of a span that has
ended. -/
def State.openEvenFs (s : State) (e c a b : Nat) (l : Option GateList) (past : Option GatePast) : Nat :=
  let admin := if bitOf (s.adminGates e) c then b - a else 0
  match l with
  | none => admin
  | some l =>
    if l.live then
      let es := l.entries.map fun (n, w) => (n * fineUnit.toNat, w)
      let cycle := l.cycle * fineUnit.toNat
      let upTo (v : Int) : Nat :=
        let d := (v - l.start * fineUnit).toNat
        d / cycle * openBefore c es cycle + openBefore c es (d % cycle)
      let va := s.fineIn past l.tb a
      let vb := s.fineIn past l.tb b
      (upTo vb - upTo va) * (b - a) / (vb - va).toNat
    else admin

/-- The instants between `a` and `b` at which time base `k` was trimmed or stepped, in order. -/
def State.tbCuts (s : State) (k a b : Nat) : List Nat :=
  ((s.tbSegs k).reverse.map (·.q0 * 250000)).filter fun x => decide (a < x ∧ x < b)

/-- The pieces into which instants in order cut a span. -/
def cutSpan (b : Nat) : List Nat → Nat → List (Nat × Nat)
  | [], a => [(a, b)]
  | x :: r, a => (a, x) :: cutSpan b r x

/-- Femtoseconds of open gate of class `c` from `a` to `b` under one list: the gate follows the list's base as it ran, so each
stretch of one trim counts for itself (R215, R217, R292). -/
def State.openUnderFs (s : State) (e c a b : Nat) (l : Option GateList) (past : Option GatePast) : Nat :=
  let cuts := match l with | some l => s.tbCuts l.tb a b | none => []
  ((cutSpan b cuts a).map fun (x, y) => s.openEvenFs e c x y l past).sum

/-- Femtoseconds of open gate of class `c` between two instants, by the lists as they ran (R215, R217): all of them on a port
that is not timed. -/
def State.openFs (s : State) (e c a b : Nat) : Nat :=
  if (s.port e).timed then ((s.spans (s.port e).tt a b).map fun (x, y, l, p) => s.openUnderFs e c x y l p).sum else b - a

/-! ### Token buckets -/

/-- The tokens that forward() of R213 gives now. -/
def State.tokensNow (s : State) (b : Bucket) (rate burst : Nat) : Nat :=
  if b.last < s.mono then min (burst * 256) (b.tokens + (s.mono - b.last) * min rate 1000000000 / 31250) else b.tokens

/-- A full bucket (R214). -/
def State.fullBucket (s : State) (burst : Nat) : Bucket := { tokens := burst * 256, last := s.mono }

/-- Tokens of a queue's bucket now. -/
def State.queueTokens (s : State) (e c : Nat) : Nat :=
  s.tokensNow ((s.port e).queue c).bucket (s.cfg .schQRate (e * 8 + c)).toNat (s.cfg.f .schQBurst (e * 8 + c) 23 0)

/-- Tokens of a port's bucket now. -/
def State.portTokens (s : State) (e : Nat) : Nat :=
  s.tokensNow (s.port e).bucket (s.cfg .schPortRate e).toNat (s.cfg.f .schPortBurst e 23 0)

/-! ### Credit -/

/-- A class of a port runs the credit-based shaper. -/
def State.cbs (s : State) (e c : Nat) : Bool := s.cfg.f .schQCfg (e * 8 + c) 31 30 = 1

/-- A queue holds frames, queued or handed and not started (R215). -/
def PortSt.holds (p : PortSt) (c : Nat) : Bool := !(p.queue c).copies.isEmpty || ((p.macQ[c]?).getD none).isSome

/-- How much of the stored credit is one unit of 1/256 byte. -/
def creditUnit : Nat := 31250000000

/-- The credit of a queue at an instant (R215). An instant before the one to which the credit was brought forward is the start
of a frame that the queue held until then: what it gained since is taken back. -/
def State.creditWhen (s : State) (e c fs : Nat) : Int :=
  let p := s.port e
  let q := p.queue c
  let idle := (s.cfg .schQSlope (e * 8 + c)).toNat
  let onWire := min fs q.wireTo - min q.creditAt q.wireTo
  let x := q.credit - ((onWire * (q.wireKbps - idle) : Nat) : Int)
  let from_ := max q.creditAt q.wireTo
  if fs < q.creditAt then q.credit - ((s.openFs e c fs q.creditAt * idle : Nat) : Int)
  else if fs ≤ from_ then x
  else if p.holds c then x + ((s.openFs e c from_ fs * idle : Nat) : Int)
  else if 0 < x then 0
  else min 0 (x + (((fs - from_) * idle : Nat) : Int))

/-- The credit of a queue now. -/
def State.creditNow (s : State) (e c : Nat) : Int := s.creditWhen e c s.fs

/-- The credit of a queue brought forward to an instant (R215). -/
def State.forwardCreditTo (s : State) (e c fs : Nat) : State :=
  if s.cbs e c then
    s.setQueue e c { (s.port e).queue c with credit := s.creditWhen e c fs, creditAt := fs }
  else s

/-- The credit of a queue brought forward to now (R215, R217). -/
def State.forwardCredit (s : State) (e c : Nat) : State := s.forwardCreditTo e c s.fs

/-- Every credit of a port brought forward. -/
def State.forwardCredits (s : State) (e : Nat) : State := (List.range 8).foldl (fun s c => s.forwardCredit e c) s

/-- Every bucket and credit of a Platform's ports brought forward (R217). -/
def State.forwardPlat (s : State) (p : Nat) : State :=
  (List.range 64).foldl
    (fun s k =>
      let e := p * 64 + k
      let s := s.forwardCredits e
      let s := (List.range 8).foldl
        (fun s c =>
          if s.cfg.b .schQCfg (e * 8 + c) 29 then
            s.setQueue e c { (s.port e).queue c with bucket := { tokens := s.queueTokens e c, last := s.mono } }
          else s) s
      if s.cfg.b .schPortCfg e 31 then
        s.modPort e fun x => { x with bucket := { tokens := s.portTokens e, last := s.mono } }
      else s) s

end Sys2Proof.Machine
end

