-- ==== Sys2Proof/Machine/Admit.lean ====
section
/-! DEFINITION. Stage 8: admission of copies (R177, R180, R184, R186 to R188, R198, R201), lossless frames and the wait
list (R192, R193, R199), and the writing of extra copies (R182). -/

namespace Sys2Proof.Machine

/-! ### Rank, port and deadline -/

/-- KIND of a class in a view of the settings. -/
def Cfg.kind (c : Cfg) (k : Nat) : Nat := c.f .tmClassCfg k 31 30

/-- KIND of a class now. -/
def State.kind (s : State) (k : Nat) : Nat := s.cfg.kind k

/-- The rank of a frame's copies (R177), by the settings that bind the frame (R28). -/
def State.rankOf (s : State) (f : Frame) : Nat :=
  let k := (s.frameCfg f).kind (f.cls.getD 0)
  if f.err ≠ 0 then 5
  else if k = 2 then 2
  else if k = 1 then (if f.acct.isSome then 3 else 5)
  else if f.metered ∧ f.colour = 0 then 4
  else 5

/-- Copies for a port are refused: it is absent, disabled, or down with no hold running (R186, R202, R384). -/
def State.portRefuses (s : State) (e : Nat) : Bool :=
  if 528 ≤ e ∧ e ≤ 543 then !s.rb .hostQpCtrl (e - 528) 31
  else if hasQueues e then
    !s.cfg.present e || !s.cfg.enabled e || (!(s.port e).link && (s.port e).hold.isNone)
  else true

/-- The bound proved for a stream on an egress port (R201, R247). -/
def State.provedBound (s : State) (h e : Nat) : Option Nat :=
  (s.adm.rpt.find? fun (k, w) =>
    k < 131072 && k % 8 = 0 && fld w 31 30 = 1 && fld w 16 0 = h
      && fld (Store.get 0 s.adm.rpt (k + 6)) 25 16 = e).map fun (k, _) => (Store.get 0 s.adm.rpt (k + 1)).toNat

/-- The deadline of a copy (R201), by the settings that bind its frame (R28). -/
def State.deadlineOf (s : State) (f : Frame) (e : Nat) : Option Nat :=
  let c := f.cls.getD 0
  if (s.frameCfg f).kind c = 2 then
    match f.stream.bind (s.provedBound · e) with
    | some b => some (f.instant + b * 1000000)
    | none => some (f.instant + (s.frameCfg f).f .tmClassDeadline c 19 0 * 1000000000)
  else none

/-- A copy refused: its Platform counter and its port's REFUSED. -/
def State.refuse (s : State) (plat e slot cls : Nat) : State :=
  ((s.count .tm plat slot).count .tmPort e 0).perf plat 8 none (some cls) 1

/-- The maximum SDU check fails (R212). It is a part of queue admission, so the settings that bind the frame hold (R28;
DEDUCED, log 31). -/
def State.sduFails (s : State) (f : Frame) (e : Nat) : Bool :=
  let m := (s.frameCfg f).f .schQCfg (e * 8 + f.cls.getD 0) 13 0
  m ≠ 0 && decide (m < s.egressLen f e)

/-- A copy refused by the maximum SDU check (R212). -/
def State.refuseSdu (s : State) (f : Frame) (e : Nat) : State :=
  ((s.count .sch (egressPlat e) 1).count .tmPort e 0).perf f.plat 8 none (some (f.cls.getD 0)) 1

/-- MAX_CELLS of a class in a view of the settings. -/
def Cfg.maxCells (c : Cfg) (k : Nat) : Nat := c.f .tmClassCfg k 19 0

/-- fits() of R186 for a frame at a queue of its class, by the settings that bind the frame (R28); `shift` is the yellow shift
applied. -/
def State.fits (s : State) (f : Frame) (e shift free : Nat) : Bool :=
  let c := f.cls.getD 0
  let limit := alphaTimes ((s.frameCfg f).f .tmClassCfg c 22 20) free / 2 ^ shift
  decide (f.cells ≤ free)
    && decide (((s.port e).queue c).sharedUsed + f.cells ≤ min limit ((s.frameCfg f).maxCells c))

/-- The shift of a frame's limit: YELLOW_SHIFT where it is yellow. -/
def State.shiftOf (s : State) (f : Frame) : Nat :=
  if f.colour = 1 then (s.frameCfg f).f .tmClassCfg (f.cls.getD 0) 27 26 else 0

/-! ### Push-out -/

/-- The victims of one queue, tail first (R188): those found, the cells they free, and whether they are enough. -/
def State.scanQueue (s : State) (enough : Nat → Bool) (rank : Nat) :
    List Copy → List Copy → Nat → List Copy × Nat × Bool
  | [], vs, fr => (vs, fr, false)
  | v :: r, vs, fr =>
    let held : Bool := match s.ref v.frame.no with | some x => x.cap | none => false
    if 4 ≤ vs.length ∨ held ∨ v.rank < 4 ∨ v.rank < rank then (vs, fr, false)
    else
      let fr := fr + if v.pool = .shared then v.cells else 0
      if enough fr then (v :: vs, fr, true) else s.scanQueue enough rank r (v :: vs) fr

/-- The victims over the classes named, in order. -/
def State.scanClasses (s : State) (enough : Nat → Bool) (rank e : Nat) :
    List Nat → List Copy → Nat → Option (List Copy)
  | [], _, _ => none
  | k :: ks, vs, fr =>
    match s.scanQueue enough rank ((s.port e).queue k).copies.reverse vs fr with
    | (vs, _, true) => some vs
    | (vs, fr, false) => s.scanClasses enough rank e ks vs fr

/-- The copies of a queue replaced by fewer: while it held frames its credit followed its gate (R215). -/
def State.cutCopies (s : State) (e c : Nat) (l : List Copy) : State := (s.forwardCredit e c).setCopies e c l

/-- A victim evicted from its queue's tail (R188), counted on `plat`, the Platform of the arriving copy. (DESIGN CHOICE,
log 65.) -/
def State.evict (s : State) (plat : Nat) (v : Copy) : State :=
  let s := s.cutCopies v.port v.cls ((s.port v.port).queue v.cls).copies.dropLast
  ((s.dropCopy v).count .tm plat 5).count .tmPort v.port 1

/-- Push-out for a copy (R188); the flag says that it made room. -/
def State.pushout (s : State) (f : Frame) (e rank : Nat) : State × Bool :=
  let enough (fr : Nat) : Bool := s.fits f e (s.shiftOf f) (s.sharedFree + fr)
  match s.scanClasses enough rank e (List.range (f.cls.getD 0)) [] 0 with
  | none => (s, false)
  | some vs => (vs.reverse.foldl (fun s v => s.evict f.plat v) s, true)

/-! ### One copy -/

/-- The cells of an admitted copy paid for: the first copy of a frame takes over its staging cells, whose charge moves to the
copy's pool; a further one has cells of its own (R180). `shared` of them are charged to the shared pool. -/
def State.payCells (s : State) (f : Frame) (first : Bool) (shared : Nat) : State :=
  if first then s.unstage f shared else if shared = 0 then s else s.takeShared shared

/-- A frame's cells charged to the shared share of a queue. -/
def State.chargeShared (s : State) (f : Frame) (e : Nat) (first : Bool) : State :=
  let c := f.cls.getD 0
  let q := (s.port e).queue c
  (s.setQueue e c { q with sharedUsed := q.sharedUsed + f.cells }).payCells f first f.cells

/-- admit() of R186 on one copy, by the settings that bind its frame (R28): its pool, or none where it is refused and
counted. -/
def State.admitCopy (s : State) (f : Frame) (e rank : Nat) (first : Bool) : State × Option Pool :=
  let c := f.cls.getD 0
  let cfg := s.frameCfg f
  let q := (s.port e).queue c
  if s.sduFails f e then (s.refuseSdu f e, none)
  else if s.portRefuses e then (s.refuse f.plat e 4 c, none)
  else if cfg.kind c = 2 ∧ q.resvUsed + f.cells ≤ cfg.resv e c then
    ((s.setQueue e c { q with resvUsed := q.resvUsed + f.cells }).payCells f first 0, some .reservation)
  else if s.fits f e (s.shiftOf f) s.sharedFree then (s.chargeShared f e first, some .shared)
  else
    let (s, room) := if cfg.b .tmClassCfg c 29 then s.pushout f e rank else (s, false)
    if room then (s.chargeShared f e first, some .shared)
    else (s.refuse f.plat e (if f.colour = 1 ∧ s.fits f e 0 s.sharedFree then 2 else 1) c, none)

/-- A copy linked to its queue. -/
def State.link (s : State) (x : Copy) : State :=
  let s := s.forwardCredit x.port x.cls
  ((s.setCopies x.port x.cls (((s.port x.port).queue x.cls).copies ++ [x])).count .tm x.frame.plat 0).perf
    x.frame.plat 7 none (some x.cls) 1

/-- The copy of a frame for a want. -/
def State.copyOf (s : State) (f : Frame) (w : Want) (rank : Nat) (pool : Pool) (first : Bool) : Copy :=
  { frame := f, port := w.port, cls := f.cls.getD 0, rank := rank, cells := f.cells, pool := pool
    written := first, first := first, repl := w.repl, deadline := s.deadlineOf f w.port
    held := !(s.port w.port).link && (s.port w.port).hold.isSome }

/-! ### The copy source -/

/-- Size of a Platform's copy source (R183). -/
def copySourceBytes : Nat := 524288

/-- A frame's pending extra copies refused (R184). -/
def State.refusePending (s : State) (no : Nat) : State :=
  s.ports.foldl
    (fun s (e, p) =>
      (List.range 8).foldl
        (fun s c =>
          let gone := (p.queue c).copies.filter fun x => x.frame.no = no && !x.written
          let s := if gone.isEmpty then s
            else s.cutCopies e c (((s.port e).queue c).copies.filter fun x => !(x.frame.no = no && !x.written))
          gone.foldl (fun s x => ((s.touchTx e).release x).1.refuse x.frame.plat e 3 x.cls) s) s) s

/-- Room for `need` bytes made in a Platform's copy source (R184): pending copies of rank-5 frames are refused,
oldest first. The flag says that the image fits. -/
def State.squeeze (s : State) (plat need : Nat) : List CopyImage → State × Bool
  | [] => (s, decide ((s.plat plat).copyBytes + need ≤ copySourceBytes))
  | i :: r =>
    if (s.plat plat).copyBytes + need ≤ copySourceBytes then (s, true)
    else if i.rank = 5 then ((s.refusePending i.no).dropImage plat i.no).squeeze plat need r
    else s.squeeze plat need r

/-- An image put into the copy source. -/
def State.addImage (s : State) (plat : Nat) (i : CopyImage) : State :=
  (s.modPlat plat fun p => { p with images := p.images ++ [i] }).copySourceXoff plat

/-- The image of an arriving frame (R183, R184); the flag says that it fits. -/
def State.arriveImage (s : State) (plat no bytes : Nat) : State × Bool :=
  match s.squeeze plat bytes (s.plat plat).images with
  | (s, true) => (s.addImage plat { no := no, bytes := bytes }, true)
  | (s, false) => (s, false)

/-- The source of a frame's extra copies (R184); the flag says that there is one. `done` says that the frame has been
served without an image before. -/
def State.copySource (s : State) (f : Frame) (rank : Nat) (done : Bool) : State × Bool :=
  let has := (s.plat f.plat).images.any (·.no = f.no)
  if has ∨ done then (s, true)
  else if rank ≤ 3 then (s.count .tm f.plat 13, true)
  else if rank = 4 then
    match s.squeeze f.plat f.bytes.length (s.plat f.plat).images with
    | (s, true) => ((s.addImage f.plat { no := f.no, bytes := f.bytes.length, rank := 4 }).count .tm f.plat 13, true)
    | (s, false) => (s, false)
  else (s, false)

/-- The rank of a frame noted on its image (R184). -/
def State.rankImage (s : State) (f : Frame) (rank : Nat) : State :=
  s.modPlat f.plat fun p =>
    { p with images := p.images.map fun i => if i.no = f.no then { i with rank := rank } else i }

/-! ### A frame's copies -/

/-- The copies of a frame decided one by one in ascending port number (R198); `k` have been admitted. -/
def State.admitWants (s : State) (f : Frame) (rank : Nat) : List Want → Nat → State × Nat
  | [], k => (s, k)
  | w :: ws, k =>
    match s.admitCopy f w.port rank (decide (k = 0)) with
    | (s, none) => s.admitWants f rank ws k
    | (s, some pool) =>
      if k = 0 then (s.link (s.copyOf f w rank pool true)).admitWants f rank ws 1
      else
        match s.copySource f rank (decide (2 ≤ k) && decide (rank ≤ 3)) with
        | (s, true) => (s.link (s.copyOf f w rank pool false)).admitWants f rank ws (k + 1)
        | (s, false) =>
          ((s.release (s.copyOf f w rank pool false)).1.refuse f.plat w.port 3 (f.cls.getD 0)).admitWants f rank ws k

/-- A frame ends stage 8 with `copies` admitted: its record request, and the cells that nothing holds freed (R180, R323). A frame
with an error mark that reached neither the host nor the capture store is counted (R91). -/
def State.endStage8 (s : State) (f : Frame) (copies : Nat) : State :=
  let (s, post) := (s.settleImage f.plat f.no).postCapture f copies
  let s := if copies = 0 ∧ post ≠ some true then s.freeFrame f else s
  s.countIf (f.err ≠ 0 && copies = 0 && post.isNone) .cls f.plat 6

/-- A frame that is not of rank 3 ends stage 8 (R180, R186). -/
def State.admitFrame (s : State) (f : Frame) (rank : Nat) (wants : List Want) : State :=
  let (s, k) := (s.rankImage f rank).admitWants f rank wants 0
  s.endStage8 f k

/-! ### Lossless frames -/

/-- `n` cells fit on an account (R192): shared while below the threshold, then headroom. -/
def acctFits (code free sh hd hr : Nat) : Nat → Bool
  | 0 => true
  | n + 1 =>
    if sh + 1 ≤ alphaTimes code free then acctFits code (free - 1) (sh + 1) hd hr n
    else decide (hd + (n + 1) ≤ hr)

/-- Cells that an account still owes for extra copies not yet written (R192). -/
def State.owedBy (s : State) (port a : Nat) : Nat :=
  ((s.refs.filter fun r => r.port = port && r.acct = some a).map (·.owed)).foldl (· + ·) 0

/-- Every condition of R192 but the order of the wait list, by the settings that bind the frame (R28). (DEDUCED, log 32.) -/
def State.losslessFits (s : State) (f : Frame) (wants : List Want) : Bool :=
  let c := f.cls.getD 0
  let cfg := s.frameCfg f
  let a := f.acct.getD 0
  let x := (s.port f.port).acct a
  (cfg.maxCells c = 0 ||
    wants.all fun w =>
      decide (((s.port w.port).queue c).depth + f.cells * (wants.filter (·.port = w.port)).length ≤ cfg.maxCells c))
    && acctFits (cfg.f .tmFcCfg 0 22 20) s.sharedFree x.shared x.head (cfg.headroom f.port a)
        ((wants.length - 1) * f.cells + s.owedBy f.port a)

/-- An earlier rank-3 frame of the same ingress port and class waits, on whichever Platform: frames of the Coupler are spread
over them (R192, R279). -/
def State.waitsBehind (s : State) (f : Frame) : Bool :=
  s.plats.any fun p =>
    p.waitList.any fun r => r.frame.port = f.port && r.frame.cls = f.cls && decide (r.frame.no < f.no)

/-- The copies of a rank-3 frame linked (R192). -/
def State.linkWants (s : State) (f : Frame) : List Want → Bool → State
  | [], _ => s
  | w :: ws, first => (s.link (s.copyOf f w 3 .account first)).linkWants f ws false

/-- A rank-3 frame admitted with all its copies (R192), or freed where it has none. -/
def State.admitLossless (s : State) (f : Frame) (wants : List Want) : State :=
  let k := wants.length
  let s := s.rankImage f 3
  if k = 0 then s.endStage8 f 0
  else
    let s := if 2 ≤ k then (s.copySource f 3 false).1 else s
    let s := s.setRef
      { no := f.no, plat := f.plat, cells := f.cells, copies := k, port := f.port, acct := f.acct
        acctShared := f.charge.acctShared, acctHead := f.charge.acctHead, owed := (k - 1) * f.cells }
    (s.linkWants f wants true).endStage8 f k

/-- The copies of a rank-3 frame whose ports refuse them (R193): refused and counted, the others left. -/
def State.refuseDown (s : State) (f : Frame) : List Want → State × List Want
  | [] => (s, [])
  | w :: ws =>
    if s.portRefuses w.port then (s.refuse f.plat w.port 4 (f.cls.getD 0)).refuseDown f ws
    else
      let (s, l) := s.refuseDown f ws
      (s, w :: l)

/-- The copies of a rank-3 frame that the maximum SDU check lets through (R212). -/
def State.refuseLong (s : State) (f : Frame) : List Want → State × List Want
  | [] => (s, [])
  | w :: ws =>
    if s.sduFails f w.port then (s.refuseSdu f w.port).refuseLong f ws
    else
      let (s, l) := s.refuseLong f ws
      (s, w :: l)

/-- Copies of a rank-3 frame for groups without a usable member (R193): refused and counted as R186 states, beside
NO_DEST_DROP of R133 (DEDUCED, log 32). -/
def State.refuseGroups (s : State) (f : Frame) (n : Nat) : State :=
  (s.countN .tm f.plat 4 n).perf f.plat 8 none (some (f.cls.getD 0)) n

/-- A rank-3 frame at stage 8: admitted whole, or put in the wait list, or dropped where that is full (R192). `lost` copies were
for groups without a usable member. -/
def State.arriveLossless (s : State) (f : Frame) (wants : List Want) (lost : Nat) : State :=
  let (s, wants) := (s.refuseGroups f lost).refuseLong f wants
  let (s, wants) := s.refuseDown f wants
  if wants.isEmpty ∨ (s.losslessFits f wants ∧ ¬ s.waitsBehind f) then s.admitLossless f wants
  else if (s.plat f.plat).waitList.length < 4096 then
    (s.modPlat f.plat fun p => { p with waitList := p.waitList ++ [{ frame := f, wants := wants }] }).count .tm f.plat 7
  else ((s.breach f.plat f.port (f.acct.getD 0)).dropImage f.plat f.no).endStage8 f 0

/-- Entry `i` of a Platform's wait list can be admitted (R192, R193). -/
def State.waitReady (s : State) (plat i : Nat) : Bool :=
  match (s.plat plat).waitList[i]? with
  | none => false
  | some r =>
    let live := r.wants.filter fun w => !s.portRefuses w.port
    (live.isEmpty || s.losslessFits r.frame live) && !s.waitsBehind r.frame

/-- Entry `i` of a Platform's wait list admitted. -/
def State.admitWaiting (s : State) (plat i : Nat) : State :=
  match (s.plat plat).waitList[i]? with
  | none => s
  | some r =>
    let s := s.modPlat plat fun p => { p with waitList := p.waitList.eraseIdx i }
    let (s, wants) := s.refuseDown r.frame r.wants
    s.admitLossless r.frame wants

/-- Stage 8 on a frame (R14, R186, R192, R324). -/
def State.stage8 (s : State) (r : Ready) : State :=
  let s := s.ruleTrigger r.frame
  let s := if r.mgmt then (s.emit (.mgmt r.frame)).agg 7 1 else s
  let rank := s.rankOf r.frame
  if rank = 3 then s.arriveLossless r.frame r.wants r.lost else s.admitFrame r.frame rank r.wants

/-! ### Extra copies -/

/-- The extra copies of a Platform's frames that wait to be written. -/
def State.pendingCopies (s : State) (plat : Nat) : List Copy :=
  s.ports.flatMap fun (_, p) =>
    p.queues.flatMap fun q => q.copies.filter fun x => !x.written && x.frame.plat = plat

/-- The first in rank order, and the oldest within one rank (R182). -/
def firstCopy : List Copy → Option Copy
  | [] => none
  | x :: r =>
    match firstCopy r with
    | none => some x
    | some y => if y.rank < x.rank ∨ (y.rank = x.rank ∧ y.frame.no < x.frame.no) then some y else some x

/-- `n` cells of a written extra copy charged to its frame's account under the frame's settings (R192, R28): what went to shared
and to headroom. -/
def State.chargeExtra (s : State) (cfg : Cfg) (port a : Nat) : Nat → Nat → Nat → State × Nat × Nat
  | 0, sh, hd => (s, sh, hd)
  | n + 1, sh, hd =>
    let x := (s.port port).acct a
    if x.shared + 1 ≤ s.acctLimitOf cfg then
      ((s.modPort port fun p => p.setAcct a { x with shared := x.shared + 1 }).takeShared 1).chargeExtra cfg port a n
        (sh + 1) hd
    else
      let s := if x.xoff then s else s.sendXoff port a
      let x := (s.port port).acct a
      (s.modPort port fun p => p.setAcct a { x with head := x.head + 1 }).chargeExtra cfg port a n sh (hd + 1)

/-- Buffer write beats (R182, R365, R367). -/
def State.writeBeats (s : State) (plat n : Nat) : State := (s.perf plat 9 none none (beats n)).agg 1 (beats n)

/-- The first copy of frame `no` in a queue whose cells are not yet written marked as written. -/
def markWritten (no : Nat) : List Copy → List Copy
  | [] => []
  | y :: r => if y.frame.no = no ∧ ¬ y.written then { y with written := true } :: r else y :: markWritten no r

/-- An extra copy written into its new cells (R182, R192). -/
def State.writeExtra (s : State) (x : Copy) : State :=
  let l := markWritten x.frame.no ((s.port x.port).queue x.cls).copies
  let s := (s.setCopies x.port x.cls l).writeBeats x.frame.plat x.frame.bytes.length
  let s := match s.ref x.frame.no with
    | some r =>
      match r.acct with
      | some a =>
        let (s, sh, hd) := s.chargeExtra (s.frameCfg x.frame) r.port a x.cells 0 0
        s.setRef { r with acctShared := r.acctShared + sh, acctHead := r.acctHead + hd, owed := r.owed - x.cells }
      | none => s
    | none => s
  s.settleImage x.frame.plat x.frame.no

/-- The next extra copy of a Platform's frames written. -/
def State.writeNextExtra (s : State) (plat : Nat) : State :=
  match firstCopy (s.pendingCopies plat) with
  | none => s
  | some x => s.writeExtra x

end Sys2Proof.Machine
end

