-- ==== Sys2Proof/Machine/Police.lean ====
section
/-! DEFINITION. Stage 6: stream filters, stream gates and flow meters (R149 to R173). -/

namespace Sys2Proof.Machine

/-- The frame arrived as a replicated frame, TYPE 2, on the Coupler (R279). -/
def Frame.replica (f : Frame) : Bool := match f.cpl with | some c => c.type == 2 | none => false

/-! ### Entries as a frame sees them -/

/-- The words of a filter, gate or meter for a frame: after an edit, the previous writable words bind frames whose
first pass began before the edge (R172). -/
def State.psfWord (s : State) (f : Frame) (t i w : Nat) : Word :=
  let cur := s.tab t i w
  match (s.psf.past.reverse).find? fun e => e.target = t && e.index = i && decide (f.epoch < e.epoch) with
  | some e =>
    let m := ownerMask t w
    (((e.words[w]?).getD 0) &&& m) ||| (cur &&& ~~~m)
  | none => cur

/-- A latch set: PSF_INT_STAT.LATCH with it (R174). -/
def State.setLatch (s : State) (t i w b : Nat) : State :=
  if s.tb t i w b then s
  else (s.setTab t i w (setBitW (s.tab t i w) b true)).orReg .psfIntStat 0 4

/-- A filter counter counts: slot 0 MATCHING, 1 NOT_PASSING, 2 RED (R167). -/
def State.countFilter (s : State) (h slot : Nat) : State :=
  let (s, half) := s.countEntry 0x12 h (2 + 2 * slot) 1
  if half then s.postEvent .psfHalfIdx .psfHalfEvt (Word.ofNat (at_ slot 17 + h)) else s

/-- A gate schedule's sequence. -/
def State.sched (s : State) (n : Nat) : GateSeq := Store.get {} s.psf.scheds n

/-- A gate schedule's sequence replaced. -/
def State.setSched (s : State) (n : Nat) (g : GateSeq) : State :=
  { s with psf := { s.psf with scheds := Store.set {} s.psf.scheds n g } }

/-! ### The gate -/

/-- The gate's state at a frame's instant: open, the class it sets, and the interval with its entry word. -/
structure GateView where
  isOpen : Bool
  ipv : Option Nat
  entry : Option (Int × Nat × Nat)
  deriving DecidableEq, Repr

/-- The state of gate `g` for a frame (R157, R161). -/
def State.gateView (s : State) (f : Frame) (g : Nat) : GateView :=
  let w0 := s.psfWord f 0x13 g 0
  let admin : GateView :=
    { isOpen := bitW w0 30, ipv := if bitW w0 29 then some (fld w0 28 26) else none, entry := none }
  let g0 := s.sched (fld w0 7 0)
  match s.listAt g0 f.instant with
  | none => admin
  | some l =>
    if l.entries.isEmpty then admin
    else
      let (pos, cyc) := l.pos (s.listNs g0 l f.instant - ((s.psfWord f 0x13 g 1).toNat : Int))
      match entryAt pos l.entries 0 with
      | none => admin
      | some (i, w) =>
        { isOpen := bitOf w 31, ipv := if bitOf w 30 then some (bits w 29 27) else none,
          entry := some (cyc, i, w) }

/-- The octet count of an interval (R161); the flag says that the frame fits. -/
def State.gateOctets (s : State) (f : Frame) (g : Nat) (iv : Int × Nat) (max : Nat) : State × Bool :=
  let s :=
    if Store.get none s.psf.tags g = some iv then s
    else
      let s := s.setTab 0x13 g 2 0
      { s with psf := { s.psf with tags := Store.set none s.psf.tags g (some iv) } }
  let n := (s.tab 0x13 g 2).toNat
  if n + f.len > max then
    let s := if bitW (s.psfWord f 0x13 g 0) 23 then s.setLatch 0x13 g 0 22 else s
    (s.count .psf f.plat 6, false)
  else (s.setTab 0x13 g 2 (Word.ofNat (n + f.len)), true)

/-- The stream gate judges a frame (R161, R162, R168); the flag says that it is open. -/
def State.gate (s : State) (f : Frame) (g : Nat) : State × Frame × Bool :=
  let w0 := s.psfWord f 0x13 g 0
  if ¬ bitW w0 31 ∨ bitW w0 24 ∨ bitW w0 22 then (s.count .psf f.plat 5, f, false)
  else
    let v := s.gateView f g
    if ¬ v.isOpen then
      let s := if bitW w0 25 then s.setLatch 0x13 g 0 24 else s
      (s.count .psf f.plat 5, f, false)
    else
      let (s, ok) :=
        match v.entry with
        | some (cyc, i, w) => if bitOf w 26 then s.gateOctets f g (cyc, i) (bits w 23 0) else (s, true)
        | none => (s, true)
      (s, if ok then (match v.ipv with | some c => { f with cls := some c } | none => f) else f, ok)

/-! ### The meter -/

/-- The buckets of a meter brought forward to an instant (R163). -/
def State.refill (s : State) (f : Frame) (m t : Nat) : State :=
  let last := (s.tab 0x14 m 6).toNat + (s.tab 0x14 m 7).toNat * 2 ^ 32
  if last < t then
    let w0 := s.psfWord f 0x14 m 0
    let cbs := fld w0 23 0 * 256
    let ebs := fld (s.psfWord f 0x14 m 3) 23 0 * 256
    let rate (w : Nat) : Nat := min (s.psfWord f 0x14 m w).toNat 1000000000
    let c := (s.tab 0x14 m 4).toNat + (t - last) * rate 1 / 31250
    let adde := (t - last) * rate 2 / 31250 + if bitW w0 30 then c - cbs else 0
    let s := s.setTab 0x14 m 4 (Word.ofNat (min c cbs))
    let s := s.setTab 0x14 m 5 (Word.ofNat (min ((s.tab 0x14 m 5).toNat + adde) ebs))
    (s.setTab 0x14 m 6 (Word.ofNat t)).setTab 0x14 m 7 (Word.ofNat (t / 2 ^ 32))
  else s

/-- The flow meter judges a frame: 0 green, 1 yellow, 2 red (R163, R165). BLIND_METERED counts where the meter has COLOUR_AWARE
set and MARK_RED clear. (DESIGN CHOICE, log 64: R174.) -/
def State.meter (s : State) (f : Frame) (m : Nat) : State × Nat :=
  let s := s.refill f m (instantNs f.instant)
  let w0 := s.psfWord f 0x14 m 0
  if bitW w0 26 then (s.count .psf f.plat 11, 2)
  else
    let aware := bitW w0 29
    let s := s.countIf (aware && f.blind) .psf f.plat 12
    let colour := if aware && !f.blind then f.colour else 0
    let need := f.len * 256
    let c := (s.tab 0x14 m 4).toNat
    let e := (s.tab 0x14 m 5).toNat
    if colour = 0 ∧ need ≤ c then ((s.setTab 0x14 m 4 (Word.ofNat (c - need))).count .psf f.plat 7, 0)
    else if colour ≠ 2 ∧ need ≤ e then ((s.setTab 0x14 m 5 (Word.ofNat (e - need))).count .psf f.plat 8, 1)
    else (if bitW w0 27 then s.setLatch 0x14 m 0 26 else s, 2)

/-! ### The filter, gate and meter in order -/

/-- The meter of a filter and its outcome (R153); the flag says that the frame passes. -/
def State.policeMeter (s : State) (f : Frame) (h m : Nat) : State × Frame × Bool :=
  if ¬ bitW (s.psfWord f 0x14 m 0) 31 then (s, { f with colour := 0, metered := false }, true)
  else
    let (s, c) := s.meter f m
    if c = 2 then ((s.countFilter h 2).count .psf f.plat 9, f, false)
    else if c = 1 ∧ bitW (s.psfWord f 0x14 m 0) 28 then ((s.countFilter h 2).count .psf f.plat 10, f, false)
    else (s, { f with colour := c, metered := true }, true)

/-- A frame that its filter matched (R153). -/
def State.policeMatched (s : State) (f : Frame) (h : Nat) : State × Frame × Bool :=
  let w0 := s.psfWord f 0x12 h 0
  let w1 := s.psfWord f 0x12 h 1
  let s := s.countFilter h 0
  if bitW w0 25 then ((s.countFilter h 1).count .psf f.plat 3, f, false)
  else if fld w0 13 0 ≠ 0 ∧ f.len > fld w0 13 0 then
    let s := if bitW w0 26 then s.setLatch 0x12 h 0 25 else s
    ((s.countFilter h 1).count .psf f.plat 4, f, false)
  else
    let (s, f, isOpen) := if bitW w0 24 then s.gate f (fld w1 28 16) else (s, f, true)
    if ¬ isOpen then (s.countFilter h 1, f, false)
    else
      let (s, f, ok) := if bitW w0 23 then s.policeMeter f h (fld w1 15 0) else (s, f, true)
      (s.countIf ok .psf f.plat 0, f, ok)

/-- Stage 6 (R149 to R153): the flag says that the frame passes. Frames with an error mark and frames that a rule
drops do not come here; a TYPE 2 Coupler frame skips the stage (R279). -/
def State.police (s : State) (f : Frame) : State × Frame × Bool :=
  match f.stream with
  | none => (s, f, true)
  | some h =>
    if f.replica then (s, f, true)
    else if s.capacity 0x12 ≤ h then (s.count .psf f.plat 2, f, false)
    else
      let w0 := s.psfWord f 0x12 h 0
      let w1 := s.psfWord f 0x12 h 1
      if ¬ bitW w0 31 ∨ (bitW w0 30 ∧ fld w0 29 27 ≠ f.pcp) then (s.count .psf f.plat 1, f, true)
      else if (bitW w0 24 ∧ s.capacity 0x13 ≤ fld w1 28 16) ∨ (bitW w0 23 ∧ s.capacity 0x14 ≤ fld w1 15 0) then
        (s.count .psf f.plat 2, f, false)
      else s.policeMatched f h

end Sys2Proof.Machine
end

