-- ==== Sys2Proof/Machine/Recover.lean ====
section
/-! DEFINITION. Stage 7: sequence numbers read, generated and recovered (R253 to R262). -/

namespace Sys2Proof.Machine

/-- An entry counter of the redundancy table adds `n`; a half-range crossing posts an event (R255, R287). -/
def State.countRcv (s : State) (fn slot n : Nat) : State :=
  let (s, half) := s.countEntry 0x15 fn (16 + 2 * slot) n
  if half then s.postEvent .redEvtIdx .redEvt (Word.ofNat (at_ slot 28 + fn)) else s

/-- Where the LSDU of a PRP trailer starts: after the source address and the VLAN tags (R267). -/
def Parsed.lsduStart (r : Parsed) : Nat := match r.tags.getLast? with | some t => t.off + 4 | none => 12

/-- The sequence number of a frame by the encodings that DECODE allows (R257). -/
def State.decodeSeq (s : State) (f : Frame) (r : Parsed) (dec : Nat) : State × Option (Nat × SeqEnc) :=
  let b := f.body
  let tag (t k : Nat) : Option (Nat × SeqEnc) :=
    match r.seq with
    | some (ty, o) => if ty = t then some (be b (o + 4) 2, ⟨k, o⟩) else none
    | none => none
  let early :=
    if dec = 1 then tag 0xF1C1 1
    else if dec = 2 then tag 0x892F 2
    else if dec = 0 then (tag 0xF1C1 1).or (tag 0x892F 2)
    else none
  match early with
  | some x => (s, some x)
  | none =>
    if (dec = 0 ∨ dec = 3) ∧ 20 ≤ b.length ∧ be b (b.length - 2) 2 = 0x88FB then
      if be b (b.length - 4) 2 % 4096 = (b.length - r.lsduStart) % 4096 then
        (s, some (be b (b.length - 6) 2, ⟨3, b.length - 6⟩))
      else (s.count .red f.plat 12, none)
    else (s, none)

/-- The history bits of a recovery function. -/
def State.rcvHist (s : State) (fn : Nat) : Nat := (s.tab 0x15 fn 6).toNat + (s.tab 0x15 fn 7).toNat * 2 ^ 32

/-- The history bits written. -/
def State.setRcvHist (s : State) (fn h : Nat) : State :=
  (s.setTab 0x15 fn 6 (Word.ofNat h)).setTab 0x15 fn 7 (Word.ofNat (h / 2 ^ 32))

/-- REC_SEQ and TAKE_ANY written: a number has been taken. -/
def State.setRecSeq (s : State) (fn n : Nat) : State :=
  s.setTab 0x15 fn 5 (setBitW (setFld (s.tab 0x15 fn 5) 15 0 n) 31 false)

/-- The common end of both algorithms: the frame is accepted (R259, R260). -/
def State.rcvAccept (s : State) (p fn : Nat) : State :=
  ((s.setTab 0x15 fn 8 (Word.ofNat s.monoMs)).countRcv fn 0 1).count .red p 2

/-- The difference of R259 and R260. -/
def seqDiff (a b : Nat) : Int := signed 16 ((a + 65536 - b) % 65536)

/-- The vector recovery algorithm (R259, R265); the flag says that the frame passes. -/
def State.rcvVector (s : State) (p fn n : Nat) : State × Bool :=
  let h := min (max (s.tf 0x15 fn 2 6 0) 2) 64
  if s.tb 0x15 fn 5 31 then (((s.setRecSeq fn n).setRcvHist fn 1).rcvAccept p fn, true)
  else
    let d := seqDiff n (s.tf 0x15 fn 5 15 0)
    let hist := s.rcvHist fn
    if d ≥ h ∨ d ≤ -(h : Int) then ((s.countRcv fn 3 1).count .red p 4, false)
    else if d ≤ 0 then
      let k := (-d).toNat
      if bitOf hist k then ((s.countRcv fn 1 1).count .red p 3, false)
      else (((s.setRcvHist fn (hist + 2 ^ k)).countRcv fn 2 1).rcvAccept p fn, true)
    else
      let k := d.toNat
      let lost := ((List.range k).filter fun j => !bitOf hist (h - k + j)).length
      let s := if lost = 0 then s else s.countRcv fn 4 lost
      let s := s.setRcvHist fn ((hist * 2 ^ k + 1) % 2 ^ h)
      ((s.setRecSeq fn n).rcvAccept p fn, true)

/-- The match recovery algorithm (R260). -/
def State.rcvMatch (s : State) (p fn n : Nat) : State × Bool :=
  if s.tb 0x15 fn 5 31 then ((s.setRecSeq fn n).rcvAccept p fn, true)
  else
    let d := seqDiff n (s.tf 0x15 fn 5 15 0)
    if d = 0 then ((s.countRcv fn 1 1).count .red p 3, false)
    else
      let s := if d = 1 then s else s.countRcv fn 2 1
      ((s.setRecSeq fn n).rcvAccept p fn, true)

/-- recover() of R258. -/
def State.recover (s : State) (p fn : Nat) (seq : Option Nat) : State × Bool :=
  match seq with
  | none =>
    let s := s.countRcv fn 5 1
    if s.tb 0x15 fn 2 29 then (s, true) else (s.count .red p 5, false)
  | some n => if s.tb 0x15 fn 2 30 then s.rcvMatch p fn n else s.rcvVector p fn n

/-- RED_TWIN_STAT.STATE is Paired (R274). -/
def State.paired (s : State) : Bool := s.red.state = 3

/-- RED_TWIN_STAT.ROLE is follower (R269). -/
def State.follower (s : State) : Bool := s.rb .redTwinStat 0 27

/-- What stage 7 finds or generates: the sequence number, or the frame is dropped (R258). -/
def State.seqOf (s : State) (f : Frame) (r : Parsed) (h : Nat) : State × Frame × Option (Option Nat) :=
  let w0 := s.tab 0x15 h 0
  match f.cpl with
  | some c =>
    let s := if c.gen then s.setTab 0x15 h 1 (Word.ofNat ((c.seq + 1) % 65536)) else s
    (s, f, some (if c.seqValid then some c.seq else none))
  | none =>
    let (s, x) := s.decodeSeq f r (fld w0 27 26)
    let f := { f with seqEnc := x.map (·.2) }
    if bitW w0 30 then
      if s.paired && (s.frameCfg f).f .redPortCfg f.port 31 30 = 2 && s.follower then
        (s.count .red f.plat 1, f, none)
      else
        let n := s.tf 0x15 h 1 15 0
        let s := s.setTab 0x15 h 1 (Word.ofNat ((n + 1) % 65536))
        (s.count .red f.plat 0, { f with generated := true }, some (some n))
    else (s, f, some (x.map (·.1)))

/-- Stage 7 (R253, R258): the flag says that the frame passes. Frames with an error mark, frames that a rule drops
and frames that stage 6 dropped do not come here. -/
def State.stage7 (s : State) (f : Frame) (r : Parsed) : State × Frame × Bool :=
  match f.stream with
  | none => (s, f, true)
  | some h =>
    let w0 := s.tab 0x15 h 0
    if ¬ bitW w0 31 then (s, f, true)
    else
      match s.seqOf f r h with
      | (s, f, none) => (s, f, false)
      | (s, f, some seq) =>
        let fn := fld w0 16 0
        let (s, ok) :=
          if bitW w0 29 then
            if s.capacity 0x15 ≤ fn ∨ ¬ s.tb 0x15 fn 2 31 then (s.count .red f.plat 6, true)
            else s.recover f.plat fn seq
          else (s, true)
        (s, { f with seq := if ok then seq else none, redDone := ok }, ok)

/-! ### Timers of the recovery functions -/

/-- (a − b) mod 2^32 for millisecond values. -/
def ms32 (a b : Nat) : Nat := (a + 2 ^ 32 - b % 2 ^ 32) % 2 ^ 32

/-- A recovery function whose reset has fallen due (R261). -/
def State.resetDue (s : State) (fn : Nat) : Bool :=
  s.tb 0x15 fn 2 31 && !s.tb 0x15 fn 5 31 && s.tf 0x15 fn 3 31 16 ≠ 0
    && decide (s.tf 0x15 fn 3 31 16 ≤ ms32 s.monoMs (s.tab 0x15 fn 8).toNat)

/-- The reset of a recovery function (R261). -/
def State.resetRcv (s : State) (fn : Nat) : State :=
  let s := s.setTab 0x15 fn 5 (setBitW (s.tab 0x15 fn 5) 31 true)
  (s.setRcvHist fn 0).countRcv fn 6 1

/-- A latent error test is due (R262). -/
def State.latentDue (s : State) (fn : Nat) : Bool :=
  s.tb 0x15 fn 2 31 && s.tb 0x15 fn 2 28 && decide (2 ≤ s.tf 0x15 fn 2 23 20)
    && decide (ms32 s.monoMs (s.tab 0x15 fn 9).toNat < 2 ^ 31)

/-- The latent error test of R262. -/
def State.latentTest (s : State) (fn : Nat) : State :=
  let exp := ms32 (s.tab 0x15 fn 16).toNat (s.tab 0x15 fn 11).toNat * (s.tf 0x15 fn 2 23 20 - 1)
  let got := ms32 (s.tab 0x15 fn 18).toNat (s.tab 0x15 fn 12).toNat
  let s :=
    if (exp : Int) - (got : Int) > (s.tf 0x15 fn 3 15 0 : Nat) then
      let s := s.count .red 0 13
      if s.tb 0x15 fn 5 30 then s
      else (s.setTab 0x15 fn 5 (setBitW (s.tab 0x15 fn 5) 30 true)).postEvent .redEvtIdx .redEvt
        (Word.ofNat (at_ 8 28 + fn))
    else s
  let s := s.setTab 0x15 fn 9 (Word.ofNat ((s.tab 0x15 fn 9).toNat + max (s.tf 0x15 fn 4 31 16) 1))
  if ms32 s.monoMs (s.tab 0x15 fn 10).toNat < 2 ^ 31 then
    let s := s.setTab 0x15 fn 11 (s.tab 0x15 fn 16)
    let s := s.setTab 0x15 fn 12 (s.tab 0x15 fn 18)
    let s := s.setTab 0x15 fn 10 (Word.ofNat (s.monoMs + s.tf 0x15 fn 4 15 0))
    s.countRcv fn 7 1
  else s

end Sys2Proof.Machine
end

