-- ==== Sys2Proof/Machine/Pipeline.lean ====
section
/-! DEFINITION. The ingress pipeline: one pass of stages 2 to 5 (R67 to R97), the end of the last pass with stages 6
and 7 (R149, R253), replication to the Coupler (R277), and the order kept at the admission front (R29). -/

namespace Sys2Proof.Machine

/-! ### The key and the classifier's answer -/

/-- The parse of a pass (R94, R71): from byte 0, or from the recorded inner start. -/
def State.passParse (s : State) (f : Frame) : Parsed :=
  parse (s.frameCfg f).parseCfg f.bytes f.fend (if f.wantInner then f.inner else some (0, .eth))

/-- What the key takes from the frame's metadata (R74, R95). -/
def Frame.keyMeta (f : Frame) : KeyMeta :=
  { port := f.port, pass := f.pass, err := f.err, sta := f.sta.map (·.1), inner := f.wantInner && f.inner.isSome
    lpmCont := f.lpm.isSome, directed := (f.host.bind (·.directed)).isSome, carry := f.carry }

/-- A directed host frame (R93). -/
def Frame.isDirected (f : Frame) : Bool := (f.host.bind (·.directed)).isSome

/-- A walk fault counted and latched (R83). -/
def State.walkFault (s : State) (f : Frame) (e : WalkFault) : State :=
  let s := s.count .cls f.plat 4
  if s.rb .clsIntStat 0 2 then s
  else
    let w := at_ e.tree 28 + at_ f.plat 25 + at_ f.pass 23 + at_ e.reason 20 + f.bank
    ((s.setReg .clsWalkFault 0 (Word.ofNat w)).setReg .clsWalkFaultAddr 0 (Word.ofNat (e.addr % 2 ^ 21))).orReg
      .clsIntStat 0 4

/-- The merged values that travel with the frame (R84, R88 to R90, R95). -/
def Frame.merged (f : Frame) (m : Merged) (r : Parsed) : Frame :=
  { f with
    cls := match m.cls with | some h => some h.cls | none => f.cls
    colour := match m.colour with | some h => h.colour | none => f.colour
    stream := match m.stream with | some h => some h.handle | none => f.stream
    streamRule := f.streamRule || m.stream.isSome
    mirror := match m.mirror with | some h => some h.recSel | none => f.mirror
    hostCopy := match m.host with | some h => some h.hostq | none => f.hostCopy
    carry := match m.carry with | some h => h.carry | none => f.carry
    inner := r.inner }

/-- The disposition that applies to a frame (R86, R91 to R93). -/
inductive Disp
  | none
  | drop
  | turn (inner : Bool)
  | port (n : Nat)
  | group (g : Nat)
  | host (q : Nat)
  deriving DecidableEq, Repr

/-- The disposition of the merged action. -/
def Frame.disp (f : Frame) (m : Merged) : Disp :=
  match m.disp with
  | none => .none
  | some h =>
    if h.drop then .drop
    else if h.turntable && f.err = 0 then .turn h.inner
    else if f.isDirected then .none
    else if h.fwdMode = 3 then .host h.hostq
    else if f.err ≠ 0 || f.sta.isSome then .none
    else if h.fwdMode = 1 then .port h.port
    else if h.fwdMode = 2 then .group h.mgroup
    else .none

/-! ### The end of a frame's passes -/

/-- The frame's last pass has ended: its bank counts it no more (R108). -/
def State.passEnded (s : State) (f : Frame) : State :=
  { s with cls := { s.cls with inflight := s.cls.inflight.modify f.bank (· - 1) } }

/-- A frame freed with everything it holds, where its metadata or its entry is lost (R464): its mirror is lost with it. -/
def State.discard (s : State) (f : Frame) : State := ((s.passEnded f).freeFrame f).dropImage f.plat f.no

/-- A frame dropped by a walk fault or by the Turntable (R83, R97, R101). It never reaches stage 8, but the record that its mirror
asks for is made, with COPIES 0 (R323). A host copy that its earlier passes asked for is lost with it, which R90 leaves open (DESIGN
CHOICE, log 62). -/
def State.dropInPass (s : State) (f : Frame) : State :=
  let (s, post) := ((s.passEnded f).dropImage f.plat f.no).postCapture f 0
  if post = some true then s else s.freeFrame f

/-- The frame gets an extra replicated copy (R277). -/
def State.replicates (s : State) (f : Frame) : Bool :=
  let homing := (s.frameCfg f).f .redPortCfg f.port 31 30
  match f.stream with
  | none => false
  | some h =>
    s.paired && f.cpl.isNone && decide (h < s.capacity 0x15) && s.tb 0x15 h 0 31 && s.tb 0x15 h 0 28 && f.redDone
      && (homing = 1 || (homing = 2 && f.generated))

/-- The copies asked for with the replicated one (R277). -/
def State.withReplica (s : State) (f : Frame) (ports : List Nat) : State × List Want :=
  if s.replicates f then
    let rest := ports.filter (· ≠ 520)
    (s.count .red f.plat 7,
      (rest.filter (· < 520)).map (⟨·, false⟩) ++ [⟨520, true⟩] ++ (rest.filter (520 < ·)).map (⟨·, false⟩))
  else (s, ports.map (⟨·, false⟩))

/-- Stage 8 of a frame, with the replicated copy that the twin state asks for at that moment (R277, R286). -/
def State.frontAdmit (s : State) (r : Ready) : State :=
  if r.ends then
    let (s, wants) := s.withReplica r.frame (r.wants.map (·.port))
    s.stage8 { r with wants := wants }
  else s.stage8 r

/-- A frame came to the switch before another of its ingress port and class: of one on the Turntable the class merged so far
counts, of one that waits at stage 8 its final class (R29, R30). -/
def Frame.before (g f : Frame) : Bool := decide (g.no < f.no) && g.port = f.port && g.orderCls = f.orderCls

/-- The ports to which a frame at the admission front is to be queued: the replicated copy's among them (R277). -/
def State.frontPorts (s : State) (r : Ready) : List Nat :=
  (if r.ends && s.replicates r.frame then [520] else []) ++ r.wants.map (·.port)

/-- A frame that the wait list does not take may not pass an earlier rank-3 frame of its ingress port and class that waits there
for one of its ports (R29, R192). (DEDUCED, log 32.) -/
def State.passesWaiting (s : State) (r : Ready) : Bool :=
  decide (s.rankOf r.frame ≠ 3) && s.plats.any fun p => p.waitList.any fun w =>
    w.frame.before r.frame && w.wants.any fun x => (s.frontPorts r).contains x.port

/-- A frame in an intake came before another of its ingress port; its class is not yet known, so it may be the other's (R29).
(DEDUCED, log 32.) -/
def Frame.ahead (g f : Frame) : Bool := decide (g.no < f.no) && g.port = f.port

/-- A frame waits at the admission front: behind an earlier frame of the same ingress port and class on the Turntable or at the
front, and behind one of its port in an intake, on whichever Platform, since the frames of the Coupler are spread over them (R29,
R279), or behind the wait list. -/
def State.blocks (s : State) (r : Ready) : Bool :=
  s.plats.any (fun p =>
    p.intake.any (·.ahead r.frame) || p.prio.any (·.before r.frame) || p.norm.any (·.before r.frame)
      || p.held.any fun h => h.frame.before r.frame)
    || s.passesWaiting r

/-- The first frame held at the admission front of a Platform that may go on. -/
def State.mayPass (s : State) (plat : Nat) : Option Ready := (s.plat plat).held.find? fun r => !s.blocks r

/-- The frames held at the admission fronts that may go on are admitted, those of a Platform oldest first; `n` bounds the
search. -/
def State.drainHeld (s : State) : Nat → State
  | 0 => s
  | n + 1 =>
    match (List.range 8).findSome? s.mayPass with
    | none => s
    | some r =>
      ((s.modPlat r.frame.plat fun p => { p with held := p.held.filter (·.frame.no ≠ r.frame.no) }).frontAdmit r).drainHeld n

/-- Every frame held at an admission front that may go on is admitted. -/
def State.drain (s : State) : State := s.drainHeld ((s.plats.map (·.held.length)).foldl (· + ·) 0)

/-- A frame arrives at the admission front (R29). -/
def State.arriveFront (s : State) (r : Ready) : State :=
  (s.modPlat r.frame.plat fun p => { p with held := p.held ++ [r] }).drain

/-- The holding configuration is in force (R242). -/
def State.holding (s : State) : Bool := s.rb .schAdmStat 0 28

/-- The end of a pass in the holding configuration: only frames for the management complex are forwarded (R242). (DEDUCED, log
49.) -/
def State.holdPass (s : State) (f : Frame) : State :=
  let mgmt := f.err = 0 && f.sta.map (·.2) = some 0
  (s.passEnded f).arriveFront { frame := f, mgmt := mgmt, ends := false }

/-- The redirect of a rule or the routed copy noted where the frame really has a copy for its group (R385), and the host copy left
out where a copy for its group is there already. -/
def Frame.noteHost (f : Frame) (d : Disp) (ports : List Nat) : Frame :=
  { f with
    hostWhy := (match d with | .host q => some (q, 2) | _ => f.hostWhy).filter fun w => ports.contains (528 + w.1)
    hostCopy := f.hostCopy.filter fun q => !ports.contains (528 + q) }

/-- The host copy of a frame. Where a copy for the same group is there already, none is made and none is counted in HOST_COPIED
(R90; DESIGN CHOICE, log 62). -/
def State.withHostCopy (s : State) (f : Frame) (ports : List Nat) : State × List Nat :=
  match f.hostCopy with
  | none => (s, ports)
  | some q =>
    if ports.contains (528 + q) then (s, ports) else (s.count .cls f.plat 13, sortNat ((528 + q) :: ports))

/-- A frame with an error mark at the end of its pass (R91): only the host and the capture store take it; one that
neither takes is counted at stage 8. (DEDUCED, log 34.) -/
def State.finishErrored (s : State) (f : Frame) (d : Disp) : State :=
  let takes (q : Nat) : Bool := s.rb .hostQpCtrl q 30
  let (s, ports) := match d with
    | .host q => if takes q then (s.count .cls f.plat 12, [528 + q]) else (s, [])
    | _ => (s, [])
  let f := ({ f with hostCopy := f.hostCopy.filter takes }).noteHost d ports
  let (s, ports) := s.withHostCopy f ports
  (s.passEnded f).arriveFront { frame := { f with orderCls := f.cls.getD 0 }, wants := ports.map (⟨·, false⟩) }

/-- Stages 6 and 7 on a frame that has destinations (R149, R253): the flag says that its forwarding copies stand. -/
def State.stages67 (s : State) (f : Frame) : State × Frame × Bool :=
  let s := if f.stream.isSome && !f.replica then s.agg 4 1 else s
  match s.police f with
  | (s, f, false) => (s, f, false)
  | (s, f, true) => (if f.stream.isSome then s.agg 5 1 else s).stage7 f (s.outer f)

/-- What the destination of a frame is expanded from: the disposition's port or group, else, for a frame that is neither directed
nor for a station, what stage 4 found. -/
def Frame.target (f : Frame) (d : Disp) (t : Option Target) : Option Target :=
  match d with
  | .host _ => none
  | .port n => some (.port n)
  | .group g => some (.mgroup g)
  | _ => if f.isDirected || f.sta.isSome then none else t

/-- The destinations of a frame at the end of its last pass (R131, R132), none where it is dropped; the flag says that it goes
to the management complex (R45). -/
def State.destinations (s : State) (f : Frame) (r : Parsed) (d : Disp) (t : Option Target) :
    State × Option (List Nat) × Bool :=
  match f.target d t with
  | some t => let (s, l) := s.expand f r t; (s, l, false)
  | none =>
    match d, f.host.bind (·.directed), f.sta with
    | .host q, _, _ => (s.count .cls f.plat 12, some [528 + q], false)
    | _, some e, _ => (s, some [e], false)
    | _, none, some (_, 0) => (s, some [], true)
    | _, none, some (_, n) => (s, some [527 + n], false)
    | _, none, none => (s, none, false)

/-- The class and colour that a replicated frame keeps (R279). -/
def Frame.keepReplica (f : Frame) : Frame :=
  match f.cpl with
  | some c => if c.type = 2 then { f with cls := some c.cls, colour := c.colour } else f
  | none => f

/-- The end of the last pass of a frame without an error mark. `gone` says that stage 4 dropped it. A host copy is made then too:
R90 says so of a rule's drop and of policing, and leaves the drops of stage 4 open (DESIGN CHOICE, log 62). -/
def State.finishPass (s : State) (f : Frame) (r : Parsed) (d : Disp) (gone : Bool) (t : Option Target) : State :=
  let s := s.countIf (d = .drop) .cls f.plat 5
  let (s, dest, mgmt) := if gone || d = .drop then (s, none, false) else s.destinations f r d t
  let lost := match f.target d t with | some t => s.lostGroups f r t | none => 0
  let (s, f, ok) := if dest.isNone then (s, f, false) else s.stages67 f
  let ports := if ok then dest.getD [] else []
  let f := f.noteHost d ports
  let (s, ports) := s.withHostCopy f ports
  (s.passEnded f).arriveFront
    { frame := { f with orderCls := f.cls.getD 0 }, wants := ports.map (⟨·, false⟩), mgmt := mgmt && ok, ends := ok
      lost := if ok || (dest.isNone && !gone && decide (d ≠ .drop)) then lost else 0 }

/-! ### One pass -/

/-- A frame sent round the Turntable (R96, R97, R101). -/
def State.recirculate (s : State) (f : Frame) (inner : Bool) : State :=
  let c := s.frameCfg f
  if c.f .clsTtCtrl f.plat 13 12 ≤ f.pass then ((s.ttDrop f.plat 3).dropInPass f).drain
  else
    let p := s.plat f.plat
    let g := { f with pass := f.pass + 1, wantInner := inner }
    if bitOf (c.f .clsTtCtrl f.plat 7 0) (f.cls.getD 0) then
      if p.prio.length < 16 then s.setPlat f.plat { p with prio := p.prio ++ [g] }
      else ((s.ttDrop f.plat 2).dropInPass f).drain
    else if p.norm.length < 240 then s.setPlat f.plat { p with norm := p.norm ++ [g] }
    else ((s.ttDrop f.plat 2).dropInPass f).drain

/-- Stages 4 and 5 of a pass after the merge (R86, R117). -/
def State.passEnd (s : State) (f : Frame) (m : Merged) : State :=
  let d := f.disp m
  if s.holding then s.holdPass f
  else if f.err ≠ 0 then
    let (s, f) := (s.countIf (!m.any) .cls f.plat 9).stage4Errored f (s.outer f)
    s.finishErrored f d
  else
    let turn : Bool := match d with | .turn _ => true | _ => false
    let (s, f, x) :=
      if f.isDirected then (s, f, Stage4.to none)
      else s.stage4 f (s.outer f) m.cls.isSome (d = .drop) (d ≠ .none) turn
    let f := f.keepReplica
    let f := { f with orderCls := f.cls.getD 0 }
    let last (s : State) : State := s.countIf (!m.any) .cls f.plat 9
    match x with
    | .limit => (s.dropInPass f).drain
    | .drop => (last s).finishPass f (s.outer f) d true none
    | .cont => (s.recirculate f false).drain
    | .to t =>
      match d with
      | .turn inner => (s.recirculate f inner).drain
      | _ => (last s).finishPass f (s.outer f) d false t

/-- One pass of stages 2 to 5, and on the last one of stages 6 to 8 (R13, R94). A frame with an error mark whose walk faults counts
in FAULT_DROP and not in ERR_DISCARD, which R83 and R91 leave open (DESIGN CHOICE, log 62). -/
def State.runPass (s : State) (f : Frame) : State :=
  let r := s.passParse f
  let s := s.countIf (f.pass = 0 && r.odd ≠ 0) .cls f.plat 7
  let s := s.countIf (f.pass = 0 && r.frag) .cls f.plat 8
  match classify s (s.frameCfg f) f.bank f.pass (keyWords f.keyMeta r f.bytes) (f.err ≠ 0) f.sta.isSome f.isDirected with
  | .error e => ((s.walkFault f e).dropInPass f).drain
  | .ok m => s.passEnd (f.merged m r) m

/-- A window of R165 is open. -/
def State.windowOpen (s : State) : Bool := s.psf.startup.isSome || s.psf.test.isSome || s.psf.recovery.isSome

/-- What binds a frame when its first pass begins, which is the MAC's hand-off edge (R13, R28, R108, R165). (DEDUCED, log 34.) -/
def State.bind (s : State) (f : Frame) : State × Frame :=
  ({ s with nextNo := s.nextNo + 1
            cls := { s.cls with inflight := s.cls.inflight.modify s.cls.cur (· + 1) } },
    { f with no := s.nextNo, epoch := s.epoch, bank := s.cls.cur, handoff := s.fs, blind := s.windowOpen })

/-- The intake takes a frame for its first pass (R13). (DEDUCED, log 34.) -/
def State.beginFirst (s : State) (f : Frame) : State :=
  ((s.count .cls f.plat 0).perf f.plat 1 (perfPort f.port) none 1).runPass f

/-- A Turntable pass begins (R113, R137, R365). -/
def State.beginTurn (s : State) (f : Frame) : State :=
  ((s.count .cls f.plat 1).countIf f.lpm.isSome .tbl f.plat 14).perf f.plat 2 (perfPort f.port) f.cls 1

/-- The Turntable pass that the intake takes next: the priority lane before the normal lane (R98). -/
def State.turntablePass (s : State) (plat : Nat) : State :=
  let p := s.plat plat
  match p.prio, p.norm with
  | f :: rest, _ => ((s.setPlat plat { p with prio := rest, took := true }).beginTurn f).runPass f
  | [], f :: rest => ((s.setPlat plat { p with norm := rest, took := true }).beginTurn f).runPass f
  | [], [] => s

end Sys2Proof.Machine
end

