-- ==== Sys2Proof/Machine/Mac.lean ====
section
/-! DEFINITION. The receiving MAC: cells drawn for an arriving frame (R179, R191), the checks at its last byte (R42 to
R47), the station filter (R45), the hand-off to the intake (R13, R100), and received pause (R48). -/

namespace Sys2Proof.Machine

/-! ### Cells of an arriving frame -/

/-- The priority of a frame by its first bytes: the outer tag's PCP, else the port's default (R190). -/
def State.rxPriority (s : State) (port : Nat) (bytes : List Byte) : Nat :=
  let r := parse s.cfg.parseCfg bytes bytes.length (some (0, .eth))
  if r.tags.isEmpty then s.tf 0x09 port 0 26 24 else r.tci 0 / 8192

/-- The frame being received is dropped with the cells it holds (R179, R191). -/
def State.dropRx (s : State) (plat port : Nat) (x : RxCtx) : State × RxCtx :=
  (s.freeStaging plat port x.acct x.charge, { x with charge := {}, dropped := true })

/-- One cell drawn from the staging floor, then from the shared pool (R179). -/
def State.drawStaging (s : State) (plat port : Nat) (x : RxCtx) : State × RxCtx :=
  if (s.plat plat).floorUsed < 1024 then
    (s.modPlat plat fun p => { p with floorUsed := p.floorUsed + 1 },
      { x with charge := { x.charge with floor := x.charge.floor + 1 } })
  else if 1 ≤ s.sharedFree then
    (s.takeShared 1, { x with charge := { x.charge with shared := x.charge.shared + 1 } })
  else
    let (s, x) := s.dropRx plat port x
    (s.count .tm plat 10, x)

/-- One cell drawn for a frame of account `a` (R191). -/
def State.drawAccount (s : State) (plat port a : Nat) (x : RxCtx) : State × RxCtx :=
  match s.chargeCell port a with
  | (s, some true) => (s, { x with charge := { x.charge with acctShared := x.charge.acctShared + 1 } })
  | (s, some false) => (s, { x with charge := { x.charge with acctHead := x.charge.acctHead + 1 } })
  | (s, none) =>
    let (s, x) := s.dropRx plat port x
    (s.breach plat port a, x)

/-- The next bytes of a frame, up to 256, reach the MAC and a cell is drawn for them (R179, R191). No cell is drawn
past MAX_FRAME. (DEDUCED, log 59.) -/
def State.drawCell (s : State) (port : Nat) (x : RxCtx) (data : List Byte) : State × RxCtx :=
  let plat := port / 64
  let had := x.bytes.length
  let x := { x with bytes := x.bytes ++ data }
  if x.dropped || decide ((s.cfgAt x.epoch).maxFrame port ≤ had) then (s, x)
  else
    let s := s.writeBeats plat data.length
    let x := if had = 0 then { x with acct := s.cfg.acctOf port (s.rxPriority port data) } else x
    match x.acct with
    | some a => s.drawAccount plat port a x
    | none => s.drawStaging plat port x

/-- A frame's delimiter reaches the MAC (R41, R154, R453). -/
def State.startRx (s : State) (port : Nat) : RxCtx :=
  let early := (s.plat (port / 64)).power ≠ .run
  { sfd := s.fs, epoch := s.epoch, early := early, dropped := early }

/-! ### The last byte -/

/-- The size bin of a frame length (R61), counted from the first bin's slot. -/
def sizeBin (n : Nat) : Nat :=
  if n = 64 then 0 else if n ≤ 127 then 1 else if n ≤ 255 then 2 else if n ≤ 511 then 3
  else if n ≤ 1023 then 4 else if n ≤ 1518 then 5 else 6

/-- The address type of a destination: 0 unicast, 1 multicast, 2 broadcast. -/
def daKind (da : Nat) : Nat := if da = 0xFFFFFFFFFFFF then 2 else if bitOf da 40 then 1 else 0

/-- The error mark of a frame of `len` bytes (R42), with the counter slot it counts in. -/
def rxError (codeErr fcsOk : Bool) (len max : Nat) : Nat × Nat :=
  if codeErr then (4, 14)
  else if max < len then (if fcsOk then (2, 12) else (3, 13))
  else if !fcsOk then (1, 9)
  else (0, 0)

/-- The station entry of a Platform that applies to a frame: the lowest-numbered match and its TARGET (R45). `one` is the local port
that received the frame; without it only entries for every port apply. -/
def Cfg.stationIn (c : Cfg) (plat : Nat) (one : Option Nat) (da : Nat) : Option (Nat × Nat) :=
  let k (e : Nat) : Nat := plat * 16 + e
  ((List.range 16).find? fun e =>
    c.b .platStaHi (k e) 31
      && decide (c.f .platStaHi (k e) 15 0 * 2 ^ 32 + (c .platStaLo (k e)).toNat = da)
      && (!c.b .platStaHi (k e) 30 || one = some (c.f .platStaHi (k e) 29 24))).map
    fun e => (e, c.f .platStaHi (k e) 20 16)

/-- The station entry that applies to a frame that a line port receives (R45). -/
def Cfg.station (c : Cfg) (port da : Nat) : Option (Nat × Nat) := c.stationIn (port / 64) (some (port % 64)) da

/-- A frame handed to the intake queue of its Platform (R13, R100). Its image enters the copy source whole at this instant.
(DESIGN CHOICE, log 65: R183.) -/
def State.handOff (s : State) (f : Frame) : State :=
  if 64 ≤ (s.plat f.plat).intake.length then (s.count .cls f.plat 10).freeFrame f
  else
    let (s, f) := s.bind f
    let (s, _) := s.arriveImage f.plat f.no f.bytes.length
    s.modPlat f.plat fun p => { p with intake := p.intake ++ [f] }

/-- A MAC control frame consumed (R47). -/
def State.consumeControl (s : State) (port : Nat) (b : List Byte) : State :=
  let op := be b 14 2
  if op = 0x0001 then
    (s.count .plat port 6).modPort port fun p => { p with rxPause := p.rxPause ++ [.pause (be b 16 2)] }
  else if op = 0x0101 then
    (s.count .plat port 7).modPort port fun p =>
      { p with rxPause := p.rxPause ++ [.pfc (be b 16 2 % 256) ((List.range 8).map fun c => be b (18 + 2 * c) 2)] }
  else s.count .plat port 8

/-- The counters of a frame without error mark (R61). -/
def State.countGood (s : State) (port len da : Nat) : State :=
  (((s.countN .plat port 0 len).count .plat port 2).count .plat port (3 + daKind da)).perf (port / 64) 16
    (perfPort port) none len

/-- A whole frame of 64 bytes or more at the MAC (R42 to R47). A frame without error mark that a station entry matches counts in
RX_STATION also where its cells were lost; a MAC control frame that the MAC consumes does not (R45, R47; DESIGN CHOICE,
log 63). -/
def State.receiveFrame (s : State) (port : Nat) (x : RxCtx) (codeErr fcsOk : Bool) : State :=
  let plat := port / 64
  let len := x.bytes.length
  let max := (s.cfgAt x.epoch).maxFrame port
  let (err, slot) := rxError codeErr fcsOk len max
  let s := if err = 0 then s else s.count .plat port slot
  let s := if len ≤ max then s.count .plat port (17 + sizeBin len) else s
  let da := be x.bytes 0 6
  let s := if err = 0 then s.countGood port len da else s
  if err = 0 ∧ be x.bytes 12 2 = 0x8808 then
    (s.freeStaging plat port x.acct x.charge).consumeControl port x.bytes
  else
    let sta := if err = 0 then s.cfg.station port da else none
    let s := s.countIf sta.isSome .plat port 16
    if x.dropped then s
    else
      s.handOff
        { bytes := x.bytes.take max, len := len, trunc := decide (max < len), err := err, port := port, plat := plat
          instant := x.sfd, sta := sta, charge := x.charge, acct := x.acct, rxEpoch := x.epoch }

/-- The last byte of a frame at the MAC (R42, R453). -/
def State.endRx (s : State) (port : Nat) (x : RxCtx) (codeErr : Bool) : State :=
  let s := s.modPort port fun p => { p with rx := none }
  if x.early then (s.count .ao (port / 64) 6).orReg .aoIntStat 0 2
  else
    let len := x.bytes.length
    let fcsOk := 4 ≤ len && x.bytes.drop (len - 4) = fcsOf (x.bytes.take (len - 4))
    let s := s.countN .plat port 1 len
    if len < 64 then
      (s.freeStaging (port / 64) port x.acct x.charge).count .plat port (if fcsOk then 10 else 11)
    else s.receiveFrame port x codeErr fcsOk

/-! ### Received pause -/

/-- The end of a pause of `q` quanta that begins now, 0 where it releases the queue (R48). On a port that is down a bit lasts
1,250 fs. (DESIGN CHOICE, log 38.) -/
def State.pauseUntil (s : State) (port q : Nat) : Nat :=
  if q = 0 then 0 else s.fs + q * 512 * bitFs (s.speed port)

/-- The handed frames of the classes that a pause has reached, marked (R211). -/
def PortSt.hitBy (p : PortSt) (reached : Nat → Bool) : List (Option TxFrame) :=
  p.macQ.mapIdx fun c t => if reached c then t.map fun t => { t with hit := true } else t

/-- A PAUSE frame acts (R48). -/
def State.takePause (s : State) (port q : Nat) : State :=
  let on := s.cfg.b .platPortCtrl port 29
  s.modPort port fun p =>
    { p with rxPause := p.rxPause.drop 1
             pauseEnd := if on then List.replicate 8 (s.pauseUntil port q) else p.pauseEnd
             macQ := p.hitBy fun _ => on && decide (q ≠ 0) }

/-- A per-priority pause frame acts (R48). -/
def State.takePfc (s : State) (port en : Nat) (times : List Nat) : State :=
  let on := s.cfg.f .platPortCtrl port 23 16
  s.modPort port fun p =>
    { p with rxPause := p.rxPause.drop 1
             pauseEnd := (List.range 8).map fun c =>
               if bitOf en c && bitOf on c then s.pauseUntil port ((times[c]?).getD 0) else (p.pauseEnd[c]?).getD 0
             macQ := p.hitBy fun c => bitOf en c && bitOf on c && decide ((times[c]?).getD 0 ≠ 0) }

/-- Transmit queue `c` of a port is paused. -/
def PortSt.paused (p : PortSt) (c : Nat) : Bool := (p.pauseEnd[c]?).getD 0 ≠ 0

end Sys2Proof.Machine
end

