-- ==== Sys2Proof/Machine/Egress.lean ====
section
/-! DEFINITION. Egress: transmission selection (R202, R206, R207), what is made of a selected copy (R52, R266, R271), its
start on the wire with the transparent clock (R51, R210, R310 to R314), returns (R211, R509), underruns and completion
(R53, R60), and transmit stamps (R302, R308, R309). -/

namespace Sys2Proof.Machine

/-! ### Lengths and times -/

/-- The length R207 counts: the egress length, with the 20 bytes of the Coupler frame on port 520 (R271, R285). -/
def State.txLen (s : State) (f : Frame) (e : Nat) : Nat := s.egressLen f e + if e = 520 then 20 else 0

/-- Femtoseconds of a port's bit. -/
def State.bit (s : State) (e : Nat) : Nat := bitFs (s.speed e)

/-- A counter of a line port; the Coupler and the host groups have none. -/
def State.countPort (s : State) (e slot n : Nat) : State := if e < 512 then s.countN .plat e slot n else s

/-- One count of a line port's counter taken back (R60). -/
def State.uncountPort (s : State) (e slot : Nat) : State :=
  if e < 512 then s.setCounter .plat e slot (s.counter .plat e slot + 2 ^ 40 - 1) else s

/-- A queue's head replaced. -/
def State.setHead (s : State) (e c : Nat) (x : Copy) : State :=
  s.setCopies e c (x :: ((s.port e).queue c).copies.drop 1)

/-- A queue without its head. -/
def State.popHead (s : State) (e c : Nat) : State := s.cutCopies e c (((s.port e).queue c).copies.drop 1)

/-! ### Deadlines at selection -/

/-- A copy discarded at its deadline (R200, R202). -/
def State.discardLate (s : State) (x : Copy) : State :=
  ((s.dropCopy x).count .tm (egressPlat x.port) 11).count .tmPort x.port 2

/-- Heads of a queue that were in a link-down hold and have passed their deadline are discarded (R202). -/
def State.dropLateHeads (s : State) (e c : Nat) : Nat → State
  | 0 => s
  | n + 1 =>
    match ((s.port e).queue c).copies with
    | [] => s
    | x :: _ =>
      match x.deadline with
      | some d => if x.held ∧ d < s.fs then ((s.popHead e c).discardLate x).dropLateHeads e c n else s
      | none => s

/-! ### Selection -/

/-- The port bucket shapes class `c` (R213). -/
def State.portShaped (s : State) (e c : Nat) : Bool :=
  s.cfg.b .schPortCfg e 31 && !bitOf (s.cfg.f .schPortCfg e 15 8) c

/-- The tests of R207 but for the gate. -/
def State.shaperAllows (s : State) (e c l : Nat) : Bool :=
  !(s.cbs e c && decide (s.creditNow e c < 0))
    && !(s.cfg.b .schQCfg (e * 8 + c) 29 && decide (s.queueTokens e c < (l + 20) * 256))
    && !(s.portShaped e c && decide (s.portTokens e < (l + 20) * 256))

/-- LENGTH_DEFER counted (R207, R365). -/
def State.countDefer (s : State) (e c : Nat) : State :=
  (s.count .sch (egressPlat e) 2).perf (egressPlat e) 14 (perfPort e) (some c) 1

/-- select() of R207 over the classes named: the class chosen. `ready` says that the place a class feeds is free. -/
def State.selectFrom (s : State) (e : Nat) (ready : State → Nat → Copy → Bool) : List Nat → State × Option Nat
  | [] => (s, none)
  | c :: cs =>
    let s := s.dropLateHeads e c ((s.port e).queue c).copies.length
    match ((s.port e).queue c).copies with
    | [] => s.selectFrom e ready cs
    | x :: _ =>
      let l := s.txLen x.frame e
      let timed := (s.port e).timed
      if !x.written || !ready s c x || (timed && (s.port e).paused c) || !s.shaperAllows e c l then
        s.selectFrom e ready cs
      else
        let p := s.fs + s.leadD e
        if timed && !s.openThrough e c p (p + (l + 8) * 8 * s.bit e) then
          let s := if x.deferred then s else (s.setHead e c { x with deferred := true }).countDefer e c
          s.selectFrom e ready cs
        else (s, some c)

/-- The buckets charged for a selected copy (R213). -/
def State.chargeBuckets (s : State) (e c l : Nat) : State :=
  let need := (l + 20) * 256
  let s := if s.cfg.b .schQCfg (e * 8 + c) 29 then
      s.setQueue e c { (s.port e).queue c with bucket := { tokens := s.queueTokens e c - need, last := s.mono } }
    else s
  if s.portShaped e c then
    s.modPort e fun p => { p with bucket := { tokens := s.portTokens e - need, last := s.mono } }
  else s

/-- A selected copy leaves its queue: charged, counted, its charge on the pools released (R181, R207, R228). -/
def State.takeCopy (s : State) (e c : Nat) (x : Copy) : State × Copy :=
  let s := (s.forwardCredit e c).chargeBuckets e c (s.txLen x.frame e)
  let s := s.count .sch (egressPlat e) 0
  let q := (s.port e).queue c
  let late := min (s.mono - instantNs x.frame.instant) 0xFFFFFFFF
  let s := s.setQueue e c { q with copies := q.copies.drop 1, maxDelay := max q.maxDelay late }
  s.release x

/-- A copy handed to MAC transmit queue `c`, or dropped by stage 10 (R52, R57, R207, R266). A padded frame counts in TX_PAD each
time it is handed, also where it was returned before or is flushed later (R52; DESIGN CHOICE, log 63). -/
def State.handCopy (s : State) (e c : Nat) (x : Copy) : State :=
  let l := s.txLen x.frame e
  let p := s.fs + s.leadD e
  let ed := s.edit x.frame e
  let (s, x) := s.takeCopy e c x
  let s := s.countIf (e < 512 && ed.encoded) .red (egressPlat e) 10
  let s := s.countIf (e < 512 && ed.removed) .red (egressPlat e) 11
  let timed := (s.port e).timed
  let s := if timed then
      s.modPort e fun y => { y with wireFree := p + (l + 8) * 8 * s.bit e + 96 * s.bit e }
    else s
  if e < 512 ∧ s.cfg.maxFrame e < ed.bytes.length + 4 then (s.touchTx e).countPort e 41 1
  else
    let s := if e < 512 ∧ ed.bytes.length < 60 then s.countPort e 42 1 else s
    let t : TxFrame :=
      { copy := some x, bytes := if e < 512 then wireBytes ed.bytes else x.frame.bytes
        projected := if timed then some p else none, shift := ed.shift }
    s.modPort e fun y => { y with macQ := y.macQ.set c (some t), txLpi := false }

/-- Transmission selection of a line port or the Coupler (R206, R207). -/
def State.select (s : State) (e : Nat) : State :=
  let p := s.port e
  if !p.link || p.hold.isSome || (e < 512 && (s.plat (e / 64)).power ≠ .run)
      || (p.timed && decide (s.fs + s.leadD e < p.wireFree)) then s
  else
    match s.selectFrom e (fun s c _ => ((((s.port e).macQ)[c]?).getD none).isNone) [7, 6, 5, 4, 3, 2, 1, 0] with
    | (s, none) => s
    | (s, some c) =>
      match ((s.port e).queue c).copies with
      | x :: _ => s.handCopy e c x
      | [] => s

/-! ### The transparent clock -/

/-- The instant at which the first bit after the delimiter passes the stamp point of a frame whose first preamble bit leaves the
balls at `start` (R302): INT_TX lies between them. -/
def State.crossFs (s : State) (e start : Nat) : Nat := start + 64 * s.bit e - (s.cfg.intLat e).2 * 1000000

/-- INT_RX + RX_PS of a frame's ingress port in picoseconds; 0 for a Coupler arrival (R305, R311). -/
def State.rxPs (s : State) (f : Frame) : Nat :=
  let c := s.cfgAt f.rxEpoch
  if f.port < 512 then (c.intLat f.port).1 * 1000 + c.f .platTsRxlat f.port 23 0 else 0

/-- INT_TX + TX_PS of an egress port in picoseconds, in a view of the settings. -/
def Cfg.txPs (c : Cfg) (e : Nat) : Nat := (c.intLat e).2 * 1000 + c.f .platTsTxlat e 23 0

/-- The residence of a copy in units of 2^-16 ns (R311), by its raw stamp, with the trim of that instant, and its egress port's
INT_TX + TX_PS. -/
def State.residence (s : State) (f : Frame) (k stamp txPs : Nat) : Int :=
  let d : Int := (stamp : Int) - (quarter f.instant : Int)
  let ps : Int := (s.rxPs f + txPs : Nat)
  floorDiv (d * (2 ^ 40 + s.tbTrimAt k stamp) * 1000 + ps * 2 ^ 42) (2 ^ 26 * 1000)

/-- The entry of TIME_TC_DOM for a domain (R310), by the settings of the copy's stamp. R28 binds egress encoding at selection and
R305 only the port's stamp settings at the delimiter; which of the two instants binds TIME_TC_DOM, for a copy selected before a
commit edge and started after it, the rules leave open. (DESIGN CHOICE, log 44.) -/
def Cfg.tcDomain (c : Cfg) (dom : Nat) : Option Nat :=
  (List.range 8).find? fun i =>
    c.b .timeTcDom i 31 && c.f .timeTcDom i 7 0 = dom && c.f .timeTcDom i 30 29 ≠ 0

/-- Words of a correction's checksum taken into account one after the other. -/
def csumOver (hc : Nat) (old new_ : List Byte) : Nat → Nat
  | 0 => hc
  | n + 1 => csumUpdate (csumOver hc old new_ n) (be old (2 * n) 2) (be new_ (2 * n) 2)

/-- A number added to the correctionField of the PTP header at offset `o` (R313); the flag says that it saturated. -/
def addCorrection (b : List Byte) (o : Nat) (udp v4 : Bool) (add : Int) : List Byte × Bool :=
  let old := sliceZ b (o + 8) 8
  let sum := signed 64 (beNat old) + add
  let sat := decide (sum > 2 ^ 63 - 1)
  let new_ := beBytes 8 (if sat then 2 ^ 63 - 1 else unsigned 64 sum)
  let b' := overlay b (o + 8) new_
  let hc := be b (o - 2) 2
  (if udp ∧ ¬ (v4 ∧ hc = 0) then overlay b' (o - 2) (beBytes 2 (csumOver hc old new_ 4)) else b', sat)

/-- The wire bytes with a correction and a new FCS, counted (R312, R313). -/
def State.correct (s : State) (e : Nat) (b : List Byte) (o : Nat) (udp v4 : Bool) (add : Int) : State × List Byte :=
  let (b', sat) := addCorrection (b.take (b.length - 4)) o udp v4 add
  (s.countIf sat .time (egressPlat e) 6, b' ++ fcsOf b')

/-- A record put among others by the instant of its stamp, oldest first. -/
def TcRec.into (r : TcRec) : List TcRec → List TcRec
  | [] => [r]
  | x :: l => if r.at_ < x.at_ then r :: x :: l else x :: r.into l

/-- A two-step record written (R314). (DEDUCED, log 44.) -/
def State.putTcRec (s : State) (p : Nat) (r : TcRec) : State :=
  let l := ((s.plat p).tc).filter fun x => !(x.port = r.port && x.domain = r.domain && x.src = r.src && x.seq = r.seq)
  let (s, l) := if 64 ≤ l.length then (s.count .time p 4, l.drop 1) else (s, l)
  (s.modPlat p fun x => { x with tc := r.into l }).count .time p 1

/-- Bytes of a PTP header, and of the parse window in which it must lie (R67, R310). -/
def ptpHeader : Nat := 34

/-- Bytes of the parse window (R67). -/
def parseWindow : Nat := 128

/-- Stage 10 as a transparent clock on a copy whose delimiter crosses the stamp point at `cross`, by the settings in force then
(R305, R310 to R314). -/
def State.tcApply (s : State) (f : Frame) (e cross : Nat) (shift : Int) (b : List Byte) : State × List Byte :=
  let c := s.cfgAt (s.epochWhen cross)
  let r := s.outer f
  match r.ptp with
  | none => (s, b)
  | some o0 =>
    let o := ((o0 : Int) + shift).toNat
    let p := egressPlat e
    let tcEn := c.b .platTsCfg e 31 && (f.port = 520 || (f.port < 512 && (s.cfgAt f.rxEpoch).b .platTsCfg f.port 31))
    match c.tcDomain (be f.bytes (o0 + 4) 1) with
    | none => (s, b)
    | some i =>
      let inWindow := decide (o0 + ptpHeader ≤ min parseWindow f.fend)
      if ¬ tcEn ∨ 512 ≤ e ∨ ¬ inWindow ∨ be f.bytes (o0 + 1) 1 % 16 ≠ 2 ∨ r.frag ∨ r.odd ≠ 0 then (s, b)
      else
        let mode := c.f .timeTcDom i 30 29
        let k := c.f .timeTcDom i 26 24
        let udp := decide (r.l4 ≠ 0) && r.ip.isSome
        let v4 := r.ipv4
        let ty := be f.bytes o0 1 % 16
        let two := bitOf (be f.bytes (o0 + 6) 1) 1
        let link : Int := if mode = 2 ∧ f.port < 512 then ((s.reg .platTsLinkdly f.port).toNat * 65536 / 1000 : Nat) else 0
        let key : TcRec :=
          { port := e, domain := be f.bytes (o0 + 4) 1, src := be f.bytes (o0 + 20) 10, seq := be f.bytes (o0 + 30) 2
            value := s.residence f k (quarter cross) (c.txPs e) + link, at_ := cross }
        if ty = 0 then
          if two then (s.putTcRec p key, b)
          else (s.count .time p 0).correct e b o udp v4 key.value
        else if ty = 1 ∧ mode = 1 then (s.count .time p 0).correct e b o udp v4 key.value
        else if ty = 8 then
          match ((s.plat p).tc).find? fun x => x.port = e && x.domain = key.domain && x.src = key.src && x.seq = key.seq with
          | none => (s.count .time p 3, b)
          | some x =>
            let s := (s.modPlat p fun y => { y with tc := y.tc.filter (· ≠ x) }).count .time p 2
            s.correct e b o udp v4 x.value
        else (s, b)

/-- Bytes that end as an errored frame does, with an inverted FCS or, on the Coupler, an inverted CRC-32 (R53, R465, R470). -/
def endInverted (e : Nat) (b : List Byte) : List Byte :=
  b ++ if e = 520 then beBytes 4 (crc32 b ^^^ 0xFFFFFFFF) else leBytes 4 (crc32 b ^^^ 0xFFFFFFFF)

/-- The frame in transmission after its delimiter has crossed the stamp point: stage 10 corrects it as a transparent clock. -/
def State.stampTx (s : State) (e : Nat) : State :=
  match (s.port e).tx with
  | none => s
  | some t =>
    match t.copy with
    | some x =>
      if t.unstamped then
        let (s, b) := s.tcApply x.frame e t.cross t.shift t.bytes
        let b := if t.bad then endInverted e (b.take (b.length - 4)) else b
        s.modPort e fun p => { p with tx := some { t with bytes := b, unstamped := false } }
      else s
    | none => s

/-- The frame in transmission is stamped where its delimiter crossed before instant `now` (R305). -/
def State.stampDue (s : State) (e now : Nat) : State :=
  match (s.port e).tx with
  | some t => if t.cross < now then s.stampTx e else s
  | none => s

/-! ### The Coupler frame -/

/-- LEARN of a frame sent over the Coupler (R278). -/
def State.cplLearn (s : State) (f : Frame) : Bool :=
  (s.frameCfg f).f .redPortCfg f.port 31 30 ≤ 1 && f.posts

/-- The 16 bytes of a Coupler header (R271). -/
def State.cplHeader (s : State) (x : Copy) (start : Nat) : List Byte :=
  let f := x.frame
  beBytes 4 (at_ (if x.repl then 2 else 3) 28 + at_ (b2n (s.cplLearn f)) 27 + at_ (b2n f.generated) 26
      + at_ (b2n f.seq.isSome) 25 + at_ (f.cls.getD 0) 22 + at_ f.colour 20 + at_ f.port 10)
    ++ beBytes 4 (at_ (f.seq.getD 0) 16)
    ++ beBytes 4 (at_ (b2n f.stream.isSome) 31 + f.stream.getD 0)
    ++ beBytes 4 (instantNs (start - f.instant))

/-- Header, payload and CRC-32 of a Coupler frame (R271). -/
def cplFrame (header payload : List Byte) : List Byte := header ++ payload ++ beBytes 4 (crc32 (header ++ payload))

/-! ### Starting and returning -/

/-- A frame of MAC transmit queue `c` starts: its first preamble bit leaves the balls at `start` (R51, R210). What the buffer
read side delivers is the stored frame (R14, R365, R367). -/
def State.startTx (s : State) (e c start : Nat) (t : TxFrame) : State :=
  let s := (s.forwardCreditTo e c start).perf (egressPlat e) 12 (perfPort e) (some c) 1
  let n := match t.copy with | some x => beats x.frame.bytes.length | none => 0
  let s := (s.perf (egressPlat e) 10 (perfPort e) none n).agg 2 n
  let b := match t.copy with
    | some x => if e = 520 then cplFrame (s.cplHeader x start) t.bytes else t.bytes
    | none => t.bytes
  let dur := (b.length + 8) * 8 * s.bit e
  let s := s.modPort e fun p =>
    { p with
      macQ := p.macQ.set c none, cut := none
      tx := some { t with bytes := b, start := start, cross := s.crossFs e start, unstamped := decide (e ≠ 520) } }
  let s := s.setQueue e c
    { (s.port e).queue c with wireTo := start + dur + 96 * s.bit e, wireKbps := speedKbps (s.speed e), creditAt := start }
  s.stampDue e s.fs

/-- A handed frame returned to the head of its egress queue (R211, R509). -/
def State.returnTx (s : State) (e c : Nat) (t : TxFrame) : State :=
  let s := s.modPort e fun p => { p with macQ := p.macQ.set c none }
  match t.copy with
  | none => s
  | some x =>
    let s := s.recharge x
    let s := s.setCopies e c ({ x with ref := none } :: ((s.port e).queue c).copies)
    s.count .sch (egressPlat e) 3

/-- The highest-numbered transmit queue that holds a frame without a projected start and is not paused (R51). -/
def PortSt.nextStart (p : PortSt) : List Nat → Option (Nat × TxFrame)
  | [] => none
  | c :: cs =>
    match (p.macQ[c]?).getD none with
    | some t => if t.projected.isNone ∧ ¬ p.paused c then some (c, t) else p.nextStart cs
    | none => p.nextStart cs

/-- Cells in the FIFO are enough to start a frame of `n` cells (R53). -/
def PortSt.mayStart (p : PortSt) (cells n : Nat) : Bool := decide (min p.cur n ≤ cells)

/-- The handed frame with a projected start (R210). -/
def PortSt.projected (p : PortSt) : List Nat → Option (Nat × TxFrame × Nat)
  | [] => none
  | c :: cs =>
    match (p.macQ[c]?).getD none with
    | some t => match t.projected with | some at0 => some (c, t, at0) | none => p.projected cs
    | none => p.projected cs

/-- The MAC transmit queues in the order in which R51 looks at them. -/
def highFirst : List Nat := [7, 6, 5, 4, 3, 2, 1, 0]

/-- A health frame waits for the next frame boundary of the Coupler (R273). -/
def State.healthDue (s : State) : Bool :=
  s.pairedCfg && s.red.cplLink && decide (s.red.lastSend + 1000000000 ≤ s.fs)

/-- A frame that goes ahead of the transmit queues waits for the port's next frame boundary: a pause frame (R195), or a health
frame on the Coupler (R273). -/
def State.aheadWaits (s : State) (e : Nat) : Bool := !(s.port e).pauseTx.isEmpty || (decide (e = 520) && s.healthDue)

/-- The projected start of a timed port's frame (R210, R211). A pause that reached its class after the hand-off returns it, ended
or not; so does a frame that goes ahead of the transmit queues, which takes the wire at that instant (R195). A frame handed while
the port signals LPI starts here too. (DESIGN CHOICE, log 59: R57, R210.) -/
def State.projectedStart (s : State) (e cells : Nat) : State :=
  let p := s.port e
  match p.projected highFirst with
  | none => s
  | some (c, t, at0) =>
    if s.fs < at0 then s
    else
      let n := match t.copy with | some x => x.cells | none => 0
      if p.paused c || t.hit || (!p.mayStart cells n) || !p.link || p.tx.isSome || decide (at0 < p.wireEnd) || s.aheadWaits e then
        (s.returnTx e c t).orReg .schIntStat 0 2
      else s.startTx e c at0 t

/-- A frame boundary of a port that is free (R51); a health frame goes ahead on the Coupler (R273). -/
def State.frameStart (s : State) (e cells : Nat) : State :=
  let p := s.port e
  if !p.link || p.tx.isSome || s.aheadWaits e then s
  else
    match p.nextStart highFirst with
    | none => s
    | some (c, t) =>
      let n := match t.copy with | some x => x.cells | none => 0
      if p.mayStart cells n then s.startTx e c s.fs t else s

/-! ### The end of a frame on the wire -/

/-- A transmit stamp posted for a copy that asked for one, by the settings in force at its delimiter (R305, R308, R309). -/
def State.postTxts (s : State) (e : Nat) (t : TxFrame) (err : Bool) : State :=
  match t.copy.bind (·.frame.host) |>.bind (·.txts) with
  | none => s
  | some id =>
    let p := egressPlat e
    let wr := s.rf .platTxtsIdx p 21 16
    let rd := s.rf .platTxtsIdx p 5 0
    if 32 ≤ (wr + 64 - rd) % 64 then (s.orReg .platTxtsIdx p (2 ^ 31)).count .time p 8
    else
      let c := s.cfgAt (s.epochWhen t.cross)
      let k := if e < 512 then c.f .platTsCfg e 26 24 else 0
      let ns := unsigned 32 (Int.fdiv (s.stampFine k t.cross (c.txPs e)) fineUnit)
      let w1 := at_ (b2n err) 31 + at_ k 24 + (if e = 520 then at_ 1 22 else at_ (e % 64) 16) + id
      let i := (p * 32 + wr % 32) * 2
      let s := (s.setReg .platTxtsEntry i (Word.ofNat ns)).setReg .platTxtsEntry (i + 1) (Word.ofNat w1)
      (s.setRf .platTxtsIdx p 21 16 (wr + 1)).count .time p 7

/-- The instant at which the last bit of `n` bytes leaves that started at `start`, preamble and delimiter with them. -/
def State.lastBit (s : State) (e start n : Nat) : Nat := start + (n + 8) * 8 * s.bit e

/-- A frame has left at instant `fin`: the wire is free again after its gap, and the queue's credit follows (R210, R215). The idle
time of R57 counts from there; a pause frame comes from no queue and leaves it as it is. -/
def State.endTx (s : State) (e : Nat) (t : TxFrame) (fin : Nat) : State :=
  let free := fin + 96 * s.bit e
  let s := match t.copy with
    | some x =>
      let s := s.forwardCredit e x.cls
      s.setQueue e x.cls { (s.port e).queue x.cls with wireTo := free }
    | none => s
  s.modPort e fun p => { p with tx := none, wireEnd := free, idleSince := if t.copy.isSome then fin else p.idleSince }

/-- The counters of a frame sent complete (R61). -/
def State.countSent (s : State) (e : Nat) (t : TxFrame) : State :=
  if 512 ≤ e then s
  else
    let n := t.bytes.length
    let s := (s.countN .plat e 32 n).count .plat e 33
    let s := s.count .plat e (34 + daKind (be t.bytes 0 6))
    let s := s.count .plat e (43 + sizeBin n)
    if t.pause = 1 then s.count .plat e 37 else if t.pause = 2 then s.count .plat e 38 else s

/-- A frame just started is to end before the first byte of stored cell `k`: what stage 10 and a Coupler header put before the
stored bytes leaves with the cells before it (R465). -/
def TxFrame.cutAt (t : TxFrame) (e k : Nat) : TxFrame :=
  let stored := match t.copy with | some x => x.frame.bytes.length | none => 0
  let wire := t.bytes.length - (if e = 520 then 4 else 0)
  { t with bytes := endInverted e (t.bytes.take (256 * k + wire - stored)), bad := true }

/-- The last bit of a frame leaves the balls (R60, R61, R308). One that a cell's CRC has ended is not sent complete (R465). -/
def State.completeTx (s : State) (e : Nat) : State :=
  let s := s.stampTx e
  match (s.port e).tx with
  | none => s
  | some t =>
    let s := s.endTx e t (s.lastBit e t.start t.bytes.length)
    ((if t.bad then s else s.countSent e t).postTxts e t t.bad).emit (.wire e t.bytes t.bad)

/-- The rise of CUR that follows an underrun, kept beside the CUR from which it rose until the frame's end has left at `fin`
(R53, R60). -/
def State.raiseCur (s : State) (e fin : Nat) : State :=
  let cur := (s.port e).cur
  let s := s.modPort e fun p => { p with cut := some (fin, cur, decide (cur < 40)) }
  let s := if cur < 40 then (s.modPort e fun p => { p with cur := cur + 1 }).countPort e 53 1 else s
  if e < 512 then s.orReg .platTxstartChg (e / 32) (2 ^ (e % 32)) else s

/-- A frame in transmission ends with an inverted FCS after `sent` bytes (R53). Until the FCS has left, a link down makes it an
abort (R60). A frame that a cell's CRC has ended already is not ended again, but the underrun raises CUR, once (R478). -/
def State.underrun (s : State) (e sent : Nat) : State :=
  let s := s.stampDue e s.fs
  match (s.port e).tx with
  | none => s
  | some t =>
    if t.bad then (if (s.port e).cut.isSome then s else s.raiseCur e (s.lastBit e t.start t.bytes.length)) else
    let cut := endInverted e (t.bytes.take sent)
    let fin := s.lastBit e t.start cut.length
    let s := ((((s.endTx e t fin).countPort e 39 1).postTxts e t true).emit (.wire e cut true)).perf (egressPlat e) 13
      (perfPort e) none 1
    s.raiseCur e fin

end Sys2Proof.Machine
end

