-- ==== Sys2Proof/Machine/Link.lean ====
section
/-! DEFINITION. Link state and link-down hold (R59, R60, R200 to R202), the pause frames that the switch sends (R194,
R195), openings of a Timetable (R224) and low-power idle (R57). -/

namespace Sys2Proof.Machine

/-! ### Link-down hold -/

/-- Every queued copy of a port flushed (R202, R384). -/
def State.flushQueue (s : State) (e : Nat) : List Copy → State
  | [] => s
  | x :: r => (((s.dropCopy x).count .tm (egressPlat e) 12).count .tmPort e 2).flushQueue e r

/-- The queues of a port flushed, handed frames that have not started with them. -/
def State.flushPort (s : State) (e : Nat) : State :=
  (List.range 8).foldl
    (fun s c =>
      let s := match (((s.port e).macQ)[c]?).getD none with
        | some t =>
          let s := (s.forwardCredit e c).modPort e fun p => { p with macQ := p.macQ.set c none }
          match t.copy with
          | some x => ((s.count .tm (egressPlat e) 12).count .tmPort x.port 2)
          | none => s
        | none => s
      let l := ((s.port e).queue c).copies
      (s.cutCopies e c []).flushQueue e l) s

/-- A hold expires with the link down (R202). -/
def State.expireHold (s : State) (e : Nat) : State :=
  let s := s.flushPort e
  let s := s.modPort e fun p => { p with hold := none, expired := true, idleSince := s.fs }
  (s.orReg .tmIntStat 0 2).forgetPort e

/-- The rise of CUR after an underrun undone where a link down overtakes the frame's end: CUR is what it would be without the
underrun (R60), which is the CFG of a commit since then (R54). The flag says that the end has not left yet. That the port's bit in
PLAT_TXSTART_CHG stays set is left open by the rule (DESIGN CHOICE, log 63). -/
def State.undoRise (s : State) (e : Nat) : State × Bool :=
  match (s.port e).cut with
  | none => (s, false)
  | some (t, cur, raised) =>
    let s := s.modPort e fun p => { p with cut := none }
    if t ≤ s.fs then (s, false)
    else
      let s := s.modPort e fun p => { p with cur := cur }
      (if raised then s.uncountPort e 53 else s, true)

/-- An underrun that a link down overtakes while the frame's inverted FCS is still leaving: the frame counts in TX_ABORT only
(R60). -/
def State.undoUnderrun (s : State) (e : Nat) : State :=
  match s.undoRise e with
  | (s, true) => (s.uncountPort e 39).countPort e 40 1
  | (s, false) => s

/-- The frame in transmission is lost (R60, R308). -/
def State.abortTx (s : State) (e : Nat) : State :=
  let s := s.stampDue e s.fs
  match (s.port e).tx with
  | none => s.undoUnderrun e
  | some t => ((((s.undoRise e).1.endTx e t s.fs).countPort e 40 1).postTxts e t true)

/-- The frame being received is freed (R44). -/
def State.abortRx (s : State) (e : Nat) : State :=
  match (s.port e).rx with
  | none => s
  | some x =>
    ((s.freeStaging (e / 64) e x.acct x.charge).modPort e fun p => { p with rx := none }).countPort e 15 1

/-- Handed frames without a projected start go back to their queues (R200). -/
def State.returnUntimed (s : State) (e : Nat) : State :=
  (List.range 8).foldl
    (fun s c =>
      match (((s.port e).macQ)[c]?).getD none with
      | some t =>
        if t.projected.isSome then s
        else
          let s := s.modPort e fun p => { p with macQ := p.macQ.set c none }
          match t.copy with
          | some x => (s.recharge x).setCopies e c ({ x with ref := none } :: ((s.port e).queue c).copies)
          | none => s
      | none => s) s

/-- A port's change of link noted (R59). -/
def State.linkChanged (s : State) (e : Nat) : State :=
  if e < 512 then s.orReg .platLinkChg (e / 32) (2 ^ (e % 32)) else s

/-- The copies of a port marked as held: those queued, and those handed that come back to their queues (R202, R211). -/
def PortSt.markHeld (p : PortSt) : PortSt :=
  let held (x : Copy) : Copy := { x with held := true }
  { p with
    queues := p.queues.map fun q => { q with copies := q.copies.map held }
    macQ := p.macQ.map fun t => t.map fun t => { t with copy := t.copy.map held } }

/-- A port that is link up goes down with a hold of `ms` milliseconds (R60, R200). (DEDUCED, log 38.) -/
def State.portDown (s : State) (e ms : Nat) : State :=
  if (s.port e).link then
    let s := ((s.abortRx e).abortTx e).returnUntimed e
    let s := s.modPort e fun p =>
      { p.markHeld with link := false, speed := 0, txLpi := false, rxLpi := false
                        hold := some (s.fs + ms * 1000000000000) }
    let s := s.linkChanged e
    if ms = 0 then s.expireHold e else s
  else s

/-- HOLD_MS of a port now. -/
def State.holdMs (s : State) (e : Nat) : Nat := s.cfg.f .tmPortHold e 13 0

/-- A port comes link up at a speed; a hold ends (R59, R202). The idle time of R57 counts from here: whether time with empty queues
while the link was down counts towards IDLE_US is left open by the rule (DESIGN CHOICE, log 59). -/
def State.portUp (s : State) (e speed : Nat) : State :=
  if (s.port e).link then s
  else
    let s := s.modPort e fun p =>
      { p with link := true, localFault := false, remoteFault := false, speed := speed, everUp := true
               hold := none, expired := false, idleSince := s.fs }
    s.linkChanged e

/-- Copies of a held queue whose deadline has passed (R200). -/
def State.dropLate (s : State) (e c : Nat) : Nat → State
  | 0 => s
  | n + 1 =>
    match ((s.port e).queue c).copies with
    | [] => s
    | x :: _ =>
      match x.deadline with
      | some d => if d < s.fs then ((s.popHead e c).discardLate x).dropLate e c n else s
      | none => s

/-! ### Pause frames sent -/

/-- The threshold of XON (R194). -/
def State.xonDue (s : State) (e a : Nat) : Bool :=
  let x := (s.port e).acct a
  x.xoff && x.head = 0 && decide (x.shared + s.cfg.f .tmFcCfg 0 15 0 ≤ s.acctLimit)
    && !(e < 512 && (s.plat (e / 64)).copyXoff)

/-- An account returns to XON (R194). -/
def State.sendXon (s : State) (e a : Nat) : State :=
  (s.modPort e fun p =>
    { p.setAcct a { p.acct a with xoff := false } with pauseTx := p.pauseTx ++ [(a, false)] }).count .tm (portPlat e) 9

/-- Half the pause time of a port in femtoseconds (R194). -/
def State.halfPause (s : State) (e : Nat) : Nat := s.cfg.f .tmPortFc e 15 0 * 512 * s.bit e / 2

/-- The state to send for an account, if any: the last one asked for. -/
def pauseState (l : List (Nat × Bool)) (a : Nat) : Option Bool := (l.reverse.find? (·.1 = a)).map (·.2)

/-- The pause frame of a port for the states waiting (R195). (DEDUCED, log 38.) -/
def State.pauseFrame (s : State) (e : Nat) : List Byte :=
  let l := (s.port e).pauseTx
  let q := s.cfg.f .tmPortFc e 15 0
  let sa := beBytes 2 (s.cfg.f .tblRouterMacHi 0 15 0) ++ beBytes 4 (s.cfg .tblRouterMacLo 0).toNat
  let head := beBytes 6 0x0180C2000001 ++ sa ++ beBytes 2 0x8808
  let time (a : Nat) : List Byte := beBytes 2 (if pauseState l a = some true then q else 0)
  if s.cfg.fcMode e = 1 then wireBytes (head ++ beBytes 2 1 ++ time 0)
  else
    let en := (List.range 8).foldl (fun n a => n + if (pauseState l a).isSome then 2 ^ a else 0) 0
    wireBytes (head ++ beBytes 2 0x0101 ++ beBytes 2 en ++ (List.range 8).flatMap time)

/-- A pending pause frame starts at a frame boundary (R195). On port 520 it is the payload of a forwarded frame. All the
changes that waited for the boundary leave in one frame, with each account's latest state. (DESIGN CHOICE, log 65.) -/
def State.sendPause (s : State) (e : Nat) : State :=
  let p := s.port e
  if p.pauseTx.isEmpty || p.tx.isSome || !p.link then s
  else
    let b := s.pauseFrame e
    let b := if e = 520 then cplFrame (beBytes 4 (at_ 3 28 + at_ 520 10) ++ List.replicate 12 0) b else b
    s.modPort e fun p =>
      { p with
        pauseTx := [], txLpi := false
        tx := some { bytes := b, start := s.fs, cross := s.crossFs e s.fs, pause := if s.cfg.fcMode e = 1 then 1 else 2 } }

/-! ### Openings -/

/-- The classes of scheduled kind. -/
def State.schedClasses (s : State) : List Nat := (List.range 8).filter (s.kind · = 2)

/-- Femtoseconds from an instant to the next opening of a scheduled class on a timed port (R224). -/
def State.nextOpenAt (s : State) (e fs : Nat) : Option Nat :=
  if (s.port e).timed then
    (s.schedClasses.flatMap fun c => (s.seqWait (s.port e).tt (bitOf · c) 0 (bitOf (s.adminGates e) c) fs).toList).min?
  else none

/-- Femtoseconds to the next opening of a scheduled class on a timed port. -/
def State.nextOpen (s : State) (e : Nat) : Option Nat := s.nextOpenAt e s.fs

/-- LEAD_US of a port. -/
def State.leadUs (s : State) (e : Nat) : Nat := s.cfg.f .schTtWake e 13 0

/-- A port has an opening within its wake-ahead lead (R57, R225). (DEDUCED, log 53.) -/
def State.openingNear (s : State) (e : Nat) : Bool :=
  match s.nextOpen e with
  | some d => decide (d < s.leadUs e * 1000000000)
  | none => false

/-! ### Low-power idle -/

/-- No queue of a port holds a frame, and none has been handed and not started (R227, R450). -/
def PortSt.txDrained (p : PortSt) : Bool := p.macQ.all (·.isNone) && p.queues.all (·.copies.isEmpty)

/-- The transmit side of a port holds nothing. -/
def PortSt.txEmpty (p : PortSt) : Bool := p.tx.isNone && p.txDrained

/-- Transmit LPI may be asserted (R57). -/
def State.lpiDue (s : State) (e : Nat) : Bool :=
  let p := s.port e
  s.cfg.b .platPortCtrl e 30 && lpiType (s.cfg.mode e) (s.cfg.media e) && p.link && !p.txLpi && p.txEmpty && p.pauseTx.isEmpty
    && decide (p.idleSince + s.cfg.f .platPortLpi e 15 0 * 1000000000 ≤ s.fs) && !s.openingNear e

end Sys2Proof.Machine
end

