-- ==== Sys2Proof/Machine/TimeUnit.lean ====
section
/-! DEFINITION. The time block: steps and trims of a time base with the restart of what runs on it (R290 to R296), the
snapshot, the time page and the save to MRAM (R297 to R301), and the 1PPS pins (R317, R318). Beside it the windows of
the policing unit (R165, R166). -/

namespace Sys2Proof.Machine

/-! ### Policing windows -/

/-- The policing unit's windows changed: WINDOW is set where BLIND changes (R166). -/
def State.setWindows (s : State) (p : PsfSt) : State :=
  let t := { s with psf := p }
  if s.windowOpen = t.windowOpen then t else t.orReg .psfIntStat 0 2

/-- Femtoseconds in a millisecond. -/
def fsPerMs : Nat := 1000000000000

/-- The recovery window opened or reopened (R165). -/
def State.openRecovery (s : State) : State :=
  let ms := s.cfg.f .psfWinCfg 0 15 0
  if ms = 0 then s else s.setWindows { s.psf with recovery := some (s.fs + ms * fsPerMs) }

/-- The start-up window opened, its length read now (R165; DESIGN CHOICE, log 64). -/
def State.openStartup (s : State) : State :=
  let ms := s.cfg.f .psfWinCfg 0 31 16
  if ms = 0 then s else s.setWindows { s.psf with startup := some (s.fs + ms * fsPerMs) }

/-- PSF_WIN_CTRL.TEST becomes `on` (R165). TEST written as 1 in an open window does not restart its limit, and a window's
length is read as it opens. (DESIGN CHOICE, log 64.) -/
def State.setTest (s : State) (on : Bool) : State :=
  if on then
    if s.psf.test.isSome then s
    else
      let lim := s.rf .psfWinCtrl 0 15 0
      s.setWindows { s.psf with test := some (if lim = 0 then none else some (s.fs + lim * 1000 * fsPerMs)) }
  else s.setWindows { s.psf with test := none }

/-! ### Restarts -/

/-- Every gate schedule and Timetable restarted on a step of base `k` (R160, R219). -/
def State.restartAll (s : State) (k : Nat) : State :=
  let scheds := s.psf.scheds.map fun (i, g) => (i, s.restartSeq k g)
  let ports := s.ports.map fun (i, p) => (i, { p with tt := s.restartSeq k p.tt })
  { s with psf := { s.psf with scheds := scheds }, ports := ports }

/-- A target of base `k` lies between the values before and after a step: it is passed (R294). (DEDUCED, log 33.) -/
def passedBy (target : Option Int) (old new_ : Int) : Bool :=
  match target with
  | some t => decide (old < t) && decide (t < new_)
  | none => false

/-- LATE of a pending commit or swap whose target a step has passed (R294). (DEDUCED, log 33.) -/
def State.markLate (s : State) (k : Nat) (old new_ : Int) : State :=
  let s := if s.commit.busy && s.commit.tb = k && passedBy s.commit.target old new_ then
      s.orReg .glbCommitStat 0 (2 ^ 28) else s
  if s.cls.swap && s.cls.swapTb = k && passedBy s.cls.swapTarget old new_ then s.orReg .clsGenStat 0 (2 ^ 29) else s

/-! ### Changing a base -/

/-- A new segment of base `k` from the present tick on. -/
def State.setSeg (s : State) (k : Nat) (v trim : Int) : State :=
  let g : TbSeg := { q0 := s.tickQ, v := v, trim := trim }
  { s with time := { s.time with tbs := s.time.tbs.modify k (g :: ·) } }

/-- The exact value of base `k` at the last tick. -/
def State.tbTick (s : State) (k : Nat) : Int := tbHist (s.tbSegs k) s.tickQ

/-- Base `k` steps to an exact value (R292, R294). -/
def State.stepTb (s : State) (k : Nat) (v : Int) : State :=
  let old := s.tbNowNs k
  let v := v % ((tbUnit * 2 ^ 64 : Nat) : Int)
  let s := s.setSeg k v (s.tbTrim k)
  let s := (s.count .time 0 9).orReg .timeIntStat 0 (2 ^ (20 + k))
  (s.markLate k old (floorDiv v tbUnit)).restartAll k

/-- The trim of base `k` changes; its value does not (R292). -/
def State.trimTb (s : State) (k : Nat) (trim : Int) : State := s.setSeg k (s.tbTick k) trim

/-- FOLLOWED of base `k` (R296): the member is the follower in Paired operation and TB_FOLLOW names the base. -/
def State.followed (s : State) (k : Nat) : Bool :=
  s.paired && s.follower && bitOf (s.cfg.f .redTwinCfg 0 31 24) k

/-- The trim of base `k` taken as one at which firmware judged it syntonised: where it sets LOCKED, where it takes the base over
from R281 with the trim that it kept, and where a boot restores the trim (R295, R296, R301). (DEDUCED, log 43.) -/
def State.syntonised (s : State) (k : Nat) : State :=
  { s with time := { s.time with syn := s.time.syn.set k (s.tbTrim k) } }

/-- 200 ppm in units of TRIM (R295). -/
def trim200ppm : Nat := 219902325

/-- Firmware gives command `op` to a base that it owns (R295): a STEP or a SET only with STEP_EN set and by more than
STEP_THRESH_US, a TRIM only to within 200 ppm of the last trim at which it judged the base syntonised. (DEDUCED, log 43.) -/
def State.servoMay (s : State) (k op : Nat) : Bool :=
  let data := (s.reg .timeCmdDataLo 0).toNat + (s.reg .timeCmdDataHi 0).toNat * 2 ^ 32
  if op = 3 then decide ((signed 32 (data % 2 ^ 32) - (s.time.syn[k]?).getD 0).natAbs ≤ trim200ppm)
  else
    let by_ := signed 64 (if op = 1 then data else (data + 2 ^ 64 - s.tbNow k) % 2 ^ 64)
    s.rb .timeTbCfg k 30 && decide (s.rf .timeTbCfg k 15 0 * 1000 < by_.natAbs)

/-- A command issued through TIME_CMD (R292, R293), by whatever write. One that would be accepted from firmware, but that R295
forbids its servo, is never given: nothing changes. (DEDUCED, log 43.) -/
def State.timeCommand (s : State) (src : Src) (op k : Nat) : State :=
  if s.time.cmd.isSome then s.illegal .time 0x10 src 2
  else
    let bad (s : State) (cause : Nat) : State := (s.setRf .timeCmdStat 0 30 29 1).illegal .time 0x10 src cause
    let owner := s.rb .timeTbCfg k 31
    if op = 0 ∨ 3 < op then bad s 11
    else if s.followed k ∨ (owner = true ∧ src ≠ .firmware) ∨ (owner = false ∧ src = .firmware) then bad s 10
    else if src = .firmware ∧ ¬ s.servoMay k op then s
    else
      let data := (s.reg .timeCmdDataLo 0).toNat + (s.reg .timeCmdDataHi 0).toNat * 2 ^ 32
      { s with time := { s.time with cmd := some { op := op, tb := k, data := data } } }

/-- The accepted command at its tick (R292). -/
def State.timeApply (s : State) : State :=
  match s.time.cmd with
  | none => s
  | some c =>
    let s := { s with time := { s.time with cmd := none } }
    let s := (s.setRf .timeCmdStat 0 30 29 0).orReg .timeIntStat 0 (2 ^ 29)
    if c.op = 3 then s.trimTb c.tb (signed 32 (c.data % 2 ^ 32))
    else if c.op = 1 then
      if c.data = 0 then s else s.stepTb c.tb (s.tbTick c.tb + signed 64 c.data * tbUnit)
    else if s.tbNow c.tb = c.data then s
    else s.stepTb c.tb ((c.data : Int) * tbUnit)

/-! ### Reading and saving -/

/-- A 64-bit value written to a pair of words. -/
def State.setPair (s : State) (lo hi : RegId) (i v : Nat) : State :=
  (s.setReg lo i (Word.ofNat v)).setReg hi i (Word.ofNat (v / 2 ^ 32))

/-- A snapshot requested (R297). -/
def State.snapGo (s : State) (src : Src) : State :=
  if s.time.snapBusy then s.illegal .time 0x20 src 2 else { s with time := { s.time with snapBusy := true } }

/-- The snapshot at its tick (R297). -/
def State.snapTake (s : State) : State :=
  if s.time.snapBusy then
    let s := s.setPair .timeSnapMonoLo .timeSnapMonoHi 0 s.mono
    let s := (List.range 8).foldl (fun s k => s.setPair .timeSnapTbLo .timeSnapTbHi k (s.tbNow k)) s
    { s with time := { s.time with snapBusy := false } }
  else s

/-- The two words of a 64-bit number, the low word first. -/
def wordPair (v : Nat) : List Word := [Word.ofNat v, Word.ofNat (v / 2 ^ 32)]

/-- The words of the time page after a refresh (R298). -/
def State.timePage (s : State) : List Word :=
  let ks := List.range 8
  let seq := ((s.time.page[0]?).getD 0).toNat
  let mask (f : Nat → Bool) : Nat := (ks.filter f).foldl (fun n k => n + 2 ^ k) 0
  [Word.ofNat (seq + 2), 0] ++ wordPair s.mono ++ ks.flatMap (fun k => wordPair (s.tbNow k))
    ++ ks.map (fun k => Word.ofNat (unsigned 32 (s.tbTrim k)))
    ++ [Word.ofNat (mask (fun k => (s.time.locked[k]?).getD false) + at_ (mask s.followed) 8)]

/-- The time page refreshed (R298). -/
def State.refreshPage (s : State) : State := { s with time := { s.time with page := s.timePage } }

/-- TIME_MONO_SAVED and TIME_TB_OFS show what MRAM holds. -/
def State.showSaved (s : State) (v : TimeSave) : State :=
  (List.range 8).foldl (fun s k => s.setPair .timeTbOfsLo .timeTbOfsHi k ((v.ofs[k]?).getD 0))
    (s.setPair .timeMonoSavedLo .timeMonoSavedHi 0 v.mono)

/-- What a save writes: monotonic time, the offsets and the trims, at one tick (R301). -/
def State.timesNow (s : State) : TimeSave :=
  { mono := s.mono
    ofs := (List.range 8).map fun k => unsigned 64 ((s.tbNow k : Int) - s.mono)
    trims := (List.range 8).map s.tbTrim }

/-- The times saved to MRAM (R301). -/
def State.saveTime (s : State) : State :=
  { s.showSaved s.timesNow with time := { s.time with saved := s.timesNow, older := s.time.saved } }

/-- The time bases set from the last save, or to 0, at a boot after a loss of VAO (R301). (DEDUCED, log 43.) -/
def State.restoreTime (s : State) (valid : Bool) : State :=
  (List.range 8).foldl
    (fun s k =>
      if valid then
        let v := s.time.saved.mono + (s.time.saved.ofs[k]?).getD 0
        let trim := (s.time.saved.trims[k]?).getD 0
        ((s.setSeg k (((v % 2 ^ 64 : Nat) : Int) * tbUnit) trim).syntonised k).orReg .timeTbStat k (2 ^ 29)
      else s.setSeg k 0 0) s

/-- Two-step records of a Platform older than 1 s freed (R314). -/
def State.ageTc (s : State) (p : Nat) : State :=
  let old (r : TcRec) : Bool := decide (r.at_ + 1000 * fsPerMs < s.fs)
  let n := ((s.plat p).tc.filter old).length
  let s := s.modPlat p fun x => { x with tc := x.tc.filter fun r => !old r }
  if n = 0 then s else s.countN .time p 5 n

/-! ### 1PPS pins -/

/-- Name of a 1PPS output's pin. -/
def ppsName (n : Nat) : String :=
  if n = 0 then "PPS_OUT0" else if n = 1 then "PPS_OUT1" else if n = 2 then "PPS_OUT2" else "PPS_OUT3"

/-- One 1PPS output. -/
def State.pps (s : State) (n : Nat) : PpsOut := (s.time.pps[n]?).getD {}

/-- One 1PPS output replaced. -/
def State.setPps (s : State) (n : Nat) (x : PpsOut) : State :=
  { s with time := { s.time with pps := s.time.pps.set n x } }

/-- The last tick brought time base k, as it counts on, to DELAY_PS before a value at which output `n` asserts (R317). (DEDUCED,
log 45.) -/
def State.ppsDue (s : State) (n : Nat) : Bool :=
  let period := (s.cfg .timePpsOutPeriod n).toNat
  let phase : Int := (s.cfg .timePpsOutPhase n).toNat
  let k := s.cfg.f .timePpsOutCfg n 26 24
  let early : Nat := s.cfg.f .timePpsOutCfg n 15 0 * tbUnit / 1000
  let now := s.tbTick k + early
  let v := floorDiv now tbUnit
  let v0 := floorDiv (now - 5 * (2 ^ 40 + s.tbTrim k)) tbUnit
  s.cfg.b .timePpsOutCfg n 31 && decide (period ≠ 0) && decide (s.cfg.f .timePpsOutWidth n 29 0 ≠ 0)
    && decide (floorDiv (v - phase) period ≠ floorDiv (v0 - phase) period)

/-- Output `n` asserts (R317). -/
def State.ppsPulse (s : State) (n : Nat) : State :=
  let x := s.pps n
  if n < 4 ∧ s.ppsDue n ∧ x.pulse.isNone ∧ x.last ≠ some s.tickQ then
    let low := s.cfg.b .timePpsOutCfg n 30
    (s.setPps n
      { pulse := some (s.fs + s.cfg.f .timePpsOutWidth n 29 0 * 1000000), low := low, last := some s.tickQ }).emit
      (.pin (ppsName n) (!low))
  else s

/-- Output `n` returns to idle (R317). -/
def State.ppsEnd (s : State) (n : Nat) : State :=
  let x := s.pps n
  match x.pulse with
  | some t => if t ≤ s.fs then (s.setPps n { x with pulse := none }).emit (.pin (ppsName n) x.low) else s
  | none => s

/-- A rising edge on input `n` of a pulse that stays high for `highNs` (R318). (DEDUCED, log 45.) -/
def State.ppsEdge (s : State) (n highNs : Nat) : State :=
  if ¬ (n < 4 ∧ s.rb .timePpsInCfg n 31) then s
  else
    let soon : Bool := match (s.time.ppsIn[n]?).getD none with
      | some t => decide (s.fs < t + 1000000000)
      | none => false
    if highNs < 20 ∨ soon then s.count .time 0 10
    else
      let k := s.rf .timePpsInCfg n 26 24
      let v := Int.fdiv (s.tbFine k s.fs * 1000 - (s.rf .timePpsInCfg n 15 0 : Int) * fineUnit) (fineUnit * 1000)
      let s := s.setPair .timePpsInTbLo .timePpsInTbHi n (unsigned 64 v)
      let s := s.setPair .timePpsInMonoLo .timePpsInMonoHi n s.mono
      let s := s.setRf .timePpsInStat n 15 0 (s.rf .timePpsInStat n 15 0 + 1)
      let s := { s with time := { s.time with ppsIn := s.time.ppsIn.set n (some s.fs) } }
      s.orReg .timeIntStat 0 (2 ^ (16 + n))

end Sys2Proof.Machine
end

