-- ==== Sys2Proof/Machine/AdmCheck.lean ====
section
/-! DEFINITION. Latency admission (R232 to R247): the declarations, the bound of a stream in exact rationals, the
reasons of R234 and the report. A check runs on a state in whose place the staged values are committed. -/

namespace Sys2Proof.Machine

/-! ### Declarations -/

/-- A stream declaration (R232). -/
structure Decl where
  idx : Nat := 0
  cls : Nat := 0
  passes : Nat := 0
  handle : Nat := 0
  ingress : Nat := 0
  egress : Nat := 0
  minFrame : Nat := 0
  maxFrame : Nat := 0
  req : Nat := 0
  deriving DecidableEq, Repr

/-- Declaration `i` of a set of declarations. -/
def declOf (m : Store Word) (i : Nat) : Decl :=
  let w (k : Nat) : Word := Store.get 0 m (i * 8 + k)
  { idx := i, cls := fld (w 0) 26 24, passes := fld (w 0) 21 20, handle := fld (w 0) 16 0,
    ingress := fld (w 1) 25 16, egress := fld (w 1) 9 0, minFrame := fld (w 2) 29 16, maxFrame := fld (w 2) 13 0,
    req := (w 3).toNat }

/-- The valid declarations of a set, in rising index. -/
def declList (m : Store Word) : List Decl :=
  (m.filter fun (k, w) => k % 8 = 0 && bitW w 31).map fun (k, _) => declOf m (k / 8)

/-- The port of a stream lies on a Platform. -/
def onPlat (port p : Nat) : Bool := port < 512 && port / 64 = p

/-! ### Arrivals -/

/-- An arrival envelope: burst in bytes, rate in bits per nanosecond. -/
structure Arrival where
  burst : Rat := 0
  rate : Rat := 0

/-- The sum of two envelopes. -/
def Arrival.add (a b : Arrival) : Arrival := { burst := a.burst + b.burst, rate := a.rate + b.rate }

/-- Kilobits per second as bits per nanosecond. -/
def kbps (n : Nat) : Rat := (n : Rat) / 1000000

/-- The meter that a stream's filter names. -/
def State.declMeter (v : State) (d : Decl) : Nat := fld (v.tab 0x12 d.handle 1) 15 0

/-- What a meter lets through (R233). -/
def State.meterArrival (v : State) (m : Nat) : Arrival :=
  let w0 := v.tab 0x14 m 0
  let both : Bool := !bitW w0 28
  { burst := ((fld w0 23 0 + if both then fld (v.tab 0x14 m 3) 23 0 else 0 : Nat) : Rat)
    rate := kbps ((v.tab 0x14 m 1).toNat + if both then (v.tab 0x14 m 2).toNat else 0) }

/-- The extra bytes of a frame on the Coupler (R285). (DEDUCED, log 16.) -/
def cplBytes (port : Nat) : Nat := if port = 520 then 20 else 0

/-- P of R233: a pause frame that may precede each frame (R196). -/
def Cfg.pauseBytes (c : Cfg) (e : Nat) : Nat := if c.fcMode e = 0 then 0 else 84

/-- The wire factor of a stream (R233, R285). -/
def State.wireFactor (v : State) (d : Decl) : Rat :=
  if d.minFrame = 0 then 1
  else ((d.minFrame + cplBytes d.egress + 20 + v.cfg.pauseBytes d.egress : Nat) : Rat) / (d.minFrame : Rat)

/-- The declarations of one egress queue. -/
def queueDecls (ds : List Decl) (e c : Nat) : List Decl := ds.filter fun d => d.egress = e && d.cls = c

/-- The wire arrival of one stream. -/
def State.streamArrival (v : State) (d : Decl) : Arrival :=
  let a := v.meterArrival (v.declMeter d)
  { burst := a.burst * v.wireFactor d, rate := a.rate * v.wireFactor d }

/-- The aggregate wire arrival of a queue's streams, each meter once at its largest wire factor (R233). (DEDUCED, log 15.) -/
def State.queueArrival (v : State) (ds : List Decl) : Arrival :=
  let ms := (ds.map v.declMeter).eraseDups
  ms.foldl
    (fun acc m =>
      let f := ((ds.filter fun d => v.declMeter d = m).map v.wireFactor).foldl max 1
      let a := v.meterArrival m
      acc.add { burst := a.burst * f, rate := a.rate * f }) {}

/-! ### Egress ports -/

/-- The speed that admission and R221 count a port with, in Gb/s. -/
def Cfg.gbps (c : Cfg) (n : Nat) : Rat :=
  if n < 512 ∧ usxgmii (c.mode n) then 1 else (speedKbps (c.topSpeed n) : Rat) / 1000000

/-- S of a class on a port: MAX_SDU, or MAX_FRAME, with the Coupler's 20 bytes (R221, R236, R285). -/
def Cfg.sduOf (c : Cfg) (e k : Nat) : Nat :=
  let m := c.f .schQCfg (e * 8 + k) 13 0
  (if m = 0 then c.maxFrame e else m) + cplBytes e

/-- Entries of the admin Timetable of a port: (interval, gates). -/
def Cfg.ttEntries (c : Cfg) (e : Nat) : List (Nat × Nat) :=
  (List.range (min (c.f .schTtCfg e 8 0) 256)).map fun i =>
    ((c .schTtIntv (e * 256 + i)).toNat, c.f .schTtGates (e * 256 + i) 7 0)

/-- CYCLE_NS of a port's Timetable. -/
def Cfg.ttCycle (c : Cfg) (e : Nat) : Nat := (c .schTtCycle e).toNat

/-- The Timetable of a port has entries. -/
def Cfg.hasTt (c : Cfg) (e : Nat) : Bool := c.f .schTtCfg e 8 0 ≠ 0

/-- Runs of open intervals in one cycle, not yet joined over the cycle's end: (start, length). -/
def openRuns : List (Nat × Bool) → Nat → List (Nat × Nat)
  | [], _ => []
  | (n, false) :: r, o => openRuns r (o + n)
  | (n, true) :: r, o =>
    match openRuns r (o + n) with
    | (o', n') :: rs => if o' = o + n then (o, n + n') :: rs else (o, n) :: (o', n') :: rs
    | [] => [(o, n)]

/-- Runs of open intervals, joined from the last entry to the first (R221, R237). (DEDUCED, log 14.) -/
def cyclicRuns (es : List (Nat × Bool)) (cycle : Nat) : List (Nat × Nat) :=
  match openRuns es 0 with
  | [] => []
  | (o, n) :: rs =>
    match rs.getLast? with
    | none => [(o, n)]
    | some (o', n') => if o = 0 ∧ o' + n' = cycle then rs.dropLast ++ [(o', n' + n)] else (o, n) :: rs

/-- Runs of the gate of class `k` on a port. (DEDUCED, log 14.) -/
def Cfg.ttRuns (c : Cfg) (e k : Nat) : List (Nat × Nat) :=
  cyclicRuns ((c.ttEntries e).map fun (n, g) => (n, bitOf g k)) (c.ttCycle e)

/-- The gate states of the entry that holds a position. -/
def gatesAt (es : List (Nat × Nat)) (pos : Nat) : Nat := match entryAt pos es 0 with | some (_, g) => g | none => 0

/-- The gate of class `h` is open at some time in a run of another class. -/
def Cfg.opensIn (c : Cfg) (e h : Nat) (run : Nat × Nat) : Bool :=
  let cyc := c.ttCycle e
  (c.ttRuns e h).any fun (o, n) =>
    decide (o < run.1 + run.2 ∧ run.1 < o + n) || decide (o + cyc < run.1 + run.2) || decide (run.1 + cyc < o + n)

/-- What a higher class may send ahead: its declared streams, or its shaper (R236). (DEDUCED, log 15.) -/
def State.higher (v : State) (ds : List Decl) (e h : Nat) : Arrival :=
  let q := queueDecls ds e h
  let i := e * 8 + h
  if !q.isEmpty then v.queueArrival q
  else if v.cfg.b .schQCfg i 29 then
    { burst := (v.cfg.f .schQBurst i 23 0 : Rat), rate := kbps (v.cfg .schQRate i).toNat }
  else if v.cfg.f .schQCfg i 31 30 = 1 then
    let idle := (v.cfg .schQSlope i).toNat
    { burst := (v.cfg.sduOf e h : Rat) + 20 + (v.cfg.maxFrame e + cplBytes e + 20 : Nat) * kbps idle / v.cfg.gbps e
      rate := kbps idle }
  else {}

/-- The classes above `c`. -/
def above (c : Nat) : List Nat := (List.range 8).filter (c < ·)

/-- The bytes of a health frame that may precede a frame on the Coupler (R285). (DEDUCED, log 16.) -/
def healthBytes (e : Nat) : Nat := if e = 520 then 100 else 0

/-! ### Fixed terms -/

/-- The Platforms whose pipeline a stream may take: that of its ingress port. A stream from the Coupler takes the Platform of
the partner's ingress port, which a declaration of the same handle with a line port as its ingress names; without one it may be
any (R279; DEDUCED, log 15). -/
def State.ingressPlats (v : State) (d : Decl) : List Nat :=
  if d.ingress < 512 then [d.ingress / 64]
  else
    match ((declList v.adm.decl).filter fun x => x.handle = d.handle && x.ingress < 512).map (·.ingress / 64) with
    | [] => List.range 8
    | l => l.eraseDups

/-- BUDGET of a Platform's Turntable. -/
def Cfg.budget (c : Cfg) (p : Nat) : Nat := c.f .clsTtCtrl p 20 16

/-- The time of one Turntable pass with its wait, in nanoseconds (R102). -/
def passNs (budget : Nat) : Rat := 2048 / 10 + 128 / 10 * (if budget = 0 then 0 else (ceilDiv 64 budget : Nat) : Rat)

/-- Receive, intake, ingress pipeline and Turntable terms in nanoseconds (R235). -/
def State.ingressTerms (v : State) (d : Decl) : Rat :=
  let r := v.cfg.gbps d.ingress
  (if r = 0 then 0 else ((d.maxFrame + cplBytes d.ingress : Nat) : Rat) * 8 / r) + ((v.cfg.lat d.ingress).1 : Rat)
    + 512 / 10 + 1536 / 10
    + (d.passes : Rat) * ((v.ingressPlats d).map fun p => passNs (v.cfg.budget p)).foldl max 0

/-- D(e) (R209). -/
def State.egressD (v : State) (e : Nat) : Rat := 1344 / 10 + ((v.cfg.lat e).2 : Rat)

/-- The low-power idle term (R58, R226, R235). -/
def State.lpiTerm (v : State) (e : Nat) : Rat :=
  let wake := Config.lpiWakeNs (v.cfg.mode e) (v.cfg.fec e)
  if e < 512 ∧ v.cfg.b .platPortCtrl e 30 ∧ ¬ (v.cfg.hasTt e ∧ wake ≤ v.cfg.f .schTtWake e 13 0 * 1000) then
    (wake : Rat) else 0

/-! ### The queue term -/

/-- The terms of run `j` of a class: start, B_j, H_j, usable end and capacity (R237). -/
structure RunTerms where
  start : Rat := 0
  len : Rat := 0
  before : Rat := 0
  higher : Rat := 0
  usable : Rat := 0
  cap : Rat := 0

/-- Those terms for every run of the queue's class. -/
def State.runTerms (v : State) (ds : List Decl) (e c : Nat) : List RunTerms :=
  let cfg := v.cfg
  let r := cfg.gbps e
  let es := cfg.ttEntries e
  let tau : Rat := ((cfg.sduOf e c + 20 : Nat) : Rat) * 8 / r
  (cfg.ttRuns e c).map fun (o, n) =>
    let open_ := (List.range 8).filter fun k => k ≠ c && bitOf (gatesAt es o) k
    let ahead := (open_.map fun k => cfg.sduOf e k + 20 + cfg.pauseBytes e).foldl max 0 + healthBytes e
    let b : Rat := (ahead : Rat) * 8 / r
    let h := ((above c).filter fun k => cfg.opensIn e k (o, n)).foldl
      (fun (acc : Rat) k => let a := v.higher ds e k; acc + a.burst + a.rate * (n : Rat) / 8) 0
    { start := o, len := n, before := b, higher := h, usable := (o : Rat) + n - tau,
      cap := max 0 (((n : Rat) - b - tau) * r / 8 - h) }

/-- The staircase after run `j`: (x[k], s[k]) for k = 1, 2, … until the service catches up; none past the limit of
R237. `rs` are the runs, `n` of them. -/
def staircase (rs : List RunTerms) (cycle : Nat) (a : Arrival) (f0 : Rat) (j : Nat) :
    Nat → Nat → Rat → Option (List (Rat × Rat))
  | 0, _, _ => none
  | fuel + 1, k, served =>
    let n := rs.length
    let run := (rs[(j + k) % n]?).getD {}
    let x := run.usable + ((cycle * ((j + k) / n) : Nat) : Rat) - f0
    let s := served + run.cap
    if a.burst + a.rate * x / 8 ≤ s then some [(x, s)]
    else (staircase rs cycle a f0 j fuel (k + 1) s).map ((x, s) :: ·)

/-- The worst wait along one staircase. -/
def staircaseWorst (st : List (Rat × Rat)) (a : Arrival) (tau : Rat) : Rat :=
  let at0 := match st.find? fun (_, s) => decide (a.burst ≤ s) with | some (x, _) => x + tau | none => 0
  (st.dropLast.filter fun (_, s) => decide (a.burst ≤ s)).foldl
    (fun (w : Rat) p =>
      let u : Rat := if a.rate = 0 then 0 else (p.2 - a.burst) * 8 / a.rate
      let hit := st.find? fun (_, s) => if 0 < u then decide (a.burst + a.rate * u / 8 < s) else decide (a.burst ≤ s)
      match hit with
      | some (x, _) => max w (x - u + tau)
      | none => w) at0

/-- The result of forming a bound: a reason (8, 9) or the bound in nanoseconds, and whether it is gated. -/
structure Bound where
  reason : Nat := 0
  ns : Option Rat := none
  gated : Bool := false

/-- Q of an untimed port (R236). -/
def State.queueUntimed (v : State) (ds : List Decl) (e c : Nat) : Bound :=
  let hs := (above c).map (v.higher ds e ·)
  let own := v.queueArrival (queueDecls ds e c)
  let rateH := hs.foldl (fun (x : Rat) a => x + a.rate) 0
  let left := v.cfg.gbps e - rateH
  if left ≤ own.rate then { reason := 8 }
  else
    let sum := hs.foldl (fun (x : Rat) a => x + a.burst) own.burst
    { ns := some (8 * (((v.cfg.maxFrame e + cplBytes e + 20 + healthBytes e : Nat) : Rat) + sum) / left) }

/-- Q of a timed port (R237). -/
def State.queueTimed (v : State) (ds : List Decl) (e c : Nat) : Bound :=
  let rs := v.runTerms ds e c
  let a := v.queueArrival (queueDecls ds e c)
  let cyc := v.cfg.ttCycle e
  let tau : Rat := ((v.cfg.sduOf e c + 20 : Nat) : Rat) * 8 / v.cfg.gbps e
  if rs.foldl (fun (x : Rat) t => x + t.cap) 0 < a.rate * cyc / 8 then { reason := 8 }
  else
    (List.range rs.length).foldl
      (fun b j =>
        match b.ns with
        | none => b
        | some w =>
          match staircase rs cyc a ((rs[j]?).getD {}).usable j (64 * rs.length) 1 0 with
          | none => { reason := 9 }
          | some st => { ns := some (max w (staircaseWorst st a tau)) }) { ns := some 0 }

/-! ### The gated form -/

/-- The gate of a stream's filter. -/
def State.declGate (v : State) (d : Decl) : Nat := fld (v.tab 0x12 d.handle 1) 28 16

/-- The gate schedule that a stream's gate follows. -/
def State.declSched (v : State) (d : Decl) : Nat := fld (v.tab 0x13 (v.declGate d) 0) 7 0

/-- The open intervals of a stream's gate as positions in the Timetable's cycle: (g_a, length) (R238). (DEDUCED, log 14.) -/
def State.gateIntervals (v : State) (d : Decl) : List (Nat × Nat) :=
  let sc := v.declSched d
  let cyc := v.cfg.ttCycle d.egress
  let es := (List.range (min (v.cfg.f .psfSchedHdr sc 4 0) 16)).map fun i =>
    ((v.cfg .psfSchedIntv (sc * 16 + i)).toNat, v.cfg.b .psfSchedGate (sc * 16 + i) 31)
  let phase := (v.tab 0x13 (v.declGate d) 1).toNat
  let base : Int := ((v.cfg .psfSchedBase sc).toNat : Int) - ((v.cfg .schTtBase d.egress).toNat : Int) + (phase : Int)
  if cyc = 0 then []
  else (cyclicRuns es cyc).map fun (o, n) => (((base + (o : Int)) % (cyc : Int)).toNat, n)

/-- The conditions of R238 on the stream's gate and its schedule; one that is not VALID is closed to every frame (R168), and no
condition of its own. (DEDUCED, log 14.) -/
def State.gatedDecl (v : State) (d : Decl) : Bool :=
  let g0 := v.tab 0x13 (v.declGate d) 0
  let sc := v.declSched d
  bitW (v.tab 0x12 d.handle 0) 24 && !bitW g0 30
    && v.cfg.f .psfSchedHdr sc 10 8 = v.cfg.f .schTtCfg d.egress 26 24
    && (v.cfg .psfSchedCycle sc).toNat = v.cfg.ttCycle d.egress
    && !(v.gateIntervals d).isEmpty

/-- The run onto which an interval maps: its index among the runs and its start, not reduced to one cycle. The interval begins after
the end of the run before, not at it (R238). -/
def mapRun (rs : List RunTerms) (cycle : Nat) (ga gb fixed : Rat) : Option (Nat × Rat) :=
  let n := rs.length
  let startOf (i : Nat) : Rat := ((rs[i % n]?).getD {}).start + ((cycle * (i / n) : Nat) : Rat)
  let endOf (i : Nat) : Rat := startOf i + ((rs[i % n]?).getD {}).len
  if n = 0 then none
  else
    ((List.range (3 * n)).find? fun i =>
      decide (endOf (i + n - 1) - (cycle : Rat) < ga) && decide (gb + fixed ≤ startOf i)).map fun i => (i % n, startOf i)

/-- The intervals of a stream with the runs they map onto: (run, o_k − g_a, g_b − g_a); none where one maps onto no
run. -/
def State.mappedIntervals (v : State) (rs : List RunTerms) (d : Decl) : Option (List (Nat × Rat × Rat)) :=
  let fixed := v.ingressTerms d + v.egressD d.egress
  (v.gateIntervals d).mapM fun (a, n) =>
    (mapRun rs (v.cfg.ttCycle d.egress) a ((a : Rat) + n) fixed).map fun (k, o) => (k, o - a, (n : Rat))

/-- The mapped intervals of all the queue's streams, where the gated form applies (R238). -/
def State.gatedQueue (v : State) (rs : List RunTerms) (q : List Decl) : Option (List (Decl × List (Nat × Rat × Rat))) :=
  if q.all v.gatedDecl then q.mapM fun d => (v.mappedIntervals rs d).map fun l => (d, l) else none

/-- B_G of run `k`: the bytes that the gates let through ahead of it (R238). Streams of the queue that share a meter count once,
with each of their intervals and their largest wire factor (R233; DEDUCED, log 15). -/
def State.gatedBytes (v : State) (ms : List (Decl × List (Nat × Rat × Rat))) (k : Nat) : Rat :=
  ((ms.map fun x => v.declMeter x.1).eraseDups).foldl
    (fun acc m =>
      let mine := ms.filter fun x => v.declMeter x.1 = m
      let a := v.meterArrival m
      let f := (mine.map fun x => v.wireFactor x.1).foldl max 1
      let spans := ((mine.flatMap (·.2)).filter fun x => x.1 = k).eraseDups
      spans.foldl (fun (acc : Rat) x => acc + f * (a.burst + a.rate * x.2.2 / 8)) acc) 0

/-- The bound of a stream in the gated form, with the wake time of R58 (R238). -/
def State.gatedBound (v : State) (rs : List RunTerms) (ms : List (Decl × List (Nat × Rat × Rat))) (d : Decl) : Bound :=
  let cap (k : Nat) : RunTerms := (rs[k]?).getD {}
  if (List.range rs.length).any fun k => decide ((cap k).cap < v.gatedBytes ms k) then { reason := 8, gated := true }
  else
    let l := match ms.find? fun p => p.1 = d with | some p => p.2 | none => []
    let b := l.foldl
      (fun (w : Rat) x =>
        max w (x.2.1 + (cap x.1).before + 8 * (v.gatedBytes ms x.1 + (cap x.1).higher) / v.cfg.gbps d.egress)) 0
    { ns := some (b + v.lpiTerm d.egress), gated := true }

/-- The bound of a stream (R235 to R238). -/
def State.boundOf (v : State) (ds : List Decl) (d : Decl) : Bound :=
  let fixed := v.ingressTerms d + v.egressD d.egress + v.lpiTerm d.egress
  let plus (b : Bound) : Bound := { b with ns := b.ns.map (· + fixed) }
  if v.cfg.hasTt d.egress then
    let rs := v.runTerms ds d.egress d.cls
    match v.gatedQueue rs (queueDecls ds d.egress d.cls) with
    | some ms => v.gatedBound rs ms d
    | none => plus (v.queueTimed ds d.egress d.cls)
  else plus (v.queueUntimed ds d.egress d.cls)

/-! ### The reasons -/

/-- Frames that the streams of one meter may hold in a priority lane: of the smallest size, over the longest stay (R102). -/
def State.laneFrames (v : State) (ds : List Decl) (m budget : Nat) : Nat :=
  let mine := ds.filter fun d => v.declMeter d = m
  let a := v.meterArrival m
  let t : Rat := (((mine.map (·.passes)).foldl max 0 : Nat) : Rat) * passNs budget
  let least := (mine.map (·.minFrame)).foldl min 16383
  if least = 0 then 17 else ((a.burst + a.rate * t / 8) / (least : Rat)).floor.toNat

/-- The Turntable of Platform `p` cannot carry the stream (reason 5, R102). A stream with several declarations, and streams that
share a meter, are one arrival. (DEDUCED, log 15.) -/
def State.ttRefuses (v : State) (ds : List Decl) (d : Decl) (p : Nat) : Bool :=
  let w := v.cfg .clsTtCtrl p
  let here := ds.filter fun x => x.passes ≠ 0 && (v.ingressPlats x).contains p
  decide (fld w 13 12 < d.passes)
    || (d.passes ≠ 0
      && (v.cfg.budget p = 0 || !bitOf (fld w 7 0) d.cls
        || decide (16 < (((here.map v.declMeter).eraseDups).map fun m => v.laneFrames here m (v.cfg.budget p)).sum)))

/-- A higher class that may interfere without a bound (reason 7). (DEDUCED, log 15.) -/
def State.interferes (v : State) (ds : List Decl) (e c : Nat) : Bool :=
  (above c).any fun h =>
    let served :=
      if v.cfg.hasTt e then (v.cfg.ttRuns e c).any fun r => v.cfg.opensIn e h r
      else bitOf (v.cfg.f .schTtCfg e 23 16) h
    served && v.cfg.f .tmClassCfg h 31 30 ≠ 2 && (queueDecls ds e h).isEmpty
      && !v.cfg.b .schQCfg (e * 8 + h) 29 && v.cfg.f .schQCfg (e * 8 + h) 31 30 ≠ 1

/-- The sum over the ports of two 16-bit halves of a register set of four words a port. (DEDUCED, log 32.) -/
def sumHalves (m : Store Word) (id : RegId) : Nat :=
  m.foldl
    (fun a (k, w) => if k % 1024 = id.ctorIdx ∧ k / 4096 < 544 then a + fld w 31 16 + fld w 15 0 else a) 0

/-- The reservations or headrooms of a set of settings exceed the pools of R178. -/
def poolsExceeded (prof : Nat) (m : Store Word) : Bool :=
  decide ((poolSizes prof).1 < sumHalves m .tmPortResv) || decide ((poolSizes prof).2.1 < sumHalves m .tmPortHr)

/-- A port can carry a declared stream. -/
def Cfg.declPort (c : Cfg) (n : Nat) : Bool := (n < 512 || n = 520) && c.present n && c.enabled n

/-- Reasons 1 to 7 of R234: the first that applies, 0 if none does. (DEDUCED, log 15.) -/
def State.earlyReason (v : State) (ds : List Decl) (d : Decl) : Nat :=
  let c := v.cfg
  let w0 := v.tab 0x12 d.handle 0
  let sdu := c.f .schQCfg (d.egress * 8 + d.cls) 13 0
  let pf := c .platPortCtrl d.egress
  let m := v.declMeter d
  let prioPaused :=
    if bitW w0 30 then bitOf (c.f .tmPortFc d.ingress 23 16) (fld w0 29 27) else c.f .tmPortFc d.ingress 23 16 ≠ 0
  if ¬ c.declPort d.ingress ∨ ¬ c.declPort d.egress ∨ v.capacity 0x12 ≤ d.handle ∨ d.minFrame < 64
      ∨ d.maxFrame < d.minFrame ∨ c.maxFrame d.egress < d.maxFrame
      ∨ (fld w0 13 0 ≠ 0 ∧ fld w0 13 0 < d.maxFrame) ∨ (sdu ≠ 0 ∧ sdu < d.maxFrame) then 1
  else if c.f .tmClassCfg d.cls 31 30 ≠ 2 then 2
  else if ¬ bitW w0 31 ∨ fld w0 13 0 = 0 ∨ ¬ bitW w0 23 ∨ v.capacity 0x14 ≤ m ∨ ¬ bitW (v.tab 0x14 m 0) 31 then 3
  else if (d.egress < 512 ∧ (bitW pf 29 ∨ bitOf (fld pf 23 16) d.cls)) ∨ c.fcMode d.ingress = 1
      ∨ (c.fcMode d.ingress = 2 ∧ prioPaused) then 4
  else if (v.ingressPlats d).any (v.ttRefuses ds d ·) then 5
  else if c.f .schQCfg (d.egress * 8 + d.cls) 31 30 = 1 ∨ c.b .schQCfg (d.egress * 8 + d.cls) 29 then 6
  else if v.interferes ds d.egress d.cls then 7
  else 0

/-- The class's gate is open in no entry of the egress Timetable (reason 12). -/
def State.neverOpen (v : State) (d : Decl) : Bool :=
  v.cfg.hasTt d.egress && (v.cfg.ttRuns d.egress d.cls).isEmpty

/-- The requirement of a queue in cells (R239), from the bounds of its streams. Streams that share a meter count once, with their
largest bound (R233; DEDUCED, log 15). -/
def State.resvReq (v : State) (q : List (Decl × Bound)) : Nat :=
  let q := q.filter fun p => p.2.ns.isSome
  let sum := ((q.map fun p => v.declMeter p.1).eraseDups).foldl
    (fun (x : Rat) m =>
      let a := v.meterArrival m
      let b := ((q.filter fun p => v.declMeter p.1 = m).map fun p => p.2.ns.getD 0).foldl max 0
      x + a.burst + a.rate * b / 8) 0
  let minF := (q.map fun p => p.1.minFrame).foldl min 16383
  let maxF := (q.map fun p => p.1.maxFrame).foldl max 0
  if q.isEmpty ∨ minF = 0 then 0 else (sum / (minF : Rat)).ceil.toNat * ceilDiv maxF 256

/-- One line of a report (R247). -/
structure AdmLine where
  decl : Decl := {}
  reason : Nat := 0
  bound : Bound := {}
  resv : Nat := 0

/-- The bound of a line in whole nanoseconds. (DEDUCED, log 16.) -/
def AdmLine.boundNs (l : AdmLine) : Nat :=
  match l.bound.ns with | some b => min b.ceil.toNat 0xFFFFFFFF | none => 0xFFFFFFFF

/-- The words of a report entry (R247). -/
def AdmLine.words (l : AdmLine) (v : State) : List Word :=
  let d := l.decl
  let inNs := if l.bound.gated then 0 else (v.ingressTerms d).ceil.toNat
  [Word.ofNat (at_ (if l.reason = 0 then 1 else 2) 30 + at_ l.reason 24 + at_ (b2n l.bound.gated) 23 + d.handle),
   Word.ofNat l.boundNs, Word.ofNat d.req, Word.ofNat inNs, Word.ofNat (l.boundNs - inNs),
   Word.ofNat (l.resv % 2 ^ 20), Word.ofNat (at_ d.egress 16 + d.cls), 0]

/-- The lines of a check: every valid declaration with its first reason (R234). `poolsOver` says that the pools of R178 are
exceeded. (DEDUCED, log 16.) -/
def State.admLines (v : State) (ds : List Decl) (poolsOver : Bool) : List AdmLine :=
  let bs := ds.map fun d =>
    let r := v.earlyReason ds d
    (d, if r ≠ 0 then { reason := r } else v.boundOf ds d)
  bs.map fun (d, b) =>
    let resv := v.resvReq (bs.filter fun p => p.1.egress = d.egress && p.1.cls = d.cls)
    let late := match b.ns with | some x => d.req ≠ 0 && decide ((d.req : Rat) < (x.ceil : Rat)) | none => false
    let reason :=
      if b.reason ≠ 0 then b.reason
      else if late then 10
      else if v.cfg.resv d.egress d.cls < resv then 11
      else if v.neverOpen d then 12
      else if v.cfg.hasTt d.egress ∧ v.powerPolicy = 2 ∧ v.cfg.f .schTtWake d.egress 13 0 < 5 then 13
      else if poolsOver then 14
      else 0
    { decl := d, reason := reason, bound := b, resv := resv }

/-! ### The check on the state -/

/-- The words of the staged edit (R171). -/
def State.editWords (s : State) : List Word := (List.range 8).map fun w => s.reg .psfEditData w

/-- The target and the index of the staged edit. -/
def State.editTarget (s : State) : Nat × Nat := (s.rf .psfEditCtrl 0 28 24, s.rf .psfEditCtrl 0 16 0)

/-- The edit group has staged changes. -/
def State.editStaged (s : State) : Bool :=
  s.reg .psfEditCtrl 0 ≠ s.cfg .psfEditCtrl 0
    || (List.range 8).any fun w => s.reg .psfEditData w ≠ s.cfg .psfEditData w

/-- The state as it will stand once every staged value is committed: what a check judges (R244). -/
def State.asStaged (s : State) : State :=
  let v := { s with epochs := [s.regs] }
  if s.editStaged then let (t, i) := s.editTarget; v.writeEntry t i s.editWords else v

/-- A report set replaced. -/
def State.setReport (s : State) (set : Nat) (v : State) (ls : List AdmLine) : State :=
  let kept := s.adm.rpt.filter fun (k, _) => k / 131072 ≠ set
  let rpt := ls.foldl
    (fun m l =>
      (List.range 8).foldl
        (fun m w => Store.set 0 m ((set * 16384 + l.decl.idx) * 8 + w) ((l.words v)[w]?.getD 0)) m) kept
  { s with adm := { s.adm with rpt := rpt } }

/-- The lines of a check of the staged values. -/
def State.admRun (s : State) : List AdmLine :=
  s.asStaged.admLines (declList s.adm.decl) (poolsExceeded s.bufProfile s.regs)

/-- The check ends: reports, RESULT, FIRST, REASON and PROVED (R244, R249). -/
def State.admFinish (s : State) : State :=
  let v := s.asStaged
  let ls := s.admRun
  let bad := ls.find? fun l => l.reason ≠ 0
  let s := s.setReport 1 v ls
  let s := if bad.isNone then s.setReport 0 v ls else s
  let s := match bad with
    | some l => (((s.setRf .schAdmStat 0 27 26 2).setRf .schAdmStat 0 19 16 l.reason).setRf .schAdmStat 0 13 0 l.decl.idx)
    | none => ((s.setRf .schAdmStat 0 27 26 1).setRf .schAdmStat 0 19 16 0).setRf .schAdmStat 0 13 0 0
  let s := s.setRf .schAdmStat 0 30 30 (b2n (bad.isNone && s.adm.clean))
  s.setRf .schAdmStat 0 31 31 0

/-- A check starts (R244, R249). -/
def State.admStart (s : State) (src : Src) : State :=
  if s.rb .schAdmStat 0 31 then s.illegal .sch 0xC00 src 2
  else { (s.setRf .schAdmStat 0 31 31 1) with adm := { s.adm with clean := true } }

/-- A write to a declaration or to a field of an admission-bound group (R244, R249). -/
def State.admTouched (s : State) : State :=
  { (s.setRf .schAdmStat 0 30 30 0) with adm := { s.adm with clean := false } }

/-! ### Admission-bound groups and held Platforms -/

/-- The declarations that bind groups: the running and the staged ones. -/
def State.boundDecls (s : State) : List Decl := declList s.adm.run ++ declList s.adm.decl

/-- A commit group is admission-bound (R243). (DEDUCED, log 30.) -/
def State.admBound (s : State) (g : Nat) : Bool :=
  let ds := s.boundDecls
  let used (d : Decl) (port : Nat) : Bool := d.ingress = port || d.egress = port
  if (declList s.adm.run).isEmpty then false
  else if 0x800 ≤ g then ds.any (used · (g - 0x800))
  else if 0x400 ≤ g then
    let p := (g - 0x400) / 128
    (g - 0x400) % 128 = 1 && ds.any fun d => onPlat d.ingress p || onPlat d.egress p
  else if 0x100 ≤ g then
    ds.any fun d => bitW (s.tab 0x12 d.handle 0) 24 && s.declSched d = g - 0x100
  else if 0x020 ≤ g ∧ g < 0x028 then ds.any fun d => onPlat d.ingress (g - 0x020)
  else if g = 0x040 then
    let (t, i) := s.editTarget
    ds.any fun d =>
      (t = 0x12 && i = d.handle) || (t = 0x13 && bitW (s.tab 0x12 d.handle 0) 24 && i = s.declGate d)
        || (t = 0x14 && i = s.declMeter d)
  else g = 0x050 || g = 0x051

/-- A running declaration whose bound has the gated form (R240, R247). -/
def State.declGated (s : State) (d : Decl) : Bool := s.adm.gated.contains d.idx

/-- The staged declarations become the running ones at the commit edge, with the form of their bounds as report set 0 describes it
then (R245, R247). A later check that proves writes set 0 again, and leaves what runs as it is. -/
def State.admitStaged (s : State) : State :=
  { s with adm := { s.adm with
      run := s.adm.decl
      gated := ((declList s.adm.decl).map (·.idx)).filter fun k => bitW (Store.get 0 s.adm.rpt (k * 8)) 23 } }

/-- A declared stream's gate now: whether it is open under the list in force, and the femtoseconds to its next opening, by the
list in force or the pending one (R224, R240). -/
def State.gateWait (s : State) (d : Decl) : Bool × Option Nat :=
  let i := s.declGate d
  let g := s.sched (s.declSched d)
  let phase := (s.tab 0x13 i 1).toNat
  let admin := s.tb 0x13 i 0 30
  let isOpen := match s.listAt g s.fs with | some l => l.opens (bitOf · 31) phase admin (s.tbNs l.tb s.fs) | none => admin
  (isOpen, s.seqWait g (bitOf · 31) phase admin s.fs)

/-- An ingress gate interval of an admitted stream of the gated form is open on a port of the Platform (R455). -/
def State.gateHold (s : State) (p : Nat) : Bool :=
  (declList s.adm.run).any fun d => onPlat d.ingress p && s.declGated d && (s.gateWait d).1

/-- A gate opening of a gated admitted stream lies within LEAD_US of its ingress port (R240). -/
def State.gateNear (s : State) (p : Nat) : Bool :=
  (declList s.adm.run).any fun d =>
    onPlat d.ingress p && s.declGated d
      && match (s.gateWait d).2 with
        | some w => decide (w ≤ s.cfg.f .schTtWake d.ingress 13 0 * 1000000000)
        | none => false

/-- R240 keeps the Platform in Run for an admitted stream. -/
def State.streamHold (s : State) (p : Nat) : Bool :=
  let scheduled := s.powerPolicy = 2
  let ds := declList s.adm.run
  (ds.any fun d => onPlat d.ingress p && !(scheduled && s.declGated d))
    || (ds.any fun d => onPlat d.egress p && !(scheduled && s.cfg.hasTt d.egress))
    || (scheduled && s.gateNear p)

end Sys2Proof.Machine
end

