-- ==== Sys2Proof/Machine/Status.lean ====
section
/-! DEFINITION. What a read of a register returns (R6, R8, R357): stored bits, counters, and the status fields that follow
the machine's state; and whether the switch runs. -/

namespace Sys2Proof.Machine

/-! ### Does the switch run -/

/-- SAF_STAT.HALTED. -/
def State.halted (s : State) : Bool := s.rb .safStat 0 31

/-- BOOT_STAT.PHASE (R398). -/
def State.phase (s : State) : Nat := s.rf .bootStat 0 31 28

/-- The supplies are present and RESET_N is high (R396). -/
def State.powered (s : State) : Bool := s.boot.vao && s.boot.pwrgood && !s.boot.inReset

/-- Powered, and not halted (R471). -/
def State.awake (s : State) : Bool := s.powered && !s.halted

/-- The boot commit edge has passed and the switch has not halted: frames are taken, registers act (R398, R471). (DESIGN CHOICE,
log 3.) -/
def State.running (s : State) : Bool := s.awake && (s.phase = 6 || s.phase = 7)

/-! ### Summaries -/

/-- Some member of a register that `sel` names has a bit set. Its cold value is 0. -/
def State.anyReg (s : State) (id : RegId) (sel : Nat → Bool) : Bool :=
  s.regs.any fun (k, w) => k % 1024 = id.ctorIdx && w ≠ 0 && sel (k / 1024)

/-- Some member has a bit set. -/
def State.anyOf (s : State) (id : RegId) : Bool := s.anyReg id fun _ => true

/-- Two indices of an event ring that differ. -/
def State.ringHolds (s : State) (idx : RegId) : Bool := decide (s.rf idx 0 22 16 ≠ s.rf idx 0 6 0)

/-! ### Power state of a Platform -/

/-- Entry to Sleep is not yet complete (R451). -/
def State.enteringSleep (s : State) (p : Nat) : Bool :=
  decide ((s.plat p).power = .sleep) && decide (s.fs < (s.plat p).pwrSince + 2000000000)

/-- Every lane of a Platform has MODE 0x00. -/
def Cfg.lanesOff (c : Cfg) (p : Nat) : Bool := (List.range 8).all fun l => c.f .platLaneMode (p * 8 + l) 4 0 = 0

/-- A cause that brings the chip-level blocks back from retention (R457): a wake of a Platform, a doorbell, a table command, a
claim, a flush, a GPIO trigger or a Coupler link-up. The time for which their conditions have held begins anew. -/
def State.stir (s : State) : State :=
  if s.rb .aoChipStat 0 31 then { s with ao := { s.ao with chipIdle := none } } else s

/-- A wake cause of R454 on a Platform out of Run: 0 WAKE_TRAFFIC, 1 WAKE_LEAD, 2 WAKE_OTHER. (DEDUCED, log 53.) -/
def State.wake (s : State) (p cause : Nat) : State :=
  let x := s.plat p
  if x.power = .run ∨ x.power = .waking then s
  else
    (s.stir.modPlat p fun x => { x with power := .waking, pwrSince := s.fs, lanesOff := s.cfg.lanesOff p }).count .ao p
      (3 + min cause 2)

/-- Platforms that a mask names are woken. -/
def State.wakeMask (s : State) (mask cause : Nat) : State :=
  (List.range 8).foldl (fun s p => if bitOf mask p then s.wake p cause else s) s

/-- AO_PLAT_STAT.STATE of a Platform. (DEDUCED, log 53.) -/
def State.pwrCode (s : State) (p : Nat) : Nat :=
  match (s.plat p).power with
  | .run => 0 | .doze => 1 | .sleep => if s.enteringSleep p then 5 else 2 | .off => 3 | .waking => 4

/-- The frames of host queue pairs fetched for a Platform that wait in the host port (R450). -/
def State.hostWaits (s : State) (p : Nat) : Bool := !(s.plat p).hostQ.isEmpty

/-- A Platform is quiet (R450). -/
def State.quiet (s : State) (p : Nat) : Bool :=
  let x := s.plat p
  x.intake.isEmpty && x.prio.isEmpty && x.norm.isEmpty && x.held.isEmpty && x.waitList.isEmpty && x.images.isEmpty
    && x.capQ.isEmpty && x.learnQ.isEmpty && !s.hostWaits p
    && s.ports.all fun (n, q) =>
      n / 64 ≠ p || 512 ≤ n
        || (q.txDrained && (!s.cfg.enabled n || !s.cfg.present n || !q.link || q.rxLpi))

/-- An opening of a scheduled class on one of a Platform's timed ports lies less than LEAD_US ahead (R225). -/
def State.leadHold (s : State) (p : Nat) : Bool :=
  s.ports.any fun (n, _) => n < 512 && n / 64 = p && s.openingNear n

/-- AO_PLAT_STAT.HELD (R455). -/
def State.held (s : State) (p : Nat) : Nat :=
  let wake := s.ao.wakeNLow && s.cfg.b .aoWakeCfg 0 31 && bitOf (s.cfg.f .aoWakeCfg 0 7 0) p
  b2n (!s.quiet p) + at_ (b2n (s.powerPolicy = 0)) 1 + at_ (b2n (s.powerPolicy = 2 && s.leadHold p)) 2
    + at_ (b2n (s.streamHold p)) 3 + at_ (b2n (s.gateHold p)) 4 + at_ (b2n wake) 5 + at_ (b2n (s.rb .aoPwrCtrl 0 p)) 6
    + at_ (b2n (bitOf s.tbl.claimed p)) 7

/-! ### Headroom and tokens -/

/-- TM_PORT_HR_REQ of a port (R197): 0 with MODE 0. Times are in picoseconds, the rate in Mbit/s. -/
def Cfg.hrReq (c : Cfg) (n : Nat) : Nat :=
  if c.fcMode n = 0 ∨ c.topSpeed n = 0 then 0
  else
    let kbps := speedKbps (c.topSpeed n)
    let max := c.maxFrame n
    let (rx, tx) := c.lat n
    let ns := 120 + tx + rx + 10 * c.f .tmPortLink n 31 16 + c.f .tmPortLink n 15 0
    ceilDiv (kbps * ns + (max + 104) * 8 * 1000000) (672 * 1000000) + ceilDiv max 256

/-- Accounts of a port in XOFF, as a mask. -/
def PortSt.xoffMask (p : PortSt) : Nat := maskOf 8 fun a => (p.acct a).xoff

/-! ### Units of the host port -/

/-- One unit of the host port. -/
def State.unit (s : State) (u : Nat) : HostUnit := (s.host.units[u]?).getD {}

/-- One unit changed. -/
def State.modUnit (s : State) (u : Nat) (f : HostUnit → HostUnit) : State :=
  { s with host := { s.host with units := s.host.units.modify u f } }

/-- A unit is enabled. -/
def State.unitOn (s : State) (u : Nat) : Bool := if u < 16 then s.rb .hostQpCtrl u 31 else s.rb .hostTdCtrl 0 31

/-! ### Composed words -/

/-- 1 where a bit of a counter half-range register is set, at bit `b`. -/
def State.halfAt (s : State) (id : RegId) (b : Nat) : Nat := at_ (b2n (s.anyOf id)) b

/-- The bits that follow the state, of the interrupt status registers. -/
def State.intBits (s : State) (id : RegId) (i : Nat) : Nat :=
  match id with
  | .safIntStat => s.halfAt .safCntHalf 4
  | .aoIntStat => s.halfAt .aoCntHalf 2
  | .timeIntStat =>
    s.halfAt .timeCntHalf 30 + at_ (maskOf 8 fun p => s.rb .platTxtsIdx p 31) 8
      + maskOf 8 fun p => decide (s.rf .platTxtsIdx p 21 16 ≠ s.rf .platTxtsIdx p 5 0)
  | .hostIntStat =>
    s.halfAt .hostQpCntHalf 2 + at_ (b2n ((List.range 17).any fun u => s.rb .hostQpStat u 30)) 1
      + b2n (s.rb .hostLinkStat 0 30)
  | .tblIntStat => s.halfAt .tblCntHalf 4
  | .clsIntStat => s.halfAt .clsCntHalf 4
  | .psfIntStat => s.halfAt .psfCntHalf 4 + at_ (b2n (s.ringHolds .psfHalfIdx)) 3
  | .redIntStat => s.halfAt .redCntHalf 4 + at_ (b2n (s.ringHolds .redEvtIdx)) 3
  | .tmIntStat => at_ (b2n (s.anyOf .tmCntHalf || s.anyOf .tmPortCntHalf)) 3
  | .schIntStat =>
    s.halfAt .schCntHalf 4 + at_ (b2n (s.rb .schSmpIdx 0 31)) 3 + b2n (s.anyOf .schTtChg)
  | .recIntStat => s.halfAt .recCntHalf 6
  | .platIntStat =>
    at_ (b2n (s.anyReg .platCntHalf fun k => k / 128 = i)) 2 + at_ (b2n (s.anyReg .platTxstartChg fun k => k / 2 = i)) 1
      + b2n (s.anyReg .platLinkChg fun k => k / 2 = i)
  | _ => 0

/-- PLAT_LANE_STAT of lane 0 to 63 (R37, R64): a lane of a port that is link up has its signal, its clock and its block lock, and
has completed what it was set to run. The ports of a lane that runs may all be down with any of this there or not (R37, R59): then
it is the free Config.laneSignals. (DESIGN CHOICE, log 59, DESIGN CHOICE, log 7.) -/
def State.laneStat (s : State) (lane : Nat) : Nat :=
  let w := s.cfg .platLaneMode lane
  let all := at_ (b2n (bitW w 15)) 5 + at_ (b2n (bitW w 14)) 4 + at_ (b2n (decide (fld w 9 8 ≠ 0))) 3 + 7
  let lanes := match modeInfo (fld w 4 0) with | some (n, _, _) => n | none => 1
  let first := lane / lanes * lanes
  if (List.range 8).any fun sub => (s.port (first * 8 + sub)).link then
    all
  else if fld w 4 0 = 0 then 0
  else all &&& Config.laneSignals lane s.fs

/-- The last sensor reading lies within the rated junction range, −40 °C to +105 °C (R462, R495), and below the warning threshold
(R468). -/
def State.tempRated (s : State) : Bool :=
  let t := signed 10 (s.rf .safTemp 0 9 0)
  decide (t < 2 * (s.rf .safCfg 0 23 16 : Int)) && decide (t ≤ 210) && decide (-80 ≤ s.saf.lowest)

/-- An agent reaches the switch: the host through the PCIe function, which HP_PERST_N holds in reset while it is low (R497). -/
def State.reaches (s : State) (src : Src) : Bool := src ≠ .pcie || !s.ao.perstLow

/-- SAF_STAT.COVERED (R462, R468). (DEDUCED, log 57.) -/
def State.covered (s : State) : Bool :=
  s.rb .safCfg 0 31 && s.rb .safCfg 0 30 && !s.rb .safCfg 0 29 && s.tempRated && s.saf.railOut.all (·.isNone)

/-- One word of a counter: the low 32 bits or the high eight. -/
def State.counterWord (s : State) (b : CntBank) (per i : Nat) (hi : Bool) : Nat :=
  let v := s.counter b (i / per) (i % per)
  if hi then v / 2 ^ 32 else v % 2 ^ 32

/-- The word of a counter register; none for any other register. -/
def State.counterReg (s : State) (id : RegId) (i : Nat) : Option Nat :=
  match id with
  | .platCntLo => some (s.counterWord .plat 64 i false) | .platCntHi => some (s.counterWord .plat 64 i true)
  | .clsCntLo => some (s.counterWord .cls 32 i false) | .clsCntHi => some (s.counterWord .cls 32 i true)
  | .tblCntLo => some (s.counterWord .tbl 32 i false) | .tblCntHi => some (s.counterWord .tbl 32 i true)
  | .psfCntLo => some (s.counterWord .psf 16 i false) | .psfCntHi => some (s.counterWord .psf 16 i true)
  | .redCntLo => some (s.counterWord .red 16 i false) | .redCntHi => some (s.counterWord .red 16 i true)
  | .tmCntLo => some (s.counterWord .tm 32 i false) | .tmCntHi => some (s.counterWord .tm 32 i true)
  | .tmPortCntLo => some (s.counterWord .tmPort 3 i false) | .tmPortCntHi => some (s.counterWord .tmPort 3 i true)
  | .schCntLo => some (s.counterWord .sch 16 i false) | .schCntHi => some (s.counterWord .sch 16 i true)
  | .timeCntLo => some (s.counterWord .time 16 i false) | .timeCntHi => some (s.counterWord .time 16 i true)
  | .recCntLo => some (s.counterWord .capt 16 i false) | .recCntHi => some (s.counterWord .capt 16 i true)
  | .hostQpCntLo => some (s.counterWord .host 4 i false) | .hostQpCntHi => some (s.counterWord .host 4 i true)
  | .aoCntLo => some (s.counterWord .ao 32 i false) | .aoCntHi => some (s.counterWord .ao 32 i true)
  | .safCntLo => some (s.counterWord .saf 16 i false) | .safCntHi => some (s.counterWord .saf 16 i true)
  | .bootFlaCntLo => some (s.counterWord .fla 8 i false) | .bootFlaCntHi => some (s.counterWord .fla 8 i true)
  | .platCntSnapbufLo => some (Store.get 0 s.snap i % 2 ^ 32)
  | .platCntSnapbufHi => some (Store.get 0 s.snap i / 2 ^ 32)
  | _ => none

/-- Milliseconds until the last timed window of R165 closes, rounded up, and at most what REMAIN_MS can hold.
(DESIGN CHOICE, log 64: R174.) -/
def State.remainMs (s : State) : Nat :=
  let ends := s.psf.startup.toList ++ (s.psf.test.bind id).toList ++ s.psf.recovery.toList
  min 65535 ((ends.map fun t => ceilDiv (t - s.fs) fsPerMs).foldl max 0)

/-- CUR_ENTRY of a Timetable: of the list in force now, at its position now (R231). -/
def State.curEntry (s : State) (e : Nat) : Nat :=
  match s.listAt (s.port e).tt s.fs with
  | none => 0
  | some l =>
    if l.cycle = 0 then 0
    else
      match entryAt (l.pos (s.tbNs l.tb s.fs)).1 l.entries 0 with
      | some (k, _) => k
      | none => (l.entries.length - 1) % 256

/-- The operational entry `k` of a Timetable. -/
def State.operEntry (s : State) (e k : Nat) : Nat × Nat :=
  match (s.port e).tt.run with
  | some l => (l.entries[k]?).getD (0, 0)
  | none => (0, 0)

/-- One byte string's word `i`, the first byte in bits 7:0. -/
def bytesWord (b : List Byte) (i : Nat) : Nat := le b (4 * i) 4

/-- The bits of a register that follow the state and are not stored (R8). (DEDUCED, log 59.) -/
def State.statusBits (s : State) (id : RegId) (i : Nat) : Nat :=
  match id with
  | .glbCommitStat => at_ (b2n s.commit.busy) 31
  | .safStat => at_ (b2n s.covered) 29
  | .safLogData => bytesWord (Store.get [] s.saf.log (s.rf .safLogSel 0 7 0)) i
  | .aoPlatStat => at_ (s.pwrCode i) 29 + s.held i
  | .timeCmdStat => at_ (b2n s.time.cmd.isSome) 31
  | .timeSnap => at_ (b2n s.time.snapBusy) 30
  | .timeTbStat => at_ (b2n (s.followed i)) 31 + at_ (b2n ((s.time.locked[i]?).getD false)) 30
  | .hostQpStat => min (s.unit i).waiting.length 64
  | .tblClaim => s.tbl.claimReq
  | .tblClaimStat => s.tbl.claimed
  | .tblCmdStat => at_ (b2n s.tbl.cmd.isSome) 31 + at_ s.tbl.cmdResult 28 + s.tbl.cmdIndex
  | .tblFlushStat => at_ (b2n s.tbl.flushBusy) 31 + at_ s.tbl.flushPlats 16
  | .tblLearnStat => (s.plat i).learnQ.length
  | .tblMacCount => s.macCount i
  | .tblCap => s.capacity i
  | .clsGenStat =>
    at_ (b2n s.cls.swap) 31 + at_ (b2n s.cls.retiring) 28 + at_ s.cls.cur 27 + s.rf .clsBankGen s.cls.cur 15 0
  | .clsGenInflight => (s.cls.inflight[i]?).getD 0
  | .clsTtStat => at_ (s.plat i).prio.length 16 + (s.plat i).norm.length
  | .psfWinCtrl => at_ (b2n s.psf.test.isSome) 30
  | .psfWinStat =>
    at_ (b2n s.windowOpen) 31 + at_ (b2n s.psf.startup.isSome) 30 + at_ (b2n s.psf.test.isSome) 29
      + at_ (b2n s.psf.recovery.isSome) 28 + s.remainMs
  | .psfSchedStart => (Store.get {} s.psf.scheds i).startReg
  | .psfSchedFlags =>
    let g := Store.get {} s.psf.scheds i
    at_ (b2n g.pend.isSome) 1 + b2n g.run.isSome
  | .redTwinStat => at_ s.red.state 28 + at_ s.red.reason 20 + s.red.partner
  | .redTwinInfo => at_ s.red.protoVer 16
  | .redTwinPeer => at_ s.red.winMin 16 + s.red.winMax
  | .redTwinDelay => s.red.delayPs % 2 ^ 20
  | .redTwinResets => s.red.count
  | .redCplStat => at_ (b2n s.red.cplLink) 31 + at_ s.red.cplAligned 8 + s.red.cplLock
  | .tmPoolSched => (poolSizes s.bufProfile).1
  | .tmPoolHr => (poolSizes s.bufProfile).2.1
  | .tmPoolShared => (poolSizes s.bufProfile).2.2
  | .tmPoolFree => s.sharedFree
  | .tmQDepth => ((s.port (s.rf .tmQSel 0 25 16)).queue (s.rf .tmQSel 0 2 0)).depth
  | .tmQResv => ((s.port (s.rf .tmQSel 0 25 16)).queue (s.rf .tmQSel 0 2 0)).resvUsed
  | .tmPlatStat => at_ ((s.plat i).copyBytes / 1024) 16 + (s.plat i).waitList.length
  | .tmPortHalfSum => maskOf 32 fun j => s.reg .tmPortCntHalf (32 * i + j) ≠ 0
  | .tmPortStat =>
    at_ (b2n (s.port i).hold.isSome) 31 + at_ (b2n (s.port i).expired) 30 + at_ (s.port i).xoffMask 16
  | .tmPortHrReq => s.cfg.hrReq i
  | .schAdmDecl => (Store.get 0 s.adm.decl (s.rf .schAdmSel 0 13 0 * 8 + i)).toNat
  | .schAdmRpt =>
    (Store.get 0 s.adm.rpt ((b2n (s.rb .schAdmSel 0 31) * 16384 + s.rf .schAdmSel 0 13 0) * 8 + i)).toNat
  | .schAdmCount => at_ (declList s.adm.run).length 16 + (declList s.adm.decl).length
  | .schAdmWorst =>
    ((s.adm.rpt.filter fun (k, w) => k < 131072 && k % 8 = 1 && w ≠ 0).map fun (_, w) => w.toNat).foldl max 0
  | .schAdmInfo => at_ (Config.algoVer % 256) 24
  | .schTtStart => (s.port i).tt.startReg
  | .schTtStat =>
    let g := (s.port i).tt
    at_ (b2n g.run.isSome) 31 + at_ (b2n g.pend.isSome) 30
      + at_ (match g.run with | some l => l.entries.length | none => 0) 16 + s.curEntry i
  | .schQCredit => if s.cbs (i / 8) (i % 8) then unsigned 32 (floorDiv (s.creditNow (i / 8) (i % 8)) creditUnit) else 0
  | .schQTokens => s.queueTokens (i / 8) (i % 8)
  | .schTtOperIntv => (s.operEntry (i / 256) (i % 256)).1
  | .schTtOperGates => (s.operEntry (i / 256) (i % 256)).2 % 256
  | .recStat =>
    at_ (b2n s.recording) 31 + at_ (b2n s.capt.stalled) 30 + at_ (b2n s.capt.cxlErr) 29 + at_ (b2n s.capt.ringLost) 28
  | .recRingWr => s.capt.wr
  | .recOpenLen => s.capt.openLen
  | .recBsnLo => s.capt.bsn % 2 ^ 32
  | .recBsnHi => s.capt.bsn / 2 ^ 32
  | .recHeadDigest => bytesWord (beBytes 48 s.capt.head) i
  | .recNvmeWrLo => s.capt.nvmeWr % 2 ^ 32
  | .recNvmeWrHi => s.capt.nvmeWr / 2 ^ 32
  | .recWinStat =>
    let x := s.win i
    at_ x.state 29 + at_ x.result 26 + at_ (b2n x.cut) 25 + at_ (b2n x.unsigned_) 24
  | .recWinId => (s.win i).id
  | .recWinBsn => (s.win i).firstBsn % 2 ^ 32
  | .recWinBlocks => if (s.win i).state = 0 then 0 else s.winBlocks (s.win i)
  | .platCntHalfSum => maskOf 32 fun j => s.anyReg .platCntHalf fun k => k / 2 = i * 32 + j
  | .platCntSnap => at_ (b2n (s.plat i).snapBusy) 30
  | .platLaneStat => s.laneStat i
  | .platPortTxstart => at_ (s.port i).cur 16
  | .platPortStat =>
    let p := s.port i
    at_ (b2n p.link) 31 + at_ (b2n p.localFault) 30 + at_ (b2n p.remoteFault) 29 + at_ (b2n p.txLpi) 28
      + at_ (b2n p.rxLpi) 27 + at_ (maskOf 8 p.paused) 16 + p.speed
  | _ => s.intBits id i

/-- The whole of what a register holds now, but for its WO bits, which read 0. -/
def State.fullReg (s : State) (id : RegId) (i : Nat) : Word :=
  match s.counterReg id i with
  | some n => Word.ofNat n
  | none =>
    (s.reg id i ||| Word.ofNat (s.statusBits id i)) &&& ~~~(Word.ofNat id.woMask)

/-- The word that an agent reads (R8, R357): AOC bits come from the copy, unless the agent has written the register
since the copy was refreshed. -/
def State.readReg (s : State) (src : Src) (id : RegId) (i : Nat) : Word :=
  let full := s.fullReg id i
  let m := Word.ofNat id.aocMask
  if id.aocMask = 0 ∨ bitOf (Store.get 0 s.ao.wrote (regKey id i)) (srcNo src) then full
  else (full &&& ~~~m) ||| (Store.get (coldWord id i) s.ao.copy (regKey id i) &&& m)

/-- The copies of the always-on registers refreshed, with the copy of each trim (R8, TIME_TB_TRIM). (DEDUCED, log 52.) -/
def State.refreshAoc (s : State) : State :=
  let one (s : State) (id : RegId) (i : Nat) : State :=
    { s with ao := { s.ao with
        copy := Store.set (coldWord id i) s.ao.copy (regKey id i) (s.fullReg id i &&& Word.ofNat id.aocMask) } }
  let s := one (one (one (one s .aoIntStat 0) .aoWakeCfg 0) .aoPwrCtrl 0) .aoChipStat 0
  let s := (List.range 8).foldl (fun s p => one (one (one s .aoPlatCfg p) .aoPlatStat p) .timeTbCfg p) s
  let s := (List.range 8).foldl (fun s k => s.setReg .timeTbTrim k (Word.ofNat (unsigned 32 (s.tbTrim k)))) s
  { s with ao := { s.ao with wrote := [] } }

end Sys2Proof.Machine
end

