-- ==== Sys2Proof/Machine/Twin.lean ====
section
/-! DEFINITION. The twin (R269 to R284): the Coupler's frames, health and pairing, the changes of TWIN_OPER, reset
requests, and frames received over the Coupler. -/

namespace Sys2Proof.Machine

/-! ### Frames -/

/-- A Coupler frame taken apart: its header and payload; none where R272 drops it. -/
def cplParse (b : List Byte) : Option (CplHdr × List Byte) :=
  let n := b.length
  let w0 := be b 0 4
  let payload := (b.drop 16).take (n - 20)
  let fcsOk := 4 ≤ payload.length && payload.drop (payload.length - 4) = fcsOf (payload.take (payload.length - 4))
  if n < 20 ∨ be b (n - 4) 4 ≠ crc32 (b.take (n - 4)) ∨ 4 < w0 / 2 ^ 28
      ∨ ((w0 / 2 ^ 28 = 2 ∨ w0 / 2 ^ 28 = 3) ∧ fcsOk = false) then none
  else
    some ({ type := w0 / 2 ^ 28, learn := bitOf w0 27, gen := bitOf w0 26, seqValid := bitOf w0 25,
            cls := bits w0 24 22, colour := bits w0 21 20, origPort := bits w0 19 10, seq := be b 4 2,
            handle := if bitOf (be b 8 4) 31 then some (bits (be b 8 4) 16 0) else none, ageNs := be b 12 4 }, payload)

/-- The TYPE field of a Coupler frame, sound or not. -/
def cplType (b : List Byte) : Nat := be b 0 4 / 2 ^ 28

/-- A Coupler frame of a TYPE without a header's further fields (R271). -/
def cplPlain (type : Nat) (payload : List Byte) : List Byte :=
  cplFrame (beBytes 4 (at_ type 28) ++ List.replicate 12 0) payload

/-- This member's node number (R409). -/
def State.nodeNo (s : State) : Nat := s.rf .bootNode 0 31 16

/-- This member's node base (R269). -/
def State.nodeBase (s : State) : Nat := s.rf .bootImage 0 15 0

/-- The payload of a health frame (R273). -/
def State.healthPayload (s : State) : List Byte :=
  let w (n : Nat) : List Byte := beBytes 4 (n % 2 ^ 32)
  let pair (n : Nat) : List Byte := w n ++ w (n / 2 ^ 32)
  let r := s.red
  w (at_ s.nodeNo 16 + s.nodeBase) ++ w (at_ r.protoVer 16 + s.rf .bootImage 0 31 16) ++ w (at_ r.winMin 16 + r.winMax)
    ++ w (at_ r.state 28 + at_ (b2n s.follower) 27 + at_ (b2n (decide (16 ≤ r.seen))) 26)
    ++ pair s.mono ++ pair r.echo ++ w (s.mono - r.echoAt) ++ w 0xFF
    ++ (List.range 8).flatMap (fun k => w (s.tbNow32 k)) ++ w 0 ++ w 0

/-- A frame of the switch's own on the Coupler's transmitter. -/
def State.sendCpl (s : State) (b : List Byte) : State :=
  s.modPort 520 fun p => { p with tx := some { bytes := b, start := s.fs, cross := s.crossFs 520 s.fs } }

/-- A health frame sent at a frame boundary (R273). -/
def State.sendHealth (s : State) : State :=
  if s.healthDue ∧ (s.port 520).tx.isNone then
    { (s.sendCpl (cplPlain 0 s.healthPayload)) with red := { s.red with lastSend := s.fs } }
  else s

/-! ### The twin state -/

/-- RED_TWIN_STAT.STATE changes; a change of TWIN_OPER acts as R276 states. -/
def State.setTwin (s : State) (st : Nat) : State :=
  if st = s.red.state then s
  else
    let was := s.paired
    let now : Bool := st = 3
    let s := { s with red := { s.red with state := st, stateSince := s.fs, goodCount := 0, resetAsked := false } }
    if was = now then s
    else
      let s := ((s.setRf .glbMode 0 12 12 (b2n now)).orReg .redIntStat 0 1).openRecovery
      if now then s.portUp 520 10 else s.portDown 520 (s.holdMs 520)

/-- The check of R275 that a health payload fails first; 0 where every check passes. -/
def State.twinCheck (s : State) (p : List Byte) : Nat :=
  let ver := be p 4 2
  let r := s.red
  if bitOf (be p 12 4) 27 = s.follower then 1
  else if be p 2 2 ≠ s.nodeBase then 2
  else if ver < r.winMin ∨ r.winMax < ver ∨ r.protoVer < be p 8 2 ∨ be p 10 2 < r.protoVer then 3
  else 0

/-- The delay measured from a health payload in picoseconds, averaged over the last 64 (R273). (DEDUCED, log 41.) -/
def State.takeDelay (s : State) (p : List Byte) : State :=
  let echo : Nat := be p 24 4 + be p 28 4 * 2 ^ 32
  let d : Int := ((s.mono : Int) - (echo : Int) - (be p 32 4 : Int)) * 500
  let l : List Int := (d :: s.red.delays).take 64
  let mean := floorDiv (l.foldl (fun (a x : Int) => a + x) 0) l.length
  { s with red := { s.red with delays := l, delayPs := unsigned 20 mean } }

/-- The trim that brings a base, `d` nanoseconds behind, level within the 1 µs until the next health frame (R273, R281), as far as
TRIM reaches. -/
def catchTrim (d : Int) : Int := max (-(2 ^ 31)) (min (2 ^ 31 - 1) (d * 2 ^ 40 / 1000))

/-- How far a trim of R281 may lie from `catchTrim`: less than 1 ns in a health frame's period, so that the base stays within the
10 ns of R281 once it is level. -/
def catchSlack : Nat := 2 ^ 29

/-- A followed time base steered by its trim (R281), so that at the next health frame it stands at the lead's value plus the
delay, to within a slack that is free: the rule gives the result and not the law of the steering. (DEDUCED, log 43, DESIGN CHOICE,
log 7.) -/
def State.steer (s : State) (p : List Byte) : State :=
  (List.range 8).foldl
    (fun s k =>
      let want := (be p (40 + 4 * k) 4 + s.red.delayPs / 1000) % 2 ^ 32
      if s.followed k ∧ bitOf (be p 36 4) k then
        let (v, s) := s.fresh
        let e : Int := (v % (2 * catchSlack) : Nat) - (catchSlack : Int)
        (s.trimTb k (max (-(2 ^ 31)) (min (2 ^ 31 - 1) (catchTrim (diff32 want (s.tbNow32 k)) + e)))).syntonised k
      else s) s

/-- The move of R274 on a valid health frame whose first failing check is `fail`. (DEDUCED, log 41.) -/
def State.healthMove (s : State) (node fail : Nat) (sees : Bool) : State :=
  let s := if s.red.state = 4 ∨ s.red.state = 5 then s.setTwin 2 else s
  if fail ≠ 0 then
    let s := s.setTwin 6
    { s with red := { s.red with reason := fail, goodCount := 0 } }
  else
    let s := if s.red.state = 6 then s.setTwin 2 else s
    let n := s.red.goodCount + 1
    let s := { s with red := { s.red with goodCount := n } }
    if s.red.state = 2 ∧ 16 ≤ n ∧ sees then
      let s := s.setTwin 3
      { s with red := { s.red with pairedNode := some node } }
    else s

/-- A valid health frame (R273 to R275, R281). -/
def State.takeHealth (s : State) (p : List Byte) : State :=
  let node := be p 0 2
  let s := s.takeDelay p
  let s := { s with red := { s.red with
    partner := node, lastHealth := s.fs, seen := s.red.seen + 1, echoAt := s.mono
    echo := be p 16 4 + be p 20 4 * 2 ^ 32, peer := [Word.ofNat (be p 4 4), Word.ofNat (be p 8 4)] } }
  (s.healthMove node (s.twinCheck p) (bitOf (be p 12 4) 26)).steer p

/-- A Coupler frame that R272 drops. -/
def State.cplBad (s : State) (b : List Byte) : State :=
  let s := s.count .red 0 9
  if cplType b = 0 then { s with red := { s.red with seen := 0, goodCount := 0 } } else s

/-- No valid health frame for 4 µs in Hello or Paired (R274). -/
def State.twinSilent (s : State) : State :=
  let since := max s.red.lastHealth (if s.red.state = 2 then s.red.stateSince else 0)
  if (s.red.state = 2 ∨ s.red.state = 3) ∧ since + 4000000000 ≤ s.fs then
    let s := s.setTwin 5
    { s with red := { s.red with seen := 0 } }
  else s

/-- A halt notice (R274, R286): the Coupler link may have gone down at the same clock. (DEDUCED, log 41.) -/
def State.takeHaltNotice (s : State) : State :=
  let s := s.orReg .redIntStat 0 2
  if s.red.state = 0 ∨ (s.red.state = 1 ∧ s.red.stateSince ≠ s.fs) then s
  else
    let s := s.setTwin 4
    { s with red := { s.red with seen := 0 } }

/-- The Coupler comes link up (R270, R274). -/
def State.cplUp (s : State) : State :=
  if s.red.cplLink ∨ ¬ s.pairedCfg then s
  else
    let s := { s.stir with red := { s.red with cplLink := true, cplLock := 0xFF, cplAligned := 0xFF, seen := 0 } }
    (s.orReg .redIntStat 0 4).setTwin 2

/-- The Coupler goes link down (R270, R274); which lanes keep lock is not given. (DESIGN CHOICE, log 42.) -/
def State.cplDown (s : State) : State :=
  if ¬ s.red.cplLink then s
  else
    let (a, s) := s.fresh
    let (b, s) := s.fresh
    let s := { s with red := { s.red with cplLink := false, cplLock := a % 256, cplAligned := b % 256, seen := 0 } }
    let s := s.orReg .redIntStat 0 4
    let s := if s.red.state = 4 ∧ s.red.resetUntil.isNone then s else s.setTwin 1
    s.modPort 520 fun p => { p with tx := none }

/-! ### Partner reset -/

/-- Reset requests begin (R283); `timed` says that PARTNER_RESET_MS asked for them. (DEDUCED, log 41.) -/
def State.startResets (s : State) (timed : Bool) : State :=
  { (s.count .red 0 14) with red :=
    { s.red with resetUntil := some (s.fs + fsPerMs), resetAsked := s.red.resetAsked || timed } }

/-- A RESET_PARTNER write (R283). -/
def State.resetPartner (s : State) (src : Src) : State :=
  if s.red.state = 4 then s.startResets false else s.illegal .red 0x14 src 11

/-- The state has been Partner halted for PARTNER_RESET_MS (R283). -/
def State.partnerResetDue (s : State) : Bool :=
  let ms := s.cfg.f .redTwinCfg 0 15 0
  s.red.state = 4 && ms ≠ 0 && !s.red.resetAsked && decide (s.red.stateSince + ms * fsPerMs ≤ s.fs)

/-- A reset request sent every microsecond until the series ends (R283). The halted partner's transmitters are idle, so no link
from it is asked for. -/
def State.sendResetReq (s : State) : State :=
  match s.red.resetUntil with
  | none => s
  | some t =>
    if t ≤ s.fs then { s with red := { s.red with resetUntil := none } }
    else if (s.port 520).tx.isNone ∧ s.red.lastReq + 1000000000 ≤ s.fs then
      let b := cplPlain 4 (beBytes 4 (at_ s.nodeNo 16 + s.nodeBase) ++ List.replicate 12 0)
      { (s.sendCpl b) with red := { s.red with lastReq := s.fs } }
    else s

/-- The Signal Box of a halted member accepts a reset request (R284). (DESIGN CHOICE, log 42.) -/
def State.acceptsReset (s : State) (p : List Byte) : Bool :=
  s.halted && be p 2 2 = s.nodeBase && some (be p 0 2) = s.red.pairedNode && decide (s.red.count < s.saf.resetMax)

/-! ### Frames received over the Coupler -/

/-- The cells of a Coupler arrival drawn on its Platform, one for each 256 bytes (R179, R191, R279). -/
def State.drawCpl (s : State) (plat : Nat) (x : RxCtx) : Nat → State × RxCtx
  | 0 => (s, x)
  | n + 1 =>
    if x.dropped then (s, x)
    else
      let (s, x) := match x.acct with
        | some a => s.drawAccount plat 520 a x
        | none => s.drawStaging plat 520 x
      s.drawCpl plat x n

/-- A TYPE 2 or TYPE 3 frame taken from the Coupler (R279). (DEDUCED, log 41.) -/
def State.takeCpl (s : State) (h : CplHdr) (b : List Byte) : State :=
  let plat := if h.origPort < 512 then h.origPort / 64 else 0
  if (s.plat plat).power ≠ .run then ((s.wake plat 0).count .ao plat 6).orReg .aoIntStat 0 2
  else
    let s := s.count .red plat 8
    let wire := (8 + 16 + b.length + 4) * 8 * bitFs 10
    let instant := s.fs - wire - h.ageNs * 1000000 - s.red.delayPs * 1000
    let x : RxCtx := { bytes := b, sfd := instant, epoch := s.epoch, acct := s.cfg.acctOf 520 (s.rxPriority 520 b) }
    let s := s.writeBeats plat b.length
    let (s, x) := s.drawCpl plat x (ceilDiv (min b.length 10240) 256)
    if x.dropped then s
    else
      s.handOff
        { bytes := b.take 10240, len := b.length, trunc := decide (10240 < b.length)
          err := if 10240 < b.length then 2 else 0, port := 520, plat := plat, instant := instant
          cpl := some h, charge := x.charge, acct := x.acct }

/-- A Coupler frame that arrives, by its sound form, or dropped under R272. -/
def State.cplTake (s : State) (frame : List Byte) (type : Nat → Bool) (f : CplHdr → List Byte → State) : State :=
  match cplParse frame with
  | some (h, p) => if type h.type then f h p else s
  | none => s.cplBad frame

end Sys2Proof.Machine
end

