-- ==== Sys2Proof/Machine/Commit.lean ====
section
/-! DEFINITION. Commit groups and their consistency checks (R19 to R23, with the check of every chapter): which group a
register belongs to, the settings as they will stand after an edge, and the groups that fail. -/

namespace Sys2Proof.Machine

/-! ### Groups -/

/-- The per-Platform group of an index on a Platform (R20). -/
def platGroup (p i : Nat) : Nat := 0x400 + p * 128 + i

/-- The per-port group of a port (R20). -/
def portGroup (n : Nat) : Nat := 0x800 + n

/-- The commit group of member `i` of a register; none for a register that belongs to none (R19, R20). -/
def groupOf (id : RegId) (i : Nat) : Option Nat :=
  match id with
  | .clsTtCtrl => some (0x020 + i)
  | .clsTpid | .clsParseCtrl => some 0x028
  | .tblAge | .tblLearnCtrl => some 0x030
  | .tblLagHash => some 0x031
  | .tblRouterMacLo | .tblRouterMacHi | .tblRouteCtrl => some 0x032
  | .psfEditCtrl | .psfEditData => some 0x040
  | .psfWinCfg => some 0x041
  | .tmClassCfg | .tmClassDeadline => some 0x050
  | .tmFcCfg | .tmReplCfg => some 0x051
  | .schSmpCtrl | .schSmpList => some 0x060
  | .redTwinCfg => some 0x070
  | .timePpsOutCfg | .timePpsOutPeriod | .timePpsOutPhase | .timePpsOutWidth => some (0x080 + i)
  | .timeTcDom => some 0x088
  | .recCfg | .recClose => some 0x090
  | .recRingBaseLo | .recRingBaseHi | .recRingBlocks => some 0x091
  | .recRule => some 0x092
  | .recTrigCfg | .recTrigSpan => some 0x093
  | .recNvmeCfg | .recNvmeBaseLo | .recNvmeBaseHi | .recNvmeCount => some 0x094
  | .aoWakeCfg => some 0x0A0
  | .psfSchedHdr | .psfSchedCycle | .psfSchedBase => some (0x100 + i)
  | .psfSchedIntv | .psfSchedGate => some (0x100 + i / 16)
  | .platLaneMode => some (platGroup (i / 8) 1)
  | .platStaLo | .platStaHi => some (platGroup (i / 16) 2)
  | .aoPlatCfg => some (platGroup i 3)
  | .platPortCtrl | .platPortFrame | .platPortTxstart | .platPortLpi | .platTsRxlat | .platTsTxlat
  | .platTsAsym | .platTsCfg | .tmPortFc | .tmPortLink | .tmPortHold | .redPortCfg
  | .schPortCfg | .schPortRate | .schPortBurst | .schTtCfg | .schTtCycle | .schTtBase | .schTtWake =>
    some (portGroup i)
  | .tmPortResv | .tmPortHr => some (portGroup (i / 4))
  | .schQCfg | .schQSlope | .schQRate | .schQBurst => some (portGroup (i / 8))
  | .schTtIntv | .schTtGates => some (portGroup (i / 256))
  | _ => none

/-- The commit group of a store key. -/
def groupOfKey (k : Nat) : Option Nat := groupOf (RegId.ofNat (k % 1024)) (k / 1024)

/-- The group numbers that name a group (R23). -/
def groupNamed (g : Nat) : Bool :=
  (0x020 ≤ g && g ≤ 0x028) || (0x030 ≤ g && g ≤ 0x032) || g = 0x040 || g = 0x041 || g = 0x050 || g = 0x051
    || g = 0x060 || g = 0x070 || (0x080 ≤ g && g ≤ 0x083) || g = 0x088 || (0x090 ≤ g && g ≤ 0x094) || g = 0x0A0
    || (0x100 ≤ g && g ≤ 0x1FF)
    || (0x400 ≤ g && g < 0x800 && 1 ≤ g % 128 && g % 128 ≤ 3) || (0x800 ≤ g && g ≤ 0x800 + 551)

/-- The keys of a store whose group `sel` selects. -/
def keysIn (sel : Nat → Bool) (m : Store Word) : Store Word :=
  m.filter fun (k, _) => match groupOfKey k with | some g => sel g | none => false

/-- The committed store with the groups that `sel` selects taken from the staged one (R21). -/
def mergeStaged (sel : Nat → Bool) (committed staged : Store Word) : Store Word :=
  let kept := committed.filter fun (k, _) => match groupOfKey k with | some g => !sel g | none => false
  (keysIn sel staged).foldl (fun m (k, w) => Store.put m k w) kept

/-- Keys at which two stores differ. -/
def diffKeys (a b : Store Word) : List Nat :=
  let one (x y : Store Word) : List Nat :=
    (x.filter fun (k, w) => Store.get (coldKey k) y k ≠ w).map fun (k, _) => k
  (one a b ++ one b a).eraseDups

/-- The groups whose staged values differ from their committed values, in rising number (R21). -/
def State.stagedGroups (s : State) : List Nat :=
  sortNat ((diffKeys s.regs (s.epochs.headD [])).filterMap groupOfKey).eraseDups

/-- A group has staged changes. -/
def State.groupStaged (s : State) (g : Nat) : Bool :=
  (diffKeys s.regs (s.epochs.headD [])).any fun k => groupOfKey k = some g

/-! ### Checks of the lanes and ports -/

/-- The FEC codes that R35 lists for a lane mode. -/
def fecAllowed (m fec : Nat) : Bool :=
  if m = 6 then fec = 2
  else if m = 8 then decide (fec ≤ 2)
  else if m = 9 then decide (fec ≤ 1)
  else if 1 ≤ m ∧ m ≤ 7 then fec = 3
  else fec = 0

/-- The fields of PLAT_LANE_MODE that the lanes of one port share: all but the polarities. (DEDUCED, log 32.) -/
def laneShape (w : Word) : Nat := fld w 4 0 + at_ (fld w 11 8) 8 + at_ (fld w 15 14) 14

/-- One lane of the lane-mode group passes (R36). -/
def Cfg.laneOk (c : Cfg) (i : Nat) : Bool :=
  let w := c .platLaneMode i
  let m := fld w 4 0
  let media := fld w 11 10
  let lanes := match modeInfo m with | some (n, _, _) => n | none => 1
  let first := i / lanes * lanes
  (m = 0 || (modeInfo m).isSome) && fecAllowed m (fld w 9 8) && (fld w 15 14 = 0 || decide (media ≤ 1))
    && (List.range lanes).all fun k => laneShape (c .platLaneMode (first + k)) = laneShape w

/-- The number of kilobits per second that R221 judges a port's windows with. -/
def Cfg.minKbps (c : Cfg) (e : Nat) : Nat :=
  if e < 512 ∧ usxgmii (c.mode e) then 1000000 else speedKbps (c.topSpeed e)

/-- A Timetable's longest run holds a frame of class `k` (R221). -/
def Cfg.runFits (c : Cfg) (e k : Nat) : Bool :=
  let es := c.ttEntries e
  let runs := c.ttRuns e k
  es.all (fun (_, g) => bitOf g k) || runs.isEmpty
    || decide ((c.sduOf e k + 8) * 8 * 1000000 ≤ (runs.map (·.2)).foldl max 0 * c.minKbps e)

/-- The Timetable of a port passes R221. -/
def Cfg.ttOk (c : Cfg) (e : Nat) : Bool :=
  let len := c.f .schTtCfg e 8 0
  let cyc := c.ttCycle e
  let es := c.ttEntries e
  (es.map (·.1)).sum = cyc
    && (len = 0
      || (decide (len ≤ 256) && (e < 512 || e = 520) && c.present e && decide (1000 ≤ cyc ∧ cyc ≤ 1000000000)
        && es.all (fun (n, _) => decide (64 ≤ n)) && (List.range 8).all (c.runFits e ·)))

/-- The highest speed of a port in kbit/s; 0 for a port that has none: absent, a host queue group or a Turntable port. -/
def Cfg.topKbps (c : Cfg) (e : Nat) : Nat :=
  if (e < 512 ∧ c.topSpeed e ≠ 0) ∨ e = 520 then speedKbps (c.topSpeed e) else 0

/-- The queues and shapers of a port pass R221. -/
def Cfg.shapersOk (c : Cfg) (e : Nat) : Bool :=
  let q (k : Nat) : Nat := e * 8 + k
  let ks := List.range 8
  let small (burst k : Nat) : Bool := burst ≠ 0 && decide (burst < c.sduOf e k + 20)
  let shaped (k : Nat) : Bool := !bitOf (c.f .schPortCfg e 15 8) k
  ks.all (fun k => decide (c.f .schQCfg (q k) 31 30 ≤ 1))
    && ks.all (fun k => !(c.b .schQCfg (q k) 29 && small (c.f .schQBurst (q k) 23 0) k))
    && !(c.b .schPortCfg e 31 && ks.any fun k =>
          shaped k && (small (c.f .schPortBurst e 23 0) k || c.f .tmClassCfg k 31 30 = 2))
    && decide (((ks.filter fun k => c.f .schQCfg (q k) 31 30 = 1).map fun k => (c .schQSlope (q k)).toNat).sum
          ≤ c.topKbps e)
    && decide (c.f .schTtWake e 13 0 ≤ 10000)

/-- The egress side of a port passes R208 and R221. -/
def Cfg.schedOk (c : Cfg) (e : Nat) : Bool :=
  c.ttOk e && c.shapersOk e
    && !(528 ≤ e && e ≤ 543
      && ((List.range 8).any (fun k => c.f .schQCfg (e * 8 + k) 31 30 ≠ 0) || c.f .schTtCfg e 8 0 ≠ 0
        || c.b .schPortCfg e 31 || c.f .schTtWake e 13 0 ≠ 0))

/-- Flow control, reservations and headroom of a port pass R187 and R205. -/
def Cfg.bufferOk (c : Cfg) (m : Store Word) (prof e : Nat) : Bool :=
  let mode := c.fcMode e
  let req := c.hrReq e
  mode ≠ 3 && (mode = 0 || decide (e < 528)) && !(mode = 2 && c.f .tmPortFc e 23 16 = 0)
    && !(mode ≠ 0 && c.f .tmPortFc e 15 0 = 0) && decide (c.f .tmPortHold e 13 0 ≤ 10000)
    && (c.acctsOf e).all (fun a => decide (c.headroom e a ≠ 0 ∧ req ≤ c.headroom e a)) && decide (req ≤ 65535)
    && !(mode = 1 && (List.range 8).any fun a => a ≠ 0 && c.headroom e a ≠ 0)
    && (List.range 8).all (fun k => c.resv e k = 0 || c.f .tmClassCfg k 31 30 = 2)
    && !poolsExceeded prof m

/-- The MAC settings of a line port pass R39, R41, R50, R54 and R56. (DEDUCED, log 32.) -/
def Cfg.macOk (c : Cfg) (e : Nat) : Bool :=
  let w := c .platPortCtrl e
  let max := c.f .platPortFrame e 13 0
  let cfg := c.f .platPortTxstart e 5 0
  512 ≤ e
    || (!(bitW w 31 && !c.present e) && !(bitW w 30 && !lpiType (c.mode e) (c.media e))
        && !(bitW w 29 && fld w 23 16 ≠ 0) && decide (1518 ≤ max ∧ max ≤ 10240) && decide (1 ≤ cfg ∧ cfg ≤ 40))

/-- HOMING of a port passes R268. -/
def Cfg.homingOk (c : Cfg) (e : Nat) : Bool :=
  let h := c.f .redPortCfg e 31 30
  h ≠ 3 && (h = 0 || !(e = 520 || (544 ≤ e && e ≤ 551)))

/-- The per-port group of port `e` passes. -/
def Cfg.portOk (c : Cfg) (m : Store Word) (prof e : Nat) : Bool :=
  c.macOk e && c.bufferOk m prof e && c.schedOk e && c.homingOk e

/-- The lane-mode group of Platform `p` passes (R36); `old` are the settings before the edge. A port's speed in a lane mode is the
highest that the mode gives it: a change between modes 0x09 and 0x0A, 10G alone and 10G down to 1G, changes none, which R36
leaves open (DESIGN CHOICE, log 32). -/
def Cfg.lanesOk (c old : Cfg) (p : Nat) : Bool :=
  (List.range 8).all (fun l => c.laneOk (p * 8 + l))
    && (List.range 64).all fun k =>
      let e := p * 64 + k
      !(((old.present e && !c.present e) || old.topSpeed e ≠ c.topSpeed e) && c.f .schTtCfg e 8 0 ≠ 0 && !c.ttOk e)

/-- The station filter of Platform `p` passes (R46). -/
def Cfg.stationsOk (c : Cfg) (p : Nat) : Bool :=
  (List.range 16).all fun i =>
    let w := c .platStaHi (p * 16 + i)
    !bitW w 31 || (decide (fld w 20 16 ≤ 16) && (!bitW w 30 || c.present (p * 64 + fld w 29 24)))

/-! ### Checks of the chip-level groups -/

/-- Two members of a list that satisfy `on` have equal keys. -/
def clash (l : List Nat) (on : Nat → Bool) (key : Nat → Nat) : Bool :=
  l.any fun i => l.any fun j => decide (i < j) && on i && on j && key i = key j

/-- The TPIDs pass (R112). -/
def Cfg.tpidsOk (c : Cfg) : Bool :=
  let is := List.range 4
  let t (i : Nat) : Nat := c.f .clsTpid i 15 0
  let on (i : Nat) : Bool := c.b .clsTpid i 31
  !clash is on t
    && is.all fun i => !on i || !(t i = 0 || t i = 0x0800 || t i = 0x86DD || t i = 0xF1C1 || t i = 0x892F)

/-- The router MACs pass (R148). -/
def Cfg.routersOk (c : Cfg) : Bool :=
  let is := List.range 4
  let a (i : Nat) : Nat := c.f .tblRouterMacHi i 15 0 * 2 ^ 32 + (c .tblRouterMacLo i).toNat
  let on (i : Nat) : Bool := c.b .tblRouterMacHi i 31
  !clash is on a && is.all fun i => !(on i && bitOf (a i) 40)

/-- Gate schedule `n` passes (R156). -/
def Cfg.scheduleOk (c : Cfg) (n : Nat) : Bool :=
  let len := c.f .psfSchedHdr n 4 0
  let cyc := (c .psfSchedCycle n).toNat
  let es := (List.range len).map fun i => (c .psfSchedIntv (n * 16 + i)).toNat
  es.sum = cyc
    && (len = 0 || (decide (len ≤ 16) && decide (1000 ≤ cyc ∧ cyc ≤ 1000000000) && es.all (fun n => decide (64 ≤ n))))

/-- The edit group passes (R171). -/
def State.editOk (s : State) (c : Cfg) : Bool :=
  let t := c.f .psfEditCtrl 0 28 24
  let i := c.f .psfEditCtrl 0 16 0
  let d (k : Nat) : Word := c .psfEditData k
  decide (i < s.capacity t)
    && (if t = 0x12 then
          !(bitW (d 0) 24 && decide (s.capacity 0x13 ≤ fld (d 1) 28 16))
            && !(bitW (d 0) 23 && decide (s.capacity 0x14 ≤ fld (d 1) 15 0))
        else if t = 0x13 then true
        else if t = 0x14 then decide ((d 1).toNat ≤ 1000000000) && decide ((d 2).toNat ≤ 1000000000)
        else false)

/-- A 1PPS output passes (R317). -/
def Cfg.ppsOk (c : Cfg) (n : Nat) : Bool :=
  let period := (c .timePpsOutPeriod n).toNat
  !c.b .timePpsOutCfg n 31 || (decide (1000 ≤ period) && decide (c.f .timePpsOutWidth n 29 0 < period))

/-- TIME_TC_DOM passes (R321). -/
def Cfg.domainsOk (c : Cfg) : Bool :=
  let is := List.range 8
  let on (i : Nat) : Bool := c.b .timeTcDom i 31
  !clash is on (c.f .timeTcDom · 7 0) && is.all fun i => !(on i && c.f .timeTcDom i 30 29 = 3)

/-- The sampler passes (R228). -/
def Cfg.samplerOk (c : Cfg) : Bool :=
  !(c.b .schSmpCtrl 0 31 && c.f .schSmpCtrl 0 15 0 = 0) && decide (c.f .schSmpCtrl 0 27 16 ≤ 2048)
    && (List.range 64).all fun i => !c.b .schSmpList i 31 || hasQueues (c.f .schSmpList i 25 16)

/-- The ring group passes (R345), REC_CFG.EN judged as it will stand (R21). (DEDUCED, log 46.) -/
def State.ringOk (s : State) (c : Cfg) : Bool :=
  let base := (c .recRingBaseLo 0).toNat + (c .recRingBaseHi 0).toNat * 2 ^ 32
  let n := c.f .recRingBlocks 0 22 0
  !c.b .recCfg 0 31 && s.capt.wins.all (·.state = 0) && base % 2 ^ 20 = 0 && decide (64 ≤ n ∧ n ≤ 4194304)
    && decide (base + n * 2 ^ 20 ≤ Config.cxlBytes)

/-- Chip-level group `g` passes its check. -/
def State.chipOk (s : State) (c : Cfg) (g : Nat) : Bool :=
  if 0x020 ≤ g ∧ g < 0x028 then
    decide (c.f .clsTtCtrl (g - 0x020) 20 16 ≤ 16) && c.f .clsTtCtrl (g - 0x020) 13 12 ≠ 0
  else if g = 0x028 then c.tpidsOk
  else if g = 0x030 then
    !(c.b .tblAge 0 31 && (c.f .tblAge 0 18 16 = 0 || c.f .tblAge 0 11 0 = 0))
  else if g = 0x032 then c.routersOk
  else if g = 0x040 then s.editOk c
  else if g = 0x050 then
    (List.range 8).all fun k => c.f .tmClassCfg k 31 30 ≠ 3
      && (c.f .tmClassCfg k 31 30 = 2 || (List.range 552).all fun e => c.resv e k = 0)
  else if g = 0x051 then
    decide (c.f .tmReplCfg 0 25 16 ≤ 512) && decide (c.f .tmReplCfg 0 9 0 < c.f .tmReplCfg 0 25 16)
  else if g = 0x060 then c.samplerOk
  else if g = 0x070 then c.f .redTwinCfg 0 15 0 = 0 || decide (10 ≤ c.f .redTwinCfg 0 15 0)
  else if 0x080 ≤ g ∧ g ≤ 0x083 then c.ppsOk (g - 0x080)
  else if g = 0x088 then c.domainsOk
  else if g = 0x090 then
    decide (1 ≤ c.f .recCfg 0 30 28 ∧ c.f .recCfg 0 30 28 ≤ 4) && decide (100 ≤ c.f .recClose 0 23 0)
      && decide (c.f .recCfg 0 19 0 ≤ s.sharedSize)
  else if g = 0x091 then s.ringOk c
  else if g = 0x092 then (List.range 256).all fun r => decide (c.f .recRule r 13 0 ≤ 10240)
  else if g = 0x094 then decide (512 ≤ (c .recNvmeCount 0).toNat)
  else if 0x100 ≤ g ∧ g ≤ 0x1FF then c.scheduleOk (g - 0x100)
  else true

/-- Group `g` passes its check on the settings `m` as they will stand after the edge (R21), but for admission. -/
def State.groupOk (s : State) (m : Store Word) (g : Nat) : Bool :=
  let c : Cfg := regOf m
  if 0x800 ≤ g then c.portOk m s.bufProfile (g - 0x800)
  else if 0x400 ≤ g then
    let p := (g - 0x400) / 128
    if g % 128 = 1 then c.lanesOk s.cfg p else if g % 128 = 2 then c.stationsOk p else true
  else s.chipOk c g

/-- An admission-bound group with staged changes may be committed: with PROVED and ALL set, and no check in progress (R245,
R249). -/
def State.admAllows (s : State) (all : Bool) (g : Nat) : Bool :=
  !(s.admBound g && s.groupStaged g) || (all && s.rb .schAdmStat 0 30 && !s.rb .schAdmStat 0 31)

/-- The settings as they will stand after a commit of groups. -/
def State.afterCommit (s : State) (gs : List Nat) : Store Word :=
  mergeStaged (gs.contains ·) (s.epochs.headD []) s.regs

/-- The lowest-numbered group of a commit that fails its check (R22, R245). -/
def State.failing (s : State) (gs : List Nat) (all : Bool) : Option Nat :=
  let m := s.afterCommit gs
  gs.find? fun g => !(s.groupOk m g && s.admAllows all g)

/-! ### The request -/

/-- A commit is refused (R22, R23). -/
def State.refuseCommit (s : State) (src : Src) (g : Nat) : State :=
  (((s.orReg .glbCommitStat 0 (2 ^ 29)).setRf .glbCommitStat 0 23 12 g)).illegal .glb 0x100 src 4

/-- A commit is accepted (R21, R24, R25). -/
def State.acceptCommit (s : State) (gs : List Nat) (all : Bool) (tb : Nat) : State :=
  let proved := all && s.rb .schAdmStat 0 30
  let c : CommitSt := { busy := true, groups := gs, all := all, proved := proved, tb := tb }
  if s.timedMode then
    let (t, future) := s.targetOf tb (s.reg .glbCommitAt 0).toNat
    if future then { s with commit := { c with target := some t } }
    else { (s.orReg .glbCommitStat 0 (2 ^ 28)) with commit := c }
  else { s with commit := c }

/-- A GLB_COMMIT write with GO (R21 to R23, R26). -/
def State.requestCommit (s : State) (src : Src) (all : Bool) (tb group : Nat) : State :=
  if s.commit.busy then s.illegal .glb 0x100 src 2
  else if ¬ all ∧ ¬ groupNamed group then s.refuseCommit src group
  else
    let gs := if all then s.stagedGroups else [group]
    match s.failing gs all with
    | some g => s.refuseCommit src g
    | none => s.acceptCommit gs all tb

/-- A pending commit covers a group (R26). -/
def State.coveredGroup (s : State) (g : Nat) : Bool := s.commit.busy && (s.commit.all || s.commit.groups.contains g)

end Sys2Proof.Machine
end

