-- ==== Sys2Proof/Machine/CommitEdge.lean ====
section
/-! DEFINITION. The commit edge (R24, R28, R34) and what each group's edge does beside the change of the committed values:
edits (R171, R172), schedules and Timetables (R158, R218, R509), shapers (R214, R216), lanes and ports (R38, R54, R60), the
capture ring (R345) and aging (R124). -/

namespace Sys2Proof.Machine

/-! ### Before the edge -/

/-- A frame whose first pass began before settings `epoch` has not passed stage 6 (R172). -/
def State.olderInFlight (s : State) (epoch : Nat) : Bool :=
  s.plats.any fun p => (p.intake ++ p.prio ++ p.norm).any fun f => decide (f.epoch < epoch)

/-- A second edit of an entry waits for the frames of before its last edit (R172). -/
def State.editHeld (s : State) : Bool :=
  let (t, i) := s.editTarget
  s.coveredGroup 0x040 && s.editStaged
    && s.psf.past.any fun e => e.target = t && e.index = i && s.olderInFlight e.epoch

/-- The pending commit's edge may fall now (R24, R172). -/
def State.edgeDue (s : State) : Bool :=
  s.commit.busy && !s.editHeld
    && match s.commit.target with
      | some t => decide (t ≤ s.tbNowNs s.commit.tb)
      | none => true

/-! ### The effects -/

/-- The edit group's edge: the entry is written and its former words are kept for older frames (R171, R172). -/
def State.applyEdit (s : State) : State :=
  let (t, i) := s.editTarget
  let kept : EditPast := { epoch := s.epoch, target := t, index := i, words := s.entry t i }
  let past := s.psf.past.filter fun e => !(e.target = t && e.index = i)
  { (s.writeEntry t i s.editWords) with psf := { s.psf with past := kept :: past } }

/-- The committed list of gate schedule `n` becomes pending (R158). -/
def State.pendSched (s : State) (n : Nat) : State :=
  let c := s.cfg
  let tb := c.f .psfSchedHdr n 10 8
  let cyc := (c .psfSchedCycle n).toNat
  let es := (List.range (c.f .psfSchedHdr n 4 0)).map fun i =>
    ((c .psfSchedIntv (n * 16 + i)).toNat, (c .psfSchedGate (n * 16 + i)).toNat)
  let base := (c .psfSchedBase n).toNat
  s.setSched n
    ((s.sched n).pended { tb := tb, cycle := cyc, base := base, entries := es, start := s.chooseStart tb base cyc })

/-- A port that becomes timed at the edge (R509). -/
def State.becomeTimed (s : State) (e : Nat) : State :=
  let s := (List.range 8).foldl
    (fun s c =>
      match (((s.port e).macQ)[c]?).getD none with
      | some t => if t.projected.isNone then s.returnTx e c t else s
      | none => s) s
  let free := match (s.port e).tx with
    | some t => t.start + (t.bytes.length + 8) * 8 * s.bit e + 96 * s.bit e
    | none => 0
  s.modPort e fun p => { p with wireFree := free }

/-- The committed Timetable of a port becomes pending (R218, R509). -/
def State.pendTt (s : State) (e : Nat) : State :=
  let c := s.cfg
  let was := (s.port e).timed
  let tb := c.f .schTtCfg e 26 24
  let cyc := c.ttCycle e
  let base := (c .schTtBase e).toNat
  let l : GateList :=
    { tb := tb, cycle := cyc, base := base, entries := c.ttEntries e, start := s.chooseStart tb base cyc }
  let s := s.modPort e fun p => { p with tt := p.tt.pended l }
  if was then s else s.becomeTimed e

/-- The fields that R218 names differ between two views of the settings. -/
def ttChanged (old c : Cfg) (e : Nat) : Bool :=
  old .schTtCfg e ≠ c .schTtCfg e || old .schTtCycle e ≠ c .schTtCycle e || old .schTtBase e ≠ c .schTtBase e
    || old.ttEntries e ≠ c.ttEntries e

/-- The buckets and the credit of queue `(e, k)` at the edge (R214, R216). -/
def State.edgeQueue (s : State) (old : Cfg) (e k : Nat) : State :=
  let c := s.cfg
  let i := e * 8 + k
  let q := (s.port e).queue k
  let on := c.b .schQCfg i 29
  let fill := (on && !old.b .schQCfg i 29) || c .schQRate i ≠ old .schQRate i || c .schQBurst i ≠ old .schQBurst i
  let q := if fill then { q with bucket := s.fullBucket (c.f .schQBurst i 23 0) } else q
  let zero := c.f .schQCfg i 31 30 = 1 && old.f .schQCfg i 31 30 ≠ 1
  s.setQueue e k (if zero then { q with credit := 0, creditAt := s.fs } else q)

/-- The port bucket at the edge (R214). -/
def State.edgeBucket (s : State) (old : Cfg) (e : Nat) : State :=
  let c := s.cfg
  let fill := (c.b .schPortCfg e 31 && !old.b .schPortCfg e 31) || c .schPortRate e ≠ old .schPortRate e
    || c .schPortBurst e ≠ old .schPortBurst e
  if fill then s.modPort e fun p => { p with bucket := s.fullBucket (c.f .schPortBurst e 23 0) } else s

/-- ENABLE, LPI_EN and the start threshold of a line port at the edge of its group (R54, R57, R60, R186); a disabled port shows no
fault (log 59). -/
def State.edgeMac (s : State) (old : Cfg) (e : Nat) : State :=
  let on := s.cfg.enabled e
  let s := if old.enabled e ∧ ¬ on then
      if (s.port e).link then s.portDown e 0
      else if (s.port e).hold.isSome then s.expireHold e else s.forgetPort e
    else s
  let s := if on ∧ ¬ old.enabled e then s.modPort e fun p => { p with everUp := false } else s
  let cur := if on then s.cfg.f .platPortTxstart e 5 0 else 0
  s.modPort e fun p =>
    { p with cur := cur, txLpi := p.txLpi && s.cfg.b .platPortCtrl e 30
             localFault := p.localFault && on, remoteFault := p.remoteFault && on
             cut := p.cut.map fun (t, _, raised) => (t, cur, raised) }

/-- The per-port group of port `e` at its edge. (DEDUCED, log 30.) -/
def State.edgePort (s : State) (old : Cfg) (e : Nat) : State :=
  let s := if e < 512 then s.edgeMac old e else s
  if hasQueues e then
    let s := ((List.range 8).foldl (fun s k => s.edgeQueue old e k) s).edgeBucket old e
    if (e < 512 ∨ e = 520) ∧ ttChanged old s.cfg e then s.pendTt e else s
  else s

/-- The lanes of a line port that is present. -/
def Cfg.portLanes (c : Cfg) (e : Nat) : List Nat :=
  let n := match modeInfo (c.mode e) with | some (n, _, _) => n | none => 1
  (List.range n).map (laneOf e + ·)

/-- The lane-mode group of Platform `p` at its edge: ports on changed lanes go down (R38), and a Platform without lanes goes to
Off (R451), from Run or on its way there only once it is quiet and no hold but the policy's applies, since a Turntable lane, a
handed frame, a capture request or a hold keeps it there (R103, R227, R326, R450, R452, R455). -/
def State.edgeLanes (s : State) (old : Cfg) (p : Nat) : State :=
  let c := s.cfg
  let changed (l : Nat) : Bool := c .platLaneMode l ≠ old .platLaneMode l
  let s := (List.range 64).foldl
    (fun s k =>
      let e := p * 64 + k
      if (s.port e).link ∧ (old.portLanes e).any changed then s.portDown e (s.holdMs e) else s) s
  if c.lanesOff p ∧ ¬ old.lanesOff p then
    if ((s.plat p).power = .run ∨ (s.plat p).power = .waking) ∧ s.held p &&& 0xFD ≠ 0 then
      s.modPlat p fun x => { x with lanesOff := true }
    else s.modPlat p fun x => { x with power := .off, lanesOff := false, pwrSince := s.fs }
  else if c.lanesOff p then s
  else s.modPlat p fun x => { x with lanesOff := false }

/-- A new capture ring begins at block 0; the BSN and the chain go on (R345). (DEDUCED, log 46.) -/
def State.startRing (s : State) : State :=
  let s := s.closeBlock
  let c := s.cfg
  { s with capt := { s.capt with
      ring := [], wr := 0, geom := [c .recRingBaseLo 0, c .recRingBaseHi 0, c .recRingBlocks 0] } }.restall

/-- Aging turned on counts from the edge; a shorter interval that has already passed makes the next sweep fall at the edge
(R124). -/
def State.edgeAging (s : State) (old : Cfg) : State :=
  let every := s.cfg.f .tblAge 0 11 0 * 1000000000000000
  let at0 (t : Nat) : State := { s with tbl := { s.tbl with lastSweep := t } }
  if ¬ s.cfg.b .tblAge 0 31 then s
  else if ¬ old.b .tblAge 0 31 then at0 s.fs
  else if s.tbl.lastSweep + every < s.fs then at0 (s.fs - every)
  else s

/-- The sampler turned on counts its first period from the edge (R228). -/
def State.edgeSampler (s : State) (old : Cfg) : State :=
  if s.cfg.b .schSmpCtrl 0 31 ∧ ¬ old.b .schSmpCtrl 0 31 then { s with sch := { s.sch with sampleAt := s.fs } } else s

/-- What the edge of group `g` does; `changed` says that its values change. (DEDUCED, log 30.) -/
def State.edgeGroup (s : State) (old : Cfg) (changed : Bool) (g : Nat) : State :=
  if 0x800 ≤ g then s.edgePort old (g - 0x800)
  else if ¬ changed then s
  else if 0x400 ≤ g then (if g % 128 = 1 then s.edgeLanes old ((g - 0x400) / 128) else s)
  else if 0x100 ≤ g then s.pendSched (g - 0x100)
  else if g = 0x030 then s.edgeAging old
  else if g = 0x040 then s.applyEdit
  else if g = 0x060 then s.edgeSampler old
  else if g = 0x090 then s.settleRecording
  else if g = 0x091 then s.startRing
  else if g = 0x094 then (if old.b .recNvmeCfg 0 31 then s else s.autoCommit)
  else s

/-- Before the edge, credits of the queues of the ports whose groups commit are brought forward at their old slopes (R216), and
frames in transmission whose delimiter has crossed the stamp point keep the settings of that instant (R305). -/
def State.beforeEdge (s : State) (gs : List Nat) : State :=
  let s := s.ports.foldl (fun s (e, _) => s.stampDue e s.fs) s
  gs.foldl (fun s g => if 0x800 ≤ g then s.forwardCredits (g - 0x800) else s) s

/-- The Platform whose lane modes, Timetables or per-port groups a group holds. -/
def groupPlat (g : Nat) : Option Nat :=
  if 0x800 ≤ g then (if g < 0xA00 then some ((g - 0x800) / 64) else none)
  else if 0x400 ≤ g ∧ g % 128 = 1 then some ((g - 0x400) / 128)
  else none

/-- A change of a Platform's lane modes, Timetables or per-port groups wakes it, where a lane of it has a mode (R452, R454). -/
def State.edgeWake (s : State) (changed : List Nat) (g : Nat) : State :=
  match groupPlat g with
  | some p => if changed.contains g ∧ ¬ s.cfg.lanesOff p then s.wake p 2 else s
  | none => s

/-- The staged values of the groups become the committed ones at one edge (R21, R24, R34). -/
def State.applyGroups (s : State) (gs : List Nat) : State :=
  let s := s.beforeEdge gs
  let old := s.cfg
  let changed := s.stagedGroups
  let s := { s with epochs := s.afterCommit gs :: s.epochs, edges := s.fs :: s.edges }
  let s := gs.foldl (fun s g => s.edgeGroup old (changed.contains g) g) s
  gs.foldl (fun s g => s.edgeWake changed g) s

/-- Declarations and PROVED at a commit edge (R244, R245). -/
def State.admEdge (s : State) (proved : Bool) : State :=
  let s := s.setRf .schAdmStat 0 30 30 0
  if proved then s.admitStaged else s

/-- The commit edge (R24, R245). -/
def State.commitEdge (s : State) : State :=
  let c := s.commit
  let last := if c.all then 0xFFF else c.groups.headD 0
  let s := s.applyGroups c.groups
  let s := s.admEdge c.proved
  let s := (s.setRf .glbCommitStat 0 11 0 last).setReg .glbCommitEdge 0 (Word.ofNat (s.tbNow32 c.tb))
  { s with commit := {} }

end Sys2Proof.Machine
end

