-- ==== Sys2Proof/Machine/Swap.lean ====
section
/-! DEFINITION. Generations (R104 to R110): resident banks, the swap request, its edge and retirement. -/

namespace Sys2Proof.Machine

/-- A bank is resident (R104); the rule applies from the boot commit edge on (R110). -/
def State.resident (s : State) (b : Nat) : Bool :=
  decide (6 ≤ s.phase) && (b = s.cls.cur || s.cls.retiring)

/-- A retiring bank whose count is zero is retired (R108). -/
def State.retire (s : State) : State :=
  let b := 1 - s.cls.cur
  if s.cls.retiring ∧ (s.cls.inflight[b]?).getD 0 = 0 then
    ({ s with cls := { s.cls with retiring := false } }).orReg .clsIntStat 0 2
  else s

/-- An enabled tree's root lies outside the bank (R106). The manual gives no extents: an EMPTY root lies nowhere, a node takes 16
bytes, a leaf 32, and a rule list is judged by its 8-byte header, not by its tests. (DEDUCED, log 27.) -/
def State.rootOutside (s : State) (b t : Nat) : Bool :=
  let ptr := s.reg .clsTreeRoot (b * 16 + t)
  let a := fld ptr 20 0
  match fld ptr 31 30 with
  | 0 => false
  | 1 => decide (s.bankBytes < a * 16 + 16)
  | 2 => decide (s.bankBytes < a * 16 + 32)
  | _ => decide (s.bankBytes < a * 8 + 8)

/-- REFUSE_REASON of a swap to the bank that is not current; 0 where none holds (R106). -/
def State.swapReason (s : State) : Nat :=
  let b := 1 - s.cls.cur
  let on := (List.range 16).filter fun t => s.rb .clsTreeCfg (b * 16 + t) 31
  if s.cls.retiring ∨ s.cls.swap then 1
  else if ¬ s.rb .clsBankGen b 31 then 2
  else if s.rf .clsBankGen b 15 0 = s.rf .clsBankGen s.cls.cur 15 0 then 3
  else if on.any (s.rootOutside b ·) ∨ s.bankBytes < s.rf .clsBankAct b 19 0 * 16 + 2 ^ 20 then 4
  else if on.any fun t => s.rf .clsTreeCfg (b * 16 + t) 17 16 = 3 then 5
  else 0

/-- A swap request (R106, R107, R111). The illegal sequence of a refusal is of CAUSE 5, also while a swap is pending (R359).
(DESIGN CHOICE, log 27.) -/
def State.requestSwap (s : State) (src : Src) (timed : Bool) (tb : Nat) : State :=
  let s := s.retire
  match s.swapReason with
  | 0 =>
    let c := { s.cls with swap := true, swapTb := tb, swapTarget := none }
    if timed then
      let (t, future) := s.targetOf tb (s.reg .clsGenSwapAt 0).toNat
      if future then { s with cls := { c with swapTarget := some t } }
      else { (s.orReg .clsGenStat 0 (2 ^ 29)) with cls := c }
    else { s with cls := c }
  | r => ((s.orReg .clsGenStat 0 (2 ^ 30)).setRf .clsGenStat 0 26 24 r).illegal .cls 0x10 src 5

/-- The swap edge may fall now (R107). -/
def State.swapDue (s : State) : Bool :=
  s.cls.swap && match s.cls.swapTarget with | some t => decide (t ≤ s.tbNowNs s.cls.swapTb) | none => true

/-- The swap edge (R107). -/
def State.swapEdge (s : State) : State :=
  let c := s.cls
  let s := (s.orReg .clsIntStat 0 1).setReg .clsGenEdge 0 (Word.ofNat (s.tbNow32 c.swapTb))
  { s with cls := { c with cur := 1 - c.cur, retiring := true, swap := false, swapTarget := none } }

end Sys2Proof.Machine
end

