-- ==== Sys2Proof/Machine/SignalBox.lean ====
section
/-! DEFINITION. The Signal Box (chapter 17): the fault log (R472 to R475), the fail-silent halt (R470, R471), cell CRC and
pipeline parity failures (R464, R465), the scrubber, the watchdog, the monitors and fault injection (R466 to R468, R477,
R479). -/

namespace Sys2Proof.Machine

/-! ### The fault log -/

/-- The log header is written (R475); its layout is Config.logHeader. (DESIGN CHOICE, log 18.) -/
def State.writeLogHeader (s : State) : State :=
  let vals := [s.rf .safLogIdx 0 31 24, s.rf .safLogIdx 0 23 16, (s.reg .safLifeHalts 0).toNat,
    (s.reg .safLifeCycles 0).toNat] ++ (List.range 5).map fun b => (s.reg .safLifeHours b).toNat
  let f := s.saf
  { s with saf := { f with
      log := Store.set [] f.log (f.headers % 2) (Config.logHeader vals), headers := f.headers + 1 } }

/-- The boot's commit edge has passed. (DEDUCED, log 24.) -/
def State.committed (s : State) : Bool := s.phase = 6 || s.phase = 7

/-- The bytes of a fault record (R473) on a fault detected at monotonic time `mono`, with time base 0 at `tb0`. -/
def State.recordOf (s : State) (code flags : Nat) (detail : List Word) (mono tb0 : Nat) : List Byte :=
  let words := (detail ++ List.replicate 8 0).take 8
  let b := leBytes 4 s.saf.seq ++ leBytes 2 code ++ leBytes 2 flags ++ leBytes 2 s.nodeNo
    ++ leBytes 2 (s.rf .bootImage 0 31 16) ++ leBytes 8 mono ++ leBytes 8 tb0
    ++ words.flatMap fun w => leBytes 4 w.toNat
  b ++ leBytes 4 (crc32 b)

/-- The bytes of a fault record on a fault detected now. -/
def State.faultRecord (s : State) (code flags : Nat) (detail : List Word) : List Byte :=
  s.recordOf code flags detail s.mono (s.tbNow 0)

/-- A record put into the fatal ring, units 2 to 33, or the non-fatal ring, units 34 to 255 (R472). (DEDUCED, log 55.) -/
def State.putRecord (s : State) (fatalRing : Bool) (b : List Byte) : State :=
  let u := if fatalRing then s.rf .safLogIdx 0 31 24 else s.rf .safLogIdx 0 23 16
  let f := s.saf
  let s := { s with saf := { f with log := Store.set [] f.log u b, seq := (f.seq + 1) % 2 ^ 32 } }
  let s := if fatalRing then s.setRf .safLogIdx 0 31 24 (if u = 33 then 2 else u + 1)
    else s.setRf .safLogIdx 0 23 16 (if u = 255 then 34 else u + 1)
  s.writeLogHeader

/-- A record on a fault detected now. -/
def State.logRecord (s : State) (fatalRing : Bool) (code flags : Nat) (detail : List Word) : State :=
  s.putRecord fatalRing (s.faultRecord code flags detail)

/-- FLAGS of a record now (R473). -/
def State.logFlags (s : State) (fatal injected : Bool) : Nat :=
  b2n fatal + at_ (b2n injected) 1 + at_ (b2n (!s.committed)) 2

/-- A fault record with its SECONDARY (R473). -/
def withSecondary (b : List Byte) (n : Nat) : List Byte :=
  let b := overlay b 6 [Byte.ofNat (le b 6 1 % 16 + at_ n 4)]
  overlay b 60 (leBytes 4 (crc32 (b.take 60)))

/-- A further fault before the halt is complete: counted in SECONDARY of its record, in MRAM too where that is written (R473, R474,
R478). (DEDUCED, log 57.) -/
def State.countSecondary (s : State) : State :=
  match s.saf.halting with
  | none => s
  | some h =>
    let n := min 15 (h.secondary + 1)
    let log := if h.written then Store.set [] s.saf.log h.unit (withSecondary (Store.get [] s.saf.log h.unit) n) else s.saf.log
    { s with saf := { s.saf with halting := some { h with secondary := n }, log := log } }

/-- A non-fatal fault's record, at most one for each code in a second of monotonic time (R472); during a halt it has none
(R474, R478). (DEDUCED, log 55.) -/
def State.logNonFatal (s : State) (code : Nat) (detail : List Word) (injected : Bool) : State :=
  if s.halted then s.countSecondary
  else
    let last := Store.get 0 s.saf.logged code
    if last = 0 ∨ last + 999999999 < s.mono + 1 then
      let s := (s.logRecord false code (s.logFlags false injected) detail).orReg .safIntStat 0 4
      { s with saf := { s.saf with logged := Store.set 0 s.saf.logged code (s.mono + 1) } }
    else s.count .saf 0 4

/-! ### The halt -/

/-- A MAC ends its frame in transmission with an inverted FCS or CRC-32, no later than 300 ns after detection (R470); how
many bytes have left is free. -/
def State.cutTx (s : State) (e : Nat) : State :=
  let s := s.stampDue e s.fs
  match (s.port e).tx with
  | none => s
  | some t =>
    let (v, s) := s.fresh
    (s.modPort e fun p => { p with tx := none }).emit (.wire e (endInverted e (t.bytes.take (v % (t.bytes.length + 1)))) true)

/-- The 1PPS outputs go to their idle level (R470). -/
def State.idlePps (s : State) : State :=
  (List.range 4).foldl
    (fun s n =>
      let x := s.pps n
      if x.pulse.isSome then (s.setPps n { x with pulse := none }).emit (.pin (ppsName n) x.low) else s) s

/-- Four halt notices on the Coupler (R282). -/
def State.haltNotices (s : State) (code : Nat) : State :=
  let b := cplPlain 1 (beBytes 2 s.nodeNo ++ beBytes 2 code ++ List.replicate 12 0)
  (((s.emit (.coupler b)).emit (.coupler b)).emit (.coupler b)).emit (.coupler b)

/-- Every transmitter in electrical idle: the line links and the Coupler link are gone (R470). -/
def State.idleLanes (s : State) : State :=
  let s := s.ports.foldl
    (fun s (n, _) =>
      if n < 512 then
        s.modPort n fun p => { p with link := false, speed := 0, txLpi := false, rxLpi := false, rx := none }
      else s) s
  { s with red := { s.red with cplLink := false, cplLock := 0, cplAligned := 0 } }

/-- The pins that a halt leaves undriven (R470, R485). -/
def haltReleases : List String := ["GPIO", "MDC", "MDIO", "I2C", "QSPI_IO"]

/-- Pins that are driven no more. -/
def State.releasePins (s : State) (names : List String) : State := names.foldl (fun s n => s.emit (.release n)) s

/-- How many DETAIL words R474 names for a code; the others are 0. -/
def namedWords (code : Nat) : Nat :=
  if code = 0x0010 ∨ code = 0x0030 then 4
  else if code = 0x0021 then 3
  else if code = 0x0020 ∨ code = 0x0023 ∨ code = 0x0040 ∨ code = 0x0080 then 1
  else 2

/-- A fatal fault while the switch is halting (R474, R478): one of the core clock of the halt's own takes its place where its code
is lower, and a later one counts in SECONDARY. -/
def State.haltAgain (s : State) (code : Nat) (detail : List Word) (injected : Bool) : State :=
  match s.saf.halting with
  | none => s
  | some h =>
    if h.at_ / 800000 ≠ s.fs / 800000 then s.countSecondary
    else if code < h.code then
      { s.setRf .safStat 0 15 0 code with saf := { s.saf with
          halting := some { h with code := code, detail := detail.take (namedWords code), injected := injected } } }
    else s

/-- The fail-silent halt (R470): the code latched, frames in transmission ended, electrical idle, pins released. The halt notices
and the fault record follow in their times (State.haltStep). (DEDUCED, log 57.) -/
def State.haltWith (s : State) (code : Nat) (detail : List Word) (injected : Bool) : State :=
  if s.halted then s.haltAgain (code % 65536) detail injected
  else
    let h : Halting :=
      { code := code % 65536, detail := detail.take (namedWords (code % 65536)), injected := injected, at_ := s.fs
        mono := s.mono, tb0 := s.tbNow 0, notify := s.paired && s.red.cplLink }
    let s := s.setReg .safStat 0 (Word.ofNat (2 ^ 31 + code % 65536))
    let s := { s with saf := { s.saf with resetMax := s.cfg.f .redTwinCfg 0 23 20, halting := some h } }
    let s := s.ports.foldl (fun s (n, _) => s.cutTx n) s
    let s := { s.idleLanes.idlePps with upd := { s.upd with rstLow := none } }.releasePins haltReleases
    s.setReg .safLifeHalts 0 (s.reg .safLifeHalts 0 + 1)

/-- A fatal fault (R470). -/
def State.halt (s : State) (code : Nat) (detail : List Word) : State := s.haltWith code detail false

/-- The halt notices of a halt that have not gone out yet (R282, R470). -/
def State.sendNotices (s : State) (h : Halting) : State :=
  if h.notify then
    { s.haltNotices h.code with saf := { s.saf with halting := some { h with notify := false } } }
  else s

/-- The fault record of a halt written to the fatal ring (R470, R473). -/
def State.writeFault (s : State) (h : Halting) : State :=
  let unit := s.rf .safLogIdx 0 31 24
  let s := s.putRecord true
    (s.recordOf h.code (s.logFlags true h.injected + at_ h.secondary 4) h.detail h.mono h.tb0)
  { s with saf := { s.saf with halting := some { h with written := true, unit := unit } } }

/-- A halt that PWRGOOD's fall overtakes: a record begun is completed, one not yet begun is lost (R478). It is begun once the
transmitters are idle, 500 ns after detection. (DESIGN CHOICE, log 57.) -/
def State.finishRecord (s : State) : State :=
  match s.saf.halting with
  | some h => if ¬ h.written ∧ h.at_ + 500000000 ≤ s.fs then s.writeFault h else s
  | none => s

/-- A halt is under way whose record is not written yet: a reset waits for it (R471). -/
def State.faultDue (s : State) : Bool := match s.saf.halting with | some h => !h.written | none => false

/-- A reset that waits for the fault record (R471). -/
def State.deferReset (s : State) (r : HeldReset) : State :=
  { s with saf := { s.saf with halting := s.saf.halting.map fun h => { h with held := some r } } }

/-! ### Cell CRC and pipeline parity -/

/-- A cell whose CRC failed (R465): counted, logged, and fatal beyond the limit in one second. (DEDUCED, log 55.) -/
def State.crcFailed (s : State) (plat port : Nat) (injected : Bool) : State :=
  let s := (s.count .saf 0 1).orReg .safIntStat 0 2
  let recent := (s.saf.crcAt.filter fun t => decide (s.mono < t + 1000000000)) ++ [s.mono]
  let s := { s with saf := { s.saf with crcAt := recent } }
  if s.rf .safCfg 0 28 24 < recent.length then s.haltWith 0x0020 [Word.ofNat recent.length] injected
  else
    let (cell, s) := s.fresh
    s.logNonFatal 0x0021 [Word.ofNat plat, Word.ofNat port, Word.ofNat cell] injected

/-- An injected cell CRC error waits for the next cell read of Platform `p` (R479). -/
def State.injCell (s : State) (p : Nat) : Bool := bitOf s.saf.injCell p

/-- The injected error of a Platform has been met. -/
def State.takeInjCell (s : State) (p : Nat) : State :=
  { s with saf := { s.saf with injCell := s.saf.injCell - b2n (s.injCell p) * 2 ^ p } }

/-- The first of a frame's stored cells none of whose bytes has left a MAC: those before it cannot be kept back any more. -/
def State.firstUnsent (s : State) (e : Nat) (t : TxFrame) (x : Copy) : Nat :=
  let left := (s.fs - t.start) / (8 * s.bit e) - 8
  let lead := t.bytes.length - (if e = 520 then 4 else 0) - x.frame.bytes.length
  max 1 (ceilDiv (left - lead) 256)

/-- The ports of a Platform whose frame in transmission has cells that are still to be read (R465). -/
def State.reading (s : State) (p : Nat) : List Nat :=
  (s.ports.filter fun (e, y) =>
    egressPlat e = p && match y.tx with
      | some t => !t.bad && match t.copy with | some x => decide (s.firstUnsent e t x < x.cells) | none => false
      | none => false).map (·.1)

/-- The frame in transmission on a port is ended before a cell that is still to be read; which of them fails is free (R465).
(DESIGN CHOICE, log 7.) -/
def State.cutReading (s : State) (e : Nat) : State :=
  match (s.port e).tx with
  | none => s
  | some t =>
    match t.copy with
    | none => s
    | some x =>
      let (v, s) := s.fresh
      let k := s.firstUnsent e t x
      s.modPort e fun p => { p with tx := some (t.cutAt e (k + v % (x.cells - k))) }

/-- An injected cell CRC error on Platform `p` (R479): the next cell read meets it, which may be one of a frame already in
transmission; which read comes next is free. (DESIGN CHOICE, log 7, DEDUCED, log 56.) -/
def State.meetCell (s : State) (p : Nat) : State :=
  let es := s.reading p
  let wait : State := { s with saf := { s.saf with injCell := s.saf.injCell ||| 2 ^ p } }
  if es.isEmpty then wait
  else
    let (v, t) := s.fresh
    match es[v % (es.length + 1)]? with
    | some e => (t.cutReading e).crcFailed p e true
    | none => { wait with free := t.free }

/-- The frame `no` of a Platform with an error in its copy source, wherever it stands. -/
def Plat.spoil (x : Plat) (no k : Nat) : Plat :=
  let on (f : Frame) : Frame := if f.no = no then f.spoil k else f
  { x with
    intake := x.intake.map on, hostQ := x.hostQ.map on, prio := x.prio.map on, norm := x.norm.map on
    held := x.held.map fun r => { r with frame := on r.frame }
    waitList := x.waitList.map fun r => { r with frame := on r.frame }
    capQ := x.capQ.map fun r => { r with frame := on r.frame } }

/-- The copies of frame `no` that are still to be written from a copy source with an error in it. -/
def PortSt.spoilUnwritten (y : PortSt) (no k : Nat) : PortSt :=
  { y with queues := y.queues.map fun q =>
    { q with copies := q.copies.map fun x =>
      if x.frame.no = no && !x.written then { x with frame := x.frame.spoil k } else x } }

/-- The frame in transmission on a port is ended before cell `k`, where that is still to be read (R465). -/
def State.cutLeaving (s : State) (e k : Nat) : State :=
  match (s.port e).tx with
  | none => s
  | some t =>
    match t.copy with
    | none => s
    | some x =>
      if !t.bad ∧ s.firstUnsent e t x ≤ k ∧ k < x.cells then
        (s.modPort e fun p => { p with tx := some (t.cutAt e k) }).crcFailed (egressPlat e) e false
      else s

/-- An uncorrectable error in a cell of frame bytes (R464, R465): in a copy source, every copy written from it carries the error;
in the buffer, the copy itself. Each is met where its cell is read. (DESIGN CHOICE, log 56.) -/
def State.spoilCell (s : State) (c : CellPlace) (k : Nat) : State :=
  match c with
  | .source p no =>
    { s.modPlat p fun x => x.spoil no k with ports := s.ports.map fun (e, y) => (e, y.spoilUnwritten no k) }
  | .queued e c i =>
    let q := (s.port e).queue c
    s.setQueue e c { q with copies := q.copies.modify i fun x => if x.written then { x with frame := x.frame.spoil k } else x }
  | .handed e c =>
    s.modPort e fun p => { p with macQ := p.macQ.modify c fun t => t.map fun t =>
      { t with copy := t.copy.map fun x => { x with frame := x.frame.spoil k } } }
  | .leaving e => s.cutLeaving e k

/-- A parity error waits for the next frame of a pass on Platform `p`. (DEDUCED, log 56.) -/
def State.injParity (s : State) (p : Nat) : Bool := bitOf s.saf.injParity p || bitOf s.saf.badParity p

/-- An entry or a frame's metadata is lost to an uncorrectable error (R464): counted and logged. The stage is free. -/
def State.parityLost (s : State) (p : Nat) (injected : Bool) : State :=
  let (stage, s) := s.fresh
  (s.count .saf 0 2).logNonFatal 0x0022 [Word.ofNat p, Word.ofNat stage] injected

/-- A frame's pipeline metadata failed parity on Platform `p` (R464): dropped, counted, logged. -/
def State.parityFailed (s : State) (p : Nat) : State :=
  let inj := bitOf s.saf.injParity p
  let f := s.saf
  let s := { s with saf :=
    if inj then { f with injParity := f.injParity - 2 ^ p } else { f with badParity := f.badParity - 2 ^ p } }
  s.parityLost p inj

/-- A pass whose metadata fails parity: the frame is dropped (R464, R479). -/
def State.parityDrop (s : State) (f : Frame) : State := (s.discard f).drain.parityFailed f.plat

/-- A frame whose queue entry fails is dropped (R464). -/
def State.entryDrop (s : State) (f : Frame) : State := (s.discard f).drain.parityLost f.plat false

/-- Entry `i` of a Platform's queue is discarded on an uncorrectable error (R464); an entry that the queue does not hold has none.
-/
def State.loseEntry (s : State) (p : Nat) (q : PlatQueue) (i : Nat) : State :=
  let x := s.plat p
  match q with
  | .intake => match x.intake[i]? with
    | some f => (s.setPlat p { x with intake := x.intake.eraseIdx i }).entryDrop f
    | none => s
  | .prio => match x.prio[i]? with
    | some f => (s.setPlat p { x with prio := x.prio.eraseIdx i }).entryDrop f
    | none => s
  | .norm => match x.norm[i]? with
    | some f => (s.setPlat p { x with norm := x.norm.eraseIdx i }).entryDrop f
    | none => s
  | .learn => match x.learnQ[i]? with
    | some _ => (s.setPlat p { x with learnQ := x.learnQ.eraseIdx i }).parityLost p false
    | none => s
  | .capture => match x.capQ[i]? with
    | some r =>
      let s := s.setPlat p { x with capQ := x.capQ.eraseIdx i }
      let s := if (s.cfgAt r.frame.epoch).f .recRule r.rule 13 0 = 0 then s else s.freeCapture r.frame.no
      s.settleRecording.parityLost p false
    | none => s

/-- A record of MRAM that an uncorrectable error makes unreadable (R464): counted and logged. -/
def State.mramLost (s : State) (unit : Nat) : State := (s.count .saf 0 5).logNonFatal 0x0023 [Word.ofNat unit] false

/-- A unit of MRAM fails in service: a unit of the fault log is lost with its record (R464, R472). (DEDUCED, log 55.) -/
def State.loseUnit (s : State) (unit : Nat) : State :=
  { s with saf := { s.saf with log := Store.set [] s.saf.log unit [] } }.mramLost unit

/-! ### Scrubber, watchdog, monitors -/

/-- The scrubber's next line of each memory (R466). -/
def State.scrubNext (s : State) : State :=
  let f := s.saf
  let wrap := decide (f.tableLine + 1 = 1048576)
  let s := { s with saf := { f with
    tableLine := if wrap then 0 else f.tableLine + 1, treeLine := if f.treeLine + 1 = 393216 then 0 else f.treeLine + 1 } }
  s.countIf wrap .saf 0 3

/-- What the scrubber finds in a line: 0 no error, 1 a single-bit error, 2 an uncorrectable one (R464); region 0 is table
SRAM, 1 tree memory. -/
def State.scrubFound (s : State) (region line err : Nat) (injected : Bool) : State :=
  if err = 0 then s
  else if err = 1 ∧ s.rb .safCfg 0 31 then (s.count .saf 0 0).orReg .safIntStat 0 1
  else
    let (a, s) := s.fresh
    let (syn, s) := s.fresh
    s.haltWith 0x0010 [Word.ofNat region, Word.ofNat (line * 64 + a % 64), Word.ofNat syn, 1] injected

/-- A single-bit error of an SRAM is corrected and counted where ECC_EN is set (R464, R469, R479); another acts as `t`.
(DEDUCED, log 55.) -/
def State.corrected (s : State) (double : Bool) (t : State) : State :=
  if ¬ double ∧ s.rb .safCfg 0 31 then (s.count .saf 0 0).orReg .safIntStat 0 1 else t

/-- An error that is not the scrubbed line's, found in the memories of region `region` (0 table SRAM, 1 tree memory) or elsewhere,
at its access or as the scrubber reads the registers (R464, R466, R469). -/
def State.memoryError (s : State) (region : Nat) (e : MemErr) : State :=
  match e.place with
  | .line => s
  | .word a =>
    let (syn, t) := s.fresh
    s.corrected e.double (t.halt 0x0010 [Word.ofNat region, Word.ofNat a, Word.ofNat syn, 0])
  | .register b off => s.halt 0x0012 [Word.ofNat b, Word.ofNat off]
  | .core m a => s.corrected e.double (s.halt 0x0011 [Word.ofNat m, Word.ofNat a])
  | .cell c k => s.corrected e.double (if s.halted then s.countSecondary else s.spoilCell c k)
  | .metadata p =>
    if s.halted then s.countSecondary else { s with saf := { s.saf with badParity := s.saf.badParity ||| 2 ^ p } }
  | .queue p q i => s.corrected e.double (if s.halted then s.countSecondary else s.loseEntry p q i)
  | .mram u => if ¬ e.double ∧ s.rb .safCfg 0 31 then s else if s.halted then s.countSecondary else s.loseUnit u

/-- What the scrubber meets in its line: 0 no error, 1 a single-bit error, 2 an uncorrectable one. -/
def lineError : Option MemErr → Nat
  | some ⟨.line, double⟩ => if double then 2 else 1
  | _ => 0

/-- One scrub read (R466), with the errors of the lines read and those injected for it (R479); with the scrubber off, in retention
or in a halt no line is read. -/
def State.scrubLine (s : State) (tableErr treeErr : Nat) : State :=
  if ¬ s.rb .safCfg 0 30 ∨ s.rb .aoChipStat 0 31 ∨ s.halted then s
  else
    let f := s.saf
    let inj := if f.injDouble then 2 else if f.injSingle then 1 else 0
    let s := { s with saf := { f with injDouble := false, injSingle := f.injSingle && f.injDouble } }
    let s := s.scrubNext
    let s := s.scrubFound 0 f.tableLine inj true
    (s.scrubFound 0 f.tableLine tableErr false).scrubFound 1 f.treeLine treeErr false

/-- A scrub read, and the errors that the memories' accesses and the scrubber's pass of the registers have met since the last one
(R464, R466). (DEDUCED, log 55.) -/
def State.scrub (s : State) (tableErr treeErr : Option MemErr) : State :=
  let meet (s : State) (region : Nat) (e : Option MemErr) : State :=
    match e with | some e => s.memoryError region e | none => s
  (meet (meet s 0 tableErr) 1 treeErr).scrubLine (lineError tableErr) (lineError treeErr)

/-- A write to SAF_WDOG (R467). -/
def State.kickWdog (s : State) (src : Src) : State :=
  if src = .firmware then { s with saf := { s.saf with wdogAt := s.fs } } else s.illegal .saf 0x1C src 11

/-- No SAF_WDOG write has arrived in time (R467). (DEDUCED, log 57.) -/
def State.wdogExpired (s : State) : Bool := decide (s.saf.wdogAt + s.rf .safCfg 0 7 0 * fsPerMs < s.fs)

/-- A clock monitor's window fails (R468): edges of the core clock, the management clock and REFCLK_AO in 0.8 µs, more
than 5 % from nominal; the time PLL's lock (1 locked). -/
def clockBad (m edges : Nat) : Bool :=
  if m = 2 then edges = 0
  else
    let nominal := if m = 0 then 1000 else if m = 1 then 800 else 20
    decide (edges * 100 < nominal * 95) || decide (nominal * 105 < edges * 100)

/-- One window of the clock monitors (R468). (DEDUCED, log 57.) -/
def State.clockWindow (s : State) (readings : List Nat) : State :=
  let reading (m : Nat) : Nat := (readings[m]?).getD 0
  let bad := (List.range 4).map fun m => if clockBad m (reading m) then (s.saf.clkBad[m]?).getD 0 + 1 else 0
  let s := { s with saf := { s.saf with clkBad := bad } }
  let s := if reading 3 = 0 then s else { s with boot := { s.boot with refOff := false } }
  match (List.range 4).find? fun m => decide (2 ≤ (bad[m]?).getD 0) with
  | some m => s.halt 0x0002 [Word.ofNat m, Word.ofNat (reading m)]
  | none => s

/-- A window of the clock monitors in reset (R497): where REFCLK_AO has stopped, time stands still, and the time bases start again
from retained state at the next boot. -/
def State.refWindow (s : State) (edges : Nat) : State :=
  if edges = 0 then { s with boot := { s.boot with refOff := true, vaoLost := true } }
  else { s with boot := { s.boot with refOff := false } }

/-- The limits of a rail in millivolts (R486). -/
def railLimits (r : Nat) : Nat × Nat :=
  if r = 0 then (728, 772) else if r = 1 then (776, 824) else if r = 2 then (776, 824)
  else if r = 3 then (873, 927) else if r = 4 then (1140, 1260) else (1710, 1890)

/-- The sensor with the highest reading and that reading; the lowest-numbered sensor on a tie. (DEDUCED, log 57.) -/
def hottest : List Int → Nat → Option (Nat × Int)
  | [], _ => none
  | t :: r, i =>
    match hottest r (i + 1) with
    | some (j, u) => if t < u then some (j, u) else some (i, t)
    | none => some (i, t)

/-- Since when each of the rails read has been outside its limits; a rail within them starts anew (R468). -/
def State.railsOut (s : State) (rails : List Int) : List (Option Nat) :=
  (List.range 6).map fun r =>
    match rails[r]? with
    | none => (s.saf.railOut[r]?).getD none
    | some mv =>
      if decide (mv < ((railLimits r).1 : Int)) || decide (((railLimits r).2 : Int) < mv) then
        some (((s.saf.railOut[r]?).getD none).getD s.fs)
      else none

/-- How long a rail may be outside its limits: 1 µs (R468, R486). -/
def railTripFs : Nat := 1000000000

/-- A reading of the junction sensors, in units of 0.5 °C, and of the rails in millivolts (R468). A rail trips at the first reading
that finds it outside its limits for 1 µs. (DEDUCED, log 57.) -/
def State.readSensors (s : State) (temps rails : List Int) : State :=
  let s := match hottest temps 0 with
    | none => s
    | some (i, t) =>
      let s := s.setReg .safTemp 0 (Word.ofNat (at_ i 28 + unsigned 10 t))
      let s := if 2 * (s.rf .safCfg 0 23 16 : Int) ≤ t then s.orReg .safIntStat 0 8 else s
      { s with saf := { s.saf with
          lowest := temps.foldl min t
          hourMax := some (match s.saf.hourMax with | some m => max m t | none => t) } }
  let s := { s with saf := { s.saf with railOut := s.railsOut rails } }
  let hot := (List.range temps.length).find? fun i =>
    decide (2 * (s.rf .safCfg 0 15 8 : Int) ≤ (temps[i]?).getD 0)
  match hot with
  | some i => s.halt 0x0050 [Word.ofNat i, Word.ofNat (unsigned 32 ((temps[i]?).getD 0))]
  | none =>
    let out := (List.range (min 6 rails.length)).find? fun r =>
      match (s.saf.railOut[r]?).getD none with
      | some t => decide (t + railTripFs ≤ s.fs)
      | none => false
    match out with
    | some r => s.halt 0x0051 [Word.ofNat r, Word.ofNat (unsigned 32 ((rails[r]?).getD 0))]
    | none => s

/-- The bin of R476 of a reading in units of 0.5 °C. -/
def lifeBin (t : Int) : Nat := if t < 140 then 0 else if t < 160 then 1 else if t < 180 then 2 else if t < 200 then 3 else 4

/-- An operating hour added to its bin (R477). -/
def State.lifeHour (s : State) : State :=
  let t := s.saf.hourMax.getD (signed 10 (s.rf .safTemp 0 9 0))
  let b := lifeBin t
  let s := s.setReg .safLifeHours b (s.reg .safLifeHours b + 1)
  ({ s with saf := { s.saf with hourMax := none } }).writeLogHeader

/-! ### Injection -/

/-- A write of SAF_INJECT with GO set (R478, R479). (DEDUCED, log 56.) -/
def State.inject (s : State) (src : Src) (kind plat : Nat) : State :=
  if ¬ s.rb .safCfg 0 29 then s.illegal .saf 0x20 src 11
  else if kind = 1 then { s with saf := { s.saf with injSingle := true } }
  else if kind = 2 then { s with saf := { s.saf with injDouble := true } }
  else if kind = 3 then s.meetCell plat
  else if kind = 4 then
    let (a, s) := s.fresh
    let (b, s) := s.fresh
    s.haltWith 0x0001 [Word.ofNat a, Word.ofNat b] true
  else if kind = 5 then
    let (m, s) := s.fresh
    let (n, s) := s.fresh
    s.haltWith 0x0002 [Word.ofNat (m % 4), Word.ofNat n] true
  else if kind = 6 then { s with saf := { s.saf with injParity := s.saf.injParity ||| 2 ^ plat } }
  else s

end Sys2Proof.Machine
end

