-- ==== Sys2Proof/Machine/Timetable.lean ====
section
/-! DEFINITION. Starts of gate schedules and Timetables (R158, R218), the sampler (R228, R229) and the tests of the
wake-ahead lead (R225, R240). -/

namespace Sys2Proof.Machine

/-- A pending gate schedule reaches its start (R158). -/
def State.schedStart (s : State) (n : Nat) : State :=
  match s.startSeq (s.sched n) with
  | some g => (s.setSched n g).orReg .psfIntStat 0 1
  | none => s

/-- A pending Timetable reaches its start (R218). (DEDUCED, log 13.) -/
def State.ttStart (s : State) (e : Nat) : State :=
  match s.startSeq (s.port e).tt with
  | some g => (s.modPort e fun p => { p with tt := g }).orReg .schTtChg (e / 32) (2 ^ (e % 32))
  | none => s

/-! ### The sampler -/

/-- The valid entries of SCH_SMP_LIST in list order: (port, class) (R228). -/
def State.sampleList (s : State) : List (Nat × Nat) :=
  (List.range 64).filterMap fun i =>
    let w := s.cfg .schSmpList i
    if bitW w 31 then some (fld w 25 16, fld w 2 0) else none

/-- The four words of one sample (R228). (DEDUCED, log 37.) -/
def State.sampleWords (s : State) (e c : Nat) : List Word :=
  let q := (s.port e).queue c
  let age (x : Copy) : Nat := min (s.mono - instantNs x.frame.instant) 0xFFFFFFFF
  let head := match q.copies with | x :: _ => age x | [] => 0
  [Word.ofNat s.mono, Word.ofNat (at_ e 22 + at_ c 19 + min q.depth 0x7FFFF), Word.ofNat head, Word.ofNat q.maxDelay]

/-- The words of a ring entry written. -/
def State.putSample (s : State) (i w : Nat) : List Word → State
  | [] => s
  | v :: r => (s.setReg .schSmpRing (i * 4 + w) v).putSample i (w + 1) r

/-- The samples of a period written to the ring, from index `wr` on; MAX_DELAY_NS starts anew (R228, R229). -/
def State.putSamples (s : State) : Nat → List (Nat × Nat) → State
  | _, [] => s
  | wr, (e, c) :: r =>
    let s := s.putSample (wr % 2048) 0 (s.sampleWords e c)
    (s.setQueue e c { (s.port e).queue c with maxDelay := 0 }).putSamples (wr + 1) r

/-- A sample period has passed (R228). -/
def State.sampleDue (s : State) : Bool :=
  s.cfg.b .schSmpCtrl 0 31 && decide (s.sch.sampleAt + s.cfg.f .schSmpCtrl 0 15 0 * 1000000000 ≤ s.fs)

/-- The sampler's period: recorded whole, or missed whole (R229). (DEDUCED, log 37.) -/
def State.sample (s : State) : State :=
  let us := s.cfg.f .schSmpCtrl 0 15 0
  let l := s.sampleList
  let wr := s.rf .schSmpIdx 0 27 16
  let rd := s.rf .schSmpIdx 0 11 0
  let held := (wr + 4096 - rd) % 4096
  let s := { s with sch := { s.sch with sampleAt := s.sch.sampleAt + us * 1000000000 } }
  if 2048 < held + l.length then (s.orReg .schSmpIdx 0 (2 ^ 31)).count .sch 0 6
  else
    let s := (s.putSamples wr l).setRf .schSmpIdx 0 27 16 (wr + l.length)
    if s.cfg.f .schSmpCtrl 0 27 16 ≤ held + l.length then s.orReg .schIntStat 0 4 else s

/-! ### Leads -/

/-- A wait lies within a port's LEAD_US and the Sleep exit time of 5 µs, so that a return begun now reaches Run LEAD_US ahead
(R225, R451). With LEAD_US 0 nothing is woken ahead (R223). -/
def State.withinLead (s : State) (n : Nat) (wait : Option Nat) : Bool :=
  s.leadUs n ≠ 0 && match wait with | some d => decide (d ≤ s.leadUs n * 1000000000 + 5000000000) | none => false

/-- A Platform is to be woken ahead of an opening of one of its ports (R225). -/
def State.ttWake (s : State) (p : Nat) : Bool :=
  s.ports.any fun (n, _) => n < 512 && n / 64 = p && s.withinLead n (s.nextOpen n)

/-- A Platform is to be woken ahead of a gate opening of a gated admitted stream (R240). -/
def State.gateWake (s : State) (p : Nat) : Bool :=
  (declList s.adm.run).any fun d => onPlat d.ingress p && s.declGated d && s.withinLead d.ingress (s.gateWait d).2

/-- A Platform is to be woken ahead, for an opening or for a gate (R225, R240). -/
def State.leadWake (s : State) (p : Nat) : Bool := s.ttWake p || s.gateWake p

/-- The gate of class `c` on a port at an instant (R220): by the list in force then, on that list's own base. -/
def State.gateAt (s : State) (e c fs : Nat) : Bool :=
  let g := (s.port e).tt
  let admin := bitOf (s.adminGates e) c
  match s.listAt g fs with
  | some l => l.opens (bitOf · c) 0 admin (s.listNs g l fs)
  | none => admin

/-- An opening of a scheduled class on one of a Platform's timed ports falls in the core clock that ends now: by its list, by the
start of another, or by the ADMIN_GATES that a step brings (R219, R224). -/
def State.openingNow (s : State) (p : Nat) : Bool :=
  s.ports.any fun (n, x) =>
    n < 512 && n / 64 = p && x.timed
      && s.schedClasses.any fun c => !s.gateAt n c (s.fs - 800000) && s.gateAt n c s.fs

end Sys2Proof.Machine
end

