-- ==== Sys2Proof/Machine/Power.lean ====
section
/-! DEFINITION. Power (chapter 16): Platform states and their transitions (R449 to R452), wakes (R454 to R456, R225), the
retention of the chip-level blocks (R457, R264), and the microsecond counters. -/

namespace Sys2Proof.Machine

/-! ### Wakes -/

/-- A wake of the lead; WAKE_AHEAD counts those for a Timetable's opening, on the Platform woken (R225, R240). -/
def State.wakeLead (s : State) (p : Nat) : State := (s.wake p 1).countIf (s.ttWake p) .sch p 4

/-- The lead before an opening wakes a Platform under the Scheduled policy; an opening that finds it out of Run is late
(R225, R240, R458). (DEDUCED, log 53.) -/
def State.wakeAhead (s : State) (p : Nat) : State :=
  if s.powerPolicy ≠ 2 ∨ (s.plat p).power = .run then s
  else
    let s := s.countIf (s.openingNow p) .sch p 5
    if s.leadWake p ∧ (s.plat p).power ≠ .waking then s.wakeLead p else s

/-- A cause of R454 that lasts holds of a Platform: it is not quiet, since a copy, a frame or a peer's signal has come to it, or a
HOLD_RUN bit, a claim or a command on its table holds it; or R240 keeps it in Run for a stream that is admitted. -/
def State.wakeCause (s : State) (p : Nat) : Bool :=
  !s.quiet p || s.streamHold p || s.rb .aoPwrCtrl 0 p || bitOf s.tbl.claimed p
    || (match s.tbl.cmd with | some c => c.target = p | none => false)

/-- A Platform out of Run with a lasting cause starts to return; a lead that has come too makes it one wake, of the lead (R454,
R460). (DEDUCED, log 53.) -/
def State.wakeDue (s : State) (p : Nat) : State :=
  let x := (s.plat p).power
  if x = .run ∨ x = .waking ∨ s.wakeCause p = false then s
  else if s.powerPolicy = 2 ∧ s.leadWake p then s.wakeLead p
  else s.wake p (if s.quiet p then 2 else 0)

/-- The level of a low WAKE_N: all that a fall does while the switch is in reset (R497). -/
def State.wakeNLow (s : State) : State := { s with ao := { s.ao with wakeNLow := true } }

/-- WAKE_N falls past its filter (R455). -/
def State.wakeNFall (s : State) : State :=
  let s := s.wakeNLow.orReg .aoIntStat 0 1
  if s.cfg.b .aoWakeCfg 0 31 then s.wakeMask (s.cfg.f .aoWakeCfg 0 7 0) 2 else s

/-- WAKE_N returns high (R455). -/
def State.wakeNRise (s : State) : State := { s with ao := { s.ao with wakeNLow := false } }

/-! ### Doze, Sleep, Off and Run -/

/-- A Platform has been quiet for DOZE_IDLE_US (R451). -/
def State.dozeDue (s : State) (p : Nat) : Bool :=
  match (s.plat p).quietSince with
  | some t => decide (t + s.cfg.f .aoPlatCfg p 11 0 * 1000000000 ≤ s.fs)
  | none => false

/-- The state of a Platform changes. -/
def State.setPower (s : State) (p : Nat) (w : PwrState) : State :=
  s.modPlat p fun x => { x with power := w, pwrSince := s.fs }

/-- Run to Doze (R451, R458). -/
def State.doze (s : State) (p : Nat) : State :=
  if (s.plat p).power = .run ∧ s.powerPolicy ≠ 0 ∧ s.held p = 0 ∧ s.dozeDue p ∧ ¬ (s.plat p).lanesOff then
    s.setPower p .doze
  else s

/-- Doze to Sleep (R451, R453). -/
def State.sleep (s : State) (p : Nat) : State :=
  let c := s.cfg
  if (s.plat p).power = .doze ∧ s.held p = 0 ∧ c.b .aoPlatCfg p 31 ∧ 5 ≤ c.f .aoPlatCfg p 30 24
      ∧ (s.plat p).pwrSince + c.f .aoPlatCfg p 23 12 * 1000000000 ≤ s.fs then s.setPower p .sleep
  else s

/-- A Platform with every lane off returns to Off once it has been quiet for DOZE_IDLE_US, under every policy (R452); the
holds of R455 but for the policy's apply. -/
def State.offReturn (s : State) (p : Nat) : State :=
  let x := s.plat p
  if x.power = .run ∧ x.lanesOff ∧ s.held p &&& 0xFD = 0 ∧ s.dozeDue p then
    (s.setPower p .off).modPlat p fun x => { x with lanesOff := false }
  else s

/-- A waking Platform reaches Run: shapers brought forward, the catch-up sweep and the deletions that waited made, the
intake released (R456). -/
def State.platRun (s : State) (p : Nat) : State :=
  if (s.plat p).power = .waking then
    ((s.setPower p .run).forwardPlat p).catchUpTable p
  else s

/-! ### The chip-level blocks -/

/-- The chip-level blocks are in retention. -/
def State.retained (s : State) : Bool := s.rb .aoChipStat 0 31

/-- Every Platform is in Sleep or Off. -/
def State.allAsleep (s : State) : Bool :=
  (List.range 8).all fun p => s.pwrCode p = 2 || s.pwrCode p = 3

/-- The conditions of R457 for retention. -/
def State.chipQuiet (s : State) : Bool :=
  s.allAsleep && !s.pairedCfg && s.captureIdle
    && (s.capt.wins.all fun x => x.state ≠ 2 && x.state ≠ 4)
    && s.tbl.cmd.isNone && !s.tbl.flushBusy && s.tbl.spreadQ.isEmpty && s.host.td.isNone
    && (s.plats.all (·.hostQ.isEmpty)) && s.host.units.all (·.inFlight = 0)

/-- The chip-level blocks enter retention after 10 µs (R457). (DEDUCED, log 54.) -/
def State.chipRetain (s : State) : State :=
  match s.ao.chipIdle with
  | some t =>
    if s.chipQuiet ∧ t + 10000000000 ≤ s.fs ∧ ¬ s.retained then
      { s with ao := { s.ao with retainedAt := s.fs } }.orReg .aoChipStat 0 (2 ^ 31)
    else s
  | none => s

/-- A cause has come that ends the retention: the time for which its conditions have held has begun anew since it was entered
(R457). -/
def State.chipCalled (s : State) : Bool :=
  s.retained && match s.ao.chipIdle with | some t => decide (s.ao.retainedAt ≤ t) | none => true

/-- LAT_NEXT_MS advanced past now by whole periods (R264). -/
def State.latNextPast (s : State) (fn : Nat) : State :=
  let period := max (s.tf 0x15 fn 4 31 16) 1
  let next := (s.tab 0x15 fn 9).toNat
  let behind := ms32 s.monoMs next
  if behind < 2 ^ 31 then s.setTab 0x15 fn 9 (Word.ofNat (next + (behind / period + 1) * period)) else s

/-- What fell due of one recovery function while the redundancy unit was down: the test, then the reset, once each (R264,
R286). -/
def State.catchUpRcv (s : State) (fn : Nat) : State :=
  let s := if s.latentDue fn then (s.latentTest fn).latNextPast fn else s
  if s.resetDue fn then s.resetRcv fn else s

/-- Recovery functions that hold an entry. -/
def State.rcvIndices (s : State) : List Nat :=
  (s.tables.filter fun (k, w) => k % 32 = 0x15 && k / 32 % 32 = 2 && bitW w 31).map fun (k, _) => k / 1024

/-- The chip-level blocks return to active after a cause: the redundancy unit catches up, the scrubber begins new passes (R264,
R457, R466). (DEDUCED, log 54.) -/
def State.chipWake (s : State) : State :=
  if s.chipCalled then
    let s := s.setRf .aoChipStat 0 31 31 0
    let s := { s with saf := { s.saf with tableLine := 0, treeLine := 0 }, ao := { s.ao with chipIdle := none } }
    s.rcvIndices.foldl (fun s fn => s.catchUpRcv fn) s
  else s

/-! ### Quiet Platforms and the duration counters -/

/-- Since when a Platform has been quiet (R451). -/
def State.watchPlat (s : State) (p : Nat) : State :=
  let x := s.plat p
  let since := if s.quiet p then (match x.quietSince with | some t => some t | none => some s.fs) else none
  if since = x.quietSince then s else s.setPlat p { x with quietSince := since }

/-- Since when the conditions of R457 hold. (DEDUCED, log 54.) -/
def State.watchChip (s : State) : State :=
  let since := if s.chipQuiet then (match s.ao.chipIdle with | some t => some t | none => some s.fs) else none
  if since = s.ao.chipIdle then s else { s with ao := { s.ao with chipIdle := since } }

/-- Since when each Platform has been quiet, and since when the conditions of R457 hold. -/
def State.watchQuiet (s : State) : State := ((List.range 8).foldl (·.watchPlat) s).watchChip

/-- `n` microseconds of the Platforms' power counters, which count on the slow clock in every state (R461). -/
def State.countPower (s : State) (n : Nat) : State :=
  (List.range 8).foldl
    (fun s p =>
      let c := s.pwrCode p
      s.countN .ao p (if c = 0 ∨ c = 4 then 0 else if c = 1 ∨ c = 5 then 1 else 2) n) s

end Sys2Proof.Machine
end

