-- ==== Sys2Proof/Machine/TableEngine.lean ====
section
/-! DEFINITION. The table engine: claims (R142, R143), the command register (R146), flushes (R128), aging sweeps (R124, R125)
and address spreading (R126). -/

namespace Sys2Proof.Machine

/-! ### Claims -/

/-- Claim bits written: what newly reads 1 is requested, what newly reads 0 is released at once, and what waited for a
released MAC table is made (R125, R142, R143). -/
def State.setClaims (s : State) (req : Nat) : State :=
  let gone := s.tbl.claimed &&& ((s.tbl.claimReq ||| req) ^^^ req)
  let s := { s.stir with tbl := { s.tbl with claimReq := req, claimed := s.tbl.claimed ^^^ gone } }
  (List.range 8).foldl (fun s p => if bitOf gone p then s.catchUpTable p else s) s

/-- The claim on a table may be granted (R142, R147). -/
def State.claimDue (s : State) (t : Nat) : Bool :=
  decide (t < 22) && bitOf s.tbl.claimReq t && !bitOf s.tbl.claimed t
    && (match s.tbl.cmd with | some c => decide (c.target ≠ t) | none => true)
    && !(s.tbl.flushBusy && decide (t < 8) && bitOf s.tbl.flushPlats t)

/-- A claim is granted (R142). -/
def State.grantClaim (s : State) (t : Nat) : State :=
  if s.claimDue t then
    ({ s with tbl := { s.tbl with claimed := s.tbl.claimed ||| 2 ^ t } }).orReg .tblIntStat 0 1
  else s

/-! ### Commands -/

/-- A GO write of TBL_CMD (R146). -/
def State.startTblCmd (s : State) (src : Src) (op t i : Nat) : State :=
  if s.tbl.cmd.isSome then s.illegal .tbl 0x20 src 2
  else { s.stir with tbl := { s.tbl with cmd := some { src := src, op := op, target := t, index := i } } }

/-- A target that READ and WRITE act on (R114, R146). -/
def State.cmdTarget (s : State) (t : Nat) : Bool :=
  decide (0 < s.capacity t) && t ≠ 0x0B && t ≠ 0x18 && t ≠ 0x19

/-- The command is one that R146 does not allow. -/
def State.cmdBad (s : State) (c : TblCmd) : Bool :=
  if c.op = 1 ∨ c.op = 2 then !(s.cmdTarget c.target && decide (c.index < s.capacity c.target))
  else !((c.op = 3 || c.op = 4 || c.op = 5) && isHashed c.target)

/-- The words of TBL_CMD_DATA that a target's entry has (R254 for recovery functions). -/
def State.cmdData (s : State) (t : Nat) : List Word :=
  (List.range (min 8 (tblWords t))).map fun i => s.reg .tblCmdData i

/-- An entry copied to TBL_CMD_DATA. (DEDUCED, log 36.) -/
def State.showEntry (s : State) (t i : Nat) : State :=
  (List.range (min 8 (tblWords t))).foldl (fun s w => s.setReg .tblCmdData w (s.readWord t i w)) s

/-- The result of a command that is allowed: the state, RESULT and the index found, placed or deleted. (DEDUCED, log 36.) -/
def State.runCmd (s : State) (c : TblCmd) : State × Nat × Option Nat :=
  let d := s.cmdData c.target
  let key := keyOfEntry c.target d
  if c.op = 1 then (s.showEntry c.target c.index, 0, none)
  else if c.op = 2 then (s.writeEntry c.target c.index d, 0, none)
  else
    match s.lookup c.target key with
    | some i =>
      if c.op = 3 then (s.showEntry c.target i, 0, some i)
      else if c.op = 4 then (s.writeEntry c.target i d, 0, some i)
      else (s.deleteEntry c.target i, 0, some i)
    | none =>
      if c.op = 4 then
        match s.freeSlot c.target key with
        | some i => (s.writeEntry c.target i d, 0, some i)
        | none => (s, 2, none)
      else (s, 1, none)

/-- A table command completes (R146). (DEDUCED, log 36.) -/
def State.finishTblCmd (s : State) : State :=
  match s.tbl.cmd with
  | none => s
  | some c =>
    let (s, res, idx) :=
      if s.cmdBad c then (s.illegal .tbl 0x20 c.src 11, 4, none)
      else if bitOf s.tbl.claimed c.target then (s.illegal .tbl 0x20 c.src 9, 3, none)
      else s.runCmd c
    let s := { s with tbl := { s.tbl with
      cmd := none, cmdResult := res, cmdIndex := match idx with | some i => i | none => s.tbl.cmdIndex } }
    s.orReg .tblIntStat 0 2

/-! ### Flushes -/

/-- The tables that a flush names and that are claimed or asleep when it begins: their share waits among the other work for the
release or the wake (R143). (DEDUCED, log 35.) -/
def State.flushHeld (s : State) (w : Word) : List Nat :=
  (List.range 8).filter fun p => bitOf (fld w 23 16) p && s.tableWaits p

/-- A flush begins with the criteria `w` of TBL_FLUSH and those that TBL_FLUSH_DEST holds (R128). -/
def State.startFlush (s : State) (w : Word) : State :=
  (s.flushHeld w).foldl (fun s p => s.workLater p .flush)
    { s.stir with tbl := { s.tbl with
        flushBusy := true, flushPlats := fld w 23 16, flushWord := w, flushDest := s.rf .tblFlushDest 0 15 0
        flushPos := List.replicate 8 0 } }

/-- The flush in progress is sweeping Platform `p`'s table, which is neither claimed nor asleep (R128, R143). -/
def State.flushing (s : State) (p : Nat) : Bool := s.flushOwes p && !s.tableWaits p

/-- The sweep of Platform `p`'s table goes on to a bucket that the spec leaves open: any at or after the one it has reached
(R128). (DESIGN CHOICE, log 7; DEDUCED, log 35.) -/
def State.flushOn (s : State) (p : Nat) : State :=
  if ¬ s.flushing p then s
  else
    let (v, s) := s.fresh
    let at_ := s.flushAt p
    let goal := at_ + v % (s.capacity p / 4 + 1 - at_)
    let s := s.deleteAll [p] fun s p i => s.flushes p i && decide (i / 4 < goal)
    { s with tbl := { s.tbl with flushPos := s.tbl.flushPos.set p goal } }

/-- The tables that the flush can sweep now are swept; it ends when none is left (R128, R143). (DEDUCED, log 35.) -/
def State.flushStep (s : State) : State :=
  if ¬ s.tbl.flushBusy then s
  else
    let s := s.flushTables ((List.range 8).filter s.flushing)
    let left := s.tbl.flushPlats
    let s := { s with tbl := { s.tbl with flushBusy := decide (left ≠ 0) } }
    if left = 0 then s.orReg .tblIntStat 0 4 else s

/-! ### Aging, learning, spreading -/

/-- The next sweep's instant has come (R124). -/
def State.sweepDue (s : State) : Bool :=
  s.cfg.b .tblAge 0 31
    && decide (s.tbl.lastSweep + s.cfg.f .tblAge 0 11 0 * 1000000000000000 ≤ s.fs)

/-- An aging sweep of every table that is neither claimed nor asleep (R124, R125, R130). -/
def State.agingSweep (s : State) : State :=
  if ¬ s.sweepDue then s
  else
    let every := s.cfg.f .tblAge 0 11 0 * 1000000000000000
    let s := { s with tbl := { s.tbl with lastSweep := s.tbl.lastSweep + every } }
    (List.range 8).foldl
      (fun s p =>
        if s.tableWaits p then s.modPlat p fun x => { x with missed := x.missed + 1 }
        else (s.sweep p 1).keepAddrs p) s

/-- An entry that a learn engine wrote or moved is to be spread (R126). -/
def State.askSpread (s : State) (p i : Nat) : State :=
  if s.cfg.f .tblLearnCtrl 0 15 8 = 0 then s
  else if 65536 ≤ s.tbl.spreadQ.length then (s.count .tbl p 6).orReg .tblIntStat 0 8
  else { s with tbl := { s.tbl with spreadQ := s.tbl.spreadQ ++ [(p, i, keyOfEntry p (s.entry p i))] } }

/-- The words of the entry that a spread request names, where the one that the learn engine wrote still stands there: not one that
is STATIC, a copy, or of another key, which software or another origin has put in its place (R126, R127). -/
def State.spreadEntry (s : State) (p i : Nat) (key : List Nat) : Option (List Word) :=
  let ws := s.entry p i
  let w := (ws[2]?).getD 0
  if validEntry p ws ∧ ¬ bitW w 30 ∧ ¬ bitW w 29 ∧ keyOfEntry p ws = key then some ws else none

/-- The learn engine applies the next event (R123, R143, R365); a flush in progress has swept on meanwhile (R128). -/
def State.learnNext (s : State) (p : Nat) : State :=
  let x := s.plat p
  if bitOf s.tbl.claimed p ∨ x.power ≠ .run then s
  else
    match x.learnQ with
    | [] => s
    | ev :: rest =>
      let s := ((s.setPlat p { x with learnQ := rest }).perf p 6 none none 1).flushOn p
      match s.learnApply p ev with
      | (s, some i) => s.askSpread p i
      | (s, none) => s

/-- Firmware makes the copies of the next entry of the spread queue (R126, R143). (DEDUCED, log 35.) -/
def State.spreadNext (s : State) : State :=
  match s.tbl.spreadQ with
  | [] => s
  | (p, i, key) :: rest =>
    let spread := s.cfg.f .tblLearnCtrl 0 15 8
    let ps := (List.range 8).filter fun q => q ≠ p && bitOf spread q
    let s := { s with tbl := { s.tbl with spreadQ := rest } }
    match s.spreadEntry p i key with
    | some ws => ps.foldl (fun s q => s.spreadTo p ws q) s
    | none => s

end Sys2Proof.Machine
end

