-- ==== Sys2Proof/Machine/Rings.lean ====
section
/-! DEFINITION. Descriptor rings and work queues (chapter 13): rings and doorbells (R370 to R375), the transmit side (R376
to R379), the receive side (R380 to R384), completions (R385 to R388), malformed descriptors and failures (R389), disable
and function reset (R390, R391), and the table-DMA ring (R144, R392, R393). Unit 0 to 15 is a queue pair, 16 the table-DMA
ring. -/

namespace Sys2Proof.Machine

/-! ### Rings -/

/-- The size of a ring under R371; 0 for any other value of its SIZE register. -/
def ringSize (n : Nat) : Nat := if 16 ≤ n ∧ n ≤ 32768 ∧ n &&& (n - 1) = 0 then n else 0

/-- The difference of two 16-bit free-running indices. -/
def idxDiff (a b : Nat) : Nat := (a + 65536 - b % 65536) % 65536

/-- The size of the ring that a SIZE register describes. -/
def State.ring (s : State) (id : RegId) (u : Nat) : Nat := ringSize (s.rf id u 15 0)

/-- A unit has a ring of size zero (R372). -/
def State.zeroRing (s : State) (u : Nat) : Bool :=
  s.ring .hostQpTxSize u = 0 || s.ring .hostQpCqSize u = 0 || (u < 16 && s.ring .hostQpRxSize u = 0)

/-- IDLE of a unit. -/
def State.unitIdle (s : State) (u : Nat) : Bool := s.rb .hostQpStat u 31

/-- A unit has work in flight: IDLE is clear (R390). -/
def State.busyUnit (s : State) (u : Nat) : State := s.setRf .hostQpStat u 31 31 0

/-- EN of a unit written by the switch. -/
def State.setEn (s : State) (u : Nat) (on : Bool) : State :=
  if u < 16 then s.setRf .hostQpCtrl u 31 31 (b2n on) else s.setRf .hostTdCtrl 0 31 31 (b2n on)

/-- The host address of entry `n` of a ring (R370, R371). -/
def State.entryAddr (s : State) (lo hi : RegId) (u n size len : Nat) : Nat :=
  (s.reg lo u).toNat / 64 * 64 + (s.reg hi u).toNat * 2 ^ 32 + n % size * len

/-- The HOST normal-view offset of a unit's register set (R395). -/
def unitOff (u : Nat) : Nat := if u < 16 then 0x1000 + u * 0x100 else 0x2000

/-- An accepted enable: every index and the last value of every doorbell 0, ERR cleared (R372, R375); the group's port comes
up (R384). (DEDUCED, log 40.) -/
def State.startUnit (s : State) (u : Nat) : State :=
  let s := (((s.setReg .hostTxDb u 0).setReg .hostCqDb u 0).setReg .hostQpTxHead u 0).setReg .hostQpCqHead u 0
  let s := if u < 16 then (s.setReg .hostRxDb u 0).setReg .hostQpRxHead u 0 else s
  let s := (s.setRf .hostQpStat u 30 30 0).modUnit u fun x => { x with fetch := 0, rxTake := 0, cqSince := none }
  let s := s.setEn u true
  if u < 16 then s.portUp (528 + u) 10 else s

/-- A write of 1 to EN (R372). (DEDUCED, log 40.) -/
def State.enableUnit (s : State) (src : Src) (u : Nat) : State :=
  if s.zeroRing u then s.illegal .host (unitOff u) src 7
  else if ¬ s.unitIdle u then s.illegal .host (unitOff u) src 11
  else s.startUnit u

/-- The edge that clears EN: the unit reads no new descriptors, and the frames queued for the group are flushed (R384,
R390). -/
def State.stopUnit (s : State) (u : Nat) : State :=
  let s := s.setEn u false
  if u < 16 then s.portDown (528 + u) 0 else s

/-- A unit stopped by a failed access (R389). -/
def State.failUnit (s : State) (u : Nat) : State :=
  ((s.stopUnit u).orReg .hostQpStat u (2 ^ 30)).orReg .hostQpIntStat u 2

/-- Every head of a unit has caught up with the work done (R390). -/
def State.headsDone (s : State) (u : Nat) : Bool :=
  s.rf .hostQpTxHead u 15 0 = (s.unit u).fetch % 65536 && s.rf .hostQpRxHead u 15 0 = (s.unit u).rxTake % 65536

/-- Nothing is in flight, no completion waits and the heads have caught up, so IDLE is set (R390). -/
def State.idleUnit (s : State) (u : Nat) : State :=
  let x := s.unit u
  if u < 17 ∧ x.inFlight = 0 ∧ x.waiting.isEmpty ∧ s.headsDone u ∧ ¬ (u = 16 ∧ s.host.td.isSome) then
    s.orReg .hostQpStat u (2 ^ 31)
  else s

/-! ### Doorbells -/

/-- The test of R373 on a producer doorbell. -/
def doorbellOk (new_ old cons size : Nat) : Bool :=
  decide (idxDiff new_ cons ≤ size) && decide (idxDiff old cons ≤ idxDiff new_ cons)

/-- A producer doorbell of a unit: TX_DB, RX_DB or TD_DB (R373). -/
def State.producerDb (s : State) (src : Src) (db head size : RegId) (u off v : Nat) : State :=
  if ¬ s.unitOn u then s.illegal .host off src 11
  else if doorbellOk (v % 65536) (s.rf db u 15 0) (s.rf head u 15 0) (s.ring size u) then
    s.setReg db u (Word.ofNat (v % 65536))
  else s.illegal .host off src 6

/-- TX_DB of a queue pair, or TD_DB (R373). -/
def State.txDoorbell (s : State) (src : Src) (u v : Nat) : State :=
  s.stir.producerDb src .hostTxDb .hostQpTxHead .hostQpTxSize u (if u < 16 then 0x8000 + u * 16 else 0x8100) v

/-- RX_DB of a queue pair (R373). -/
def State.rxDoorbell (s : State) (src : Src) (q v : Nat) : State :=
  s.stir.producerDb src .hostRxDb .hostQpRxHead .hostQpRxSize q (0x8004 + q * 16) v

/-- CQ_DB of a queue pair, or TDC_DB (R374). It acts while EN is clear as well: a full completion ring is freed so (R390). -/
def State.cqDoorbell (s : State) (src : Src) (u v : Nat) : State :=
  let s := s.stir
  let old := s.rf .hostCqDb u 15 0
  if idxDiff (v % 65536) old ≤ idxDiff (s.rf .hostQpCqHead u 15 0) old then
    s.setReg .hostCqDb u (Word.ofNat (v % 65536))
  else s.illegal .host (if u < 16 then 0x8008 + u * 16 else 0x8104) src 8

/-- Queue pair `q` is delegated to the user window (R361). -/
def State.delegated (s : State) (q : Nat) : Bool := decide (q < 16) && s.rb .hostUserCfg 0 q

/-! ### Completions -/

/-- A completion of a unit waits to be written (R386). -/
def State.postCompl (s : State) (u : Nat) (c : Compl) : State :=
  (s.busyUnit u).modUnit u fun x => { x with waiting := x.waiting ++ [c] }

/-- The unit's completion ring is full (R374, R386). -/
def State.cqFull (s : State) (u : Nat) : Bool :=
  decide (s.ring .hostQpCqSize u ≤ idxDiff (s.rf .hostQpCqHead u 15 0) (s.rf .hostCqDb u 15 0))

/-- The unit takes no more work: 64 completions wait that it cannot write (R382, R386). (DESIGN CHOICE, log 39.) -/
def State.complFull (s : State) (u : Nat) : Bool := s.cqFull u && decide (64 ≤ (s.unit u).waiting.length)

/-- A head advanced to an index; one already past it stays (R379). -/
def State.headTo (s : State) (id : RegId) (u : Nat) (n : Option Nat) : State :=
  match n with
  | some n => if idxDiff n (s.rf id u 15 0) ≤ 32768 then s.setReg id u (Word.ofNat n) else s
  | none => s

/-- A transmit completion (R379, R385). -/
def txCompl (h : HostInfo) (status : Nat) : Compl :=
  { words := [Word.ofNat (at_ 1 28 + at_ status 24 + at_ h.ndesc 16 + h.idx), Word.ofNat (at_ h.len 16), 0, 0, 0, 0,
      (h.cookie[0]?).getD 0, (h.cookie[1]?).getD 0]
    txHead := some ((h.idx + h.ndesc) % 65536) }

/-- CQ set when the unreported entries reach THRESH, else the moderation timer runs from the oldest (R388). -/
def State.raiseCq (s : State) (u : Nat) : State :=
  let n := idxDiff (s.rf .hostQpCqHead u 15 0) (s.rf .hostCqDb u 15 0)
  if max 1 (s.rf .hostQpCqInt u 31 16) ≤ n then
    (s.orReg .hostQpIntStat u 1).modUnit u fun x => { x with cqSince := none }
  else s.modUnit u fun x => { x with cqSince := match x.cqSince with | some t => some t | none => some s.fs }

/-- The next completion entry is written: the entry, CQ_HEAD with the ring's other head, the interrupt (R32, R387); it
waits while the ring is full (R386). -/
def State.writeCompl (s : State) (u : Nat) : State :=
  let size := s.ring .hostQpCqSize u
  let head := s.rf .hostQpCqHead u 15 0
  match (s.unit u).waiting with
  | [] => s
  | c :: rest =>
    if s.cqFull u then s
    else
      let s := s.emit (.hostMem (s.entryAddr .hostQpCqBaseLo .hostQpCqBaseHi u head size 32)
        (c.words.flatMap fun w => leBytes 4 w.toNat))
      let next := (head + 1) % 65536
      let wb := (s.reg .hostQpCqWbLo u).toNat + (s.reg .hostQpCqWbHi u).toNat * 2 ^ 32
      let s := (s.emit (.hostMem wb (leBytes 4 next))).setReg .hostQpCqHead u (Word.ofNat next)
      let s := (s.headTo .hostQpTxHead u c.txHead).headTo .hostQpRxHead u c.rxHead
      (s.modUnit u fun x => { x with waiting := rest }).raiseCq u

/-- TIMER_US has passed since the oldest unreported entry (R388). -/
def State.cqTimer (s : State) (u : Nat) : State :=
  let us := s.rf .hostQpCqInt u 15 0
  match (s.unit u).cqSince with
  | some t =>
    if us ≠ 0 ∧ t + us * 1000000000 ≤ s.fs then
      (s.orReg .hostQpIntStat u 1).modUnit u fun x => { x with cqSince := none }
    else s
  | none => s

/-! ### The transmit side -/

/-- The halt of a malformed descriptor (R389, R474). -/
def State.malformed (s : State) (unit ring idx code : Nat) : State :=
  s.halt 0x0030 [Word.ofNat unit, Word.ofNat ring, Word.ofNat (idx % 65536), Word.ofNat code]

/-- A word of a descriptor. -/
def dword (d : List Word) (i : Nat) : Word := (d[i]?).getD 0

/-- The code of R389 of transmit descriptor `k` of a frame; `sum` is the BUF_LEN of those before it, `len` the frame's
FRAME_LEN; the lowest code where several apply. -/
def State.txBad (s : State) (k sum len : Nat) (d : List Word) : Option Nat :=
  let w3 := dword d 3
  let buf := fld (dword d 2) 31 16
  let fl := fld (dword d 2) 15 0
  let first := bitW w3 31
  let port := fld w3 9 0
  if buf = 0 then some 1
  else if first ∧ (fl = 0 ∨ 10236 < fl) then some 2
  else if first ≠ (k = 0) then some 3
  else if k = 8 ∨ (bitW w3 30 ∧ sum + buf ≠ len) then some 4
  else if k = 0 ∧ bitW w3 29 ∧ ¬ ((port < 512 ∨ port = 520) ∧ s.cfg.present port) then some 5
  else none

/-- What a walk over the descriptors of the next frame finds. -/
inductive TxWalk
  | frame (n : Nat)
  | open_
  | bad (k code : Nat)
  deriving DecidableEq, Repr

/-- The descriptors of a frame read one by one up to LAST (R376, R389). -/
def State.txWalk (s : State) : List (List Word) → Nat → Nat → Nat → TxWalk
  | [], _, _, _ => .open_
  | d :: r, k, sum, len =>
    let len := if k = 0 then fld (dword d 2) 15 0 else len
    match s.txBad k sum len d with
    | some c => .bad k c
    | none => if bitW (dword d 3) 30 then .frame (k + 1) else s.txWalk r (k + 1) (sum + fld (dword d 2) 31 16) len

/-- Transmit descriptors posted and not read. -/
def State.txPosted (s : State) (u : Nat) : Nat := idxDiff (s.rf .hostTxDb u 15 0) (s.unit u).fetch

/-- A queue pair can fetch (R378, R386, R390). -/
def State.txAble (s : State) (q : Nat) : Bool :=
  s.unitOn q && decide (0 < s.txPosted q) && !s.complFull q

/-- It is queue pair `q`'s turn: no pair between the one served last and `q` can fetch (R378). (DEDUCED, log 39.) -/
def State.txTurn (s : State) (q : Nat) : Bool :=
  s.txAble q && (List.range ((q + 15 - s.host.turn) % 16)).all fun k => !s.txAble ((s.host.turn + 1 + k) % 16)

/-- What the FIRST descriptor of a frame says (R376). -/
def State.txInfo (s : State) (q n : Nat) (d : List Word) : HostInfo :=
  let w3 := dword d 3
  let dir := bitW w3 29
  { qp := q, gen := s.host.gen, idx := (s.unit q).fetch % 65536, ndesc := n, len := fld (dword d 2) 15 0
    cookie := [dword d 6, dword d 7]
    directed := if dir then some (fld w3 9 0) else none
    cls := if dir then some (fld w3 26 24) else none
    txts := if bitW w3 28 then some (fld (dword d 4) 15 0) else none }

/-- The descriptors of a frame taken from the ring. -/
def State.takeDescs (s : State) (q n : Nat) : State :=
  let s := { s with host := { s.host with turn := q } }
  (s.busyUnit q).modUnit q fun x => { x with fetch := (x.fetch + n) % 65536 }

/-- The wire image of a host frame: padded to 60 bytes, with its FCS (R377). -/
def hostBytes (data : List Byte) (len : Nat) : List Byte :=
  let b := sliceZ data 0 (max len 60)
  let b := overlay b len (List.replicate (60 - len) 0)
  b ++ fcsOf b

/-- The fixed cells that the Coupler's own frame in transmission holds (R179). Frames of the management complex leave in the command
that makes them. (DEDUCED, log 38.) -/
def State.ownCells (s : State) : Nat :=
  match (s.port 520).tx with
  | some t => if t.copy.isNone then ceilDiv t.bytes.length 256 else 0
  | none => 0

/-- The next transmit frame of a pair whose turn it is; `data` are the bytes of its buffers, none where their read fails
(R378, R379, R389). -/
def State.fetchTx (s : State) (q : Nat) (descs : List (List Word)) (data : Option (List Byte)) : State :=
  if ¬ (q < 16 ∧ s.txTurn q) then s
  else
    let posted := descs.take (s.txPosted q)
    let at0 := (s.unit q).fetch
    match s.txWalk posted 0 0 0 with
    | .bad k c => s.malformed q 0 (at0 + k) c
    | .open_ => { s with host := { s.host with turn := q } }
    | .frame n =>
      let h := s.txInfo q n (posted.headD [])
      let cells := ceilDiv (max h.len 60 + 4) 256
      if 8192 < s.fixedUsed + s.ownCells + cells then s
      else
        match data with
        | none => ((s.takeDescs q n).postCompl q (txCompl h 1)).count .host q 3
        | some data =>
          let p := s.rf .hostQpCtrl q 29 27
          let b := hostBytes data h.len
          let f : Frame :=
            { bytes := b, len := b.length, port := 528 + q, plat := p, host := some h, cls := h.cls
              charge := { fixed := cells } }
          let s := ((s.takeDescs q n).writeBeats p b.length).modUnit q fun x => { x with inFlight := x.inFlight + 1 }
          ({ s with fixedUsed := s.fixedUsed + cells }).modPlat p fun x => { x with hostQ := x.hostQ ++ [f] }

/-- A host frame's first pass begins: its transmit completion, unless the function has been reset since (R379, R391). -/
def State.hostFirst (s : State) (h : HostInfo) : State :=
  if h.gen ≠ s.host.gen then s
  else
    let s := s.modUnit h.qp fun x => { x with inFlight := x.inFlight - 1 }
    (s.postCompl h.qp (txCompl h 0)).count .host h.qp 0

/-! ### The receive side -/

/-- A receive buffer descriptor is malformed (R389, code 6). -/
def rxBad (d : List Word) : Bool :=
  let len := fld (dword d 2) 15 0
  decide (len < 256) || len % 64 ≠ 0 || fld (dword d 0) 5 0 ≠ 0

/-- What a walk over the posted buffers finds for a frame: how many it takes, too few, or a malformed one. -/
inductive RxWalk
  | fits (n : Nat)
  | short
  | bad (k : Nat)
  deriving DecidableEq, Repr

/-- The buffers that `left` stored bytes take, in ring order (R381, R389). -/
def rxWalk : List (List Word) → Nat → Nat → RxWalk
  | [], k, left => if left = 0 then .fits k else .short
  | d :: r, k, left =>
    if left = 0 then .fits k
    else if rxBad d then .bad k
    else rxWalk r (k + 1) (left - fld (dword d 2) 15 0)

/-- Receive buffers posted and not taken. -/
def State.rxPosted (s : State) (q : Nat) : Nat := idxDiff (s.rf .hostRxDb q 15 0) (s.unit q).rxTake

/-- REASON of a copy for queue group `q` (R385). -/
def Frame.reason (f : Frame) (q : Nat) : Nat :=
  match f.hostWhy with
  | some (k, r) => if k = q then r else if f.hostCopy = some q then 3 else if f.sta.map (·.2) = some (q + 1) then 1 else 0
  | none => if f.hostCopy = some q then 3 else if f.sta.map (·.2) = some (q + 1) then 1 else 0

/-- The reported receive stamp of a frame and its time base; 0 for host frames (R304, R385). (DEDUCED, log 44.) -/
def State.rxStamp (s : State) (f : Frame) : Nat × Nat :=
  if f.host.isSome then (0, 0)
  else
    let k := if f.port < 512 then (s.cfgAt f.rxEpoch).f .platTsCfg f.port 26 24 else 0
    (k, unsigned 32 (Int.fdiv (s.stampFine k f.instant (-(s.rxPs f : Int))) fineUnit))

/-- A receive completion (R385). -/
def State.rxCompl (s : State) (x : Copy) (q n : Nat) : Compl :=
  let f := x.frame
  let at0 := (s.unit q).rxTake % 65536
  let (k, ts) := s.rxStamp f
  { words := [Word.ofNat (at_ 2 28 + at_ n 16 + at0),
      Word.ofNat (at_ (min f.len 65535) 16 + at_ f.err 13 + at_ (b2n f.trunc) 12 + at_ (f.reason q) 9
        + at_ (b2n f.sta.isSome) 8 + at_ (match f.sta with | some (e, _) => e | none => 0) 4),
      Word.ofNat (at_ f.port 22 + at_ x.cls 19 + at_ f.colour 17 + f.stream.getD 0),
      Word.ofNat (at_ (b2n f.stream.isSome) 31 + at_ (b2n f.seq.isSome) 30 + at_ k 27 + f.seq.getD 0),
      Word.ofNat ts, 0, 0, 0]
    rxHead := some ((at0 + n) % 65536) }

/-- A frame's stored bytes written to its buffers. -/
def State.writeBufs (s : State) : List (List Word) → List Byte → State
  | [], _ => s
  | d :: r, b =>
    if b.isEmpty then s
    else
      let n := fld (dword d 2) 15 0
      (s.emit (.hostMem ((dword d 0).toNat + (dword d 1).toNat * 2 ^ 32) (b.take n))).writeBufs r (b.drop n)

/-- The heads of a host queue group's queues that cannot be handed get their timers; with HOLD_US 0 they are dropped at
once (R382). -/
def State.holdHeads (s : State) (q : Nat) (bufs : List (List Word)) : State :=
  (List.range 8).foldl
    (fun s c =>
      match ((s.port (528 + q)).queue c).copies with
      | [] => s
      | x :: _ =>
        if s.complFull q ∨ rxWalk bufs 0 x.frame.bytes.length = .short then
          if s.rf .hostQpCtrl q 15 0 = 0 then
            ((s.popHead (528 + q) c).dropCopy x).count .host q 2
          else if x.holdEnd.isSome then s
          else s.setHead (528 + q) c { x with holdEnd := some (s.fs + s.rf .hostQpCtrl q 15 0 * 1000000000) }
        else s) s

/-- The first malformed buffer that a head frame's walk reads. -/
def State.rxMalformed (s : State) (q : Nat) (bufs : List (List Word)) : Option Nat :=
  highFirst.findSome? fun c =>
    match ((s.port (528 + q)).queue c).copies with
    | [] => none
    | x :: _ => match rxWalk bufs 0 x.frame.bytes.length with | .bad k => some k | _ => none

/-- A copy handed to the receive ring and written whole (R381, R387); a failed cell CRC loses it, and its buffers are reused
(R465). -/
def State.deliver (s : State) (q c : Nat) (x : Copy) (bufs : List (List Word)) (n : Nat) : State :=
  let (s, x) := s.takeCopy (528 + q) c x
  let beat := beats x.frame.bytes.length
  let s := ((s.perf 0 12 (perfPort (528 + q)) (some c) 1).perf 0 10 (perfPort (528 + q)) none beat).agg 2 beat
  if s.injCell 0 then (s.takeInjCell 0).crcFailed 0 (528 + q) true
  else if !x.frame.badCells.isEmpty then s.crcFailed 0 (528 + q) false
  else
    let compl := s.rxCompl x q n
    let s := s.writeBufs (bufs.take n) x.frame.bytes
    let s := s.modUnit q fun y => { y with rxTake := (y.rxTake + n) % 65536 }
    (s.postCompl q compl).count .host q 1

/-- Transmission selection of host queue group `q` (R206, R208, R381, R382); `bufs` are the receive buffer descriptors read
from RX_HEAD's successor on. (DEDUCED, log 39.) -/
def State.hostSelect (s : State) (q : Nat) (bufs : List (List Word)) : State :=
  let e := 528 + q
  let bufs := bufs.take (s.rxPosted q)
  if ¬ (s.port e).link then s
  else
    match s.rxMalformed q bufs with
    | some k => s.malformed q 1 ((s.unit q).rxTake + k) 6
    | none =>
      let s := if bufs.length = s.rxPosted q then s.holdHeads q bufs else s
      let ready (s : State) (_ : Nat) (x : Copy) : Bool :=
        !s.complFull q && rxWalk bufs 0 x.frame.bytes.length ≠ .short
      match s.selectFrom e ready highFirst with
      | (s, none) => s
      | (s, some c) =>
        match ((s.port e).queue c).copies with
        | [] => s
        | x :: _ =>
          match rxWalk bufs 0 x.frame.bytes.length with
          | .fits n => s.deliver q c x bufs n
          | _ => s

/-- A head frame whose HOLD_US timer has expired is dropped whole (R382). (DEDUCED, log 39.) -/
def State.rxHoldDrop (s : State) (q c : Nat) : State :=
  match ((s.port (528 + q)).queue c).copies with
  | [] => s
  | x :: _ =>
    match x.holdEnd with
    | some t => if t ≤ s.fs then ((s.popHead (528 + q) c).dropCopy x).count .host q 2 else s
    | none => s

/-! ### The table-DMA ring -/

/-- A non-resident bank written by software loses READY (R104). -/
def State.clearReady (s : State) (b : Nat) : State := s.setRf .clsBankGen b 31 31 0

/-- The bytes of one entry of a table or of a tree-memory bank, as DMA reads it (R392). -/
def State.dmaEntry (s : State) (t i : Nat) : List Byte :=
  let ws := if t = 0x18 ∨ t = 0x19 then (List.range 4).map fun w => s.treeWord (t - 0x18) (4 * i + w) else s.readEntry t i
  ws.flatMap fun w => leBytes 4 w.toNat

/-- The words of a byte string. -/
def wordsOf (b : List Byte) (n : Nat) : List Word := (List.range n).map fun i => Word.ofNat (le b (4 * i) 4)

/-- One entry written by DMA (R145, R392). -/
def State.putEntry (s : State) (t i : Nat) (b : List Byte) : State :=
  let ws := wordsOf b (tblWords t)
  if t = 0x18 ∨ t = 0x19 then
    (List.range 4).foldl (fun s w => s.setTree (t - 0x18) (4 * i + w) ((ws[w]?).getD 0)) s
  else s.writeEntry t i ws

/-- A run of entries written in ascending index order (R144). -/
def State.putEntries (s : State) (t : Nat) : Nat → Nat → List Byte → State
  | 0, _, _ => s
  | n + 1, i, b => (s.putEntry t i (b.take (4 * tblWords t))).putEntries t n (i + 1) (b.drop (4 * tblWords t))

/-- A table-DMA descriptor is malformed (R144, R389 code 7). -/
def State.tdBad (s : State) (d : List Word) : Bool :=
  let t := fld (dword d 4) 28 24
  s.capacity t = 0 || decide (s.capacity t < fld (dword d 2) 19 0 + fld (dword d 3) 20 0)
    || fld (dword d 0) 3 0 ≠ 0

/-- The target may not be moved now: not claimed, or a resident bank (R144). -/
def State.tdDenied (s : State) (t : Nat) : Bool :=
  if t = 0x18 ∨ t = 0x19 then s.resident (t - 0x18) else !bitOf s.tbl.claimed t

/-- A denied operation counted (R144); a write to a resident bank counts in the CLS block as well (R104). (DEDUCED, log 27.) -/
def State.tdRefused (s : State) (d : List Word) : State :=
  let t := fld (dword d 4) 28 24
  let s := if (t = 0x18 ∨ t = 0x19) ∧ bitW (dword d 4) 31 then s.illegal .cls 0 .pcie 9 else s
  s.illegal .tbl 0 .pcie 9

/-- A table-DMA completion (R393). -/
def State.tdCompl (s : State) (d : List Word) (status moved : Nat) : Compl :=
  { words := [Word.ofNat (at_ 3 28 + at_ status 24), Word.ofNat moved, 0, 0, 0, 0, dword d 6, dword d 7]
    txHead := some (((s.unit 16).fetch + 1) % 65536) }

/-- The ring has a descriptor to take (R386, R392). -/
def State.tdAble (s : State) : Bool := s.unitOn 16 && decide (0 < s.txPosted 16) && !s.complFull 16

/-- The table operation in progress replaced. -/
def State.setTd (s : State) (x : Option (List Word × Nat)) : State := { s with host := { s.host with td := x } }

/-- The descriptor in hand completes (R393). -/
def State.tdEnd (s : State) (d : List Word) (status moved : Nat) : State :=
  (((s.setTd none).postCompl 16 (s.tdCompl d status moved)).modUnit 16) fun x => { x with fetch := (x.fetch + 1) % 65536 }

/-- Entries `from_` up to `n` of a descriptor's run moved (R144, R392); `data` holds those of a WRITE. -/
def State.tdMove (s : State) (d : List Word) (data : List Byte) (from_ n : Nat) : State :=
  let t := fld (dword d 4) 28 24
  let first := fld (dword d 2) 19 0
  if bitW (dword d 4) 31 ∧ (t = 0x18 ∨ t = 0x19) ∧ s.resident (t - 0x18) then
    (List.range (n - from_)).foldl (fun s _ => s.illegal .cls 0 .pcie 9) s
  else if bitW (dword d 4) 31 then
    let s := s.putEntries t (n - from_) (first + from_) data
    if (t = 0x18 ∨ t = 0x19) ∧ n ≠ from_ then s.clearReady (t - 0x18) else s
  else
    s.emit (.hostMem ((dword d 0).toNat + (dword d 1).toNat * 2 ^ 32 + from_ * (4 * tblWords t))
      ((List.range (n - from_)).flatMap fun k => s.dmaEntry t (first + from_ + k)))

/-- A descriptor `from_` of whose entries have been moved goes on: to its end, to a failed access after `fail` entries, or until
`upTo` entries have been moved, where the operation stays in progress (R145, R390, R393). -/
def State.tdRun (s : State) (d : List Word) (from_ : Nat) (upTo : Option Nat) (data : List Byte) (fail : Option Nat) : State :=
  let count := fld (dword d 3) 20 0
  let n := max from_ (min count ((fail.orElse fun _ => upTo).getD count))
  let s := s.tdMove d data from_ n
  if fail.isSome then s.tdEnd d 3 n
  else if n = count then s.tdEnd d 0 n
  else (s.busyUnit 16).setTd (some (d, n))

/-- The next table-DMA descriptor, or the rest of the one in progress (R144, R389, R392, R393): `moved` of its entries are moved
before a failed access. Lookups may fall between the commands that move a run (R145), and a function reset stops it there
(R391). (DEDUCED, log 27, DESIGN CHOICE, log 39.) -/
def State.tableDma (s : State) (r : DmaRun) (data : List Byte) (fail : Option Nat) : State :=
  match s.host.td with
  | some (d, n) => if bitW (dword d 4) 31 = bitW (dword r.desc 4) 31 then s.tdRun d n r.upTo data fail else s
  | none =>
    if ¬ s.tdAble then s
    else if s.tdBad r.desc then s.malformed 16 2 (s.unit 16).fetch 7
    else if fld (dword r.desc 3) 20 0 = 0 then s.tdEnd r.desc 0 0
    else if s.tdDenied (fld (dword r.desc 4) 28 24) then (s.tdRefused r.desc).tdEnd r.desc 2 0
    else s.tdRun r.desc 0 r.upTo data fail

/-- The ring has work: a descriptor to take, or one in progress, which a cleared EN lets run to its end (R390). -/
def State.tdGoes (s : State) : Bool := s.tdAble || s.host.td.isSome

/-! ### Failures and function reset -/

/-- A failed host-memory access (R389, R393). -/
def State.dmaFail (s : State) (w : DmaFail) : State :=
  match w with
  | .txDesc q => if q < 16 ∧ s.txAble q then s.failUnit q else s
  | .txData q descs => s.fetchTx q descs none
  | .rxDesc q => if q < 16 ∧ s.unitOn q then s.failUnit q else s
  | .rxData q => if q < 16 ∧ s.unitOn q then s.failUnit q else s
  | .cqWrite u => if u < 17 ∧ ¬ (s.unit u).waiting.isEmpty then s.failUnit u else s
  | .tdDesc => if s.tdAble ∧ s.host.td.isNone then s.failUnit 16 else s
  | .tdData d moved data => s.tableDma ⟨d, none⟩ data (some moved)

/-- The registers of chapter 13, but for the counters. -/
def ringRegs : List RegId :=
  [.hostQpCtrl, .hostTdCtrl, .hostQpStat, .hostQpTxBaseLo, .hostQpTxBaseHi, .hostQpTxSize, .hostQpTxHead, .hostQpRxBaseLo,
    .hostQpRxBaseHi, .hostQpRxSize, .hostQpRxHead, .hostQpCqBaseLo, .hostQpCqBaseHi, .hostQpCqSize, .hostQpCqHead]
  ++ [.hostQpCqWbLo, .hostQpCqWbHi, .hostQpCqInt, .hostQpIntStat, .hostQpIntEn, .hostQpCntHalf, .hostTxDb, .hostRxDb,
    .hostCqDb, .hostIntEn]

/-- Registers returned to their cold values. -/
def State.coldRegs (s : State) (ids : List RegId) : State :=
  { s with regs := s.regs.filter fun (k, _) => !ids.any fun id => k % 1024 = id.ctorIdx }

/-- A completion entry that a function reset may find written with its CQ_HEAD not yet written: which of the two it finds is free,
and the entry lies beyond the last written head (R394). (DESIGN CHOICE, log 7, DESIGN CHOICE, log 39.) -/
def State.strayEntry (s : State) (u : Nat) : State :=
  match (s.unit u).waiting with
  | [] => s
  | c :: _ =>
    let (v, s) := s.fresh
    if s.cqFull u ∨ v % 2 = 0 then s
    else s.emit (.hostMem
      (s.entryAddr .hostQpCqBaseLo .hostQpCqBaseHi u (s.rf .hostQpCqHead u 15 0) (s.ring .hostQpCqSize u) 32)
      (c.words.flatMap fun w => leBytes 4 w.toNat))

/-- A reset of the PCIe function (R348, R391). (DEDUCED, log 29, DEDUCED, log 40.) -/
def State.resetFunction (s : State) (cause : FnReset) : State :=
  let s := (List.range 17).foldl (·.strayEntry) s
  let s := (List.range 17).foldl (fun s u => if s.unitOn u then s.stopUnit u else s) s
  let s := s.coldRegs ringRegs
  let s := { s with host := { s.host with
    gen := s.host.gen + 1, units := List.replicate 17 {}, turn := 15, td := none, msix := [], pend := 0, d3hot := false, pci := {} } }
  let s := s.orReg .hostLinkStat 0 (2 ^ 30)
  if cause = .linkDown ∨ cause = .perst then s.setReg .hostLinkStat 0 (Word.ofNat (2 ^ 30)) else s

end Sys2Proof.Machine
end

