-- ==== Sys2Proof/Machine/Registers.lean ====
section
/-! DEFINITION. Register accesses (chapters 1, 12 and 19): the block, view and register that an address names (R4, R498 to
R502), what a read returns, and what a write through any view does (R3 to R9, R19, R26, R354 to R359). -/

namespace Sys2Proof.Machine

/-! ### Addresses -/

/-- The four views of a block (R4). -/
inductive View
  | normal | set | clr | tgl
  deriving DecidableEq, Repr

/-- The view at an offset within a block's 256 KiB (R4). -/
def viewAt (o : Nat) : View :=
  if o < 0x10000 then .normal else if o < 0x20000 then .set else if o < 0x30000 then .clr else .tgl

/-- The number of a view: its offset over 64 KiB. -/
def View.no : View → Nat
  | .normal => 0 | .set => 1 | .clr => 2 | .tgl => 3

/-- The block, view and normal-view offset that a BAR0 offset names (R498, R499). -/
def decodeAddr (a : Nat) : Option (Blk × View × Nat) :=
  if a < 0x340000 then
    (Blk.ofNo (a / 0x40000)).map fun b => (b, viewAt (a % 0x40000), a % 0x10000)
  else if 0x400000 ≤ a ∧ a < 0x800000 then
    let r := (a - 0x400000) % 0x80000
    if r < 0x40000 then some (.plat ((a - 0x400000) / 0x80000), viewAt r, a % 0x10000) else none
  else if 0x800000 ≤ a ∧ a < 0x840000 then some (.perf, viewAt (a % 0x40000), a % 0x10000)
  else none

/-- The layout row of a block in which an offset lies, with the index in that row. -/
def rowAt (off : Nat) : List MapRow → Option (MapRow × Nat)
  | [] => none
  | r :: rs => match r.index off with | some i => some (r, i) | none => rowAt off rs

/-- The common registers of R355. -/
def commonAt (b : Blk) (off : Nat) : Option (RegId × Nat) :=
  if off = 0xF00 then some (.blkLock, b.no)
  else if off = 0xF04 then some (.blkIllegal, b.no)
  else if off = 0xF08 then some (.blkIllegalLast, b.no)
  else none

/-- The unit of a block whose registers a Platform's set, or the SCH window's port, selects. -/
def State.unitOf (s : State) (b : Blk) (r : MapRow) : Nat :=
  match b with
  | .plat p => p
  | _ => if r.win then s.rf .schSel 0 25 16 else 0

/-- The register at an offset of a block's normal view, with its member and whether the SCH window shows it (R231, R355,
R502). -/
def State.regAt (s : State) (b : Blk) (off : Nat) : Option (RegId × Nat × Bool) :=
  match commonAt b off with
  | some (id, i) => some (id, i, false)
  | none => (rowAt off b.rows).map fun (r, i) => (r.id, s.unitOf b r * r.count + i, r.win)

/-- SCH_SEL names no port (R231). -/
def State.noPort (s : State) : Bool := decide (551 < s.rf .schSel 0 25 16)

/-! ### Reads -/

/-- What a register reads, with the bit of GLB_COMMIT_STAT that compares staged and committed values. -/
def State.word (s : State) (src : Src) (id : RegId) (i : Nat) : Word :=
  let w := s.readReg src id i
  if id = .glbCommitStat then setBitW w 30 (!s.stagedGroups.isEmpty) else w

/-- The word of an MSI-X table entry; the vector control word is 1, masked, when cold. -/
def State.msixWord (s : State) (k : Nat) : Word := Store.get (if k % 4 = 3 then 1 else 0) s.host.msix k

/-- A word of the MSI-X table or of the pending-bit array (R346, R500). -/
def State.msixRead (s : State) (a : Nat) : Word :=
  if 0x3F00000 ≤ a ∧ a < 0x3F00400 then s.msixWord ((a - 0x3F00000) / 4)
  else if a = 0x3F01000 then Word.ofNat s.host.pend
  else if a = 0x3F01004 then Word.ofNat (s.host.pend / 2 ^ 32)
  else 0

/-- The registers that the always-on domain keeps (R400). (DEDUCED, log 52.) -/
def alwaysOn (b : Blk) (id : RegId) : Bool := b = .ao || id.aocMask ≠ 0

/-- A read of a word of BAR0 (R3, R347, R350, R400, R471). (DEDUCED, log 24.) -/
def State.busRead (s : State) (src : Src) (a : Nat) : Word :=
  if a % 4 ≠ 0 ∨ ¬ s.powered ∨ ¬ s.reaches src then 0
  else
    match decodeAddr a with
    | none => if src = .pcie ∧ ¬ s.halted then s.msixRead a else 0
    | some (b, _, off) =>
      match s.regAt b off with
      | none => 0
      | some (id, i, win) =>
        if s.halted ∧ b ≠ .saf ∧ b ≠ .boot then 0
        else if ¬ s.halted ∧ ¬ s.committed ∧ b ≠ .boot ∧ ¬ alwaysOn b id then coldWord id i &&& ~~~(Word.ofNat id.woMask)
        else if win ∧ s.noPort then 0
        else s.word src id i

/-! ### Writes: the bits a write may change -/

/-- The bits of a register that a write may change (R5, R7, R8): status fields of the always-on copies are the
machine's own. -/
def RegId.writable (id : RegId) : Nat :=
  let aoc := if id = .aoPlatStat ∨ id = .aoChipStat then 0 else id.aocMask
  id.rwMask ||| id.woMask ||| id.rwlMask ||| aoc

/-- The same for an agent: firmware sets and clears TIME_TB_STAT.LOCKED as its servo locks (R295). (DEDUCED, log 43.) -/
def RegId.writableBy (id : RegId) (src : Src) : Nat :=
  if id = .timeTbStat ∧ src = .firmware then id.writable ||| 0x40000000 else id.writable

/-- What a write of `v` makes of the value `cur` (R4); a WO field counts as reading 0 (R354). (DEDUCED, log 25.) -/
def View.apply (w : View) (cur v : Word) : Word :=
  match w with
  | .normal => v
  | .set => cur ||| v
  | .clr => cur &&& ~~~v
  | .tgl => cur ^^^ v

/-- The bits that a write names: all of them in the normal view, those of `v` in the others (R5). (DEDUCED, log 25.) -/
def View.touched (w : View) (v : Word) : Word := match w with | .normal => Word.ofNat 0xFFFFFFFF | _ => v

/-- One register access as the block sees it: where, by whom, the bits it names, and the register's new value. -/
structure Access where
  src : Src
  blk : Blk
  off : Nat
  view : View
  id : RegId
  i : Nat
  /-- Writable bits that the access names. -/
  mask : Word
  /-- The value of the register after the write; WO bits as written. -/
  new : Word
  deriving DecidableEq, Repr

/-- The access names bit `b`. (DEDUCED, log 25.) -/
def Access.names (x : Access) (b : Nat) : Bool := bitW x.mask b

/-- An illegal sequence of an access, counted in its block. -/
def Access.bad (x : Access) (s : State) (cause : Nat) : State := s.illegal x.blk x.off x.src cause

/-- The bits that a register stores: not the WO bits, and not those that the machine's state shows. -/
def RegId.stored (id : RegId) : Nat :=
  match id with
  | .tblClaim => 0
  | .schAdmDecl => 0
  | .psfWinCtrl => id.writable &&& 0xFFFF
  | _ => id.writable &&& (0xFFFFFFFF - id.woMask)

/-- What a register stores after an access: the access's value in the bits it names. -/
def Access.value (x : Access) (s : State) : Word :=
  let m := x.mask &&& Word.ofNat x.id.stored
  (s.reg x.id x.i &&& ~~~m) ||| (x.new &&& m)

/-- The access's value stored in the bits it names; nothing where it names no stored bit. -/
def Access.store (x : Access) (s : State) : State :=
  if x.mask &&& Word.ofNat x.id.stored = 0 then s else s.setReg x.id x.i (x.value s)

/-! ### Writes that act -/

/-- A write of BLK_LOCK, judged by the locks of `held` (R356). -/
def Access.lock (x : Access) (held s : State) : State :=
  if bitW (held.reg .blkLock x.i) 31 ∧ ¬ bitW x.new 31 then x.bad s 1 else x.store s

/-- A write of a consumer index beside its producer's: `m` is the modulus of both, RD lies in bits [hi:0], WR in
bits [whi:16] (R167, R229, R309). (DEDUCED, log 26.) -/
def Access.ring (x : Access) (s : State) (m hi whi : Nat) : State :=
  let old := s.reg x.id x.i
  let rd := fld old hi 0
  let ahead := (fld old whi 16 + m - rd) % m < (fld x.new hi 0 + m - rd) % m
  if ahead then x.bad s 8 else x.store s

/-- A write of GLB_COMMIT (R21). -/
def Access.commit (x : Access) (s : State) : State :=
  if bitW x.new 31 then s.requestCommit x.src (bitW x.new 30) (fld x.new 14 12) (fld x.new 11 0) else s

/-- A write of PLAT_CNT_SNAP (R63): the counters of the local port copied, BUSY set. -/
def Access.cntSnap (x : Access) (s : State) : State :=
  if ¬ bitW x.new 31 then x.store s
  else if (s.plat x.i).snapBusy then x.bad s 2
  else
    let port := fld (x.value s) 5 0
    let s := x.store s
    let s := (List.range 64).foldl
      (fun s k => { s with snap := Store.set 0 s.snap (x.i * 64 + k) (s.counter .plat (x.i * 64 + port) k) }) s
    s.modPlat x.i fun p => { p with snapPort := port, snapBusy := true }

/-- A write of TBL_FLUSH (R128). -/
def Access.flush (x : Access) (s : State) : State :=
  if bitW x.new 31 then (if s.tbl.flushBusy then x.bad s 2 else x.store (s.startFlush (x.value s))) else x.store s

/-- A write to a register of a classifier bank (R104, R105). A write of CLS_BANK_GEN that names READY leaves READY as written,
also where it changes GEN_ID; every other write of the bank ends READY. (DEDUCED, log 27.) -/
def Access.bank (x : Access) (s : State) (b : Nat) : State :=
  if s.resident b then x.bad s 9
  else if x.id = .clsBankGen ∧ x.names 31 then x.store s
  else (x.store s).clearReady b

/-- A write of PSF_WIN_CTRL (R165). -/
def Access.windows (x : Access) (s : State) : State :=
  let s := x.store s
  let s := if x.names 30 then s.setTest (bitW x.new 30) else s
  if bitW x.new 31 then s.openRecovery else s

/-- A write of SCH_ADM_DECL: one word of the staged declaration that SCH_ADM_SEL names (R242, R244); a commit accepted
with PROVED covers it. (DEDUCED, log 30.) -/
def Access.decl (x : Access) (s : State) : State :=
  if s.commit.busy ∧ s.commit.proved then x.bad s 3
  else
    let k := s.rf .schAdmSel 0 13 0 * 8 + x.i
    ({ s with adm := { s.adm with decl := Store.set 0 s.adm.decl k x.new } }).admTouched

/-- One COMMIT or RELEASE bit of REC_WIN_CTRL (R341). -/
def Access.window (x : Access) (s : State) (b : Nat) : State :=
  if ¬ bitW x.new b then s
  else if (s.win (b % 4)).state ≠ 3 then x.bad s 11
  else if b < 4 then s.startCommit b
  else (s.setWin (b - 4) {}).restall

/-- A write of REC_WIN_CTRL: the COMMIT bits, then the RELEASE bits. (DEDUCED, log 26.) -/
def Access.winCtrl (x : Access) (s : State) : State := (List.range 8).foldl x.window s

/-- A write of TIME_TB_STAT: RESTORED, and LOCKED where firmware writes it, which holds the base syntonised (R295). -/
def Access.tbStat (x : Access) (s : State) : State :=
  let s := x.store s
  if x.names 30 then
    let t : State := { s with time := { s.time with locked := s.time.locked.set x.i (bitW x.new 30) } }
    if bitW x.new 30 then t.syntonised x.i else t
  else s

/-- A write of TM_POOL_LOW: it holds the lowest free count since (R205). -/
def Access.poolLow (x : Access) (s : State) : State :=
  let s := x.store s
  s.setRf .tmPoolLow 0 19 0 (min (s.rf .tmPoolLow 0 19 0) s.sharedFree)

/-- A unit's shape may not change: it is enabled or has work in flight (R372). -/
def State.unitFixed (s : State) (u : Nat) : Bool := s.unitOn u || !s.unitIdle u

/-- A write of HOST_QP_CTRL or HOST_TD_CTRL: PLATFORM under R372, the other fields, then EN. (DEDUCED, log 26.) -/
def Access.unitCtrl (x : Access) (s : State) (u : Nat) : State :=
  let plat := Word.ofNat 0x38000000
  let fixed := s.unitFixed u && u < 16 && (x.mask &&& plat) ≠ 0
  let s := if fixed then x.bad s 11 else s
  let keep := if fixed then x.mask &&& ~~~plat else x.mask
  let s := ({ x with mask := setBitW keep 31 false }).store s
  if ¬ x.names 31 then s
  else if bitW x.new 31 then s.enableUnit x.src u
  else if s.unitOn u then s.stopUnit u
  else s

/-- A write to a unit's BASE, SIZE or WB (R372). -/
def Access.unitShape (x : Access) (s : State) : State := if s.unitFixed x.i then x.bad s 11 else x.store s

/-- A write to an always-on register: the agent reads its own write (R357). (DEDUCED, log 52.) -/
def Access.alwaysOn (x : Access) (s : State) : State :=
  let s := x.store s
  let k := regKey x.id x.i
  { s with ao := { s.ao with wrote := Store.set 0 s.ao.wrote k (Store.get 0 s.ao.wrote k ||| 2 ^ srcNo x.src) } }

/-- A write to a word of counter `k` of Platform `p` (R364). -/
def Access.perfWord (x : Access) (s : State) (p k : Nat) : State :=
  let s := s.perfUndo p k
  Access.store { x with new := if x.view = View.tgl then s.fullReg x.id x.i ^^^ x.mask else x.new } s

/-- A write that has passed the lock and the commit groups does what its register's chapter says. -/
def Access.act (x : Access) (s : State) : State :=
  let go := bitW x.new 31
  match x.id with
  | .blkLock => x.lock s s
  | .glbCommit => x.commit s
  | .safWdog => s.kickWdog x.src
  | .safInject => if go then s.inject x.src (fld x.new 30 27) (fld x.new 2 0) else s
  | .timeCmd => if go then s.timeCommand x.src (fld x.new 30 28) (fld x.new 26 24) else s
  | .timeCmdDataLo | .timeCmdDataHi => if s.time.cmd.isSome then x.bad s 2 else x.store s
  | .timeTbStat => x.tbStat s
  | .tmPoolLow => x.poolLow s
  | .timeSnap => if go then s.snapGo x.src else s
  | .tblClaim => s.setClaims (fld x.new 21 0)
  | .tblCmd => if go then s.startTblCmd x.src (fld x.new 30 28) (fld x.new 24 20) (fld x.new 19 0) else s
  | .tblCmdData => if s.tbl.cmd.isSome then x.bad s 2 else x.store s
  | .tblFlush => x.flush s
  | .clsGenCtrl => if go then s.requestSwap x.src (bitW x.new 30) (fld x.new 14 12) else s
  | .clsGenSwapAt => if s.cls.swap then x.bad s 2 else x.store s
  | .clsTreeRoot | .clsTreeCfg => x.bank s (x.i / 16)
  | .clsBankGen | .clsBankAct => x.bank s x.i
  | .psfWinCtrl => x.windows s
  | .psfHalfIdx | .redEvtIdx => x.ring s 128 6 22
  | .schSmpIdx => x.ring s 4096 11 27
  | .platTxtsIdx => x.ring s 64 5 21
  | .redTwinCtrl => if go then s.resetPartner x.src else s
  | .schAdmCtrl => if go then s.admStart x.src else s
  | .schAdmDecl => x.decl s
  | .recTrigCtrl => if go then s.trigger 1 s.fs else s
  | .recWinCtrl => x.winCtrl s
  | .platCntSnap => x.cntSnap s
  | .platPerfCycLo | .platPerfCycHi => x.perfWord s x.i 8
  | .platPerfCntLo | .platPerfCntHi => x.perfWord s (x.i / 8) (x.i % 8)
  | .hostQpCtrl => x.unitCtrl s x.i
  | .hostTdCtrl => x.unitCtrl s 16
  | .hostQpTxBaseLo | .hostQpTxBaseHi | .hostQpTxSize | .hostQpRxBaseLo | .hostQpRxBaseHi | .hostQpRxSize
  | .hostQpCqBaseLo | .hostQpCqBaseHi | .hostQpCqSize | .hostQpCqWbLo | .hostQpCqWbHi => x.unitShape s
  | .hostTxDb => s.txDoorbell x.src x.i (fld x.new 15 0)
  | .hostRxDb => s.rxDoorbell x.src x.i (fld x.new 15 0)
  | .hostCqDb => s.cqDoorbell x.src x.i (fld x.new 15 0)
  | id => if id.aocMask ≠ 0 then x.alwaysOn s else x.store s

/-- The locked bits that an access names, by the locks of `held`, are ignored and counted (R8, R356). -/
def Access.unlocked (x : Access) (held s : State) : Access × State :=
  let m := x.mask &&& Word.ofNat x.id.rwlMask
  if bitW (held.reg .blkLock x.blk.no) 31 ∧ m ≠ 0 then ({ x with mask := x.mask &&& ~~~m }, x.bad s 1) else (x, s)

/-- A write to a register of a commit group (R19, R26); PROVED clears where admission binds the group (R244). -/
def Access.grouped (x : Access) (s : State) (g : Nat) : State :=
  if s.coveredGroup g then x.bad s 3
  else
    let t := x.act s
    if s.admBound g ∨ t.admBound g then t.admTouched else t

/-- The access that a write through a view makes of a register's value now. (DEDUCED, log 24.) -/
def State.access (s : State) (src : Src) (b : Blk) (off : Nat) (view : View) (id : RegId) (i : Nat) (v : Word) :
    Access :=
  { src := src, blk := b, off := off, view := view, id := id, i := i
    mask := view.touched v &&& Word.ofNat (id.writableBy src)
    new := view.apply (s.fullReg id i) v }

/-- A write to a register: nothing where it names no writable bit, else under the lock and the groups. A write of SAF_WDOG
acts whatever its value. -/
def Access.run (x : Access) (s : State) : State :=
  let (x, s) := x.unlocked s s
  if x.mask = 0 ∧ x.id ≠ .safWdog then s
  else
    match groupOf x.id x.i with
    | some g => x.grouped s g
    | none => x.act s

/-! ### Interrupt sources -/

/-- The status and enable registers of a vector's source, with their member (R351). -/
def vectorRegs (v : Nat) : Option (RegId × RegId × Nat) :=
  match v with
  | 0 => some (.glbIllegalSum, .glbIllegalEn, 0)
  | 1 => some (.safIntStat, .safIntEn, 0)
  | 2 => some (.aoIntStat, .aoIntEn, 0)
  | 3 => some (.bootIntStat, .bootIntEn, 0)
  | 4 => some (.timeIntStat, .timeIntEn, 0)
  | 5 => some (.hostIntStat, .hostIntEn, 0)
  | 6 => some (.tblIntStat, .tblIntEn, 0)
  | 7 => some (.clsIntStat, .clsIntEn, 0)
  | 8 => some (.psfIntStat, .psfIntEn, 0)
  | 9 => some (.redIntStat, .redIntEn, 0)
  | 10 => some (.tmIntStat, .tmIntEn, 0)
  | 11 => some (.schIntStat, .schIntEn, 0)
  | 12 => some (.recIntStat, .recIntEn, 0)
  | 13 => some (.perfIntStat, .perfIntEn, 0)
  | n =>
    if 16 ≤ n ∧ n < 24 then some (.platIntStat, .platIntEn, n - 16)
    else if 24 ≤ n ∧ n < 32 then some (.platPerfOvf, .platPerfOvfEn, n - 24)
    else if 32 ≤ n ∧ n ≤ 48 then some (.hostQpIntStat, .hostQpIntEn, n - 32)
    else none

/-- A vector's source is active (R351, R388); none is while the switch is halted or in reset (R471). (DEDUCED, log 28.) -/
def State.active (s : State) (v : Nat) : Bool :=
  match vectorRegs v with
  | none => false
  | some (st, en, i) => s.awake && (s.fullReg st i &&& s.fullReg en i) ≠ 0

/-! ### The bus -/

/-- A write to the MSI-X table (R352): unmasking a vector sends its pending message where its source is still active, and clears
the pending bit. (DEDUCED, log 28.) -/
def State.msixWrite (s : State) (a : Nat) (v : Word) : State :=
  if 0x3F00000 ≤ a ∧ a < 0x3F00400 then
    let k := (a - 0x3F00000) / 4
    let v := if k % 4 = 3 then v &&& 1 else if k % 4 = 0 then v &&& 0xFFFFFFFC else v
    let s := { s with host := { s.host with msix := Store.set (if k % 4 = 3 then 1 else 0) s.host.msix k v } }
    if k % 4 = 3 ∧ v = 0 ∧ bitOf s.host.pend (k / 4) then
      let t := { s with host := { s.host with pend := s.host.pend ^^^ 2 ^ (k / 4) } }
      if s.active (k / 4) then t.emit (.msix (k / 4)) else t
    else s
  else s

/-- A write of a word of BAR0 by an agent (R3, R347, R400, R471). -/
def State.busWrite (s : State) (src : Src) (a : Nat) (v : Word) : State :=
  if a % 4 ≠ 0 ∨ ¬ s.awake ∨ ¬ s.reaches src then s
  else
    match decodeAddr a with
    | none => if src = .pcie then s.msixWrite a v else s
    | some (b, view, off) =>
      match s.regAt b off with
      | none => s
      | some (id, i, win) =>
        if ¬ s.committed ∧ src ≠ .firmware ∧ b ≠ .boot then s.illegal b off src 11
        else if win ∧ s.noPort then s.illegal b off src 11
        else (s.access src b off view id i v).run s

/-- The BAR0 offset of a register in a view of its block. -/
def regAddr (b : Blk) (view : View) (off : Nat) : Nat := b.base + view.no * 0x10000 + off

end Sys2Proof.Machine
end

