-- ==== Sys2Proof/Machine/HostPort.lean ====
section
/-! DEFINITION. What the host reaches beside single registers: PCIe requests (R347), the user window (R360 to R362, R501), the
SPI target (R349), the interrupt vectors (R351 to R353), and what every command ends with: interrupt messages and the pins
that follow the state. -/

namespace Sys2Proof.Machine

/-! ### Interrupts -/

/-- The vector of whose source a register is (R352): its status and enable registers and those whose bits they gather. (DEDUCED,
log 28.) -/
def sourceOf (id : RegId) (i : Nat) : Option Nat :=
  match id with
  | .glbIllegalSum | .glbIllegalEn => some 0
  | .safIntStat | .safIntEn | .safCntHalf => some 1
  | .aoIntStat | .aoIntEn | .aoCntHalf => some 2
  | .bootIntStat | .bootIntEn => some 3
  | .timeIntStat | .timeIntEn | .timeCntHalf | .platTxtsIdx => some 4
  | .hostIntStat | .hostIntEn | .hostLinkStat | .hostQpCntHalf => some 5
  | .tblIntStat | .tblIntEn | .tblCntHalf => some 6
  | .clsIntStat | .clsIntEn | .clsCntHalf => some 7
  | .psfIntStat | .psfIntEn | .psfCntHalf | .psfHalfIdx => some 8
  | .redIntStat | .redIntEn | .redCntHalf | .redEvtIdx => some 9
  | .tmIntStat | .tmIntEn | .tmCntHalf | .tmPortCntHalf => some 10
  | .schIntStat | .schIntEn | .schCntHalf | .schSmpIdx | .schTtChg => some 11
  | .recIntStat | .recIntEn | .recCntHalf => some 12
  | .platIntStat | .platIntEn => some (16 + i)
  | .platLinkChg | .platTxstartChg => some (16 + i / 2)
  | .platCntHalf => some (16 + i / 128)
  | .platPerfOvf | .platPerfOvfEn => some (24 + i)
  | .hostQpIntStat | .hostQpIntEn => some (32 + i)
  | _ => none

/-- A vector's message, or its pending bit while it is masked (R352). -/
def State.sendVector (s : State) (v : Nat) : State :=
  if s.msixWord (v * 4 + 3) = 0 then s.emit (.msix v)
  else { s with host := { s.host with pend := s.host.pend ||| 2 ^ v } }

/-- The pending bit of a vector whose source has stopped being active cleared (R352). -/
def State.dropPending (s : State) (v : Nat) : State :=
  if bitOf s.host.pend v then { s with host := { s.host with pend := s.host.pend ^^^ 2 ^ v } } else s

/-- A write through the CLR view to a register of a source that stays active sends its message again (R352). (DEDUCED, log 28.) -/
def State.again (s0 s : State) (a : Nat) : State :=
  match decodeAddr a with
  | some (b, .clr, off) =>
    match (s0.regAt b off).bind fun (id, i, _) => sourceOf id i with
    | some v => if s0.active v && s.active v then s.sendVector v else s
    | none => s
  | _ => s

/-- A write of a word of BAR0 with the message that R352 sends again. -/
def State.bus (s : State) (src : Src) (a : Nat) (v : Word) : State := s.again (s.busWrite src a v) a

/-! ### Pins and the end of a command -/

/-- INT_N is asserted (R353); it is released until the end of Init (R399). -/
def State.intN (s : State) : Bool := s.phase ≠ 0 && s.rb .hostIntnEn 0 0 && (List.range 49).any s.active

/-- FAULT_N is asserted: in reset, before the end of Init, and while halted (R399, R470). -/
def State.faultN (s : State) : Bool := !s.powered || s.phase = 0 || s.halted

/-- SP_PERST_N is asserted: from a reset to the end of Init, and while halted (R485). -/
def State.spPerst (s : State) : Bool := !s.powered || s.phase = 0 || s.halted

/-- A pin that follows the state changes: active-low pins stand low while asserted. -/
def State.pinChange (s : State) (name : String) (before after : Bool) : State :=
  if before = after then s else s.emit (.pin name !after)

/-- The messages of the sources that have become active since `s0`, and no pending bit where a source is not active
(R352). -/
def State.vectors (s s0 : State) : State :=
  (List.range 64).foldl
    (fun t v => if s.active v then (if s0.active v then t else t.sendVector v) else t.dropPending v) s

/-- The capture state as MRAM holds it. -/
def State.captRec (s : State) : CaptRec :=
  let c := s.capt
  { bsn := c.bsn, wr := c.wr, head := c.head, openLen := c.openLen, wins := c.wins, nextId := c.nextId, nvmeWr := c.nvmeWr }

/-- The update state as MRAM holds it. -/
def State.updRec (s : State) : UpdRec :=
  let u := s.upd
  { stat := s.reg .bootUpdStat 0, pkg := s.reg .bootUpdPkg 0, pkgBytes := u.pkgBytes, bitmap := u.bitmap, sources := u.sources
    floor := u.floor }

/-- Records that have changed since `s0` are written to the slot that held the older contents, so that what `s0` held is now the
older (R410). (DESIGN CHOICE, log 51.) -/
def State.keepOlder (s0 s : State) : State :=
  { s with slots :=
    { capt := if s.captRec = s0.captRec then s.slots.capt else s0.captRec
      upd := if s.updRec = s0.updRec then s.slots.upd else s0.updRec } }

/-- What every command ends with: the older slots of MRAM's records, which Restore settles itself; the quiet times, the interrupt
messages, and the pins. -/
def State.fin (s0 s : State) : State :=
  let s := if s0.phase = 2 then s else s0.keepOlder s
  let s := s.watchQuiet
  let s := s.vectors s0
  let s := s.pinChange "INT_N" s0.intN s.intN
  let s := s.pinChange "FAULT_N" s0.faultN s.faultN
  s.pinChange "SP_PERST_N" s0.spPerst s.spPerst

/-! ### Requests -/

/-- The words of an aligned request of 4n bytes up to 64; none for any other request (R347). -/
def requestWords (addr : Nat) (bytes : List Byte) : Option (List Word) :=
  if addr % 4 = 0 ∧ bytes.length % 4 = 0 ∧ 0 < bytes.length ∧ bytes.length ≤ 64 then
    some (wordsOf bytes (bytes.length / 4))
  else none

/-- Word accesses in ascending address order, each with what follows a change of a source before the next one: the state before the
last access and the state after it. -/
def writeEach (f : State → Nat → Word → State) : State → Nat → List Word → State × State
  | s, _, [] => (s, s)
  | s, a, [w] => (s, f s a w)
  | s, a, w :: ws => writeEach f (s.fin (f s a w)) (a + 4) ws

/-! ### The user window -/

/-- A write to a doorbell page (R361, R375). An illegal sequence names the doorbell's offset in the HOST view. -/
def State.pageWrite (s : State) (q off : Nat) (v : Word) : State :=
  if ¬ s.delegated q then s.illegal .host (if off < 12 then 0x8000 + q * 16 + off else off) .pcie 12
  else if off = 0 then s.txDoorbell .pcie q (fld v 15 0)
  else if off = 4 then s.rxDoorbell .pcie q (fld v 15 0)
  else if off = 8 then s.cqDoorbell .pcie q (fld v 15 0)
  else s

/-- A write of a word of BAR2 (R360, R361, R501): a doorbell page takes it; to an offset that a performance page names, it is
counted while the page is closed (R359). (DEDUCED, log 27, DEDUCED, log 29.) -/
def State.userWrite (s : State) (a : Nat) (v : Word) : State :=
  if ¬ s.awake ∨ ¬ s.reaches .pcie ∨ s.host.d3hot ∨ a % 4 ≠ 0 then s
  else if a < 0x100000 then s.pageWrite (a / 0x10000) (a % 0x10000) v
  else if a < 0x180000 ∧ a % 0x10000 < 0x70 ∧ ¬ s.rb .perfUserEn 0 ((a - 0x100000) / 0x10000) then
    s.illegal .host (a % 0x10000) .pcie 12
  else s

/-- A word of a performance page (R366). -/
def State.perfPage (s : State) (p off : Nat) : Word :=
  if ¬ s.rb .perfUserEn 0 p then 0
  else if off = 0 then s.reg .platPerfCycLo p
  else if off = 4 then s.reg .platPerfCycHi p
  else if off < 0x48 then
    let n := (off - 8) / 8
    if off % 8 = 0 then s.reg .platPerfCntLo (p * 8 + n) else s.reg .platPerfCntHi (p * 8 + n)
  else if off < 0x68 then s.reg .platPerfEvsel (p * 8 + (off - 0x48) / 4)
  else if off = 0x68 then s.reg .platPerfCtrl p
  else if off = 0x6C then s.reg .platPerfOvf p
  else 0

/-- A read of a word of BAR2 (R360 to R362, R501). (DEDUCED, log 29.) -/
def State.userRead (s : State) (a : Nat) : Word :=
  if ¬ s.awake ∨ ¬ s.reaches .pcie ∨ s.host.d3hot ∨ a % 4 ≠ 0 then 0
  else if a < 0x100000 then
    let q := a / 0x10000
    if ¬ s.delegated q then 0
    else if a % 0x10000 = 0 then s.reg .hostTxDb q
    else if a % 0x10000 = 4 then s.reg .hostRxDb q
    else if a % 0x10000 = 8 then s.reg .hostCqDb q
    else 0
  else if a < 0x180000 then s.perfPage ((a - 0x100000) / 0x10000) (a % 0x10000)
  else if 0x200000 ≤ a ∧ a < 0x201000 then (s.time.page[(a - 0x200000) / 4]?).getD 0
  else 0

/-- A PCIe request that completes as Unsupported Request: beyond the BAR's size, or to BAR2 in D3hot (R347). A function in reset
completes none (R497). -/
def State.unsupported (s : State) (bar : Bar) (addr n : Nat) : Bool :=
  s.reaches .pcie && match bar with
    | .bar0 => decide (0x4000000 < addr + n)
    | .bar2 => decide (0x400000 < addr + n) || s.host.d3hot

/-- A write request to a window (R347): only PCIe reaches the user window (R350). The states before and after its last access. -/
def State.request (s : State) (src : Src) (bar : Bar) (addr : Nat) (bytes : List Byte) : State × State :=
  if src = .pcie ∧ s.unsupported bar addr bytes.length then
    (s, if s.powered then s.emit (.unsupported bar addr) else s)
  else
    match requestWords addr bytes with
    | none => (s, s)
    | some ws =>
      match bar with
      | .bar0 => if addr < 0x4000000 then writeEach (·.bus src) s addr ws else (s, s)
      | .bar2 => if src = .pcie then writeEach (·.userWrite) s addr ws else (s, s)

/-- What a read request of `n` bytes returns (R3, R347): the words of an aligned request of 4n bytes, one word of zeros for any
narrower or misaligned one, none where it completes as Unsupported Request. No row of the table is a read over PCIe. -/
def State.readRequest (s : State) (bar : Bar) (addr n : Nat) : Option (List Word) :=
  if s.unsupported bar addr n then none
  else if addr % 4 = 0 ∧ n % 4 = 0 ∧ 0 < n ∧ n ≤ 64 then
    some ((List.range (n / 4)).map fun i =>
      match bar with
      | .bar0 => s.busRead .pcie (addr + 4 * i)
      | .bar2 => s.userRead (addr + 4 * i))
  else some [0]

/-! ### The configuration space -/

/-- The Device Serial Number (R346). -/
def State.serialNo (s : State) : Nat := s.nodeNo + Config.dieNumber % 2 ^ 48 * 2 ^ 16

/-- The largest payload of a request that the function sends, and the largest read request that it makes, in bytes (R346). -/
def maxPayload : Nat := 512
/-- See `maxPayload`. -/
def maxReadRequest : Nat := 4096

/-- The code that PCIe gives a size of 128 × 2^n bytes. -/
def sizeCode (n : Nat) : Nat := (n / 128).log2

/-- The capabilities of R346 in the function's configuration space, each with its offset, its words after the header: Power
Management, PCI Express with the largest payload and read request and a link of 16.0 GT/s × 4 with ASPM L1, MSI-X with its 64
vectors in BAR0, Advanced Error Reporting and Device Serial Number. (PRESUMED, log 28.) -/
def State.pciCap (s : State) (off : Nat) : Word :=
  if off = 0x40 then Word.ofNat (at_ 0x48 8 + 0x01)
  else if off = 0x48 then Word.ofNat (at_ 2 16 + at_ 0x88 8 + 0x10)
  else if off = 0x4C then Word.ofNat (sizeCode maxPayload)
  else if off = 0x50 then Word.ofNat (at_ (sizeCode maxReadRequest) 12 + at_ (sizeCode maxPayload) 5)
  else if off = 0x54 then Word.ofNat (at_ 2 10 + at_ 4 4 + 4)
  else if off = 0x88 then Word.ofNat (at_ 63 16 + 0x11)
  else if off = 0x8C then Word.ofNat 0x3F00000
  else if off = 0x90 then Word.ofNat 0x3F01000
  else if off = 0x100 then Word.ofNat (at_ 0x148 20 + at_ 2 16 + 0x0001)
  else if off = 0x148 then Word.ofNat (at_ 1 16 + 0x0003)
  else if off = 0x14C then Word.ofNat s.serialNo
  else if off = 0x150 then Word.ofNat (s.serialNo / 2 ^ 32)
  else 0

/-- The words of the function's configuration space that R346 gives: identity, class code, BARs, subsystem identity and, marked in
the status, the capabilities. The places are PCIe's own. (PRESUMED, log 28.) -/
def State.pciHeader (s : State) (off : Nat) : Word :=
  if off = 0x00 then Word.ofNat (at_ 0x6400 16 + Config.pciVendor.toNat)
  else if off = 0x04 then Word.ofNat (at_ 1 20)
  else if off = 0x08 then Word.ofNat (at_ 0x020000 8 + Config.pciRevision.toNat)
  else if off = 0x10 then Word.ofNat (s.host.pci.bar0 / 0x4000000 * 0x4000000 + 4)
  else if off = 0x14 then Word.ofNat (s.host.pci.bar0 / 2 ^ 32)
  else if off = 0x18 then Word.ofNat (s.host.pci.bar2 / 0x400000 * 0x400000 + 4)
  else if off = 0x1C then Word.ofNat (s.host.pci.bar2 / 2 ^ 32)
  else if off = 0x2C then Word.ofNat (at_ s.boot.subsys.2 16 + s.boot.subsys.1)
  else if off = 0x34 then Word.ofNat 0x40
  else s.pciCap off

/-! ### The SPI target -/

/-- The words of an SPI WRITE that are complete, each written in turn (R349). -/
def State.spiWords (s : State) (addr : Nat) (data : List Byte) : State × State :=
  writeEach (·.bus .spi) s addr (wordsOf data (data.length / 4))

/-- An SPI WRITE transaction (R349): the states before and after its last word. -/
def State.spiWrite (s : State) (bytes : List Byte) : State × State :=
  if be bytes 0 1 = 2 ∧ 5 ≤ bytes.length then s.spiWords (be bytes 1 4) (bytes.drop 5) else (s, s)

/-- SPIT_MISO and TDO are driven: from the end of Init on, and while halted (R485). -/
def State.returnsDriven (s : State) : Bool := s.powered && (s.phase ≠ 0 || s.halted)

/-- What an SPI READ transaction of `n` words returns beside its wait bytes: for each word the marker and the word (R349). -/
def State.spiRead (s : State) (bytes : List Byte) (n : Nat) : State :=
  if be bytes 0 1 = 3 ∧ 5 ≤ bytes.length ∧ s.returnsDriven then
    s.emit (.spi ((List.range n).flatMap fun i =>
      0x5A :: leBytes 4 (s.busRead .spi (be bytes 1 4 + 4 * i)).toNat))
  else s

end Sys2Proof.Machine
end

