-- ==== Sys2Proof/Machine/Reset.lean ====
section
/-! DEFINITION. What every switch reset does (R284, R348, R396, R397): every register and memory at its cold value, but for
what MRAM, the flash, the drives, the fuses and the always-on time keep (R300, R410). -/

namespace Sys2Proof.Machine

/-- The registers that a switch reset keeps: those of the durable area (R410, R475), the fuses and DERIVE_BLOCKED in BOOT_SEC_STAT
(R443, R446), whose other fields are cold after it, and the AOC fields of the TIME block (R300). What the generation area holds
stands in its own fields until Restore reads it (R412). -/
def resetKeeps : List RegId :=
  [.safLogIdx, .safLifeHours, .safLifeCycles, .safLifeHalts, .bootRetCfg, .bootUpdStat, .bootUpdPkg, .bootSecStat,
    .timeTbCfg]

/-- The register words that a switch reset keeps. (DEDUCED, log 52.) -/
def State.keptRegs (s : State) : Store Word :=
  s.regs.filter fun (k, _) => resetKeeps.any fun id => k % 1024 = id.ctorIdx

/-- The capture store after a reset: capture memory, the drives and what MRAM holds (R342); the block then open lies in
capture memory, unclosed (R343). -/
def State.keptCapture (s : State) : RecSt :=
  let c := s.capt
  { ring := c.ring, cur := c.cur, wr := c.wr, bsn := c.bsn, head := c.head, nextFlags := c.nextFlags % 2
    openLen := c.openLen, geom := c.geom, wins := c.wins, nextId := c.nextId, nvmeWr := c.nvmeWr, nvme := c.nvme
    nvme2 := c.nvme2 }

/-- The vault without its SRAM: what a reset leaves of it, and what opening debug does (R439, R443). -/
def Vault.sramLost (v : Vault) : Vault := { v with wrapKey := none, imageKey := none, slotKeys := [none, none], signKey := none }

/-- The levels of the pins in reset (R485): outputs that are driven, by name and level. -/
def resetLevels : List (String × Bool) :=
  [("PPS_OUT0", false), ("PPS_OUT1", false), ("PPS_OUT2", false), ("PPS_OUT3", false), ("QSPI_CS_N", true), ("QSPI_CLK", false),
    ("MDC", false)]

/-- The pins that a reset leaves undriven (R485). The pulse on RST_GPIO that resets the switch goes on (R431; DEDUCED, log 50). -/
def resetReleases : List String := ["GPIO", "MDIO", "I2C", "QSPI_IO", "SPIT_MISO", "TDO"]

/-- The pins as a reset leaves them (R485). -/
def State.resetPins (s : State) : State :=
  (resetLevels.foldl (fun s p => s.emit (.pin p.1 p.2)) s).releasePins resetReleases

/-- A switch reset. `twin` says that the partner caused it: RED_TWIN_RESETS.COUNT survives that alone (R284). (DEDUCED, log 50.) -/
def State.resetSwitch (s : State) (twin : Bool) : State :=
  let o := s.resetPins
  let b := s.boot
  let u := s.upd
  let f := s.saf
  let t : State :=
    { pending := s.pending, fs := s.fs, out := o.out, free := s.free, regs := s.keptRegs
      time := { tbs := s.time.tbs, saved := s.time.saved, older := s.time.older }
      capt := s.keptCapture
      slots := s.slots
      red := { count := if twin then s.red.count else 0 }
      boot :=
        { vao := b.vao, pwrgood := b.pwrgood, inReset := b.inReset, riseAt := s.fs
          vaoLost := b.vaoLost && !b.restored, refOff := b.refOff, straps := b.straps
          flash := b.flash, flashBytes := b.flashBytes, areaGen := b.areaGen, durableOk := b.durableOk, olderOk := b.olderOk
          retDigest := b.retDigest, olderCfg := b.olderCfg, kept := b.kept }
      upd :=
        { pkgBytes := u.pkgBytes, bitmap := u.bitmap, sources := u.sources, floor := u.floor, seq := u.seq, rstLow := u.rstLow
          rootIds := u.rootIds, debugId := u.debugId, vault := u.vault.sramLost }
      saf := { log := f.log, seq := f.seq, headers := f.headers, powerUp := f.powerUp, wdogAt := s.fs }
      ao := { wakeNLow := s.ao.wakeNLow, perstLow := s.ao.perstLow } }
  (((t.setRf .bootSecStat 0 31 31 0).setRf .bootSecStat 0 29 28 0).setRf .bootSecStat 0 26 26 0).refreshAoc

/-- The balls sampled at the end of a reset (R397): BOOT_SRC, TWIN_ROLE and NODE_OFS. -/
def State.sampleStraps (s : State) (straps : Nat) : State :=
  let s := { s with boot := { s.boot with straps := straps % 256, riseAt := s.fs } }
  let s := (s.setRf .bootStat 0 25 24 (bits straps 1 0)).setRf .bootNode 0 4 0 (bits straps 2 2 * 16 + bits straps 6 3)
  s.setRf .redTwinStat 0 27 27 (bits straps 2 2)

/-! ### Debug access -/

/-- DERIVE_BLOCKED (R443). -/
def State.deriveBlocked (s : State) : Bool := s.rb .bootSecStat 0 30

/-- Debug opens by a route (R443): 1 strap, 2 unlock. The keys held in clear are zeroed, DERIVE_BLOCKED is set, a record is
written. -/
def State.openDebug (s : State) (by_ : Nat) : State :=
  let s := { s with upd := { s.upd with vault := s.upd.vault.sramLost } }
  let s := s.orReg .bootSecStat 0 (2 ^ 30)
  let s := (List.range 4).foldl (fun s i => s.setReg .bootSecSignid i 0) s
  let s := s.logRecord true 0x0080 (s.logFlags false false) [Word.ofNat by_]
  (s.setRf .bootSecStat 0 29 28 by_).orReg .bootSecStat 0 (2 ^ 31)

/-- DEBUG_POLICY allows a route (R442). -/
def State.debugAllows (s : State) (by_ : Nat) : Bool :=
  let pol := s.rf .bootSecStat 0 25 24
  if by_ = 1 then pol = 0 else decide (pol ≤ 1)

/-- The strap route of R442: DBGEN sampled high with the straps. -/
def State.strapDebug (s : State) : State := if bitOf s.boot.straps 7 ∧ s.debugAllows 1 then s.openDebug 1 else s

/-- The boot begins (R397, R398): the balls are sampled, and debug may open. -/
def State.startBoot (s : State) (straps : Nat) : State := (s.sampleStraps straps).strapDebug

/-- RESET_N rises with the supplies up: the boot begins with Init (R396 to R398). -/
def State.releaseReset (s : State) (straps : Nat) : State :=
  { s with boot := { s.boot with pwrgood := true, inReset := false, waiting := none } }.startBoot straps

/-- A reset that the switch ends itself, by the twin or from the debug port: the balls are sampled again at once (R397).
No command gives their levels at that moment: a free value. (DESIGN CHOICE, log 7, DEDUCED, log 50.) -/
def State.selfReset (s : State) (twin : Bool) : State :=
  let (v, s) := s.fresh
  (s.resetSwitch twin).startBoot (v % 256)

end Sys2Proof.Machine
end

