-- ==== Sys2Proof/Machine/Boot.lean ====
section
/-! DEFINITION. The boot (chapter 14): the flash and its boot records (R401 to R403), the image (R404, R405, R407, R434,
R435), the phases of R398, refusal and fallback (R408), the retained state (R410 to R414, R343) and the boot commit
edge (R406). -/

namespace Sys2Proof.Machine

/-! ### Flash -/

/-- A byte of the flash; an erased byte is 0xFF. -/
def State.flashByte (s : State) (a : Nat) : Byte := Store.get 0xFF s.boot.flash a

/-- `n` bytes of the flash. -/
def State.flashRead (s : State) (a n : Nat) : List Byte := (List.range n).map fun i => s.flashByte (a + i)

/-- The 64 KiB sector at an address erased. -/
def State.flashErase (s : State) (a : Nat) : State :=
  let lo := a / 65536 * 65536
  { s with boot := { s.boot with flash := s.boot.flash.filter fun (k, _) => k < lo || lo + 65536 ≤ k } }

/-- Bytes programmed: a flash cell goes from 1 to 0 only. -/
def State.flashProgram (s : State) : Nat → List Byte → State
  | _, [] => s
  | a, b :: bs =>
    let v := s.flashByte a &&& b
    ({ s with boot := { s.boot with flash := Store.set 0xFF s.boot.flash a v } }).flashProgram (a + 1) bs

/-! ### Boot records -/

/-- A boot record (R402), with the copy it was read from. -/
structure BootRec where
  seq : Nat := 0
  active : Nat := 0
  try_ : Nat := 0
  tries : Nat := 0
  bankSize : Nat := 0
  /-- The copy in use; 1 where neither is good, so that copy 0 is written next. -/
  copy : Nat := 1
  deriving DecidableEq, Repr

/-- The flash offset of a copy of the boot record. -/
def recordAt (copy : Nat) : Nat := copy * 0x10000

/-- A copy of the boot record, if its MAGIC and CRC are good (R402). (DEDUCED, log 50.) -/
def State.bootCopy (s : State) (copy : Nat) : Option BootRec :=
  let b := s.flashRead (recordAt copy) 64
  if le b 0 4 = 0x4B425231 ∧ le b 60 4 = crc32 (b.take 60) then
    some { seq := le b 4 4, active := le b 8 1, try_ := le b 9 1, tries := le b 10 1, bankSize := le b 12 4, copy := copy }
  else none

/-- The boot record in use (R402). -/
def State.bootRecord (s : State) : BootRec :=
  match s.bootCopy 0, s.bootCopy 1 with
  | some a, some b => if a.seq < b.seq then b else a
  | some a, none => a
  | none, some b => b
  | none, none => { bankSize := (s.boot.flashBytes - 1048576) / 2 / 65536 * 65536 }

/-- The first 64 bytes of a boot record's sector. -/
def BootRec.bytes (r : BootRec) : List Byte :=
  let b := leBytes 4 0x4B425231 ++ leBytes 4 r.seq ++ leBytes 1 r.active ++ leBytes 1 r.try_ ++ leBytes 1 r.tries
    ++ [0] ++ leBytes 4 r.bankSize ++ List.replicate 44 0
  b ++ leBytes 4 (crc32 b)

/-- A boot record written to the copy not in use, with SEQ + 1 (R402). (DEDUCED, log 50.) -/
def State.writeBootRec (s : State) (r : BootRec) : State :=
  let copy := 1 - s.bootRecord.copy
  let r := { r with seq := (s.bootRecord.seq + 1) % 2 ^ 32, copy := copy }
  (s.flashErase (recordAt copy)).flashProgram (recordAt copy) r.bytes

/-- The flash offset of a bank (R402). -/
def State.bankBase (s : State) (b : Nat) : Nat := 0x100000 + b * s.bootRecord.bankSize

/-! ### The image header -/

/-- A section entry (R404). -/
structure Sect where
  type : Nat
  off : Nat
  len : Nat
  arg : Nat
  digest : List Byte
  deriving DecidableEq, Repr

/-- The header of the image in a bank. -/
def State.imageHeader (s : State) (b : Nat) : List Byte := s.flashRead (s.bankBase b) 4096

/-- The section entries of a header. -/
def sectionsOf (h : List Byte) : List Sect :=
  (List.range (le h 10 2)).map fun i =>
    let o := 128 + 64 * i
    { type := le h o 2, off := le h (o + 4) 4, len := le h (o + 8) 4, arg := le h (o + 12) 4
      digest := sliceZ h (o + 16) 48 }

/-- How many sections have a type. -/
def countType (l : List Sect) (t : Nat) : Nat := (l.filter (·.type = t)).length

/-- No two sections overlap. -/
def disjoint : List Sect → Bool
  | [] => true
  | x :: xs => (xs.all fun y => decide (x.off + x.len ≤ y.off) || decide (y.off + y.len ≤ x.off)) && disjoint xs

/-- The header passes the conditions of R405 that it can be judged by; the sections' digests are judged in Load. -/
def headerOk (h : List Byte) (bankSize : Nat) : Bool :=
  let l := sectionsOf h
  let bytes := le h 12 4
  le h 0 4 = 0x43485A31 && le h 4 2 = 1 && decide (1 ≤ le h 10 2 ∧ le h 10 2 ≤ 56) && decide (bytes ≤ bankSize)
    && l.all (fun x => decide (4096 ≤ x.off) && x.off % 4096 = 0 && x.len ≠ 0 && decide (x.off + x.len ≤ bytes))
    && disjoint l && countType l 0x10 = 1
    && [0x01, 0x02, 0x03, 0x04, 0x13, 0x15].all fun t => decide (countType l t ≤ 1)

/-- The KEY_ID of a public key: the first 16 bytes of its SHA-384 (R404, R439). -/
def keyId (pub : List Byte) : List Byte := (beBytes 48 (Config.sha384 pub)).take 16

/-- The public key that a header names, where the vault has it and accepts it: its KEY_ID equals a ROOT_ID that is not revoked
(R404, R438, R439). -/
def State.signerOf (s : State) (h : List Byte) : Option (List Byte) :=
  let id := sliceZ h 3712 16
  if (List.range 4).any fun n => (s.upd.rootIds[n]?).getD none = some id && !s.rb .bootSecStat 0 n then
    s.upd.vault.pubs.find? (keyId · = id)
  else none

/-- A header's signature over its bytes 0 to 3,711 verifies under a key that the vault accepts (R404, R405). (DESIGN CHOICE, log
6.) -/
def State.signatureOk (s : State) (h : List Byte) : Bool :=
  match s.signerOf h with
  | some pub => be h 3776 48 = Config.verifiesP384 pub (Config.sha384 (h.take 3712)) (be h 3728 48) % 2 ^ 384
  | none => false

/-- A bank's image passes its check in Identity (R405). -/
def State.bankOk (s : State) (b : Nat) : Bool :=
  s.signatureOk (s.imageHeader b) && headerOk (s.imageHeader b) s.bootRecord.bankSize

/-! ### Decryption -/

/-- The key stream of AES-256 in counter mode, from the counter blocks that a prefix of 12 bytes and the 32-bit block counters from
`first` on form (R439). (DESIGN CHOICE, log 6.) -/
def ctrStream (key pre : List Byte) (first n : Nat) : List Byte :=
  ((List.range (ceilDiv n 16)).flatMap fun i => sliceZ (Config.aes256 key (pre ++ beBytes 4 (first + i))) 0 16).take n

/-- Bytes encrypted or decrypted in counter mode. -/
def ctrCrypt (key pre : List Byte) (first : Nat) (b : List Byte) : List Byte :=
  b.zipWith (· ^^^ ·) (ctrStream key pre first b.length)

/-- The first 12 bytes of the counter blocks of section `i` of an image (R439). (DESIGN CHOICE, log 6.) -/
def sectionPre (gen i : Nat) : List Byte := beBytes 2 gen ++ beBytes 2 i ++ List.replicate 8 0

/-- The decrypted bytes of section `i` of the bank being booted. -/
def State.sectionBytes (s : State) (key : List Byte) (bank i : Nat) (x : Sect) : List Byte :=
  ctrCrypt key (sectionPre (le (s.imageHeader bank) 6 2) i) 0 (s.flashRead (s.bankBase bank + x.off) x.len)

/-! ### Outcomes of a boot -/

/-- BOOT_STAT.PHASE written. -/
def State.setPhase (s : State) (p : Nat) : State := s.setRf .bootStat 0 31 28 p

/-- BOOT_STAT.BOOT_SRC. -/
def State.bootSrc (s : State) : Nat := s.rf .bootStat 0 25 24

/-- The bank being booted (BOOT_STAT.BANK). -/
def State.bank (s : State) : Nat := s.rf .bootStat 0 27 26

/-- A failure of R408: REFUSE holds the first of the boot. -/
def State.refuseBoot (s : State) (code : Nat) : State :=
  let s := s.orReg .bootIntStat 0 4
  if s.rf .bootStat 0 19 16 = 0 then s.setRf .bootStat 0 19 16 code else s

/-- An armed package that a boot has not admitted, with no try left: ARMED becomes COMPLETE (R433). -/
def State.spentArmed (s : State) : State :=
  if s.rf .bootUpdStat 0 31 30 = 3 ∧ s.bootRecord.tries = 0 then s.setRf .bootUpdStat 0 31 30 2 else s

/-- Neither bank passed its check: the record NO_IMAGE, and PHASE 8, with the pins as a halt leaves them (R408, R474, R485). -/
def State.noImage (s : State) : State :=
  let d := s.boot.refused.map Word.ofNat
  let flags := s.logFlags false false
  let s := (s.spentArmed.setPhase 8).setRf .bootStat 0 27 26 3
  let s := (s.setReg .safStat 0 (Word.ofNat (2 ^ 31 + 0x70))).releasePins haltReleases
  (s.logRecord true 0x0070 flags d).orReg .safStat 0 (2 ^ 30)

/-- A bank whose header has passed is booted: its generation, node base and node number hold (R409), and Restore follows. -/
def State.takeBank (s : State) (b : Nat) : State :=
  let h := s.imageHeader b
  let base := le h 8 2
  let node := base + s.rf .bootNode 0 3 0
  let s := (s.setReg .bootImage 0 (Word.ofNat (at_ (le h 6 2) 16 + base))).setRf .bootNode 0 31 16 (node % 65536)
  let s := (s.setRf .bootStat 0 27 26 b).setPhase 2
  let s := { s with boot := { s.boot with
    digest := sliceZ h 32 48, subsys := (le h 16 2, le h 18 2), sects := [], proved := false
    bad := if 0xFFFE < node then 3 else 0 } }
  if 0xFFFE < node then s.refuseBoot 3 else s

/-- A bank fails its check (R405, R408). -/
def State.failBank (s : State) (b : Nat) : State :=
  ({ s with boot := { s.boot with refused := s.boot.refused.set b 1 } }).refuseBoot 1

/-- The banks of a list tried in turn from PHASE 1. -/
def State.tryBanks : List Nat → State → State
  | [], s => s.noImage
  | b :: bs, s => if s.bankOk b then s.takeBank b else tryBanks bs (s.failBank b)

/-- The bank that BOOT_SRC leaves to try after bank `b` (R397, R408). -/
def State.otherBanks (s : State) (b : Nat) : List Nat :=
  if (s.bootSrc = 0 ∨ s.bootSrc = 3) ∧ (s.boot.refused[1 - b]?).getD 0 = 0 then [1 - b] else []

/-- The bank being booted has failed its check in Load: the boot goes back to PHASE 1 for the other bank, where there is one to try
(R408). -/
def State.bankFailed (s : State) : State :=
  let b := s.bank
  let s := s.failBank b
  let l := s.otherBanks b
  let s := { s with boot := { s.boot with trial := false } }.setRf .bootStat 0 23 23 0
  match l with
  | [] => s.noImage
  | o :: _ => ({ s with boot := { s.boot with retry := some o } }.setRf .bootStat 0 22 22 1).setPhase 1

/-! ### Identity -/

/-- The bank that BOOT_SRC and the boot record choose, and whether it is a trial (R397, R403). -/
def State.chooseBank (s : State) : Nat × Bool :=
  let r := s.bootRecord
  if s.bootSrc = 1 then (0, false)
  else if s.bootSrc = 2 then (1, false)
  else if (r.try_ = 1 ∨ r.try_ = 2) ∧ r.tries ≠ 0 then (r.try_ - 1, true)
  else (r.active % 2, false)

/-- Identity of the bank that is tried after the other failed in Load (R408). -/
def State.identifyRetry (s : State) (b : Nat) : State :=
  let s := { s with boot := { s.boot with retry := none } }
  if s.bankOk b then s.takeBank b else (s.failBank b).noImage

/-- Identity of the bank that BOOT_SRC and the boot record choose (R398, R403, R405): a trial uses one try before its bank is
booted. -/
def State.identifyFirst (s : State) : State :=
  let (b, trial) := s.chooseBank
  let s := if trial then s.writeBootRec { s.bootRecord with tries := s.bootRecord.tries - 1 } else s
  if s.bankOk b then
    ({ s with boot := { s.boot with trial := trial } }.setRf .bootStat 0 23 23 (b2n trial)).takeBank b
  else
    let s := s.failBank b
    let l := s.otherBanks b
    State.tryBanks l (if l.isEmpty then s else s.setRf .bootStat 0 22 22 1)

/-- Identity (R398, R403, R405, R408). A flash that gives no SFDP table, or no 1-1-4 read with 4-byte addresses, leaves the switch
in PHASE 8 (R401), with the record that R408 gives that phase (DEDUCED, log 49). -/
def State.bootIdentify (s : State) (flashOk : Bool) : State :=
  if !flashOk then s.noImage else
  match s.boot.retry with
  | some b => s.identifyRetry b
  | none => s.identifyFirst

/-! ### Restore -/

/-- The generation of the image being booted. -/
def State.imageGen (s : State) : Nat := s.rf .bootImage 0 31 16

/-- The generation area is valid for the image being booted (R411). -/
def State.genValid (s : State) : Bool := s.boot.areaGen = some s.imageGen

/-- The records of block bytes: number and MONO_NS of the first and last (R332). -/
def scanRecords : Nat → List Byte → Nat × Nat → Nat × Nat
  | 0, _, acc => acc
  | n + 1, b, (count, last) =>
    if b.isEmpty ∨ le b 0 2 = 0 then (count, last) else scanRecords n (b.drop (le b 0 2)) (count + 1, le b 16 8)

/-- Record bytes hold a trigger marker: a record of TYPE 1 (R331, R332). -/
def holdsMarker : Nat → List Byte → Bool
  | 0, _ => false
  | n + 1, b => !(b.isEmpty || decide (le b 0 2 = 0)) && (decide (le b 4 1 = 1) || holdsMarker n (b.drop (le b 0 2)))

/-- The block open when recording stopped closed at its durable length, with RECOVERED; MARKER as the bytes kept hold one (R331,
R343). -/
def State.recoverBlock (s : State) : State :=
  match s.capt.cur with
  | none => s
  | some (b, since) =>
    if s.capt.openLen ≤ 128 then { s with capt := { s.capt with cur := none, openLen := 0 } }
    else
      let data := b.data.take (s.capt.openLen - 128)
      let (n, last) := scanRecords b.records data (0, 0)
      let marker := if holdsMarker b.records data then 8 else 0
      let b := { b with flags := b.flags % 8 ||| 4 ||| marker, data := data, records := n, last := last }
      let size := fld ((s.capt.geom[2]?).getD 0) 22 0
      ({ s with capt := { s.capt with cur := some (b, since) } }).shutBlock size

/-- Window slots at a boot that finds the ring intact (R343): an open window is sealed at the recovered block. -/
def State.cutWindows (s : State) : State :=
  (List.range 4).foldl (fun s w => if (s.win w).state = 1 then s.endWindow w true else s) s

/-- Window slots at a boot that finds capture memory empty (R343). -/
def State.loseWindows (s : State) : State :=
  let s := (List.range 4).foldl
    (fun s w => if (s.win w).state = 0 then s else (s.setWin w { result := 4 }).count .capt 0 10) s
  { s with capt := { s.capt with
      ring := [], cur := none, openLen := 0, ringLost := true, nextFlags := s.capt.nextFlags ||| 2 } }

/-- The capture ring checked at a boot (R334, R343). Without a valid durable area an epoch begins. How many records the last run
lost after its last closed block is unknown, which the next block to close says in LOST: the recovered one, or the first new one
(R331). -/
def State.restoreCapture (s : State) (ringOk : Bool) : State :=
  let t : State := { s with capt := { s.capt with lostUnknown := true } }
  if ¬ s.boot.durableOk then { s with capt := { nvme := s.capt.nvme, nvme2 := s.capt.nvme2 } }
  else if ringOk ∨ s.capt.bsn = 0 then t.recoverBlock.cutWindows
  else t.loseWindows

/-- The older slot of record `k` is read: its newer slot alone fails (R410). -/
def readsOlder (lost older k : Nat) : Bool := bitOf older k && !bitOf lost k

/-- The areas as Restore finds them (R410, R411): `lost` and `older` as MramCheck has them. MRAM_ERR says that something was
discarded. (DESIGN CHOICE, log 51.) -/
def State.checkAreas (s : State) (lost older : Nat) : State :=
  let s := if readsOlder lost older 8 then { s with boot := { s.boot with durableOk := s.boot.olderOk } } else s
  if lost = 0 then s
  else
    let b := s.boot
    let s := { s with boot := { b with
      kept := (List.range 8).map fun p => if bitOf lost p then [] else (b.kept[p]?).getD []
      durableOk := b.durableOk && !bitOf lost 8
      areaGen := if bitOf lost 9 then none else b.areaGen } }
    s.orReg .bootIntStat 0 8

/-- The retained configuration record is none (R410, R412). -/
def State.dropRetained (s : State) : State :=
  { (s.coldRegs [.bootRetCfg]) with boot := { s.boot with retDigest := [], olderCfg := (0, []) } }

/-- The update state as a record has it (R410, R429). -/
def State.putUpdRec (s : State) (r : UpdRec) : State :=
  { ((s.setReg .bootUpdStat 0 r.stat).setReg .bootUpdPkg 0 r.pkg) with
    upd := { s.upd with pkgBytes := r.pkgBytes, bitmap := r.bitmap, sources := r.sources, floor := r.floor } }

/-- The update state begins anew (R410, R412, R429). -/
def State.dropUpdate (s : State) : State := { s.putUpdRec {} with slots := { s.slots with upd := {} } }

/-- The capture state begins anew: an epoch starts, and only the drives keep their blocks (R334, R410). -/
def State.dropCapture (s : State) : State :=
  { s with capt := { nvme := s.capt.nvme, nvme2 := s.capt.nvme2 }, slots := { s.slots with capt := {} } }

/-- The capture state as a record has it (R342, R410): of the blocks in capture memory, those that it counts as closed, and the one
that it has open. (DESIGN CHOICE, log 51.) -/
def State.putCaptRec (s : State) (r : CaptRec) : State :=
  let c := s.capt
  let cur := match c.cur with
    | some (b, t) => if b.bsn = r.bsn then some (b, t) else none
    | none => none
  let shut := (c.ring.find? fun x => x.2.bsn = r.bsn).map fun x => (x.2, 0)
  { s with capt := { c with
    bsn := r.bsn, wr := r.wr, head := r.head, openLen := r.openLen, wins := r.wins, nextId := r.nextId, nvmeWr := r.nvmeWr
    ring := c.ring.filter fun x => x.2.bsn < r.bsn, cur := cur.orElse fun _ => shut } }

/-- The records of MRAM (R410): one that fails its check in every slot is discarded for itself, and of one whose newer slot alone
fails the older is read. (DESIGN CHOICE, log 51.) -/
def State.dropRecords (s : State) (lost older : Nat) : State :=
  let s := if bitOf lost 10 then s.dropRetained
    else if readsOlder lost older 10 then
      { s.setReg .bootRetCfg 0 s.boot.olderCfg.1 with boot := { s.boot with retDigest := s.boot.olderCfg.2 } }
    else s
  let s := if bitOf lost 11 then s.dropUpdate else if readsOlder lost older 11 then s.putUpdRec s.slots.upd else s
  let s := if bitOf lost 12 then s.dropCapture else if readsOlder lost older 12 then s.putCaptRec s.slots.capt else s
  let s := if readsOlder lost older 13 then { s with time := { s.time with saved := s.time.older } } else s
  if bitOf lost 14 then { s with red := { s.red with count := 0 } } else s

/-- Every record discarded counts and is logged (R464, R472); which unit failed first is free. (DESIGN CHOICE, log 7.) -/
def State.countLost (s : State) (lost : Nat) : State :=
  (List.range 15).foldl
    (fun s k =>
      if bitOf lost k then
        let (v, s) := s.fresh
        s.mramLost (v % 65536)
      else s) s

/-- The durable area begun anew where it is not valid: the fault log, the retained configuration, the update state and the count of
partner resets start empty (R284, R411, R412), and this power-up is the first counted. (DESIGN CHOICE, log 51.) -/
def State.newDurable (s : State) : State :=
  let s := (s.dropRetained.dropUpdate).coldRegs [.safLogIdx, .safLifeHours, .safLifeCycles, .safLifeHalts]
  let s := { s with saf := { s.saf with log := [], seq := 0, headers := 0 }, red := { s.red with count := 0 } }
  (s.setReg .safLifeCycles 0 1).writeLogHeader

/-- Restore (R398): the areas and records checked, the retained fields of the generation area (R412), the time bases after a loss of
VAO (R301), and the capture ring. -/
def State.restore (s : State) (found : MramCheck) : State :=
  let s := (s.checkAreas found.lost found.older).dropRecords found.lost found.older
  let read := s
  let s := if s.boot.durableOk then s else s.newDurable
  let s := s.countLost found.lost
  let times := s.genValid && !bitOf found.lost 13
  let s := s.showSaved (if times then s.time.saved else {})
  let s := if s.boot.vaoLost then s.restoreTime times else s
  let s := { s with boot := { s.boot with restored := true } }.restoreCapture found.ringOk
  let s := s.setReg .bootRet 0 (Word.ofNat
    (at_ (b2n s.boot.durableOk) 31 + at_ (b2n s.genValid) 30 + s.boot.areaGen.getD 0))
  (read.keepOlder s).setPhase 3

/-! ### Load -/

/-- The version of the part of a type among sections; 0 where it is absent (R435). -/
def partVersion (l : List (Nat × Nat × List Byte)) (t : Nat) : Nat :=
  match l.find? (·.1 = t) with | some (_, v, _) => v | none => 0

/-- A part's header agrees with its section entry, and the parts of the other types lie in its windows (R434, R435). -/
def partOk (l : List (Nat × Nat × List Byte)) (t arg : Nat) (d : List Byte) : Bool :=
  le d 0 4 = 0x4B505254 && le d 4 2 = t && le d 8 4 = arg
    && [1, 2, 3, 4].all fun u =>
      u = t || (decide (le d (16 + 8 * u) 4 ≤ partVersion l u) && decide (partVersion l u ≤ le d (20 + 8 * u) 4))

/-- The sections of an image decrypted, in table order; none where the bytes of one do not match its DIGEST (R405). -/
def State.openSections (s : State) (key : List Byte) (bank : Nat) : List Sect → Nat → Option (List (Nat × Nat × List Byte))
  | [], _ => some []
  | x :: xs, i =>
    let d := s.sectionBytes key bank i x
    if beBytes 48 (Config.sha384 d) = x.digest then (s.openSections key bank xs (i + 1)).map ((x.type, x.arg, d) :: ·) else none

/-- The sections of the image being booted, decrypted with the image key and checked (R405): none without the key (R444). -/
def State.openImage (s : State) : Option (List (Nat × Nat × List Byte)) :=
  s.upd.vault.imageKey.bind fun key => s.openSections key s.bank (sectionsOf (s.imageHeader s.bank)) 0

/-- The records of a Registers section: address and value. -/
def regRecords (d : List Byte) : List (Nat × Word) :=
  (List.range (d.length / 8)).map fun i => (le d (8 * i) 4, Word.ofNat (le d (8 * i + 4) 4))

/-- A Registers record is malformed (R407). -/
def recordBad (a : Nat) : Bool :=
  a % 4 ≠ 0 || decide (0x4000000 ≤ a) || (decide (0x3F00000 ≤ a ∧ a < 0x3F00400)) || a = 0x3F01000 || a = 0x3F01004
    || (match decodeAddr a with | some (_, v, _) => v ≠ .normal | none => false)

/-- A Modes section is malformed (R407). -/
def modesBad (d : List Byte) : Bool :=
  let w := Word.ofNat (le d 0 4)
  fld w 17 16 = 3 || fld w 9 8 = 3 || bitW w 12 || (w &&& ~~~(Word.ofNat RegId.glbMode.roMask)) ≠ 0

/-- Entries of a Table section. -/
def tableEntries (arg : Nat) (d : List Byte) : Nat := d.length / (4 * tblWords (arg % 32))

/-- A Table section is malformed in a table profile (R407). -/
def tableBad (prof arg : Nat) (d : List Byte) : Bool :=
  let t := arg % 32
  tblCapacity prof t = 0 || t = 0x18 || t = 0x19
    || decide (tblCapacity prof t < bits arg 31 8 + ceilDiv d.length (4 * tblWords t))

/-- The word of the Modes section. -/
def modesWord (l : List (Nat × Nat × List Byte)) : Word :=
  match l.find? (·.1 = 0x10) with | some (_, _, d) => Word.ofNat (le d 0 4) | none => 0

/-- A section of the configuration is malformed (R407). -/
def sectionBad (l : List (Nat × Nat × List Byte)) (x : Nat × Nat × List Byte) : Bool :=
  let (t, arg, d) := x
  if t = 0x10 then modesBad d
  else if t = 0x11 then (regRecords d).any fun r => recordBad r.1
  else if t = 0x12 then tableBad (fld (modesWord l) 1 0) arg d
  else false

/-- Part sections before others in the order in which they are applied: ORDER of their headers, then TYPE (R434, R436). -/
def partBefore (x y : Nat × Nat × List Byte) : Bool :=
  decide (le x.2.2 6 2 < le y.2.2 6 2 ∨ (le x.2.2 6 2 = le y.2.2 6 2 ∧ x.1 ≤ y.1))

/-- A part put into its place among parts in order. -/
def insertPart (x : Nat × Nat × List Byte) : List (Nat × Nat × List Byte) → List (Nat × Nat × List Byte)
  | [] => [x]
  | y :: r => if partBefore x y then x :: y :: r else y :: insertPart x r

/-- The part sections of an image in the order in which they are applied (R436). -/
def partOrder (l : List (Nat × Nat × List Byte)) : List (Nat × Nat × List Byte) :=
  (l.filter fun x => decide (1 ≤ x.1 ∧ x.1 ≤ 4)).foldr insertPart []

/-- A part applied: loaded into its engine and started; the switch firmware gives the twin's protocol version and window (R436). -/
def State.applyPart (s : State) (x : Nat × Nat × List Byte) : State :=
  let (t, _, d) := x
  let s := { s with boot := { s.boot with engines := s.boot.engines ++ [t] } }
  if t = 1 then { s with red := { s.red with protoVer := le d 12 2, winMin := le d 14 2, winMax := le d 16 2 } } else s

/-- The parts applied in order, up to the first whose engine fails its start-up self-check; the flag says that one did (R436). -/
def State.applyParts (s : State) (bad : Option Nat) : List (Nat × Nat × List Byte) → State × Bool
  | [] => (s, false)
  | x :: r => if bad = some x.1 then (s.applyPart x, true) else (s.applyPart x).applyParts bad r

/-- Load (R398, R405, R407, R435, R436, R444). (DEDUCED, log 48.) -/
def State.load (s : State) (badEngine : Option Nat) : State :=
  match s.openImage with
  | none => s.bankFailed
  | some l =>
    if ¬ l.all (fun (t, arg, d) => t = 0 || decide (4 < t) || partOk l t arg d) then s.bankFailed
    else
      let bad := l.any (sectionBad l)
      let (s, failed) := { s with boot := { s.boot with engines := [] } }.applyParts badEngine (partOrder l)
      if failed then s.bankFailed
      else
        let s := s.setPhase 4
        let s := { s with boot := { s.boot with
          sects := l, bad := if s.boot.bad = 0 && bad then 2 else s.boot.bad } }
        if bad then s.refuseBoot 2 else s

/-! ### The staged configuration -/

/-- A Registers record acts (R407), bits of RO, WO and reserved fields apart. The locks that hold are those of `held`, before the
image: a lock that an agent has set already shuts RWL fields to the image too (R8, R356), and a lock that the image sets shuts
none to it. (DEDUCED, log 48.) -/
def State.imageWrite (held s : State) (a : Nat) (v : Word) : State :=
  if recordBad a then s
  else
    match decodeAddr a with
    | none => s
    | some (b, view, off) =>
      match s.regAt b off with
      | none => s
      | some (id, i, win) =>
        if win ∧ s.noPort then s.illegal b off .firmware 11
        else
          let wo := Word.ofNat id.woMask
          let x := s.access .firmware b off view id i (v &&& ~~~wo)
          let x := { x with mask := x.mask &&& Word.ofNat id.writable &&& ~~~wo }
          let (x, s) := x.unlocked held s
          if x.mask = (0 : Word) then s
          else if id = .blkLock then x.lock held s
          else x.act s

/-- The sections of one type applied in table order. -/
def State.eachSection (s : State) (t : Nat) (f : State → Nat → List Byte → State) : State :=
  s.boot.sects.foldl (fun s (ty, arg, d) => if ty = t then f s arg d else s) s

/-- A learned address restored with AGE MAX_AGE − 1, unless its key is present (R130, R406). -/
def State.restoreAddr (s : State) (p : Nat) (k : KeptAddr) : State :=
  if (s.lookup p k.key).isSome then s
  else
    match s.freeSlot p k.key with
    | none => s
    | some i =>
      let age := s.rf .tblAge 0 18 16 - 1
      s.setTabs p i 0 [Word.ofNat (k.key.headD 0), Word.ofNat ((k.key[1]?).getD 0),
        Word.ofNat (2 ^ 31 + at_ age 24 + k.dest), 0]

/-- The learned addresses of every Platform restored where the generation area is valid. -/
def State.restoreAddrs (s : State) : State :=
  if s.genValid then
    (List.range 8).foldl (fun s p => ((s.boot.kept[p]?).getD []).foldl (fun s k => s.restoreAddr p k) s) s
  else s

/-- Tree memory of a bank from byte 0. -/
def State.fillTree (s : State) (bank : Nat) (d : List Byte) : State :=
  let n := min (d.length / 4) (s.bankBytes / 4)
  (List.range n).foldl (fun s i => s.setTree bank i (Word.ofNat (le d (4 * i) 4))) s

/-- Stream declarations of 32 bytes, index 0 first. -/
def State.fillDecls (s : State) (d : List Byte) : State :=
  let n := min (d.length / 4) (16384 * 8)
  { s with adm := { s.adm with
      decl := (List.range n).foldl (fun m k => Store.set 0 m k (Word.ofNat (le d (4 * k) 4))) s.adm.decl } }

/-- The staged configuration in place, in the order of R406. Nothing of it acts before the boot commit edge. (DEDUCED, log 48.) -/
def State.install (held : State) : State :=
  let s := held.setReg .glbMode 0 (modesWord held.boot.sects)
  let s := s.eachSection 0x11 fun s _ d => (regRecords d).foldl (fun s r => State.imageWrite held s r.1 r.2) s
  let s := s.eachSection 0x12 fun s arg d =>
    if tableBad s.tblProfile arg d then s else s.putEntries (arg % 32) (tableEntries arg d) (bits arg 31 8) d
  let s := s.eachSection 0x13 fun s _ d => s.fillTree 0 d
  let s := s.restoreAddrs
  s.eachSection 0x14 fun s _ d => s.fillDecls d

/-- Apply completes (R398): the learned addresses are in place. -/
def State.applyImage (s : State) : State :=
  let some_ := s.genValid && s.boot.kept.any (!·.isEmpty)
  (if some_ then s.orReg .bootRet 0 (2 ^ 28) else s).setPhase 5

/-! ### The boot commit edge -/

/-- 16-bit numbers of a section. -/
def halfWords (d : List Byte) : List Nat := (List.range (d.length / 2)).map fun i => le d (2 * i) 2

/-- The numbers of every section of a type. -/
def State.sectionNumbers (s : State) (t : Nat) : List Nat :=
  s.boot.sects.flatMap fun (ty, _, d) => if ty = t then halfWords d else []

/-- Platforms without lanes go to Off at the boot commit edge (R449). (DEDUCED, log 50.) -/
def State.platformsOff (s : State) : State :=
  (List.range 8).foldl
    (fun s p =>
      let off := s.cfg.lanesOff p
      s.modPlat p fun x => { x with power := if off then .off else .run, pwrSince := s.fs }) s

/-- ARMED becomes IDLE at the edge of an admitted trial, COMPLETE where the boot does not admit it and finds no try left
(R433). (DEDUCED, log 50.) -/
def State.settleArmed (s : State) : State :=
  if s.rf .bootUpdStat 0 31 30 = 3 ∧ s.boot.trial then s.setRf .bootUpdStat 0 31 30 0 else s.spentArmed

/-- The staged ring is the one in capture memory: it goes on, with its windows (R343). (DEDUCED, log 46.) -/
def State.ringKept (s : State) : Bool :=
  s.capt.geom = [s.reg .recRingBaseLo 0, s.reg .recRingBaseHi 0, s.reg .recRingBlocks 0]

/-- What every boot commit edge does, holding or not: the store header is valid from now on (log 51); the groups' values, bank 0's
READY (R110), the start-up window (R165), aging, the twin state (R269) and the times (R415). -/
def State.bootEdge (s : State) (gs : List Nat) (ph : Nat) : State :=
  let intact := s.ringKept
  let kept := s.capt
  let s := s.applyGroups gs
  let s := (if intact then { s with capt := kept }.restall else s).autoCommit
  let s := (s.setRf .clsBankGen 0 31 31 1).setRf .clsBankGen 1 31 31 0
  let s := { s with
    tbl := { s.tbl with lastSweep := s.fs }
    boot := { s.boot with vaoLost := false, proved := false, olderOk := s.boot.durableOk, durableOk := true } }
  let s := s.orReg .bootRet 0 (2 ^ 31)
  let s := s.platformsOff.openStartup
  let s := if s.pairedCfg then s.setTwin 1 else s
  let s := (s.setRf .glbCommitStat 0 11 0 0xFFF).setReg .glbCommitEdge 0 (Word.ofNat (s.tbNow32 0))
  let s := (s.setPhase ph).setReg .bootTCommit 0 (Word.ofNat ((s.fs - s.boot.riseAt) / fsPerMs))
  let s := (List.range 12).foldl (fun s i => s.setReg .bootCfgDigest i (Word.ofNat (bytesWord s.boot.digest i))) s
  let s := { s with boot := { s.boot with mgmtPorts := s.sectionNumbers 0x15 } }
  s.settleArmed.orReg .bootIntStat 0 1

/-- Locks sections take effect (R406): a number that names no block is ignored. -/
def State.setLocks (s : State) : State :=
  (s.sectionNumbers 0x16).foldl
    (fun s n => if (Blk.ofNo n).isSome then s.orReg .blkLock n (2 ^ 31) else s) s

/-- The generation area invalidated for another image's records (R413). -/
def State.claimArea (s : State) : State :=
  if s.genValid then s
  else
    let s := { s with
      boot := { s.boot with areaGen := some s.imageGen, kept := List.replicate 8 [] }
      time := { s.time with saved := {}, older := {} } }
    (s.orReg .bootRet 0 (2 ^ 30 + 2 ^ 29)).setRf .bootRet 0 15 0 s.imageGen

/-- The retained configuration record written (R414). -/
def State.retainConfig (s : State) : State :=
  let s := { s with boot := { s.boot with olderCfg := (s.reg .bootRetCfg 0, s.boot.retDigest), retDigest := s.boot.digest } }
  s.setReg .bootRetCfg 0 (Word.ofNat (at_ s.imageGen 16 + at_ s.bank 14 + 1))

/-- The REVOKE bits that the firmware-configuration sections of an admitted image ask for, once PROV_LOCK is blown (R440). (DESIGN
CHOICE, log 22.) -/
def State.firmwareRevokes (s : State) : State :=
  if s.rb .bootSecStat 0 27 then
    s.eachSection 0x17 fun s _ d => s.setRf .bootSecStat 0 3 0 (s.rf .bootSecStat 0 3 0 ||| Config.revokeAsked d % 16)
  else s

/-- What the edge of an admitted boot that is no fallback writes (R403, R413, R414). -/
def State.admitted (s : State) : State :=
  let s := if s.boot.trial then s.writeBootRec { s.bootRecord with active := s.bank, try_ := 0 } else s
  s.claimArea.retainConfig

/-! ### Refused configurations -/

/-- The registers of the holding configuration (R242): lane modes, station filters and, for each management port, ENABLE.
(DEDUCED, log 49.) -/
def State.holdingRegs (s : State) (t : State) : State :=
  let copy (s : State) (id : RegId) (n : Nat) : State := (List.range n).foldl (fun s i => s.setReg id i (t.reg id i)) s
  let s := copy (copy (copy s .platLaneMode 64) .platStaLo 128) .platStaHi 128
  (s.sectionNumbers 0x15).foldl (fun s n => if n < 512 then s.orReg .platPortCtrl n (2 ^ 31) else s) s

/-- The holding configuration (R242): of the groups it stages, those that pass their checks. (DEDUCED, log 49.) -/
def State.enterHolding (s : State) : State :=
  let s := { s with boot := { s.boot with trial := false } }
  let s := s.holdingRegs s.install
  let gs := s.stagedGroups
  let m := s.afterCommit gs
  let s := (s.bootEdge (gs.filter (s.groupOk m ·)) 7).orReg .bootStat 0 (2 ^ 20)
  s.orReg .schAdmStat 0 (2 ^ 28)

/-- The retained configuration lies in the other bank and can be loaded (R408, R414). (DEDUCED, log 49.) -/
def State.retainedBank (s : State) : Option Nat :=
  let r := s.reg .bootRetCfg 0
  let b := fld r 15 14
  let h := s.imageHeader b
  if bitW r 0 ∧ s.boot.durableOk ∧ ¬ s.boot.fallback ∧ b ≠ s.bank ∧ s.bootSrc = 0 ∧ (s.boot.refused[b]?).getD 0 = 0
      ∧ s.bankOk b ∧ le h 6 2 = fld r 31 16 ∧ sliceZ h 32 48 = s.boot.retDigest then some b
  else none

/-- A refused configuration: the retained one runs instead, or the holding configuration (R241, R408). (DEDUCED, log 49.) -/
def State.refuseConfig (s : State) : State :=
  match s.retainedBank with
  | some b =>
    let s := { s with boot := { s.boot with fallback := true, trial := false } }
    let s := ((s.setRf .bootStat 0 23 23 0).setRf .bootStat 0 21 21 1).orReg .schAdmStat 0 (2 ^ 29)
    s.takeBank b
  | none => s.enterHolding

/-- Admission at boot (R241): the check on the staged configuration. A fallback's report leaves the refused report where it
is. (DEDUCED, log 48.) -/
def State.bootAdmit (s : State) : State :=
  if s.bootSrc = 3 then s.enterHolding
  else if s.boot.bad ≠ 0 then s.refuseConfig
  else
    let t := s.install
    let ls := t.admRun
    let r := t.admFinish
    let ok := ls.all (·.reason = 0)
    let rpt := if s.boot.fallback && ok then (s.setReport 0 t.asStaged ls).adm.rpt else r.adm.rpt
    let stat := (r.reg .schAdmStat 0 &&& Word.ofNat 0x0C0F3FFF) ||| (s.reg .schAdmStat 0 &&& Word.ofNat 0x30000000)
    let s := { s with adm := { s.adm with rpt := rpt } }.setReg .schAdmStat 0 stat
    if ok then { s with boot := { s.boot with proved := true } } else (s.refuseBoot 5).refuseConfig

/-- The boot commit edge (R406): every group with staged changes, its checks, and what follows the edge. (DEDUCED, log 48.) -/
def State.bootCommit (s : State) : State :=
  let t := s.install
  let gs := t.stagedGroups
  let judge := if t.ringKept then { t with capt := { t.capt with wins := List.replicate 4 {} } } else t
  match judge.failing gs true with
  | some g => (((s.refuseCommit .firmware g).refuseBoot 4)).refuseConfig
  | none =>
    let t := (t.bootEdge gs 6).setLocks
    let t := t.admitStaged
    let t := (if t.boot.fallback then t else t.admitted).firmwareRevokes
    { t with boot := { t.boot with trial := false } }

end Sys2Proof.Machine
end

