-- ==== Sys2Proof/Machine/Update.lean ====
section
/-! DEFINITION. In-band update and device security (chapter 15): which Flalith frames are accepted and relayed (R418 to R423),
the messages (R424 to R426), storing and arming a package (R427 to R433, R437), key rolls and provisioning (R440, R441), and
debug access (R442, R443). -/

namespace Sys2Proof.Machine

/-! ### Acceptance -/

/-- The Flalith group address (R418). -/
def flaGroup : Nat := 0x0300000088B5

/-- The 24 header bytes of a Flalith frame, most significant byte first (R419). -/
def flaBytes (h : FlaHdr) : List Byte :=
  beBytes 1 h.ver ++ beBytes 1 h.type ++ beBytes 1 h.hops ++ beBytes 1 h.slot ++ beBytes 2 h.dst ++ beBytes 2 h.src
    ++ beBytes 8 h.seq ++ beBytes 2 h.len ++ List.replicate 6 0

/-- The nonce of a Flalith frame (R420). -/
def flaNonce (h : FlaHdr) : List Byte := beBytes 2 h.src ++ beBytes 1 h.slot ++ [0] ++ beBytes 8 h.seq

/-- A payload encrypted under a key with AES-256-GCM (R420): counter mode from the nonce on, whose block 1 the tag takes. (DESIGN
CHOICE, log 6.) -/
def flaSeal (h : FlaHdr) (key payload : List Byte) : List Byte := ctrCrypt key (flaNonce h) 2 payload

/-- The GCM tag of a frame's ciphertext under a key, with HOPS taken as 0 (R420). -/
def flaTag (h : FlaHdr) (key cipher : List Byte) : Nat :=
  Config.gcmTag key (flaNonce h) (flaBytes { h with hops := 0 }) cipher

/-- The transport key of a slot, as the vault holds it in clear (R438). -/
def State.slotKey (s : State) (slot : Nat) : Option (List Byte) := (s.upd.vault.slotKeys[slot]?).getD none

/-- The ciphertext of a frame whose payload is this, under the key of its slot. -/
def State.flaCipher (s : State) (h : FlaHdr) (payload : List Byte) : List Byte :=
  flaSeal h ((s.slotKey h.slot).getD []) payload

/-- The station entry that brings a frame to firmware (R45, R418). What firmware sends over the Coupler comes to Platform 0 (R279),
whose entries for every port apply to it. (DESIGN CHOICE, log 20.) -/
def State.flaStation (s : State) (h : FlaHdr) : Option (Nat × Nat) :=
  if h.port = 520 then s.cfg.stationIn 0 none h.da else s.cfg.station h.port h.da

/-- A frame is Flalith: it reaches the management complex through a station entry, whose TARGET is 0, and carries the EtherType of
BOOT_FLA_CFG (R45, R418). -/
def State.isFlalith (s : State) (h : FlaHdr) : Bool :=
  h.etype = s.rf .bootFlaCfg 0 31 16 && (s.flaStation h).any (·.2 = 0)

/-- A frame with this payload passes R419 and R420. (DESIGN CHOICE, log 20.) -/
def State.flaAuth (s : State) (h : FlaHdr) (payload : List Byte) : Bool :=
  h.ver = 1 && flaTypes.contains h.type && h.len = payload.length && decide (h.len ≤ 4112) && match s.slotKey h.slot with
    | some k => h.tag = flaTag h k (flaSeal h k payload)
    | none => false

/-- A frame's SEQ is new (R421). (DESIGN CHOICE, log 20.) -/
def State.flaFresh (s : State) (h : FlaHdr) : Bool :=
  match s.upd.sources.find? (·.1 = h.src) with
  | some (_, q) => decide (q < h.seq)
  | none => decide (s.upd.floor < h.seq)

/-- The SEQ of an accepted frame recorded; a full table loses the source least recently accepted (R421). -/
def State.flaRecord (s : State) (h : FlaHdr) : State :=
  let u := s.upd
  let l := u.sources.filter (·.1 ≠ h.src)
  let full := decide (4096 ≤ l.length)
  let floor := if full then max u.floor ((l.head?.map (·.2)).getD 0) else u.floor
  { s with upd := { u with sources := (if full then l.drop 1 else l) ++ [(h.src, h.seq)], floor := floor } }

/-- The second of R423 brought up to date. (DESIGN CHOICE, log 20.) -/
def State.flaSecond (s : State) : State :=
  if s.upd.rateAt + 1000 * fsPerMs ≤ s.fs then { s with upd := { s.upd with rateAt := s.fs, rate := 0 } } else s

/-- A frame is sent on the other management ports, with one relay fewer and otherwise as it is (R422). (DESIGN CHOICE, log 20.) -/
def State.flaRelay (s : State) (h : FlaHdr) (payload : List Byte) : State :=
  if h.da = flaGroup ∧ 1 ≤ h.hops ∧ h.dst ≠ s.node then
    let ports := s.boot.mgmtPorts.filter (· ≠ h.port)
    let s := ports.foldl (fun s p => s.emit (.flalith { h with port := p, hops := h.hops - 1 } (s.flaCipher h payload))) s
    if ports.isEmpty then s else s.count .fla 0 4
  else s

/-- A Flalith frame reaches firmware (R418 to R423): dropped and counted, or accepted, relayed, and, where it is addressed to this
node, acted on. (DESIGN CHOICE, log 20.) -/
def State.flalith (s : State) (h : FlaHdr) (payload : List Byte) (act : State → State) : State :=
  if ¬ s.isFlalith h then s
  else if ¬ s.flaAuth h payload then s.count .fla 0 1
  else if ¬ s.flaFresh h then s.count .fla 0 2
  else
    let s := s.flaSecond
    if 20000 ≤ s.upd.rate then s.count .fla 0 3
    else
      let s := (s.flaRecord h).count .fla 0 0
      let s := { s with upd := { s.upd with rate := s.upd.rate + 1 } }
      let s := s.flaRelay h payload
      if h.dst = s.node ∨ h.dst = 0xFFFF then act s else s

/-- The payload of a reply: the request's SEQ, STATUS, three zero bytes, and the data (R424). -/
def replyPayload (h : FlaHdr) (status : Nat) (data : List Byte) : List Byte :=
  beBytes 8 h.seq ++ beBytes 1 status ++ [0, 0, 0] ++ data

/-- The frame of a reply to `h` under the switch's SEQ `q` (R418, R419, R421, R422, R424, R441): to the request's source on the
port it came from, from the current key slot. (DESIGN CHOICE, log 20.) -/
def State.replyFrame (s : State) (h : FlaHdr) (q : Nat) (payload : List Byte) : FlaHdr :=
  let slot := s.rf .bootSecStat 0 26 26
  let r : FlaHdr :=
    { port := h.port, da := h.sa, sa := h.da, vlan := h.vlan, etype := s.rf .bootFlaCfg 0 31 16, ver := 1, type := h.type + 0x80
      hops := if h.sa = flaGroup then s.rf .bootFlaCfg 0 3 0 else 0, slot := slot, dst := h.src, src := s.node, seq := q
      len := payload.length, tag := 0 }
  { r with tag := flaTag r ((s.slotKey slot).getD []) (s.flaCipher r payload) }

/-- A reply: STATUS and data to the sender, under the switch's next SEQ (R421, R424); firmware sends from management ports alone
(R418). -/
def State.reply (s : State) (h : FlaHdr) (status : Nat) (data : List Byte) : State :=
  if ¬ s.boot.mgmtPorts.contains h.port then s
  else
    let q := s.upd.seq + 1
    let s := { s with upd := { s.upd with seq := q } }
    let payload := replyPayload h status data
    let r := s.replyFrame h q payload
    s.emit (.flalith r (s.flaCipher r payload))

/-! ### Register access and reports -/

/-- A READ request (R424). (DESIGN CHOICE, log 19.) -/
def State.flaRead (s : State) (h : FlaHdr) (addrs : List Nat) : State :=
  if 512 < addrs.length then s.reply h 2 []
  else s.reply h 0 (addrs.flatMap fun a => beBytes 4 (s.busRead .firmware a).toNat)

/-- A WRITE record's access was counted as an illegal sequence of its block (R358). -/
def State.countsIllegal (s : State) (a : Nat) (v : Word) : Bool :=
  match decodeAddr a with
  | none => false
  | some (b, _, off) =>
    off ≠ 0xF04 && ((s.setReg .blkIllegal b.no 0).busWrite .firmware a v).reg .blkIllegal b.no ≠ 0

/-- The records of a WRITE request in order, each with what follows a change of a source before the next one, and how many were
ignored as illegal sequences. (DESIGN CHOICE, log 19.) -/
def State.flaWrites (s : State) : List (Nat × Word) → Nat → State × Nat
  | [], n => (s, n)
  | (a, v) :: r, n =>
    let t := s.bus .firmware a v
    (if r.isEmpty then t else s.fin t).flaWrites r (n + b2n (s.countsIllegal a v))

/-- A WRITE request (R424). -/
def State.flaWrite (s : State) (h : FlaHdr) (writes : List (Nat × Word)) : State :=
  if 512 < writes.length then s.reply h 2 []
  else
    let (s, n) := s.flaWrites writes 0
    s.reply h 0 (beBytes 4 n)

/-- The state before the last record of a WRITE request of several. -/
def State.beforeLast (s : State) (writes : List (Nat × Word)) : State :=
  if 512 < writes.length then s else (s.flaWrites writes.dropLast 0).1

/-- The bytes of a word in a report. (DESIGN CHOICE, log 19.) -/
def wordBytes (w : Word) : List Byte := leBytes 4 w.toNat

/-- The BOOT registers in order of their offsets. -/
def State.bootWords (s : State) : List (List Byte) :=
  rowsBoot.flatMap fun r => (List.range r.count).map fun i => wordBytes (s.fullReg r.id i)

/-- The window slots, then the headers of the committed windows. -/
def State.windowItems (s : State) : List (List Byte) :=
  (List.range 4).map (fun w =>
      wordBytes (s.fullReg .recWinStat w) ++ wordBytes (s.fullReg .recWinId w) ++ wordBytes (s.fullReg .recWinBsn w)
        ++ wordBytes (s.fullReg .recWinBlocks w))
    ++ (s.capt.nvme.filter fun (_, b) => le b 0 4 = 0x4B435731).map fun (_, b) => b.take 240

/-- The items of a report (R424); none for a number that names no report. (DESIGN CHOICE, log 19.) -/
def State.reportItems (s : State) (n : Nat) : Option (List (List Byte)) :=
  if n = 1 then some s.bootWords
  else if n = 2 then some [(List.range 8).flatMap fun w => wordBytes (s.fullReg .schAdmRpt w)]
  else if n = 3 then some (s.red.peer.map wordBytes)
  else if n = 4 then some ((List.range 256).map fun u => sliceZ (Store.get [] s.saf.log u) 0 64)
  else if n = 5 then some s.windowItems
  else if n = 6 then some [(s.upd.vault.signKey.map Config.publicP384).getD []]
  else none

/-- A REPORT request (R424). -/
def State.flaReport (s : State) (h : FlaHdr) (n first : Nat) : State :=
  match s.reportItems n with
  | some l => s.reply h 0 ((l.drop first).flatten.take 4096)
  | none => s.reply h 2 []

/-- Block `k` of 4,096 bytes of a window as it lies, or will lie, on the drive (R341). (DESIGN CHOICE, log 19.) -/
def State.windowBlock (s : State) (id k : Nat) : Option (List Byte) :=
  let held := (List.range 4).find? fun w => ((s.win w).state = 3 ∨ (s.win w).state = 4) ∧ (s.win w).id = id
  match held with
  | some w =>
    let x := s.win w
    let img := sliceZ x.sealed 0 4096
      ++ (s.blocksOf x).flatMap fun b => sliceZ (b.header ++ b.data) 0 (4096 * b.lbas)
    slice? img (4096 * k) 4096
  | none =>
    match s.capt.nvme.find? fun (_, b) => le b 0 4 = 0x4B435731 && le b 12 4 = id with
    | some (lba, b) =>
      if k = 0 then some b
      else (s.capt.nvme.find? (·.1 = lba + k)).map (·.2)
    | none => none

/-- A WINDOW_READ request (R424). -/
def State.flaWindow (s : State) (h : FlaHdr) (id k : Nat) : State :=
  match s.windowBlock id k with
  | some b => s.reply h 0 b
  | none => s.reply h 2 []

/-! ### Update packages -/

/-- BOOT_UPD_STAT.STATE: 0 IDLE, 1 RECEIVING, 2 COMPLETE, 3 ARMED. -/
def State.updState (s : State) : Nat := s.rf .bootUpdStat 0 31 30

/-- BOOT_UPD_STAT.STATE written. -/
def State.setUpd (s : State) (st : Nat) : State := s.setRf .bootUpdStat 0 31 30 st

/-- The package's identifier. -/
def State.pkgId (s : State) : Nat := (s.reg .bootUpdPkg 0).toNat

/-- Pieces of the package. -/
def State.pieces (s : State) : Nat := ceilDiv s.upd.pkgBytes 4096

/-- The bank that BOOT_STAT.BANK does not name. -/
def State.inactiveBank (s : State) : Nat := 1 - s.bank

/-- The inactive bank may not be written (R426). -/
def State.fixedBank (s : State) : Bool :=
  s.bootSrc = 1 || s.bootSrc = 2 || (s.rb .bootRetCfg 0 0 && s.rf .bootRetCfg 0 15 14 = s.inactiveBank)

/-- The boot record with TRY 0, where the state is ARMED (R427, R432). -/
def State.disarm (s : State) : State := if s.updState = 3 then s.writeBootRec { s.bootRecord with try_ := 0 } else s

/-- The piece bitmap cleared. -/
def State.clearPieces (s : State) : State :=
  { s with upd := { s.upd with bitmap := 0 } }.setRf .bootUpdStat 0 15 0 0

/-- An UPD_BEGIN request (R427). -/
def State.updBegin (s : State) (h : FlaHdr) (pkg bytes : Nat) : State :=
  if bytes = 0 ∨ s.bootRecord.bankSize < bytes then s.reply h 2 []
  else if s.fixedBank then s.reply h 5 []
  else if (s.updState = 1 ∨ s.updState = 2) ∧ s.pkgId = pkg ∧ s.upd.pkgBytes = bytes then s.reply h 0 []
  else
    let s := s.disarm.clearPieces
    let s := ({ s with upd := { s.upd with pkgBytes := bytes } }.setReg .bootUpdPkg 0 (Word.ofNat pkg)).setUpd 1
    s.reply h 0 []

/-- A piece's 64 KiB sector is erased before its first piece is written (R428). -/
def State.freshSector (s : State) (base i : Nat) : State :=
  if (s.upd.bitmap >>> (i / 16 * 16)) % 65536 = 0 then s.flashErase (base + 4096 * i) else s

/-- Bytes programmed by a flash that fails: which of their bits are cleared is free (R428). (DESIGN CHOICE, log 7.) -/
def State.failedProgram (s : State) (a : Nat) (data : List Byte) : State :=
  let (v, s) := s.fresh
  s.flashProgram a ((List.range data.length).map fun k => (data[k]?).getD 0 ||| BitVec.ofNat 8 (v / 256 ^ k))

/-- An UPD_PIECE request (R428). (DESIGN CHOICE, log 21.) -/
def State.updPiece (s : State) (h : FlaHdr) (pkg i : Nat) (piece : Piece) : State :=
  let data := piece.data
  if s.updState ≠ 1 ∨ s.pkgId ≠ pkg then s.reply h 1 []
  else if s.pieces ≤ i ∨ data.length ≠ 4096 then s.reply h 2 []
  else if bitOf s.upd.bitmap i then s.reply h 0 []
  else
    let base := s.bankBase s.inactiveBank
    let s := s.freshSector base i
    if ¬ piece.programOk then (s.failedProgram (base + 4096 * i) data).reply h 4 []
    else
    let s := s.flashProgram (base + 4096 * i) data
    if s.flashRead (base + 4096 * i) 4096 ≠ data then s.reply h 4 []
    else
      let have_ := s.rf .bootUpdStat 0 15 0 + 1
      let s := { s with upd := { s.upd with bitmap := s.upd.bitmap ||| 2 ^ i } }.setRf .bootUpdStat 0 15 0 have_
      let s := if have_ = s.pieces then s.setUpd 2 else s
      s.reply h 0 []

/-- An UPD_STATUS request (R425). -/
def State.updStatus (s : State) (h : FlaHdr) (first : Nat) : State :=
  if first % 8 ≠ 0 then s.reply h 2 []
  else
    let map := if s.pieces ≤ first then 0 else s.upd.bitmap >>> first
    s.reply h 0 (leBytes 1 s.updState ++ [0, 0, 0] ++ beBytes 4 s.pkgId ++ beBytes 4 (s.rf .bootUpdStat 0 15 0)
      ++ leBytes 4080 map)

/-- An UPD_ARM request (R430). (DESIGN CHOICE, log 21.) -/
def State.updArm (s : State) (h : FlaHdr) (pkg tries : Nat) : State :=
  if s.updState ≠ 2 ∨ s.pkgId ≠ pkg then s.reply h 1 []
  else if tries = 0 ∨ 3 < tries then s.reply h 2 []
  else
    let s := s.writeBootRec { s.bootRecord with try_ := s.inactiveBank + 1, tries := tries }
    (s.setUpd 3).reply h 0 []

/-- The twin rule of R437. -/
def State.mayReboot (s : State) (force : Bool) : Bool :=
  force || !s.pairedCfg || s.red.state = 3 || s.red.state = 6

/-- An UPD_REBOOT request (R431, R437): refused at once, or its delay starts. (DESIGN CHOICE, log 21.) -/
def State.updReboot (s : State) (h : FlaHdr) (delayMs : Nat) (force : Bool) : State :=
  if s.updState ≠ 3 ∨ s.upd.reboot.isSome then s.reply h 1 []
  else if ¬ s.rb .bootUpdCfg 0 31 then s.reply h 2 []
  else if ¬ s.mayReboot force then s.reply h 3 []
  else { s with upd := { s.upd with reboot := some (s.fs + delayMs * fsPerMs, h, force) } }

/-- The name of a GPIO pin. -/
def gpioName (n : Nat) : String := (["GPIO0", "GPIO1", "GPIO2", "GPIO3", "GPIO4", "GPIO5", "GPIO6", "GPIO7", "GPIO8",
  "GPIO9", "GPIO10", "GPIO11", "GPIO12", "GPIO13", "GPIO14", "GPIO15"][n]?).getD "GPIO"

/-- The delay of an UPD_REBOOT ends (R431): the reply, then RST_GPIO driven low. (DESIGN CHOICE, log 21.) -/
def State.rebootNow (s : State) : State :=
  match s.upd.reboot with
  | none => s
  | some (t, h, force) =>
    if s.fs < t then s
    else
      let s := { s with upd := { s.upd with reboot := none } }
      let pin := s.rf .bootUpdCfg 0 3 0
      if s.mayReboot force then
        (({ s with upd := { s.upd with rstLow := some (s.fs + fsPerMs, pin) } }).reply h 0 []).emit (.pin (gpioName pin) false)
      else s.reply h 3 []

/-- RST_GPIO rises again after 1 ms (R431); in reset it is driven no more (R485). -/
def State.endRst (s : State) : State :=
  match s.upd.rstLow with
  | some (t, pin) =>
    if t ≤ s.fs then { s with upd := { s.upd with rstLow := none } }.emit
        (if s.powered then .pin (gpioName pin) true else .release (gpioName pin))
    else s
  | none => s

/-- An UPD_ABORT request (R432). -/
def State.updAbort (s : State) (h : FlaHdr) : State := ((s.disarm.clearPieces).setUpd 0).reply h 0 []

/-! ### Keys, provisioning, debug -/

/-- A key put into transport slot `slot`, wrapped, and in clear where the vault holds its wrapping key (R438, R441). -/
def Vault.putSlot (v : Vault) (slot : Nat) (key : List Byte) : Vault :=
  match v.wrapKey with
  | some k =>
    { v with
      wrapSlots := v.wrapSlots.set slot (some { under := k, key := key }), slotKeys := v.slotKeys.set slot (some key) }
  | none => v

/-- A KEY_ROLL request (R441): the new key is wrapped into the slot that is not current and becomes current. -/
def State.keyRoll (s : State) (h : FlaHdr) (key : List Byte) : State :=
  if key.length ≠ 32 then s.reply h 2 []
  else
    let slot := 1 - s.rf .bootSecStat 0 26 26
    let s := { s with upd := { s.upd with vault := s.upd.vault.putSlot slot key } }.setRf .bootSecStat 0 26 26 slot
    s.reply h 0 []

/-- The 40 bytes of a challenge (R442): the die number, then 32 random bytes. -/
def challengeBytes (c : Nat) : List Byte := leBytes 8 Config.dieNumber ++ leBytes 32 c

/-- A challenge read over JTAG (R442). (DESIGN CHOICE, log 23.) -/
def State.readChallenge (s : State) : State :=
  let (c, s) := match s.upd.challenge with
    | some c => (c, s)
    | none =>
      let (v, s) := s.fresh
      (v, { s with upd := { s.upd with challenge := some v } })
  s.emit (.jtag (challengeBytes c))

/-- A signature over the challenge verifies under the vault's public key of the debug authority, whose KEY_ID is DEBUG_ID (R439,
R442). (DESIGN CHOICE, logs 6 and 23.) -/
def State.unlocks (s : State) (c : Nat) (sig : DebugSig) : Bool :=
  match s.upd.debugId with
  | none => false
  | some id =>
    match s.upd.vault.pubs.find? (keyId · = id) with
    | none => false
    | some pub => sig.value = Config.verifiesP384 pub (Config.sha384 (challengeBytes c)) sig.nonce

/-- An unlock attempt (R442): the challenge is used up; debug opens where the policy allows it and the signature verifies.
(DESIGN CHOICE, log 23.) -/
def State.unlock (s : State) (sig : DebugSig) : State :=
  let ok : Bool := match s.upd.challenge with | some c => s.unlocks c sig | none => false
  let s := { s with upd := { s.upd with challenge := none } }
  if ok ∧ s.debugAllows 2 ∧ ¬ s.rb .bootSecStat 0 31 then s.openDebug 2 else s

/-- The label under which the wrapping key is derived, and that of the signing key (R439). -/
def labelWrap : List Byte := [0x4B, 0x54, 0x48, 0x20, 0x77, 0x72, 0x61, 0x70]
def labelSign : List Byte := [0x4B, 0x54, 0x48, 0x20, 0x73, 0x69, 0x67, 0x6E]

/-- A key wrapped under the wrapping key of the present device secret. -/
def Vault.wrap (v : Vault) (key : List Byte) : Wrapped := { under := Config.hkdf v.secret labelWrap, key := key }

/-- Bits of fuses blown: none is ever restored. -/
def blow (old new : List Byte) : List Byte := (List.range 32).map fun i => (old[i]?).getD 0 ||| (new[i]?).getD 0

/-- An item written to the vault over JTAG (R438, R440). -/
def Vault.write (v : Vault) : JtagItem → Vault
  | .secret b => { v with secret := blow v.secret b }
  | .publicKey k => { v with pubs := v.pubs ++ [k] }
  | .imageKey k => { v with wrapImage := some (v.wrap k) }
  | .transportKey slot k => { v with wrapSlots := v.wrapSlots.set slot (some (v.wrap k)) }
  | _ => v

/-- An item written over JTAG while PROV_LOCK is intact (R440): fuses are only ever blown, and keys act from the next Init on.
(DESIGN CHOICE, log 22.) -/
def State.provision (s : State) (i : JtagItem) : State :=
  if s.rb .bootSecStat 0 27 then s
  else
    match i with
    | .rootId n id => { s with upd := { s.upd with rootIds := s.upd.rootIds.set n (some id) } }
    | .debugId id => { s with upd := { s.upd with debugId := some id } }
    | .policy v => s.setRf .bootSecStat 0 25 24 (s.rf .bootSecStat 0 25 24 ||| v % 4)
    | .revoke b => s.setRf .bootSecStat 0 3 0 (s.rf .bootSecStat 0 3 0 ||| 2 ^ b)
    | .provLock => s.orReg .bootSecStat 0 (2 ^ 27)
    | _ => { s with upd := { s.upd with vault := s.upd.vault.write i } }

/-! ### Init and power -/

/-- A wrapped key unwrapped under a wrapping key; none where it was wrapped under another. -/
def Wrapped.open_ (w : Wrapped) (k : List Byte) : Option (List Byte) := if w.under = k then some w.key else none

/-- What the vault derives from the device secret and unwraps at Init (R439). -/
def Vault.derive (v : Vault) : Vault :=
  let k := Config.hkdf v.secret labelWrap
  { v with
    wrapKey := some k, imageKey := v.wrapImage.bind (·.open_ k), slotKeys := v.wrapSlots.map fun w => w.bind (·.open_ k)
    signKey := some (Config.keyPair (Config.hkdf v.secret labelSign)) }

/-- The vault at Init: its keys derived and the signing key's KEY_ID shown, unless DERIVE_BLOCKED is set (R439, R443, R446). -/
def State.deriveKeys (s : State) : State :=
  let s := if s.deriveBlocked then s else { s with upd := { s.upd with vault := s.upd.vault.derive } }
  let id := match s.upd.vault.signKey with | some k => keyId (Config.publicP384 k) | none => []
  (List.range 4).foldl (fun s i => s.setReg .bootSecSignid i (Word.ofNat (bytesWord id i))) s

/-- Init completes (R398, R399, R439, R477): the vault derives its keys, a power-up is counted, and the self-test is judged;
a failed one halts the switch with FAULT_N asserted. -/
def State.init (s : State) (selftestOk : Bool) : State :=
  let s := { s with saf := { s.saf with wdogAt := s.fs } }
  let s := if s.saf.powerUp then
      ({ s with saf := { s.saf with powerUp := false } }.setReg .safLifeCycles 0 (s.reg .safLifeCycles 0 + 1)).writeLogHeader
    else s
  let s := s.deriveKeys
  if selftestOk then s.setPhase 1
  else
    let (m, s) := s.fresh
    s.halt 0x0060 [Word.ofNat m, 1]

/-- PWRGOOD falls (R396): a reset at once, with the next power-up to be counted; a fault record not yet begun is lost (R478). -/
def State.powerFall (s : State) : State :=
  let s := s.finishRecord.resetSwitch false
  { s with boot := { s.boot with pwrgood := false, inReset := true }, saf := { s.saf with powerUp := true } }

/-- VAO is lost (R300, R443): time stops, and DERIVE_BLOCKED clears. -/
def State.vaoFall (s : State) : State :=
  let s := s.powerFall
  let s := { s with boot := { s.boot with vao := false, vaoLost := true, refOff := false } }
  s.setRf .bootSecStat 0 30 30 0

/-- VAO rises (R288, R289): monotonic time starts at 0, and the AOC fields of the TIME block take their cold values. -/
def State.vaoRise (s : State) : State :=
  let s := { s with fs := 0, time := { saved := s.time.saved, older := s.time.older }, boot := { s.boot with vao := true, riseAt := 0 } }
  let s := (List.range 8).foldl (fun s k => s.setReg .timeTbCfg k (coldWord .timeTbCfg k)) s
  { s with saf := { s.saf with wdogAt := 0 }, ao := { wakeNLow := s.ao.wakeNLow } }.refreshAoc

/-- RESET_N falls (R396); in the steps of a halt it waits for the fault record (R471). -/
def State.holdReset (s : State) : State :=
  if s.faultDue then s.deferReset .pin
  else
    let s := s.resetSwitch false
    { s with boot := { s.boot with inReset := true } }

/-- A debug reset acts as RESET_N (R443, R471). -/
def State.debugReset (s : State) : State := if s.faultDue then s.deferReset .debug else s.selfReset false

/-- A reset request at a halted member's Signal Box (R284): accepted, counted and carried out. Elsewhere nothing acts on it. -/
def State.resetRequest (s : State) (frame : List Byte) : State :=
  s.cplTake frame (· = 4) fun _ p =>
    if s.acceptsReset p then
      { s with red := { s.red with count := s.red.count + 1 } }.selfReset true
    else s

/-- A reset request while the fault record is not written yet is held until it is (R286). -/
def State.hearRequest (s : State) (frame : List Byte) : State :=
  if s.faultDue then
    { s with saf := { s.saf with halting := s.saf.halting.map fun h => { h with asked := h.asked ++ [frame] } } }
  else s.resetRequest frame

end Sys2Proof.Machine
end

