-- ==== Sys2Proof/Machine/Meaning.lean ====
section
/-! DEFINITION. The frame around every meaning: a command that names nothing the switch has, or an event that cannot occur in the
present state, changes nothing, and every other command makes its change and ends as R352 and R353 state (State.fin). -/

namespace Sys2Proof.Machine

/-- What a meaning answers. -/
abbrev Answer := Host.Outcome State Fault Refusal

/-- A command whose last access makes `u.1` into `u.2` where `can` holds; where it does not, the event cannot occur and nothing
changes, nor does anything where the operands name nothing the switch has. The queue is not a command's to change. (DESIGN CHOICE,
log 4.) -/
def answerFrom (c : Instr) (can : Bool) (s : State) (u : State × State) : Answer :=
  .next (if c.wf && can then { u.1.fin u.2 with pending := s.pending } else s)

/-- A command that changes `s` into `t` at once. -/
def answer (c : Instr) (can : Bool) (s t : State) : Answer := answerFrom c can s (s, t)

/-- An access by an agent: the register operations judge for themselves whether the switch takes it (R347, R400, R471). (DEDUCED,
log 24.) -/
def access (c : Instr) (s t : State) : Answer := answer c true s t

/-- An event of the running switch (R398, R470). (DESIGN CHOICE, log 3.) -/
def event (c : Instr) (can : Bool) (s t : State) : Answer := answer c (s.running && can) s t

/-- An operation of the chip-level blocks: one that comes while they are in retention is served once they are active (R457). -/
def chipEvent (c : Instr) (can : Bool) (s t : State) : Answer := event c (!s.retained && can) s t

/-- A write of `v` to a register through a view of its block. -/
def State.put (s : State) (src : Src) (b : Blk) (w : View) (off v : Nat) : State :=
  s.bus src (regAddr b w off) (Word.ofNat v)

end Sys2Proof.Machine
end

