-- ==== Sys2Proof/Machine/Clock.lean ====
section
/-! DEFINITION. One core clock: what passes while no command waits. Time advances, and what counts clocks or microseconds counts
(R61, R363, R365, R367, R461), Platforms with a cause to wake begin to (R454), and the pulse on RST_GPIO ends (R431). Every other
event of the switch is a command of its own. -/

namespace Sys2Proof.Machine

/-- Femtoseconds of a core clock of 1.25 GHz. -/
def clockFs : Nat := 800000

/-- Host queue group `q` has an eligible queue (R206, R208, R382). Buffers of at least 256 bytes each are posted; whether fewer
than a frame so needs are enough is for their lengths in host memory, which the clock does not read: `enough`. (DESIGN CHOICE, log
39.) -/
def State.hostEligible (s : State) (q : Nat) (enough : Bool) : Bool :=
  let posted := s.rxPosted q
  (s.port (528 + q)).link
    && (s.selectFrom (528 + q)
      (fun s _ x => !s.complFull q && (decide (x.frame.bytes.length ≤ 256 * posted) || (enough && decide (0 < posted))))
      highFirst).2.isSome

/-- A port holds a queued frame, and its scheduler would hand none over at this clock (event 0x0F of R365). -/
def State.stuck (s : State) (e : Nat) (enough : Bool) : Bool :=
  (s.port e).queues.any (!·.copies.isEmpty)
    && (if 528 ≤ e then !s.hostEligible (e - 528) enough
      else decide (((s.select e).port e).queues.map (·.copies.length) = (s.port e).queues.map (·.copies.length)))

/-- Event counters on 0x0F: a clock counts once, for any port that the filter admits (R365). -/
def State.countStuck (s : State) (p : Nat) : State :=
  if ¬ s.perfOn p then s
  else
    let (v, s) := s.fresh
    let es := (s.ports.filter fun (e, _) => egressPlat e = p && s.stuck e (bitOf v (e - 528))).map (·.1)
    (List.range 8).foldl
      (fun s k =>
        if es.any fun e => evselTakes (s.reg .platPerfEvsel (p * 8 + k)) 0xF (perfPort e) none then s.perfBump p k 1
        else s) s

/-- The clock counts of a Platform: its cycle counter and the events 0x03, 0x04 and 0x0F (R363, R365), all of one clock
(R368). (DESIGN CHOICE, log 2.) -/
def State.clockPlat (s : State) (p : Nat) : State :=
  let waits := !(s.plat p).intake.isEmpty
  let took := (s.plat p).took
  let s := if s.perfOn p then s.perfBump p 8 1 else s
  let s := if waits then s.perf p 3 none none 1 else s
  let s := if took then s.modPlat p fun x => { x with took := false } else s.perf p 4 none none 1
  s.countStuck p

/-- `n` microseconds of a line port's duration counters (R61). -/
def State.countUs (s : State) (n e : Nat) : State :=
  let p := s.port e
  let s := if p.rxLpi then s.countN .plat e 25 n else s
  let s := if p.txLpi then s.countN .plat e 51 n else s
  if (List.range 8).any p.paused then s.countN .plat e 52 n else s

/-- Microseconds that have passed: the duration counters of ports and Platforms. (DEDUCED, log 58.) -/
def State.passUs (s : State) (n : Nat) : State :=
  if n = 0 then s
  else
    let s := s.countPower n
    s.ports.foldl (fun s (e, _) => if e < 512 then s.countUs n e else s) s

/-- The FEC blocks that a port with FEC corrects and fails to correct at a core clock: at most one of each, which the wire alone
decides (R61). (DESIGN CHOICE, log 7, DESIGN CHOICE, log 59.) -/
def State.countFec (s : State) (e : Nat) : State :=
  if (s.port e).link ∧ s.cfg.fec e ≠ 0 then
    let (v, s) := s.fresh
    let (w, s) := s.fresh
    (s.countN .plat e 26 (v % 2)).countN .plat e 27 (w % 2)
  else s

/-- The aggregates that count core clocks, from power-up on (R367). -/
def State.aggClock (s : State) : State :=
  let s := s.agg 0 1
  if s.sharedFree = 0 then s.agg 6 1 else s

/-- What counts at a core clock. (DESIGN CHOICE, log 2, DEDUCED, log 58.) -/
def State.countClock (s : State) : State :=
  let s := s.ports.foldl (fun s (e, _) => if e < 512 then s.countFec e else s) s.aggClock
  (List.range 8).foldl (·.clockPlat) s

/-- The causes that last start the returns of Platforms (R454). (DESIGN CHOICE, log 2, DEDUCED, log 53.) -/
def State.wakes (s : State) : State := (List.range 8).foldl (·.wakeDue) s

/-- Steps of a halt by the clock (R470): the notices at the first clock after detection, the record 1.8 µs after it, and with 2 µs
the halt is complete. Reset requests that have come before the record are judged after it (R286), and a reset that waited for it
takes effect (R471). -/
def State.haltStep (s : State) : State :=
  match s.saf.halting with
  | none => s
  | some h =>
    if ¬ h.written ∧ s.fs < h.at_ + 1800000000 then s.sendNotices h
    else
      let s := if h.written then s else (s.sendNotices h).writeFault { h with notify := false }
      match h.held with
      | some .pin => s.holdReset
      | some .debug => s.debugReset
      | none =>
        if s.fs < h.at_ + 2000000000 then s
        else
          let s := { s.orReg .safStat 0 (2 ^ 30) with saf := { s.saf with halting := none } }
          h.asked.foldl (fun s frame => s.resetRequest frame) s

/-- Time runs: under VAO, and in reset only with REFCLK_AO (R300, R497). -/
def State.timeRuns (s : State) : Bool := s.boot.vao && !s.boot.refOff

/-- One core clock with no command: nothing where time does not run, in reset time and the pulse on RST_GPIO alone; while powered
also the Platforms' power counters, which run in every state (R461), the steps of a halt, and before the boot commit edge the
aggregates. (DESIGN CHOICE, log 2.) -/
def State.tick (s : State) : State :=
  if ¬ s.timeRuns then s
  else
    let t := { s with fs := s.fs + clockFs }.endRst
    if s.running then
      { s.fin ((t.wakes.countClock).passUs (t.fs / 1000000000 - s.fs / 1000000000)) with pending := s.pending }
    else if s.powered then
      ((if s.awake then t.aggClock else t).countPower (t.fs / 1000000000 - s.fs / 1000000000)).haltStep
    else t

end Sys2Proof.Machine
end

