-- ==== Sys2Proof/Machine/AccessCmds.lean ====
section
/-! DEFINITION. The commands by which an agent reaches the registers: the four views (R3 to R9), locks, commits, counter
snapshots, interrupt vectors, performance counters, and requests over SPI (chapters 1, 2, 12). -/

namespace Sys2Proof.Machine

/-- REGISTER_WRITE (R3, R347). -/
def execRegisterWrite (src : Src) (bar : Bar) (addr : Nat) (bytes : List Byte) (s : State) : Answer :=
  answerFrom (.registerWrite src bar addr bytes) true s (s.request src bar addr bytes)

/-- SET_VIEW_WRITE (R4). `addr` is the register's BAR0 offset in the normal view. -/
def execSetViewWrite (src : Src) (addr : Nat) (v : Word) (s : State) : Answer :=
  access (.setViewWrite src addr v) s (s.bus src (addr + 0x10000) v)

/-- CLR_VIEW_WRITE (R4, R6, R352). -/
def execClrViewWrite (src : Src) (addr : Nat) (v : Word) (s : State) : Answer :=
  access (.clrViewWrite src addr v) s (s.bus src (addr + 0x20000) v)

/-- TGL_VIEW_WRITE (R4). -/
def execTglViewWrite (src : Src) (addr : Nat) (v : Word) (s : State) : Answer :=
  access (.tglViewWrite src addr v) s (s.bus src (addr + 0x30000) v)

/-- LOCK_SET (R356): a write of 1 to BLK_LOCK.LOCK. -/
def execLockSet (src : Src) (blk : Nat) (s : State) : Answer :=
  access (.lockSet src blk) s
    (match Blk.ofNo blk with
      | some b => s.put src b .normal 0xF00 (2 ^ 31)
      | none => s)

/-- COMMIT_GROUP (R21). -/
def execCommitGroup (src : Src) (tb group : Nat) (s : State) : Answer :=
  access (.commitGroup src tb group) s (s.put src .glb .normal 0x100 (2 ^ 31 + at_ tb 12 + group))

/-- COMMIT_ALL (R21). -/
def execCommitAll (src : Src) (tb : Nat) (s : State) : Answer :=
  access (.commitAll src tb) s (s.put src .glb .normal 0x100 (2 ^ 31 + 2 ^ 30 + at_ tb 12))

/-- COMMIT_EDGE (R24): the pending commit's edge, once it may fall. -/
def execCommitEdge (s : State) : Answer := event .commitEdge s.edgeDue s s.commitEdge

/-- CNT_SNAP (R63). -/
def execCntSnap (src : Src) (plat port : Nat) (s : State) : Answer :=
  access (.cntSnap src plat port) s (s.put src (.plat plat) .normal 0x40 (2 ^ 31 + port))

/-- CNT_SNAP_DONE (R63). -/
def execCntSnapDone (plat : Nat) (s : State) : Answer :=
  event (.cntSnapDone plat) (s.plat plat).snapBusy s (s.modPlat plat fun p => { p with snapBusy := false })

/-- SPI_WRITE (R349). -/
def execSpiWrite (bytes : List Byte) (s : State) : Answer := answerFrom (.spiWrite bytes) true s (s.spiWrite bytes)

/-- SPI_READ (R349). -/
def execSpiRead (bytes : List Byte) (words : Nat) (s : State) : Answer :=
  access (.spiRead bytes words) s (s.spiRead bytes words)

/-- MSIX_UNMASK (R352): vector control written 0. -/
def execMsixUnmask (v : Nat) (s : State) : Answer :=
  access (.msixUnmask v) s (s.bus .pcie (0x3F00000 + 16 * v + 12) 0)

/-- The offset in a Platform's block of a counter word; counter 8 is the cycle counter (R368). -/
def perfOffset (n : Nat) (hi : Bool) : Nat := (if n = 8 then 0x3010 else 0x3040 + 8 * n) + (if hi then 4 else 0)

/-- PERF_COUNTER_WRITE (R364). -/
def execPerfCounterWrite (src : Src) (plat n : Nat) (hi : Bool) (v : Word) (s : State) : Answer :=
  access (.perfCounterWrite src plat n hi v) s (s.bus src (regAddr (.plat plat) .normal (perfOffset n hi)) v)

/-- Counter `n` of a Platform counts core clocks: the cycle counter, or an event counter on events 0x03, 0x04 and 0x0F
(R363, R365). -/
def State.countsClocks (s : State) (p n : Nat) : Bool :=
  let e := s.rf .platPerfEvsel (p * 8 + n) 23 16
  n = 8 || e = 3 || e = 4 || e = 0xF

/-- PERF_COUNTER_WRAP (R364): the clock at which a counter that holds 2^48 − 1 counts once more. -/
def execPerfCounterWrap (plat n : Nat) (s : State) : Answer :=
  let (lo, hi, i) := perfRegs plat n
  event (.perfCounterWrap plat n)
    (s.perfOn plat && s.countsClocks plat n && decide (s.perf48 lo hi i = 2 ^ 48 - 1)) s (s.perfBump plat n 1)

/-- The bank of a counter of microseconds: 0 of a line port, 1 of a Platform (R61, R461). -/
def usBank (bank : Nat) : CntBank := if bank = 0 then .plat else .ao

/-- DURATION_COUNTER_HALF_RANGE (R62): the microsecond at which a counter changes bit 39. -/
def execDurationCounterHalfRange (bank unit slot : Nat) (s : State) : Answer :=
  event (.durationCounterHalfRange bank unit slot)
    (s.counter (usBank bank) unit slot % 2 ^ 39 = 2 ^ 39 - 1) s (s.count (usBank bank) unit slot)

/-- AOC_COPY_REFRESH (R8, R357). -/
def execAocCopyRefresh (s : State) : Answer := answer .aocCopyRefresh s.powered s s.refreshAoc

end Sys2Proof.Machine
end

