-- ==== Sys2Proof/Machine/BootCmds.lean ====
section
/-! DEFINITION. The commands of power, reset and boot (chapter 14): supplies and RESET_N (R288, R300, R396, R397), and the
phases of a boot (R398 to R410). A phase ends only in a boot that stands in it. -/

namespace Sys2Proof.Machine

/-- VAO_RISE (R288, R289). -/
def execVaoRise (s : State) : Answer := answer .vaoRise (!s.boot.vao) s s.vaoRise

/-- VAO_FALL (R300). -/
def execVaoFall (s : State) : Answer := answer .vaoFall s.boot.vao s s.vaoFall

/-- PWRGOOD_FALL (R396). -/
def execPwrgoodFall (s : State) : Answer := answer .pwrgoodFall (s.boot.vao && s.boot.pwrgood) s s.powerFall

/-- RESET_N_ASSERT (R396): in reset, only a release that waits for REFCLK_AO is undone. -/
def execResetNAssert (s : State) : Answer :=
  answer .resetNAssert (s.powered || s.boot.waiting.isSome) s
    (if s.powered then s.holdReset else { s with boot := { s.boot with waiting := none } })

/-- RESET_N_RELEASE (R397): a reset completes only with REFCLK_AO running, and waits for it (R396, R497). (DEDUCED, log 50.) -/
def execResetNRelease (straps : Nat) (s : State) : Answer :=
  answer (.resetNRelease straps) (s.boot.vao && s.boot.inReset) s
    (if s.boot.refOff then { s with boot := { s.boot with pwrgood := true, waiting := some straps } } else s.releaseReset straps)

/-- The boot stands in a phase (R398). -/
def State.inPhase (s : State) (p : Nat) : Bool := s.awake && s.phase = p

/-- BOOT_INIT (R398). -/
def execBootInit (selftestOk : Bool) (s : State) : Answer :=
  answer (.bootInit selftestOk) (s.inPhase 0) s (s.init selftestOk)

/-- BOOT_IDENTITY (R401, R403, R405): whether the flash gives an SFDP table and the read that the boot ROM needs. -/
def execBootIdentity (flashOk : Bool) (s : State) : Answer :=
  answer (.bootIdentity flashOk) (s.inPhase 1) s (s.bootIdentify flashOk)

/-- BOOT_RESTORE (R398, R410): whether the capture ring matches the retained store, and what the check of MRAM discards. -/
def execBootRestore (found : MramCheck) (s : State) : Answer :=
  answer (.bootRestore found) (s.inPhase 2) s (s.restore found)

/-- BOOT_LOAD (R405, R436): whether an engine fails its start-up self-check, and if so the type of the first part, in the order in
which parts are applied, whose engine does. -/
def execBootLoad (fails : Bool) (engine : Nat) (s : State) : Answer :=
  answer (.bootLoad fails engine) (s.inPhase 3) s (s.load (if fails = true then some engine else none))

/-- BOOT_APPLY (R406). -/
def execBootApply (s : State) : Answer := answer .bootApply (s.inPhase 4) s s.applyImage

/-- BOOT_ADMISSION (R241). -/
def execBootAdmission (s : State) : Answer := answer .bootAdmission (s.inPhase 5 && !s.boot.proved) s s.bootAdmit

/-- BOOT_COMMIT (R406). -/
def execBootCommit (s : State) : Answer := answer .bootCommit (s.inPhase 5 && s.boot.proved) s s.bootCommit

end Sys2Proof.Machine
end

