-- ==== Sys2Proof/Machine/CaptureCmds.lean ====
section
/-! DEFINITION. The commands of the capture store: the drain and the writer (R327 to R335), triggers (R336), and the windows to
their commit (R338 to R341). -/

namespace Sys2Proof.Machine

/-- The drain's read of the next record; an injected cell CRC error loses it (R465, R479). -/
def State.captureRead (s : State) (plat : Nat) : State :=
  match (s.plat plat).capQ with
  | [] => s
  | r :: _ =>
    let cells := ceilDiv (min ((s.cfgAt r.frame.epoch).f .recRule r.rule 13 0) r.frame.bytes.length) 256
    if s.injCell plat ∧ 0 < cells then ((s.takeInjCell plat).drainRead plat true).crcFailed plat r.frame.port true
    else if r.frame.badCells.any (· < cells) then (s.drainRead plat true).crcFailed plat r.frame.port false
    else s.drainRead plat false

/-- CAPTURE_DRAIN_READ (R327): the Platforms are served round robin. -/
def execCaptureDrainRead (plat : Nat) (s : State) : Answer :=
  event (.captureDrainRead plat) (s.drainDue plat) s (s.captureRead plat)

/-- RECORD_WRITE (R328). -/
def execRecordWrite (s : State) : Answer := chipEvent .recordWrite true s s.writeRecord

/-- CLOSE_US has passed since the open block's first record (R333). -/
def State.closeDue (s : State) : Bool :=
  match s.capt.cur with
  | some (_, t) => decide (t + s.cfg.f .recClose 0 23 0 * 1000000000 ≤ s.fs)
  | none => false

/-- BLOCK_CLOSE_TIMEOUT (R333). -/
def execBlockCloseTimeout (s : State) : Answer := event .blockCloseTimeout s.closeDue s s.closeBlock

/-- The length of the open block, its header counted, as written to MRAM (R335). -/
def State.saveOpenLen (s : State) : State :=
  match s.capt.cur with
  | some (b, _) => { s with capt := { s.capt with openLen := 128 + b.data.length } }
  | none => s

/-- OPEN_LEN_SAVE (R335). -/
def execOpenLenSave (s : State) : Answer := event .openLenSave true s s.saveOpenLen

/-- TRIGGER_WRITE (R336). -/
def execTriggerWrite (src : Src) (s : State) : Answer :=
  access (.triggerWrite src) s (s.put src .capt .normal 0x88 (2 ^ 31))

/-- An edge on a pin is the one that triggers (R336). -/
def State.gpioFires (s : State) (pin : Nat) (rising : Bool) : Bool :=
  s.cfg.b .recTrigCfg 0 31 && s.cfg.f .recTrigCfg 0 23 20 = pin && s.cfg.b .recTrigCfg 0 30 = !rising

/-- A GPIO trigger in retention ends it, and is served after it (R457). -/
def State.deferTrigger (s : State) : State :=
  let s := s.stir
  { s with ao := { s.ao with triggers := s.ao.triggers ++ [s.fs] } }

/-- GPIO_TRIGGER (R336). -/
def execGpioTrigger (pin : Nat) (rising : Bool) (s : State) : Answer :=
  event (.gpioTrigger pin rising) (s.gpioFires pin rising) s (if s.retained then s.deferTrigger else s.trigger 2 s.fs)

/-- An open window has reached half the ring (R338). -/
def State.windowHalf (s : State) (w : Nat) : Bool := decide (s.ringBlocks / 2 ≤ s.winBlocks (s.win w))

/-- An open window's post time has ended, or it has reached half the ring (R338). -/
def State.windowOver (s : State) (w : Nat) : Bool :=
  (s.win w).state = 1 && (decide ((s.win w).postAt ≤ instantNs s.fs) || s.windowHalf w)

/-- WINDOW_POST_END (R338). -/
def execWindowPostEnd (w : Nat) (s : State) : Answer :=
  event (.windowPostEnd w) (s.windowOver w) s (s.endWindow w (s.windowHalf w))

/-- WINDOW_SEALED (R338, R344): unsigned while the key vault is erased or blocked. -/
def execWindowSealed (w : Nat) (s : State) : Answer :=
  event (.windowSealed w) ((s.win w).state = 2 && s.sealTurn w) s (s.sealWindow w)

/-- WINDOW_COMMIT (R341). -/
def execWindowCommit (src : Src) (mask : Nat) (s : State) : Answer :=
  access (.windowCommit src mask) s (s.put src .capt .normal 0x180 mask)

/-- WINDOW_RELEASE (R341). -/
def execWindowRelease (src : Src) (mask : Nat) (s : State) : Answer :=
  access (.windowRelease src mask) s (s.put src .capt .normal 0x180 (at_ mask 4))

/-- WINDOW_COMMIT_DONE (R341). -/
def execWindowCommitDone (w : Nat) (s : State) : Answer :=
  event (.windowCommitDone w) ((s.win w).state = 4) s (s.commitWindow w)

/-- WINDOW_COMMIT_ERROR (R341). -/
def execWindowCommitError (w : Nat) (s : State) : Answer :=
  event (.windowCommitError w) ((s.win w).state = 4) s
    ((s.setWin w { s.win w with state := 3, result := 2 }).orReg .recIntStat 0 4)

/-- CXL_ERROR (R330). -/
def execCxlError (s : State) : Answer :=
  event .cxlError true s
    ({ s with capt := { s.capt with cxlErr := true } }.orReg .recIntStat 0 16)

end Sys2Proof.Machine
end

