-- ==== Sys2Proof/Machine/EgressCmds.lean ====
section
/-! DEFINITION. The commands of egress: transmission selection and starts (R51, R206 to R211), the end of a frame on the wire
(R53, R60), low-power idle (R57), link state and link-down hold (R59, R200 to R202). -/

namespace Sys2Proof.Machine

/-! ### Cell CRC errors at egress -/

/-- The class of the frame that a start took from its transmit queue. -/
def startedClass (before after : PortSt) : Option Nat :=
  highFirst.find? fun c => ((before.macQ[c]?).getD none).isSome && ((after.macQ[c]?).getD none).isNone

/-- No cell CRC error waits for a frame that port `e` starts: none is injected on its Platform, and none of the frames handed to
it has a bad cell. -/
def State.cellsSound (s : State) (e : Nat) : Bool :=
  !s.injCell (egressPlat e)
    && (s.port e).macQ.all fun q => q.all fun t => t.copy.all fun x => x.frame.badCells.isEmpty

/-- A start of a frame one of whose cells fails its CRC: one of the `cells` read before the start drops it whole, a later one ends
it before that cell (R465, R479). `t` is the state after the start. Which cell an injected error meets is free. (DESIGN CHOICE,
log 7, DEDUCED, log 56.) -/
def State.checkStart (s t : State) (e cells : Nat) : State :=
  let p := egressPlat e
  match startedClass (s.port e) (t.port e), (t.port e).tx with
  | some c, some x =>
    if s.cellsSound e || (s.port e).tx.isSome then t
    else
      let size := match x.copy with | some y => y.cells | none => 0
      let bad := match x.copy with | some y => y.frame.badCells | none => []
      let (v, t) := if s.injCell p then t.fresh else (0, t)
      let inj := if s.injCell p then [v % max size 1] else []
      match (inj ++ bad).min? with
      | none => t
      | some k =>
        let met := inj.contains k
        let failed (u : State) : State := (if met then u.takeInjCell p else u).crcFailed p e met
        if k < max cells 1 then
          failed ((({ s with free := t.free } : State).forwardCredit e c).modPort e fun q =>
            { q with macQ := q.macQ.set c none, idleSince := s.fs })
        else failed (t.modPort e fun q => { q with tx := some (x.cutAt e k) })
  | _, _ => t

/-! ### Selection and starts -/

/-- TRANSMISSION_SELECTION (R206, R207): a line port or the Coupler, or a host group with the receive buffer descriptors read
from its ring (R381), whose DMA waits for the return of the chip-level blocks (R457). -/
def execTransmissionSelection (port : Nat) (bufs : List (List Word)) (s : State) : Answer :=
  event (.transmissionSelection port bufs) (port < 528 || !s.retained) s
    (if 528 ≤ port then s.hostSelect (port - 528) bufs else s.select port)

/-- PROJECTED_START (R210). -/
def execProjectedStart (port cells : Nat) (s : State) : Answer :=
  event (.projectedStart port cells) true s (s.checkStart (s.projectedStart port cells) port cells)

/-- FRAME_START (R51). -/
def execFrameStart (port cells : Nat) (s : State) : Answer :=
  event (.frameStart port cells) true s (s.checkStart (s.frameStart port cells) port cells)

/-- A frame that the switch makes itself is not read from the buffer and cannot run out of bytes. -/
def PortSt.sending (p : PortSt) : Bool := match p.tx with | some t => t.copy.isSome | none => false

/-- A forwarded frame in transmission that no cell's CRC has ended. -/
def PortSt.sendingWhole (p : PortSt) : Bool := match p.tx with | some t => t.copy.isSome && !t.bad | none => false

/-- TX_UNDERRUN (R53). -/
def execTxUnderrun (port sent : Nat) (s : State) : Answer :=
  event (.txUnderrun port sent) (s.port port).sending s (s.underrun port sent)

/-- The instant at which a frame's last bit leaves the balls has come (R60). -/
def State.txOver (s : State) (e : Nat) : Bool :=
  match (s.port e).tx with
  | some t => decide (s.lastBit e t.start t.bytes.length ≤ s.fs)
  | none => false

/-- The first forwarded frame since reset: T_FIRST and FIRST_FRAME (R433). -/
def State.noteFirst (s : State) (e : Nat) : State :=
  if s.boot.first ∨ ¬ (s.port e).sendingWhole then s
  else
    let s := s.setReg .bootTFirst 0 (Word.ofNat ((s.fs - s.boot.riseAt) / fsPerMs))
    { (s.orReg .bootIntStat 0 2) with boot := { s.boot with first := true } }

/-- TX_FRAME_COMPLETE (R60). -/
def execTxFrameComplete (port : Nat) (s : State) : Answer :=
  event (.txFrameComplete port) (s.txOver port) s ((s.noteFirst port).completeTx port)

/-! ### Low-power idle -/

/-- LPI_ENTRY (R57). -/
def execLpiEntry (port : Nat) (s : State) : Answer :=
  event (.lpiEntry port) (s.lpiDue port) s
    ((s.modPort port fun p => { p with txLpi := true }).count .plat port 50)

/-- LPI_LEAD_WAKE (R57, R225). -/
def execLpiLeadWake (port : Nat) (s : State) : Answer :=
  event (.lpiLeadWake port) (s.openingNear port) s (s.modPort port fun p => { p with txLpi := false })

/-- A peer enters or leaves receive LPI (R58, R450). -/
def State.rxLpi (s : State) (port : Nat) (on : Bool) : State :=
  let s := s.countIf (on && !(s.port port).rxLpi) .plat port 24
  s.modPort port fun p => { p with rxLpi := on }

/-- RECEIVE_LPI_CHANGE (R450). -/
def execReceiveLpiChange (port : Nat) (on : Bool) (s : State) : Answer :=
  event (.receiveLpiChange port on) (s.port port).link s (s.rxLpi port on)

/-! ### Link -/

/-- The faults of a port can be seen: it is link up, or down while enabled and present. (DEDUCED, log 59.) -/
def State.seesFaults (s : State) (port : Nat) : Bool :=
  (s.port port).link || (s.cfg.enabled port && s.cfg.present port)

/-- LINK_DOWN (R59, R60, R200). On a port that is down already it reports the faults that are present now, and nothing else
changes. (DEDUCED, log 59.) -/
def execLinkDown (port : Nat) (localFault remoteFault : Bool) (s : State) : Answer :=
  event (.linkDown port localFault remoteFault) (s.seesFaults port) s
    ((s.portDown port (s.holdMs port)).modPort port fun p =>
      { p with localFault := localFault, remoteFault := remoteFault })

/-- A port may come link up at a speed: enabled, present, and the speed one of its lane mode's (R37, R39, R59). (DEDUCED, log 59.)
-/
def State.mayLink (s : State) (port speed : Nat) : Bool :=
  let top := s.cfg.topSpeed port
  s.cfg.enabled port && s.cfg.present port && (s.plat (port / 64)).power ≠ .off
    && (if usxgmii (s.cfg.mode port) then decide (0 < speed) && decide (speed ≤ top) else speed = top)

/-- LINK_UP (R59, R202). -/
def execLinkUp (port speed : Nat) (s : State) : Answer :=
  event (.linkUp port speed) (s.mayLink port speed && !(s.port port).link) s (s.portUp port speed)

/-- DEADLINE_DROP (R200): the check of a held queue every microsecond. -/
def execDeadlineDrop (port cls : Nat) (s : State) : Answer :=
  event (.deadlineDrop port cls) (s.port port).hold.isSome s
    (s.dropLate port cls ((s.port port).queue cls).copies.length)

/-- HOLD_EXPIRY (R202). -/
def execHoldExpiry (port : Nat) (s : State) : Answer :=
  event (.holdExpiry port)
    (match (s.port port).hold with | some t => decide (t ≤ s.fs) | none => false) s (s.expireHold port)

end Sys2Proof.Machine
end

