-- ==== Sys2Proof/Machine/HostCmds.lean ====
section
/-! DEFINITION. The commands of the host port (chapters 12 and 13): function resets and the PCIe link (R346 to R348), units and
doorbells (R372 to R375, R390), descriptors, completions and failed accesses (R378 to R393). -/

namespace Sys2Proof.Machine

/-- HP_PERST_N's level after a function reset. -/
def State.perst (s : State) (cause : FnReset) : State :=
  if cause = .perst then { s with ao := { s.ao with perstLow := true } } else s

/-- FUNCTION_RESET (R348, R391). D3hot to D0 resets a function that is in D3hot. In a switch reset the level of HP_PERST_N alone is
taken (R497). -/
def execFunctionReset (cause : FnReset) (s : State) : Answer :=
  answer (.functionReset cause) (if s.powered then cause ≠ .d3ToD0 || s.host.d3hot else cause = .perst) s
    (if s.powered then (s.resetFunction cause).perst cause else s.perst cause)

/-- The register of EN of a unit: its offset in the HOST block. -/
def State.putEn (s : State) (src : Src) (w : View) (u : Nat) : State := s.put src .host w (unitOff u) (2 ^ 31)

/-- ENABLE_UNIT (R372): EN set through the SET view. -/
def execEnableUnit (src : Src) (u : Nat) (s : State) : Answer :=
  access (.enableUnit src u) s (s.putEn src .set u)

/-- DISABLE_UNIT (R390): EN cleared through the CLR view. -/
def execDisableUnit (src : Src) (u : Nat) (s : State) : Answer :=
  access (.disableUnit src u) s (s.putEn src .clr u)

/-- UNIT_IDLE (R390). -/
def execUnitIdle (u : Nat) (s : State) : Answer :=
  answer (.unitIdle u) s.awake s (s.idleUnit u)

/-- A doorbell of a queue pair written by PCIe in the user window, which is turned away in D3hot (R347, R361, R375). -/
def State.userDoorbell (s : State) (a v : Nat) : State :=
  if s.unsupported .bar2 a 4 then s.emit (.unsupported .bar2 a) else s.userWrite a (Word.ofNat v)

/-- A doorbell of a queue pair written in the register block, or by PCIe in the user window (R361, R373 to R375). -/
def State.doorbell (s : State) (src : Src) (q off v : Nat) (user : Bool) : State :=
  if user then s.userDoorbell (q * 0x10000 + off) v else s.put src .host .normal (0x8000 + q * 16 + off) v

/-- TX_DB (R373). -/
def execTxDb (src : Src) (q v : Nat) (user : Bool) (s : State) : Answer :=
  access (.txDb src q v user) s (s.doorbell src q 0 v user)

/-- RX_DB (R373). -/
def execRxDb (src : Src) (q v : Nat) (user : Bool) (s : State) : Answer :=
  access (.rxDb src q v user) s (s.doorbell src q 4 v user)

/-- CQ_DB (R374). -/
def execCqDb (src : Src) (q v : Nat) (user : Bool) (s : State) : Answer :=
  access (.cqDb src q v user) s (s.doorbell src q 8 v user)

/-- TD_DB (R373). -/
def execTdDb (src : Src) (v : Nat) (s : State) : Answer := access (.tdDb src v) s (s.put src .host .normal 0x8100 v)

/-- TDC_DB (R374). -/
def execTdcDb (src : Src) (v : Nat) (s : State) : Answer := access (.tdcDb src v) s (s.put src .host .normal 0x8104 v)

/-- HOST_TX_FETCH (R378): the descriptors from the ring's next index on, and the bytes of their buffers. -/
def execHostTxFetch (q : Nat) (descs : List (List Word)) (data : List Byte) (s : State) : Answer :=
  chipEvent (.hostTxFetch q descs data) true s (s.fetchTx q descs (some data))

/-- DMA_ACCESS_FAIL (R389, R393). -/
def execDmaAccessFail (what : DmaFail) (s : State) : Answer := event (.dmaAccessFail what) true s (s.dmaFail what)

/-- RX_HOLD_DROP (R382). -/
def execRxHoldDrop (q cls : Nat) (s : State) : Answer := event (.rxHoldDrop q cls) true s (s.rxHoldDrop q cls)

/-- COMPLETION_WRITE (R387). -/
def execCompletionWrite (u : Nat) (s : State) : Answer := event (.completionWrite u) true s (s.writeCompl u)

/-- CQ_TIMER_EXPIRY (R388). -/
def execCqTimerExpiry (u : Nat) (s : State) : Answer := event (.cqTimerExpiry u) true s (s.cqTimer u)

/-- PCIE_LINK_UP (R346): the endpoint trains only once the image header has been read (R400), and trains in PHASE 8 too,
where it serves the BOOT block (R408). A link that is up says that HP_PERST_N has risen. (DEDUCED, log 28.) -/
def execPcieLinkUp (width speed : Nat) (s : State) : Answer :=
  let up := (s.setRf .hostLinkStat 0 31 31 1).setRf .hostLinkStat 0 7 0 (at_ width 4 + speed)
  answer (.pcieLinkUp width speed) (s.powered && decide (2 ≤ s.phase)) s { up with ao := { up.ao with perstLow := false } }

/-- D3HOT_ENTRY (R347). -/
def execD3hotEntry (s : State) : Answer :=
  answer .d3hotEntry (s.awake && s.reaches .pcie) s { s with host := { s.host with d3hot := true } }

end Sys2Proof.Machine
end

