-- ==== Sys2Proof/Machine/MacCmds.lean ====
section
/-! DEFINITION. The commands of the receiving MAC and of the ingress pipeline: cells, frames and pause received (R41 to R48,
R191), passes (R13, R94, R98), extra copies, the wait list and back-pressure (R182, R185, R191 to R195). -/

namespace Sys2Proof.Machine

/-- The next bytes of a frame at a MAC: a delimiter begins a frame, and later bytes belong to the one in progress, whose
cells so far are full (R41, R191). -/
def State.rxCell (s : State) (port : Nat) (sfd : Bool) (data : List Byte) : State :=
  let take (x : RxCtx) : State :=
    let (s, x) := s.drawCell port x data
    s.modPort port fun p => { p with rx := some x }
  match sfd, (s.port port).rx with
  | true, none => take (s.startRx port)
  | false, some x => if x.bytes.length % 256 = 0 then take x else s
  | _, _ => s

/-- CELL_DRAW (R179, R191). -/
def execCellDraw (port : Nat) (sfd : Bool) (data : List Byte) (s : State) : Answer :=
  event (.cellDraw port sfd data) (s.port port).link s (s.rxCell port sfd data)

/-- FRAME_RECEIVE (R42). -/
def execFrameReceive (port : Nat) (codeErr : Bool) (s : State) : Answer :=
  event (.frameReceive port codeErr) (s.port port).link s
    (match (s.port port).rx with
      | some x => s.endRx port x codeErr
      | none => s)

/-- PAUSE_RECEIVED (R48). -/
def execPauseReceived (port : Nat) (s : State) : Answer :=
  event (.pauseReceived port) true s
    (match (s.port port).rxPause.head? with
      | some (.pause q) => s.takePause port q
      | _ => s)

/-- PFC_RECEIVED (R48). -/
def execPfcReceived (port : Nat) (s : State) : Answer :=
  event (.pfcReceived port) true s
    (match (s.port port).rxPause.head? with
      | some (.pfc en times) => s.takePfc port en times
      | _ => s)

/-- PAUSE_TIMER_EXPIRY (R48). -/
def execPauseTimerExpiry (port cls : Nat) (s : State) : Answer :=
  event (.pauseTimerExpiry port cls)
    ((s.port port).paused cls && decide (((s.port port).pauseEnd[cls]?).getD 0 ≤ s.fs)) s
    (s.modPort port fun p => { p with pauseEnd := p.pauseEnd.set cls 0 })

/-- The frame that the intake takes for its first pass: the oldest line arrival, else, with both Turntable lanes empty, the
oldest host frame of the Platform, which is bound and completed at that moment (R98, R28, R184, R379). -/
def State.takeFirst (s : State) (plat : Nat) : Option (State × Frame) :=
  let p := s.plat plat
  match p.intake, p.prio ++ p.norm, p.hostQ with
  | f :: rest, _, _ => some (s.setPlat plat { p with intake := rest, took := true }, f)
  | [], [], f :: rest =>
    let (s, f) := (s.setPlat plat { p with hostQ := rest, took := true }).bind { f with instant := s.fs }
    let (s, _) := s.arriveImage plat f.no f.bytes.length
    some (match f.host with | some h => s.hostFirst h | none => s, f)
  | _, _, _ => none

/-- The first pass of the frame that the intake takes. -/
def State.firstPass (s : State) (plat : Nat) : State :=
  match s.takeFirst plat with
  | some (s, f) => if s.injParity plat then s.parityDrop f else s.beginFirst f
  | none => s

/-- FIRST_PASS (R13). (DESIGN CHOICE, log 12.) -/
def execFirstPass (plat : Nat) (s : State) : Answer :=
  event (.firstPass plat) ((s.plat plat).power = .run) s (s.firstPass plat)

/-- The intake may take a Turntable frame: no line arrival waits, or guaranteed slots fall due (R98, R99). Which clocks of a
window are the slots is left to the sender (DESIGN CHOICE, log 12). -/
def State.turnDue (s : State) (plat : Nat) : Bool :=
  (s.plat plat).intake.isEmpty || s.cfg.f .clsTtCtrl plat 20 16 ≠ 0

/-- The Turntable pass of the frame at the head of a lane, or its loss on an injected parity error. -/
def State.turnPass (s : State) (plat : Nat) : State :=
  if ¬ s.turnDue plat then s
  else if s.injParity plat then
    let p := s.plat plat
    match p.prio, p.norm with
    | f :: rest, _ => (s.setPlat plat { p with prio := rest, took := true }).parityDrop f
    | [], f :: rest => (s.setPlat plat { p with norm := rest, took := true }).parityDrop f
    | [], [] => s
  else s.turntablePass plat

/-- TURNTABLE_PASS (R94). (DESIGN CHOICE, log 12.) -/
def execTurntablePass (plat : Nat) (s : State) : Answer :=
  event (.turntablePass plat) ((s.plat plat).power = .run) s (s.turnPass plat)

/-- EXTRA_COPY_WRITE (R182). -/
def execExtraCopyWrite (plat : Nat) (s : State) : Answer :=
  event (.extraCopyWrite plat) true s (s.writeNextExtra plat)

/-- WAIT_LIST_ADMIT (R192). -/
def execWaitListAdmit (plat i : Nat) (s : State) : Answer :=
  event (.waitListAdmit plat i) (s.waitReady plat i) s (s.admitWaiting plat i).drain

/-- XON_SENT (R194). -/
def execXonSent (port acct : Nat) (s : State) : Answer :=
  event (.xonSent port acct) (s.xonDue port acct) s (s.sendXon port acct)

/-- Half the pause time has passed since an account in XOFF last sent it (R194). -/
def State.xoffDue (s : State) (port acct : Nat) : Bool :=
  let x := (s.port port).acct acct
  x.xoff && (s.port port).link && decide (x.lastXoff + s.halfPause port ≤ s.fs)

/-- XOFF_REFRESH (R194). -/
def execXoffRefresh (port acct : Nat) (s : State) : Answer :=
  event (.xoffRefresh port acct) (s.xoffDue port acct) s (s.sendXoff port acct)

/-- COPY_SOURCE_XON (R185). -/
def execCopySourceXon (plat : Nat) (s : State) : Answer :=
  event (.copySourceXon plat)
    ((s.plat plat).copyXoff && decide ((s.plat plat).copyBytes ≤ s.cfg.f .tmReplCfg 0 9 0 * 1024)) s
    (s.modPlat plat fun p => { p with copyXoff := false })

/-- PAUSE_FRAME_TX (R195). -/
def execPauseFrameTx (port : Nat) (s : State) : Answer :=
  event (.pauseFrameTx port) true s (s.sendPause port)

end Sys2Proof.Machine
end

