-- ==== Sys2Proof/Machine/PolicyCmds.lean ====
section
/-! DEFINITION. The commands of policing, scheduling, latency admission and sequence recovery: starts of schedules and
Timetables (R158, R218), the windows of R165, the sampler (R228), wake-ahead (R225), the admission check (R244), resets and
latent error tests of recovery functions (R261, R262). -/

namespace Sys2Proof.Machine

/-- GATE_SCHEDULE_START (R158). -/
def execGateScheduleStart (sched : Nat) (s : State) : Answer :=
  event (.gateScheduleStart sched) true s (s.schedStart sched)

/-- TIMETABLE_START (R218). -/
def execTimetableStart (port : Nat) (s : State) : Answer :=
  event (.timetableStart port) true s (s.ttStart port)

/-- RECOVER_GO (R165): RECOVER_GO set through the SET view of PSF_WIN_CTRL. -/
def execRecoverGo (src : Src) (s : State) : Answer :=
  access (.recoverGo src) s (s.put src .psf .set 0x44 (2 ^ 31))

/-- TEST_WINDOW_SET (R165): TEST set or cleared. -/
def execTestWindowSet (src : Src) (on : Bool) (s : State) : Answer :=
  access (.testWindowSet src on) s (s.put src .psf (if on then .set else .clr) 0x44 (2 ^ 30))

/-- An instant kept has come. -/
def State.reached (s : State) (t : Option Nat) : Bool :=
  match t with
  | some t => decide (t ≤ s.fs)
  | none => false

/-- STARTUP_WINDOW_CLOSE (R165). -/
def execStartupWindowClose (s : State) : Answer :=
  event .startupWindowClose (s.reached s.psf.startup) s (s.setWindows { s.psf with startup := none })

/-- TEST_WINDOW_EXPIRY (R165). -/
def execTestWindowExpiry (s : State) : Answer :=
  event .testWindowExpiry (s.reached s.psf.test.join) s (s.setTest false)

/-- RECOVERY_WINDOW_CLOSE (R165). -/
def execRecoveryWindowClose (s : State) : Answer :=
  event .recoveryWindowClose (s.reached s.psf.recovery) s (s.setWindows { s.psf with recovery := none })

/-- SAMPLE_PERIOD (R228). -/
def execSamplePeriod (s : State) : Answer := event .samplePeriod s.sampleDue s s.sample

/-- WAKE_AHEAD (R225). -/
def execWakeAhead (plat : Nat) (s : State) : Answer := event (.wakeAhead plat) true s (s.wakeAhead plat)

/-- CHECK (R244). -/
def execCheck (src : Src) (s : State) : Answer :=
  access (.check src) s (s.put src .sch .normal 0xC00 (2 ^ 31))

/-- CHECK_DONE (R244). -/
def execCheckDone (s : State) : Answer := event .checkDone (s.rb .schAdmStat 0 31) s s.admFinish

/-- A recovery function that the tables hold, with the redundancy unit out of retention (R254, R264). -/
def State.rcvLive (s : State) (fn : Nat) : Bool := decide (fn < s.capacity 0x15) && !s.retained

/-- RECOVERY_RESET (R261). -/
def execRecoveryReset (fn : Nat) (s : State) : Answer :=
  event (.recoveryReset fn) (s.rcvLive fn && s.resetDue fn) s (s.resetRcv fn)

/-- LATENT_ERROR_TEST (R262). -/
def execLatentErrorTest (fn : Nat) (s : State) : Answer :=
  event (.latentErrorTest fn) (s.rcvLive fn && s.latentDue fn) s (s.latentTest fn)

end Sys2Proof.Machine
end

