-- ==== Sys2Proof/Machine/PowerCmds.lean ====
section
/-! DEFINITION. The commands of the power states (chapter 16): Doze, Sleep, wake, Run and Off of a Platform (R451 to R456), the
WAKE_N pin (R455), and the retention of the chip-level blocks (R457). -/

namespace Sys2Proof.Machine

/-- DOZE_ENTRY (R451). -/
def execDozeEntry (plat : Nat) (s : State) : Answer := event (.dozeEntry plat) true s (s.doze plat)

/-- SLEEP_ENTRY (R451). -/
def execSleepEntry (plat : Nat) (s : State) : Answer := event (.sleepEntry plat) true s (s.sleep plat)

/-- PLATFORM_WAKE (R454): a cause that is counted in WAKE_TRAFFIC (0), WAKE_LEAD (1) or WAKE_OTHER (2). -/
def execPlatformWake (plat cause : Nat) (s : State) : Answer :=
  event (.platformWake plat cause) true s (s.wake plat cause)

/-- PLATFORM_RUN (R456): only once the chip-level blocks are active, so that the redundancy unit has caught up before a frame is
judged (R264, R457). (DESIGN CHOICE, log 12, DEDUCED, log 54.) -/
def execPlatformRun (plat : Nat) (s : State) : Answer := chipEvent (.platformRun plat) true s (s.platRun plat)

/-- OFF_RETURN (R452). -/
def execOffReturn (plat : Nat) (s : State) : Answer := event (.offReturn plat) true s (s.offReturn plat)

/-- WAKE_N_FALL (R455): in reset and in a halt the pin's level alone (R485, R497). -/
def execWakeNFall (s : State) : Answer :=
  answer .wakeNFall (!s.ao.wakeNLow) s (if s.awake then s.wakeNFall else s.wakeNLow)

/-- WAKE_N_RISE (R455): the pin's level, whatever the switch does. -/
def execWakeNRise (s : State) : Answer := answer .wakeNRise true s s.wakeNRise

/-- CHIP_RETENTION_ENTRY (R457). -/
def execChipRetentionEntry (s : State) : Answer := event .chipRetentionEntry true s s.chipRetain

/-- GPIO triggers that waited for the chip-level blocks are served, each with the instant at which it came (R336, R457). -/
def State.serveTriggers (s : State) : State :=
  s.ao.triggers.foldl (fun s t => s.trigger 2 t) { s with ao := { s.ao with triggers := [] } }

/-- CHIP_WAKE (R457). -/
def execChipWake (s : State) : Answer := event .chipWake s.chipCalled s s.chipWake.serveTriggers

end Sys2Proof.Machine
end

