-- ==== Sys2Proof/Machine/SafetyCmds.lean ====
section
/-! DEFINITION. The commands of the Signal Box (chapter 17): fatal faults (R470), the scrubber, the watchdog and the monitors
(R466 to R468), the operating hours (R477), and fault injection (R479). The Signal Box works from the end of Init on. -/

namespace Sys2Proof.Machine

/-- The Signal Box takes faults: powered, and not halted, or halted with the steps of the halt still under way (R470, R474). -/
def State.detects (s : State) : Bool := s.powered && (!s.halted || s.saf.halting.isSome)

/-- The Signal Box watches clocks and memories: from the end of Init on (R399, R468). -/
def State.guarded (s : State) : Bool := s.detects && decide (1 ≤ s.phase)

/-- HALT (R470): a fatal fault of R474 with its detail words. -/
def execHalt (code : Nat) (detail : List Word) (s : State) : Answer :=
  answer (.halt code detail) s.detects s (s.halt code detail)

/-- SCRUB_READ (R466), with the errors that memories show (R464). -/
def execScrubRead (tableErr treeErr : Option MemErr) (s : State) : Answer :=
  answer (.scrubRead tableErr treeErr) s.guarded s (s.scrub tableErr treeErr)

/-- SAF_WDOG (R467): a write by an agent. -/
def execSafWdog (src : Src) (s : State) : Answer := access (.safWdog src) s (s.put src .saf .normal 0x1C 0)

/-- WATCHDOG_EXPIRY (R467). -/
def execWatchdogExpiry (s : State) : Answer :=
  answer .watchdogExpiry (s.guarded && !s.halted && s.wdogExpired) s (s.halt 0x0040 [Word.ofNat (s.rf .safCfg 0 7 0)])

/-- A window of the monitors in reset, which lasts to the end of Init (R485, R497): a reset that waits for REFCLK_AO completes with
it. -/
def State.refRuns (s : State) (edges : Nat) : State :=
  let s := s.refWindow edges
  match s.boot.waiting with
  | some straps => if s.boot.refOff then s else s.releaseReset straps
  | none => s

/-- CLOCK_MONITOR_WINDOW (R468): the edges counted by each monitor, and the lock of the time PLL. In reset REFCLK_AO alone
matters, and without it time stops (R497). -/
def execClockMonitorWindow (readings : List Nat) (s : State) : Answer :=
  let reset := !s.powered || s.phase = 0
  answer (.clockMonitorWindow readings) (s.boot.vao && (reset || s.guarded)) s
    (if reset then s.refRuns ((readings[3]?).getD 0) else s.clockWindow readings)

/-- SENSOR_READ (R468): from power-up on, in a halted switch too (R471, R478, R488). -/
def execSensorRead (temps rails : List Int) (s : State) : Answer :=
  answer (.sensorRead temps rails) s.powered s (s.readSensors temps rails)

/-- SAFETY_SELFTEST (R468): the monitor or comparator that failed, if one did. -/
def execSafetySelftest (failed : Option Nat) (s : State) : Answer :=
  answer (.safetySelftest failed) s.guarded s
    (match failed with
      | some m => s.halt 0x0060 [Word.ofNat m, 0]
      | none => s)

/-- LIFE_HOUR (R477). -/
def execLifeHour (s : State) : Answer := answer .lifeHour s.powered s s.lifeHour

/-- A GO write to SAF_INJECT (R479). -/
def State.putInject (s : State) (src : Src) (kind plat : Nat) : State :=
  s.put src .saf .normal 0x20 (2 ^ 31 + at_ kind 27 + plat)

/-- INJECT_SINGLE_BIT (R479). -/
def execInjectSingleBit (src : Src) (plat : Nat) (s : State) : Answer :=
  access (.injectSingleBit src plat) s (s.putInject src 1 plat)

/-- INJECT_DOUBLE_BIT (R479). -/
def execInjectDoubleBit (src : Src) (plat : Nat) (s : State) : Answer :=
  access (.injectDoubleBit src plat) s (s.putInject src 2 plat)

/-- INJECT_CELL_CRC (R479). -/
def execInjectCellCrc (src : Src) (plat : Nat) (s : State) : Answer :=
  access (.injectCellCrc src plat) s (s.putInject src 3 plat)

/-- INJECT_LOCKSTEP (R479). -/
def execInjectLockstep (src : Src) (plat : Nat) (s : State) : Answer :=
  access (.injectLockstep src plat) s (s.putInject src 4 plat)

/-- INJECT_CLOCK_MONITOR (R479). -/
def execInjectClockMonitor (src : Src) (plat : Nat) (s : State) : Answer :=
  access (.injectClockMonitor src plat) s (s.putInject src 5 plat)

/-- INJECT_PIPELINE_PARITY (R479). -/
def execInjectPipelineParity (src : Src) (plat : Nat) (s : State) : Answer :=
  access (.injectPipelineParity src plat) s (s.putInject src 6 plat)

end Sys2Proof.Machine
end

