-- ==== Sys2Proof/Machine/TableCmds.lean ====
section
/-! DEFINITION. The commands of the tables: generations (R106 to R108), learning, aging, spreading and flushes (R123 to R130),
claims, the command register and table DMA (R142 to R147, R392, R393). -/

namespace Sys2Proof.Machine

/-- SWAP (R106). -/
def execSwap (src : Src) (timed : Bool) (tb : Nat) (s : State) : Answer :=
  access (.swap src timed tb) s (s.put src .cls .normal 0x10 (2 ^ 31 + at_ (b2n timed) 30 + at_ tb 12))

/-- SWAP_EDGE (R107). -/
def execSwapEdge (s : State) : Answer := event .swapEdge s.swapDue s s.swapEdge

/-- GEN_RETIRED (R108). -/
def execGenRetired (s : State) : Answer := event .genRetired true s s.retire

/-- LEARN_EVENT_APPLY (R123). -/
def execLearnEventApply (plat : Nat) (s : State) : Answer := event (.learnEventApply plat) true s (s.learnNext plat)

/-- AGING_SWEEP (R124). -/
def execAgingSweep (s : State) : Answer := event .agingSweep s.sweepDue s s.agingSweep

/-- SPREAD_COPY (R126). -/
def execSpreadCopy (s : State) : Answer := event .spreadCopy true s s.spreadNext

/-- FLUSH (R128): a write to TBL_FLUSH with GO set; `v` gives the criteria. -/
def execFlush (src : Src) (v : Word) (s : State) : Answer :=
  access (.flush src v) s (s.bus src (regAddr .tbl .normal 0x90) (setBitW v 31 true))

/-- FLUSH_DONE (R128). -/
def execFlushDone (s : State) : Answer := chipEvent .flushDone s.tbl.flushBusy s s.flushStep

/-- CLAIM (R142): the table's bit of TBL_CLAIM set through the SET view. -/
def execClaim (src : Src) (target : Nat) (s : State) : Answer :=
  access (.claim src target) s (s.put src .tbl .set 0x10 (2 ^ target))

/-- CLAIM_GRANTED (R142). -/
def execClaimGranted (target : Nat) (s : State) : Answer :=
  chipEvent (.claimGranted target) (s.claimDue target) s (s.grantClaim target)

/-- CLAIM_RELEASE (R143): the table's bit cleared through the CLR view. -/
def execClaimRelease (src : Src) (target : Nat) (s : State) : Answer :=
  access (.claimRelease src target) s (s.put src .tbl .clr 0x10 (2 ^ target))

/-- A GO write to TBL_CMD (R146). -/
def State.putTblCmd (s : State) (src : Src) (op target index : Nat) : State :=
  s.put src .tbl .normal 0x20 (2 ^ 31 + at_ op 28 + at_ target 20 + index)

/-- TBL_CMD_READ (R146). -/
def execTblCmdRead (src : Src) (target index : Nat) (s : State) : Answer :=
  access (.tblCmdRead src target index) s (s.putTblCmd src 1 target index)

/-- TBL_CMD_WRITE (R146). -/
def execTblCmdWrite (src : Src) (target index : Nat) (s : State) : Answer :=
  access (.tblCmdWrite src target index) s (s.putTblCmd src 2 target index)

/-- TBL_CMD_LOOKUP (R146). -/
def execTblCmdLookup (src : Src) (target index : Nat) (s : State) : Answer :=
  access (.tblCmdLookup src target index) s (s.putTblCmd src 3 target index)

/-- TBL_CMD_INSERT (R146). -/
def execTblCmdInsert (src : Src) (target index : Nat) (s : State) : Answer :=
  access (.tblCmdInsert src target index) s (s.putTblCmd src 4 target index)

/-- TBL_CMD_DELETE (R146). -/
def execTblCmdDelete (src : Src) (target index : Nat) (s : State) : Answer :=
  access (.tblCmdDelete src target index) s (s.putTblCmd src 5 target index)

/-- CMD_DONE (R146). -/
def execCmdDone (s : State) : Answer := chipEvent .cmdDone s.tbl.cmd.isSome s s.finishTblCmd

/-- TABLE_DMA_READ (R144, R392): the descriptor read from the ring. -/
def execTableDmaRead (run : DmaRun) (s : State) : Answer := chipEvent (.tableDmaRead run) s.tdGoes s (s.tableDma run [] none)

/-- TABLE_DMA_WRITE (R144, R392): the descriptor and the words of the host buffer. -/
def execTableDmaWrite (run : DmaRun) (data : List Word) (s : State) : Answer :=
  chipEvent (.tableDmaWrite run data) s.tdGoes s (s.tableDma run (data.flatMap fun w => leBytes 4 w.toNat) none)

end Sys2Proof.Machine
end

