-- ==== Sys2Proof/Machine/TimeCmds.lean ====
section
/-! DEFINITION. The commands of the time block: time-base commands (R292), the snapshot, the time page and the save to MRAM
(R297, R298, R301), two-step records (R314), and the 1PPS pins (R317, R318). -/

namespace Sys2Proof.Machine

/-- A GO write to TIME_CMD (R292). -/
def State.putTimeCmd (s : State) (src : Src) (op tb : Nat) : State :=
  s.put src .time .normal 0x10 (2 ^ 31 + at_ op 28 + at_ tb 24)

/-- TIME_CMD_STEP (R292). -/
def execTimeCmdStep (src : Src) (tb : Nat) (s : State) : Answer :=
  access (.timeCmdStep src tb) s (s.putTimeCmd src 1 tb)

/-- TIME_CMD_SET (R292). -/
def execTimeCmdSet (src : Src) (tb : Nat) (s : State) : Answer :=
  access (.timeCmdSet src tb) s (s.putTimeCmd src 2 tb)

/-- TIME_CMD_TRIM (R292). -/
def execTimeCmdTrim (src : Src) (tb : Nat) (s : State) : Answer :=
  access (.timeCmdTrim src tb) s (s.putTimeCmd src 3 tb)

/-- TIME_CMD_APPLY (R292). -/
def execTimeCmdApply (s : State) : Answer := answer .timeCmdApply (s.awake && s.time.cmd.isSome) s s.timeApply

/-- TIME_SNAP (R297). -/
def execTimeSnap (src : Src) (s : State) : Answer :=
  access (.timeSnap src) s (s.put src .time .normal 0x20 (2 ^ 31))

/-- TIME_SNAP_TAKE (R297). -/
def execTimeSnapTake (s : State) : Answer := answer .timeSnapTake (s.awake && s.time.snapBusy) s s.snapTake

/-- TIME_PAGE_REFRESH (R298). -/
def execTimePageRefresh (s : State) : Answer := event .timePageRefresh true s s.refreshPage

/-- TIME_SAVE (R301). -/
def execTimeSave (s : State) : Answer := event .timeSave true s s.saveTime

/-- TC_RECORD_AGED (R314). -/
def execTcRecordAged (plat : Nat) (s : State) : Answer := event (.tcRecordAged plat) true s (s.ageTc plat)

/-- PPS_OUT_PULSE (R317). -/
def execPpsOutPulse (n : Nat) (s : State) : Answer := event (.ppsOutPulse n) true s (s.ppsPulse n)

/-- PPS_OUT_PULSE_END (R317). -/
def execPpsOutPulseEnd (n : Nat) (s : State) : Answer := event (.ppsOutPulseEnd n) true s (s.ppsEnd n)

/-- PPS_IN_EDGE (R318): a rising edge of a pulse that stays high for `highNs`. -/
def execPpsInEdge (n highNs : Nat) (s : State) : Answer := event (.ppsInEdge n highNs) true s (s.ppsEdge n highNs)

end Sys2Proof.Machine
end

