-- ==== Sys2Proof/Machine/TwinCmds.lean ====
section
/-! DEFINITION. The commands of the twin: the Coupler's link, health frames, halt notices, frames received, and partner
resets (R270 to R284). A received frame is judged by R272 first. -/

namespace Sys2Proof.Machine

/-- COUPLER_LINK_UP (R270); it also ends the retention of the chip-level blocks (R457). -/
def execCouplerLinkUp (s : State) : Answer :=
  event .couplerLinkUp (!s.red.cplLink && s.pairedCfg) s s.cplUp

/-- COUPLER_LINK_DOWN (R270). -/
def execCouplerLinkDown (s : State) : Answer := event .couplerLinkDown s.red.cplLink s s.cplDown

/-- HEALTH_FRAME_SEND (R273). -/
def execHealthFrameSend (s : State) : Answer := event .healthFrameSend true s s.sendHealth

/-- HEALTH_FRAME_RECEIVE (R272 to R275). -/
def execHealthFrameReceive (frame : List Byte) (s : State) : Answer :=
  event (.healthFrameReceive frame) (s.red.cplLink && s.pairedCfg) s (s.cplTake frame (· = 0) fun _ p => s.takeHealth p)

/-- PARTNER_SILENT (R274). -/
def execPartnerSilent (s : State) : Answer := event .partnerSilent true s s.twinSilent

/-- HALT_NOTICE_RECEIVE (R274, R282). -/
def execHaltNoticeReceive (frame : List Byte) (s : State) : Answer :=
  event (.haltNoticeReceive frame) s.pairedCfg s (s.cplTake frame (· = 1) fun _ _ => s.takeHaltNotice)

/-- COUPLER_FRAME_RECEIVE (R279). -/
def execCouplerFrameReceive (frame : List Byte) (s : State) : Answer :=
  event (.couplerFrameReceive frame) s.red.cplLink s
    (s.cplTake frame (fun t => t = 2 || t = 3) fun h p => s.takeCpl h p)

/-- RESET_PARTNER (R283). -/
def execResetPartner (src : Src) (s : State) : Answer :=
  access (.resetPartner src) s (s.put src .red .normal 0x14 (2 ^ 31))

/-- PARTNER_RESET_TIMEOUT (R283). -/
def execPartnerResetTimeout (s : State) : Answer :=
  event .partnerResetTimeout s.partnerResetDue s (s.startResets true)

/-- RESET_REQUEST_SEND (R283). -/
def execResetRequestSend (s : State) : Answer := event .resetRequestSend true s s.sendResetReq

/-- RESET_REQUEST_RECEIVE (R284): the receivers of a halted member stay powered (R282). -/
def execResetRequestReceive (frame : List Byte) (s : State) : Answer :=
  answer (.resetRequestReceive frame) (s.powered && s.pairedCfg) s (s.hearRequest frame)

end Sys2Proof.Machine
end

