-- ==== Sys2Proof/Machine/UpdateCmds.lean ====
section
/-! DEFINITION. The commands of Flalith, updates and device security (chapter 15): requests (R424 to R432, R441), provisioning
and debug access (R440 to R446). -/

namespace Sys2Proof.Machine

/-- Bytes of a request's numbers, most significant first (R424). (DESIGN CHOICE, log 20.) -/
def nums (l : List Nat) : List Byte := l.flatMap fun n => beBytes 4 n

/-- FLALITH_READ (R424). -/
def execFlalithRead (h : FlaHdr) (addrs : List Nat) (s : State) : Answer :=
  event (.flalithRead h addrs) true s (s.flalith h (nums addrs) (·.flaRead h addrs))

/-- FLALITH_WRITE (R424). -/
def execFlalithWrite (h : FlaHdr) (writes : List (Nat × Word)) (s : State) : Answer :=
  let hear := s.flalith h (nums (writes.flatMap fun w => [w.1, w.2.toNat]))
  answerFrom (.flalithWrite h writes) s.running s
    (if writes.length < 2 then s else hear (·.beforeLast writes), hear (·.flaWrite h writes))

/-- REPORT (R424). -/
def execReport (h : FlaHdr) (number offset : Nat) (s : State) : Answer :=
  event (.report h number offset) true s (s.flalith h (nums [number, offset]) (·.flaReport h number offset))

/-- WINDOW_READ (R424). -/
def execWindowRead (h : FlaHdr) (w offset : Nat) (s : State) : Answer :=
  event (.windowRead h w offset) true s (s.flalith h (nums [w] ++ beBytes 8 offset) (·.flaWindow h w offset))

/-- UPD_BEGIN (R427). -/
def execUpdBegin (h : FlaHdr) (pkg bytes : Nat) (s : State) : Answer :=
  event (.updBegin h pkg bytes) true s (s.flalith h (nums [pkg, bytes]) (·.updBegin h pkg bytes))

/-- UPD_PIECE (R428). -/
def execUpdPiece (h : FlaHdr) (pkg index : Nat) (piece : Piece) (s : State) : Answer :=
  event (.updPiece h pkg index piece) true s
    (s.flalith h (nums [pkg, index] ++ List.replicate 8 0 ++ piece.data) (·.updPiece h pkg index piece))

/-- UPD_STATUS (R425). -/
def execUpdStatus (h : FlaHdr) (from_ : Nat) (s : State) : Answer :=
  event (.updStatus h from_) true s (s.flalith h (nums [from_]) (·.updStatus h from_))

/-- UPD_ARM (R430). -/
def execUpdArm (h : FlaHdr) (pkg tries : Nat) (s : State) : Answer :=
  event (.updArm h pkg tries) true s (s.flalith h (nums [pkg] ++ beBytes 1 tries) (·.updArm h pkg tries))

/-- UPD_REBOOT (R431). -/
def execUpdReboot (h : FlaHdr) (delayMs : Nat) (force : Bool) (s : State) : Answer :=
  event (.updReboot h delayMs force) true s (s.flalith h (nums [delayMs] ++ beBytes 1 (b2n force)) (·.updReboot h delayMs force))

/-- UPD_REBOOT_DELAY_END (R431). -/
def execUpdRebootDelayEnd (s : State) : Answer := event .updRebootDelayEnd true s s.rebootNow

/-- UPD_ABORT (R432). -/
def execUpdAbort (h : FlaHdr) (s : State) : Answer := event (.updAbort h) true s (s.flalith h [] (·.updAbort h))

/-- KEY_ROLL (R441). -/
def execKeyRoll (h : FlaHdr) (key : List Byte) (s : State) : Answer :=
  event (.keyRoll h key) true s (s.flalith h key (·.keyRoll h key))

/-- DEBUG_CHALLENGE_READ (R442). -/
def execDebugChallengeRead (s : State) : Answer := answer .debugChallengeRead s.returnsDriven s s.readChallenge

/-- DEBUG_UNLOCK (R442). -/
def execDebugUnlock (sig : DebugSig) (s : State) : Answer := answer (.debugUnlock sig) s.powered s (s.unlock sig)

/-- DEBUG_RESET (R443): through the debug port, which is there only while debug is open. The balls are sampled at
the reset (R397). -/
def execDebugReset (s : State) : Answer :=
  answer .debugReset (s.powered && s.rb .bootSecStat 0 31) s s.debugReset

/-- JTAG_PROVISION (R440). -/
def execJtagProvision (item : JtagItem) (s : State) : Answer :=
  answer (.jtagProvision item) s.powered s (s.provision item)

end Sys2Proof.Machine
end

