-- ==== Sys2Proof/Machine/Dispatch.lean ====
section
/-! DEFINITION. Each command's meaning. -/

namespace Sys2Proof.Machine

/-- The effect of a command on everything but the queue. -/
def exec (i : Instr) (s : State) : Host.Outcome State Fault Refusal :=
  match i with
  | .registerWrite src bar addr bytes => Sys2Proof.Machine.execRegisterWrite src bar addr bytes s
  | .setViewWrite src addr v => Sys2Proof.Machine.execSetViewWrite src addr v s
  | .clrViewWrite src addr v => Sys2Proof.Machine.execClrViewWrite src addr v s
  | .tglViewWrite src addr v => Sys2Proof.Machine.execTglViewWrite src addr v s
  | .lockSet src blk => Sys2Proof.Machine.execLockSet src blk s
  | .commitGroup src tb group => Sys2Proof.Machine.execCommitGroup src tb group s
  | .commitAll src tb => Sys2Proof.Machine.execCommitAll src tb s
  | .commitEdge => Sys2Proof.Machine.execCommitEdge s
  | .cntSnap src plat port => Sys2Proof.Machine.execCntSnap src plat port s
  | .cntSnapDone plat => Sys2Proof.Machine.execCntSnapDone plat s
  | .cellDraw port sfd data => Sys2Proof.Machine.execCellDraw port sfd data s
  | .frameReceive port codeErr => Sys2Proof.Machine.execFrameReceive port codeErr s
  | .pauseReceived port => Sys2Proof.Machine.execPauseReceived port s
  | .pfcReceived port => Sys2Proof.Machine.execPfcReceived port s
  | .pauseTimerExpiry port cls => Sys2Proof.Machine.execPauseTimerExpiry port cls s
  | .firstPass plat => Sys2Proof.Machine.execFirstPass plat s
  | .turntablePass plat => Sys2Proof.Machine.execTurntablePass plat s
  | .extraCopyWrite plat => Sys2Proof.Machine.execExtraCopyWrite plat s
  | .waitListAdmit plat n => Sys2Proof.Machine.execWaitListAdmit plat n s
  | .xonSent port acct => Sys2Proof.Machine.execXonSent port acct s
  | .xoffRefresh port acct => Sys2Proof.Machine.execXoffRefresh port acct s
  | .copySourceXon plat => Sys2Proof.Machine.execCopySourceXon plat s
  | .pauseFrameTx port => Sys2Proof.Machine.execPauseFrameTx port s
  | .transmissionSelection port bufs => Sys2Proof.Machine.execTransmissionSelection port bufs s
  | .projectedStart port cells => Sys2Proof.Machine.execProjectedStart port cells s
  | .frameStart port cells => Sys2Proof.Machine.execFrameStart port cells s
  | .txUnderrun port sent => Sys2Proof.Machine.execTxUnderrun port sent s
  | .txFrameComplete port => Sys2Proof.Machine.execTxFrameComplete port s
  | .lpiEntry port => Sys2Proof.Machine.execLpiEntry port s
  | .linkDown port localFault remoteFault => Sys2Proof.Machine.execLinkDown port localFault remoteFault s
  | .linkUp port speed => Sys2Proof.Machine.execLinkUp port speed s
  | .deadlineDrop port cls => Sys2Proof.Machine.execDeadlineDrop port cls s
  | .holdExpiry port => Sys2Proof.Machine.execHoldExpiry port s
  | .swap src timed tb => Sys2Proof.Machine.execSwap src timed tb s
  | .swapEdge => Sys2Proof.Machine.execSwapEdge s
  | .genRetired => Sys2Proof.Machine.execGenRetired s
  | .learnEventApply plat => Sys2Proof.Machine.execLearnEventApply plat s
  | .agingSweep => Sys2Proof.Machine.execAgingSweep s
  | .spreadCopy => Sys2Proof.Machine.execSpreadCopy s
  | .flush src v => Sys2Proof.Machine.execFlush src v s
  | .flushDone => Sys2Proof.Machine.execFlushDone s
  | .claim src target => Sys2Proof.Machine.execClaim src target s
  | .claimGranted target => Sys2Proof.Machine.execClaimGranted target s
  | .claimRelease src target => Sys2Proof.Machine.execClaimRelease src target s
  | .tblCmdRead src target index => Sys2Proof.Machine.execTblCmdRead src target index s
  | .tblCmdWrite src target index => Sys2Proof.Machine.execTblCmdWrite src target index s
  | .tblCmdLookup src target index => Sys2Proof.Machine.execTblCmdLookup src target index s
  | .tblCmdInsert src target index => Sys2Proof.Machine.execTblCmdInsert src target index s
  | .tblCmdDelete src target index => Sys2Proof.Machine.execTblCmdDelete src target index s
  | .cmdDone => Sys2Proof.Machine.execCmdDone s
  | .tableDmaRead desc => Sys2Proof.Machine.execTableDmaRead desc s
  | .tableDmaWrite desc data => Sys2Proof.Machine.execTableDmaWrite desc data s
  | .gateScheduleStart sched => Sys2Proof.Machine.execGateScheduleStart sched s
  | .timetableStart port => Sys2Proof.Machine.execTimetableStart port s
  | .recoverGo src => Sys2Proof.Machine.execRecoverGo src s
  | .testWindowSet src on => Sys2Proof.Machine.execTestWindowSet src on s
  | .startupWindowClose => Sys2Proof.Machine.execStartupWindowClose s
  | .testWindowExpiry => Sys2Proof.Machine.execTestWindowExpiry s
  | .recoveryWindowClose => Sys2Proof.Machine.execRecoveryWindowClose s
  | .samplePeriod => Sys2Proof.Machine.execSamplePeriod s
  | .wakeAhead plat => Sys2Proof.Machine.execWakeAhead plat s
  | .check src => Sys2Proof.Machine.execCheck src s
  | .checkDone => Sys2Proof.Machine.execCheckDone s
  | .recoveryReset fn => Sys2Proof.Machine.execRecoveryReset fn s
  | .latentErrorTest fn => Sys2Proof.Machine.execLatentErrorTest fn s
  | .couplerLinkUp => Sys2Proof.Machine.execCouplerLinkUp s
  | .couplerLinkDown => Sys2Proof.Machine.execCouplerLinkDown s
  | .healthFrameSend => Sys2Proof.Machine.execHealthFrameSend s
  | .healthFrameReceive frame => Sys2Proof.Machine.execHealthFrameReceive frame s
  | .partnerSilent => Sys2Proof.Machine.execPartnerSilent s
  | .haltNoticeReceive frame => Sys2Proof.Machine.execHaltNoticeReceive frame s
  | .couplerFrameReceive frame => Sys2Proof.Machine.execCouplerFrameReceive frame s
  | .resetPartner src => Sys2Proof.Machine.execResetPartner src s
  | .partnerResetTimeout => Sys2Proof.Machine.execPartnerResetTimeout s
  | .resetRequestSend => Sys2Proof.Machine.execResetRequestSend s
  | .resetRequestReceive frame => Sys2Proof.Machine.execResetRequestReceive frame s
  | .timeCmdStep src tb => Sys2Proof.Machine.execTimeCmdStep src tb s
  | .timeCmdSet src tb => Sys2Proof.Machine.execTimeCmdSet src tb s
  | .timeCmdTrim src tb => Sys2Proof.Machine.execTimeCmdTrim src tb s
  | .timeCmdApply => Sys2Proof.Machine.execTimeCmdApply s
  | .timeSnap src => Sys2Proof.Machine.execTimeSnap src s
  | .timeSnapTake => Sys2Proof.Machine.execTimeSnapTake s
  | .timePageRefresh => Sys2Proof.Machine.execTimePageRefresh s
  | .timeSave => Sys2Proof.Machine.execTimeSave s
  | .tcRecordAged plat => Sys2Proof.Machine.execTcRecordAged plat s
  | .ppsOutPulse n => Sys2Proof.Machine.execPpsOutPulse n s
  | .ppsOutPulseEnd n => Sys2Proof.Machine.execPpsOutPulseEnd n s
  | .ppsInEdge n highNs => Sys2Proof.Machine.execPpsInEdge n highNs s
  | .captureDrainRead plat => Sys2Proof.Machine.execCaptureDrainRead plat s
  | .recordWrite => Sys2Proof.Machine.execRecordWrite s
  | .blockCloseTimeout => Sys2Proof.Machine.execBlockCloseTimeout s
  | .openLenSave => Sys2Proof.Machine.execOpenLenSave s
  | .triggerWrite src => Sys2Proof.Machine.execTriggerWrite src s
  | .gpioTrigger pin rising => Sys2Proof.Machine.execGpioTrigger pin rising s
  | .windowPostEnd w => Sys2Proof.Machine.execWindowPostEnd w s
  | .windowSealed w => Sys2Proof.Machine.execWindowSealed w s
  | .windowCommit src mask => Sys2Proof.Machine.execWindowCommit src mask s
  | .windowRelease src mask => Sys2Proof.Machine.execWindowRelease src mask s
  | .windowCommitDone w => Sys2Proof.Machine.execWindowCommitDone w s
  | .windowCommitError w => Sys2Proof.Machine.execWindowCommitError w s
  | .cxlError => Sys2Proof.Machine.execCxlError s
  | .functionReset cause => Sys2Proof.Machine.execFunctionReset cause s
  | .spiWrite bytes => Sys2Proof.Machine.execSpiWrite bytes s
  | .spiRead bytes words => Sys2Proof.Machine.execSpiRead bytes words s
  | .msixUnmask v => Sys2Proof.Machine.execMsixUnmask v s
  | .perfCounterWrite src plat n hi v => Sys2Proof.Machine.execPerfCounterWrite src plat n hi v s
  | .enableUnit src u => Sys2Proof.Machine.execEnableUnit src u s
  | .disableUnit src u => Sys2Proof.Machine.execDisableUnit src u s
  | .unitIdle u => Sys2Proof.Machine.execUnitIdle u s
  | .txDb src q v user => Sys2Proof.Machine.execTxDb src q v user s
  | .rxDb src q v user => Sys2Proof.Machine.execRxDb src q v user s
  | .cqDb src q v user => Sys2Proof.Machine.execCqDb src q v user s
  | .tdDb src v => Sys2Proof.Machine.execTdDb src v s
  | .tdcDb src v => Sys2Proof.Machine.execTdcDb src v s
  | .hostTxFetch q descs data => Sys2Proof.Machine.execHostTxFetch q descs data s
  | .dmaAccessFail what => Sys2Proof.Machine.execDmaAccessFail what s
  | .rxHoldDrop q cls => Sys2Proof.Machine.execRxHoldDrop q cls s
  | .completionWrite u => Sys2Proof.Machine.execCompletionWrite u s
  | .cqTimerExpiry u => Sys2Proof.Machine.execCqTimerExpiry u s
  | .vaoRise => Sys2Proof.Machine.execVaoRise s
  | .vaoFall => Sys2Proof.Machine.execVaoFall s
  | .pwrgoodFall => Sys2Proof.Machine.execPwrgoodFall s
  | .resetNAssert => Sys2Proof.Machine.execResetNAssert s
  | .resetNRelease straps => Sys2Proof.Machine.execResetNRelease straps s
  | .bootInit selftestOk => Sys2Proof.Machine.execBootInit selftestOk s
  | .bootIdentity flashOk => Sys2Proof.Machine.execBootIdentity flashOk s
  | .bootRestore found => Sys2Proof.Machine.execBootRestore found s
  | .bootLoad fails engine => Sys2Proof.Machine.execBootLoad fails engine s
  | .bootApply => Sys2Proof.Machine.execBootApply s
  | .bootAdmission => Sys2Proof.Machine.execBootAdmission s
  | .bootCommit => Sys2Proof.Machine.execBootCommit s
  | .flalithRead h addrs => Sys2Proof.Machine.execFlalithRead h addrs s
  | .flalithWrite h writes => Sys2Proof.Machine.execFlalithWrite h writes s
  | .report h number offset => Sys2Proof.Machine.execReport h number offset s
  | .windowRead h w offset => Sys2Proof.Machine.execWindowRead h w offset s
  | .updBegin h pkg bytes => Sys2Proof.Machine.execUpdBegin h pkg bytes s
  | .updPiece h pkg index piece => Sys2Proof.Machine.execUpdPiece h pkg index piece s
  | .updStatus h from_ => Sys2Proof.Machine.execUpdStatus h from_ s
  | .updArm h pkg tries => Sys2Proof.Machine.execUpdArm h pkg tries s
  | .updReboot h delayMs force => Sys2Proof.Machine.execUpdReboot h delayMs force s
  | .updRebootDelayEnd => Sys2Proof.Machine.execUpdRebootDelayEnd s
  | .updAbort h => Sys2Proof.Machine.execUpdAbort h s
  | .keyRoll h key => Sys2Proof.Machine.execKeyRoll h key s
  | .debugChallengeRead => Sys2Proof.Machine.execDebugChallengeRead s
  | .debugUnlock sig => Sys2Proof.Machine.execDebugUnlock sig s
  | .debugReset => Sys2Proof.Machine.execDebugReset s
  | .jtagProvision item => Sys2Proof.Machine.execJtagProvision item s
  | .dozeEntry plat => Sys2Proof.Machine.execDozeEntry plat s
  | .sleepEntry plat => Sys2Proof.Machine.execSleepEntry plat s
  | .platformWake plat cause => Sys2Proof.Machine.execPlatformWake plat cause s
  | .platformRun plat => Sys2Proof.Machine.execPlatformRun plat s
  | .offReturn plat => Sys2Proof.Machine.execOffReturn plat s
  | .wakeNFall => Sys2Proof.Machine.execWakeNFall s
  | .chipRetentionEntry => Sys2Proof.Machine.execChipRetentionEntry s
  | .chipWake => Sys2Proof.Machine.execChipWake s
  | .halt code detail => Sys2Proof.Machine.execHalt code detail s
  | .scrubRead tableErr treeErr => Sys2Proof.Machine.execScrubRead tableErr treeErr s
  | .safWdog src => Sys2Proof.Machine.execSafWdog src s
  | .watchdogExpiry => Sys2Proof.Machine.execWatchdogExpiry s
  | .clockMonitorWindow readings => Sys2Proof.Machine.execClockMonitorWindow readings s
  | .sensorRead temps rails => Sys2Proof.Machine.execSensorRead temps rails s
  | .safetySelftest failed => Sys2Proof.Machine.execSafetySelftest failed s
  | .lifeHour => Sys2Proof.Machine.execLifeHour s
  | .injectSingleBit src plat => Sys2Proof.Machine.execInjectSingleBit src plat s
  | .injectDoubleBit src plat => Sys2Proof.Machine.execInjectDoubleBit src plat s
  | .injectCellCrc src plat => Sys2Proof.Machine.execInjectCellCrc src plat s
  | .injectLockstep src plat => Sys2Proof.Machine.execInjectLockstep src plat s
  | .injectClockMonitor src plat => Sys2Proof.Machine.execInjectClockMonitor src plat s
  | .injectPipelineParity src plat => Sys2Proof.Machine.execInjectPipelineParity src plat s
  | .lpiLeadWake port => Sys2Proof.Machine.execLpiLeadWake port s
  | .receiveLpiChange port on => Sys2Proof.Machine.execReceiveLpiChange port on s
  | .wakeNRise => Sys2Proof.Machine.execWakeNRise s
  | .pcieLinkUp width speed => Sys2Proof.Machine.execPcieLinkUp width speed s
  | .d3hotEntry => Sys2Proof.Machine.execD3hotEntry s
  | .aocCopyRefresh => Sys2Proof.Machine.execAocCopyRefresh s
  | .perfCounterWrap plat n => Sys2Proof.Machine.execPerfCounterWrap plat n s
  | .durationCounterHalfRange bank unit slot => Sys2Proof.Machine.execDurationCounterHalfRange bank unit slot s

end Sys2Proof.Machine
end

