-- ==== Sys2Proof/Safety.lean ====
section
/-! DEFINITION. What counts as a safe run: no fault and no refusal, a halted switch that stays silent until a reset (R470,
R471), and interrupt state that agrees with its sources (R352). -/

namespace Sys2Proof

open Sys2Proof.Machine

/-- The commands that end a halt: the resets of R396 and of R443, the partner's of R284, and a loss of supplies. -/
def endsHalt : Instr → Bool
  | .resetNAssert => true
  | .pwrgoodFall => true
  | .vaoFall => true
  | .vaoRise => true
  | .resetNRelease _ => true
  | .resetRequestReceive _ => true
  | .debugReset => true
  | _ => false

/-- The commands that act in a halted switch without ending the halt (R8, R348, R468, R471, R477, R497): some at any time, and
until the halt is complete those that may bring a further fault to count (R474). -/
def Machine.State.hears (s : State) : Instr → Bool
  | .functionReset _ => true
  | .aocCopyRefresh => true
  | .lifeHour => true
  | .sensorRead _ _ => true
  | .wakeNRise => true
  | .pcieLinkUp _ _ => true
  | .debugChallengeRead => true
  | .debugUnlock _ => true
  | .jtagProvision _ => true
  | .halt _ _ => s.saf.halting.isSome
  | .scrubRead _ _ => s.saf.halting.isSome
  | .safetySelftest _ => s.saf.halting.isSome
  | .clockMonitorWindow _ => s.saf.halting.isSome || !s.powered
  | _ => false

/-- No vector has a pending bit whose source is not active (R352). -/
def pendingActive (s : State) : Prop := ∀ v, v < 64 → bitOf s.host.pend v = true → s.active v = true

/-- A state without what the end of every command brings up to date (State.fin): the messages sent and the pending bits (R352),
the pin changes (R353), since when Platforms and chip-level blocks have been quiet (R451, R457), and the older slots of MRAM's
records (R410). The queue is no command's to change. Two states with one `bare` are the same in every register, counter, port,
Platform, table and unit. -/
def Machine.State.bare (s : State) : State :=
  { s with
    pending := []
    out := []
    slots := {}
    host := { s.host with pend := 0 }
    ao := { s.ao with chipIdle := none }
    plats := s.plats.map fun p => { p with quietSince := none } }

/-- A block that the switch has (R498). -/
def Machine.Blk.ok : Blk → Bool
  | .plat p => decide (p < 8)
  | _ => true

/-- An agent's register accesses act: the switch is awake, and past the boot's commit edge for any agent but firmware (R400,
R471), and HP_PERST_N does not hold the host's function in reset (R497). -/
def Machine.State.takes (s : State) (src : Src) : Prop :=
  s.awake = true ∧ (s.committed = true ∨ src = .firmware) ∧ s.reaches src = true

/-- As `takes`, for a register of block `b`: the BOOT block is open from the start (R400). -/
def Machine.State.opens (s : State) (src : Src) (b : Blk) : Prop :=
  s.awake = true ∧ (s.committed = true ∨ src = .firmware ∨ b = .boot) ∧ s.reaches src = true

/-- A command completes with the state `t` but for what State.bare leaves out, and leaves the queue alone. -/
def completes (c : Instr) (s t : State) : Prop := ∃ u, exec c s = .next u ∧ u.bare = t.bare ∧ u.pending = s.pending

end Sys2Proof
end

