-- ==== Sys2Proof/Certificates/Slice0/Obligations.lean ====
section
/-! DEFINITION. The statements about the switch: each names the rule of the specification that it formalises. A statement that a
command `completes` gives the whole state after it, so it is the command's frame as well: what it does not name is unchanged. -/

open Sys2Proof Sys2Proof.Machine

/-- The registers' words stand in canonical form, each word other than its cold value and listed once, in rising order. -/
def regsCanonical (m : Store Word) : Prop := Store.wfD coldKey none m = true

/-! ### The block as a whole -/

/-- A step takes the command at the front of the queue and runs it on the state with the rest of the queue. The queue and its
order are the model's choice (log entry 1). -/
def Obligations.StepRunsFrontCommand : Prop :=
  ∀ (c : Instr) (rest : List Instr) (s : State), s.pending = c :: rest → step s = exec c { s with pending := rest }

/-- With no command waiting, a step is one core clock of 0.8 ns (log entry 2, the model's choice): time passes, and no port,
table, setting, time base or image changes. Without VAO nothing changes at all, nor in a reset, to the end of Init, without
REFCLK_AO (R497). The steps of a halt have a statement of their own. -/
def Obligations.IdleStepIsOneClock : Prop :=
  ∀ s : State, s.pending = [] →
    (s.timeRuns = true → s.saf.halting = none → ∃ t, step s = .next t ∧ t.fs = s.fs + 800000 ∧ t.pending = []
        ∧ t.ports = s.ports ∧ t.tables = s.tables ∧ t.tree = s.tree ∧ t.epochs = s.epochs ∧ t.time = s.time
        ∧ t.boot = s.boot)
      ∧ (s.timeRuns = false → step s = .next s)
      ∧ (s.timeRuns = true ↔ s.boot.vao = true ∧ s.boot.refOff = false)

/-- Every command answers a next state, so none is refused and none ends in a fault; one whose operands name nothing the switch
has leaves the state as it is. -/
def Rules.EveryCommandAnswers : Prop :=
  ∀ (c : Instr) (s : State), (∃ t, exec c s = .next t) ∧ (c.wf = false → exec c s = .next s)

/-- No command changes the queue of the commands that wait. -/
def Rules.CommandsLeaveTheQueue : Prop :=
  ∀ (c : Instr) (s t : State), exec c s = .next t → t.pending = s.pending

/-- Every command answers, and leaves the queue alone. That a command with ill-formed operands changes nothing is the model's
choice (log entry 4). -/
def Obligations.CommandsAnswer : Prop :=
  Rules.EveryCommandAnswers ∧ Rules.CommandsLeaveTheQueue

/-- R352: a vector has a pending bit only while its source is active. Every step keeps this, from any state that has it. -/
def Obligations.PendingOnlyWhileActive : Prop :=
  ∀ s t : State, pendingActive s → step s = .next t → pendingActive t

/-- The invariant of PendingOnlyWhileActive holds right after reset. -/
def Obligations.ResetHasNoPending : Prop := pendingActive State.reset ∧ State.reset.host.pend = 0

/-- R471: a halted switch stands still. No command changes anything but messages and pins, save the resets and supply changes
that end the halt, and those that State.hears names: a reset of the PCIe function (R348), the refresh of the always-on copies
(R8), the operating hours (R477), the sensors (R468), the WAKE_N pin, the training of the PCIe link, over which the BOOT block is
still served (R408, R471), JTAG and the debug port, and, until the halt is complete, what may count as a further fault (R474). That
JTAG and the debug port act in a halted switch is the model's reading (log entry 23), that the link may train in one its reading
too (log entry 28), and that an event which cannot occur changes nothing its choice (log entry 3). -/
def Obligations.HaltedSwitchStandsStill : Prop :=
  ∀ (c : Instr) (s t : State), s.halted = true → endsHalt c = false → s.hears c = false → exec c s = .next t → t.bare = s.bare

/-- R471: while the switch is halted, INT_N is released, reads of every block but SAF and BOOT return 0, and so do the MSI-X
table and the pending bits (R500). -/
def Rules.HaltedReadsReturnZero : Prop :=
  ∀ (s : State) (src : Src) (a : Nat), s.halted = true → s.intN = false
    ∧ (decodeAddr a = none → s.busRead src a = 0)
    ∧ (∀ b w off, decodeAddr a = some (b, w, off) → b ≠ .saf → b ≠ .boot → s.busRead src a = 0)

/-- R400, R471: without supplies, in reset or halted, no register write has any effect through any view or window. -/
def Rules.WritesNeedAnAwakeSwitch : Prop :=
  ∀ (s : State) (src : Src) (a : Nat) (v : Word) (bar : Bar) (bytes : List Byte), s.awake = false →
    (s.busWrite src a v) = s
      ∧ ((Instr.registerWrite src bar a bytes).wf = true → completes (.registerWrite src bar a bytes) s s)
      ∧ (isNormal a = true → completes (.setViewWrite src a v) s s ∧ completes (.clrViewWrite src a v) s s
          ∧ completes (.tglViewWrite src a v) s s)

/-- R347, R400, R471: reads where the switch does not serve them. Without supplies or in reset every register reads 0, and so does
every word that no register has; the user window reads 0 in a halted switch too; before the boot commit edge a register outside the
BOOT block and the always-on domain reads its cold value. -/
def Rules.ReadsBeforeTheSwitchServes : Prop :=
  ∀ (s : State) (src : Src) (a : Nat),
    (s.powered = false → s.busRead src a = 0)
      ∧ (s.awake = false → s.userRead a = 0)
      ∧ (a % 4 ≠ 0 → s.busRead src a = 0)
      ∧ ∀ b w off id i win, decodeAddr a = some (b, w, off) →
        (s.regAt b off = none → s.busRead src a = 0)
          ∧ (a % 4 = 0 → s.awake = true → s.committed = false → b ≠ .boot → alwaysOn b id = false →
              s.regAt b off = some (id, i, win) → s.busRead src a = coldWord id i &&& ~~~(Word.ofNat id.woMask))

/-- Register accesses while the switch is halted, in reset or not yet running. That VAO's registers answer before the commit edge is
read by log entry 52. -/
def Obligations.AccessesWhileHalted : Prop :=
  Rules.HaltedReadsReturnZero ∧ Rules.WritesNeedAnAwakeSwitch ∧ Rules.ReadsBeforeTheSwitchServes

/-- What reset leaves: the boot stands in its first phase, nothing is halted, no link is up, no frame waits, the buffer is free,
and the registers have their cold values: MAX_FRAME 1,522 bytes (R41), start threshold 2 cells (R54), hold 50 ms (R200). That
reset is the moment at which RESET_N rises with the supplies good is the model's choice (log entry 8), and so is the emptiness
of what is no register (log entry 9). -/
def Obligations.ResetState : Prop :=
  State.reset.awake = true ∧ State.reset.phase = 0 ∧ State.reset.committed = false ∧ State.reset.running = false
    ∧ State.reset.pending = [] ∧ State.reset.sharedUsed = 0 ∧ State.reset.refs = [] ∧ State.reset.commit.busy = false
    ∧ (∀ n, (State.reset.port n).link = false ∧ (State.reset.port n).tx = none)
    ∧ (∀ t i w, State.reset.tab t i w = 0)
    ∧ (∀ n, n < 512 → State.reset.cfg.maxFrame n = 1522 ∧ State.reset.cfg.f .platPortTxstart n 5 0 = 2
        ∧ State.reset.cfg.f .tmPortHold n 13 0 = 50 ∧ State.reset.cfg.enabled n = false)
    ∧ (∀ v, State.reset.active v = false)

/-! ### Registers, views and locks (chapters 1 and 12) -/

/-- The interrupt enables: registers whose every bit software sets and clears, and nothing else changes. -/
def enables : List RegId :=
  [.glbIllegalEn, .safIntEn, .aoIntEn, .bootIntEn, .timeIntEn, .hostIntEn, .hostQpIntEn, .tblIntEn, .clsIntEn, .psfIntEn,
    .redIntEn, .tmIntEn, .schIntEn, .recIntEn, .platIntEn]

/-- The interrupt status registers whose latched bits software clears, with the summary and the counts of the illegal sequences. -/
def latches : List RegId :=
  [.glbIllegalSum, .blkIllegal, .safIntStat, .bootIntStat, .timeIntStat, .hostQpIntStat, .tblIntStat, .clsIntStat, .psfIntStat,
    .redIntStat, .tmIntStat, .schIntStat, .recIntStat]

/-- R4, R6, R358: what a write of `v` through each view makes of an interrupt enable, or of the latched bits of an interrupt
status register, which it clears through the CLR view: `v`, or the bits of `v` set, cleared or inverted, on the bits that software
may write (R5, R7). A view write of a `v` that names none of them changes nothing. -/
def Rules.ViewsOfInterrupts : Prop :=
  ∀ (s : State) (src : Src) (b : Blk) (off : Nat) (id : RegId) (i : Nat) (v : Word),
    b.ok = true → off < 0x10000 → off % 4 = 0 → s.regAt b off = some (id, i, false) → id ∈ enables ++ latches →
    s.opens src b →
      let m := Word.ofNat id.rwMask
      let old := s.reg id i
      completes (.registerWrite src .bar0 (regAddr b .normal off) (leBytes 4 v.toNat)) s
          (s.setReg id i ((old &&& ~~~m) ||| (v &&& m)))
        ∧ (v &&& m ≠ 0 →
            completes (.setViewWrite src (regAddr b .normal off) v) s (s.setReg id i (old ||| (v &&& m)))
              ∧ completes (.clrViewWrite src (regAddr b .normal off) v) s (s.setReg id i (old &&& ~~~(v &&& m)))
              ∧ completes (.tglViewWrite src (regAddr b .normal off) v) s (s.setReg id i (old ^^^ (v &&& m))))
        ∧ (v &&& m = 0 →
            completes (.setViewWrite src (regAddr b .normal off) v) s s
              ∧ completes (.clrViewWrite src (regAddr b .normal off) v) s s
              ∧ completes (.tglViewWrite src (regAddr b .normal off) v) s s)

/-- The registers whose GO bit starts something at once, and whose every writable field is WO. -/
def goRegisters : List RegId := [.timeCmd, .timeSnap, .tblCmd, .clsGenCtrl, .redTwinCtrl, .schAdmCtrl, .recTrigCtrl, .safInject]

/-- R354: a view acts on a WO field as on one that reads 0, so a GO bit fires through the SET and the TGL view as through the normal
one, and never through the CLR view. -/
def Rules.GoThroughViews : Prop :=
  ∀ (s : State) (src : Src) (b : Blk) (off : Nat) (id : RegId) (i : Nat) (v : Word),
    b.ok = true → off < 0x10000 → off % 4 = 0 → s.regAt b off = some (id, i, false) → id ∈ goRegisters → s.opens src b →
      let a := regAddr b .normal off
      s.readReg src id i &&& Word.ofNat id.woMask = 0
        ∧ (bitW v 31 = true → ∃ t, completes (.registerWrite src .bar0 a (leBytes 4 v.toNat)) s t
            ∧ completes (.setViewWrite src a v) s t ∧ completes (.tglViewWrite src a v) s t)
        ∧ completes (.clrViewWrite src a v) s s

/-- R358, R359: an illegal sequence. COUNT of the block that names it counts, up to 0xFFFFFFFF; LAST shows the cause, the source and
the register's offset; the block's bit of GLB_ILLEGAL_SUM is set. Nothing else changes, so what was written is ignored. -/
def Rules.IllegalSequences : Prop :=
  ∀ (s : State) (b : Blk) (off : Nat) (src : Src) (cause : Nat), regsCanonical s.regs → b.ok = true → off < 65536 → cause < 16 →
    let t := s.illegal b off src cause
    let n := s.reg .blkIllegal b.no
    t.reg .blkIllegal b.no = (if n = 0xFFFFFFFF then n else n + 1)
      ∧ fld (t.reg .blkIllegalLast b.no) 31 28 = cause ∧ fld (t.reg .blkIllegalLast b.no) 27 26 = srcNo src
      ∧ fld (t.reg .blkIllegalLast b.no) 15 0 = off
      ∧ t.reg .glbIllegalSum 0 = s.reg .glbIllegalSum 0 ||| Word.ofNat (2 ^ b.no)
      ∧ (∀ id i, (id = .blkIllegal ∨ id = .blkIllegalLast → i ≠ b.no) → (id = .glbIllegalSum → i ≠ 0) → t.reg id i = s.reg id i)
      ∧ { t with regs := s.regs } = s

/-- Interrupt enables and interrupt status through the four views, GO bits, and illegal sequences. That a view write naming no bit
changes nothing is read by log entry 25. -/
def Obligations.ViewsOfInterruptEnables : Prop :=
  Rules.ViewsOfInterrupts ∧ Rules.GoThroughViews ∧ Rules.IllegalSequences

/-- R4, R19, R354: a write to a setting of a commit group that no pending commit covers changes its staged value: replaced by the
normal view, its named bits set, cleared or inverted by the others, and nothing where a view write names no bit of it. The committed
settings stay as they were. Where admission binds the group before or after it, PROVED clears with it (R244). -/
def Rules.StagedWrites : Prop :=
  ∀ (s : State) (src : Src) (b : Blk) (off : Nat) (id : RegId) (i : Nat) (win : Bool) (g : Nat) (v : Word),
    b.ok = true → off < 0x10000 → off % 4 = 0 → s.regAt b off = some (id, i, win) → (win = true → s.noPort = false) →
    groupOf id i = some g → id.aocMask = 0 → s.coveredGroup g = false → s.opens src b →
      let m := Word.ofNat id.stored
      let old := s.reg id i
      let a := regAddr b .normal off
      let stages (c : Instr) (w : Word) : Prop :=
        let t := s.setReg id i w
        completes c s (if s.admBound g ∨ t.admBound g then t.admTouched else t) ∧ t.cfg = s.cfg
      stages (.registerWrite src .bar0 a (leBytes 4 v.toNat)) ((old &&& ~~~m) ||| (v &&& m))
        ∧ (v &&& m ≠ 0 →
            stages (.setViewWrite src a v) (old ||| (v &&& m)) ∧ stages (.clrViewWrite src a v) (old &&& ~~~(v &&& m))
              ∧ stages (.tglViewWrite src a v) (old ^^^ (v &&& m)))
        ∧ (v &&& m = 0 →
            completes (.setViewWrite src a v) s s ∧ completes (.clrViewWrite src a v) s s
              ∧ completes (.tglViewWrite src a v) s s)

/-- R8, R357: a write to a register of the always-on domain acts on its original, through each view, and the agent that wrote it
reads back what it wrote without waiting for the refresh of the copy. -/
def Rules.AlwaysOnWrites : Prop :=
  ∀ (s : State) (src : Src) (b : Blk) (off : Nat) (id : RegId) (i : Nat) (v : Word),
    b.ok = true → off < 0x10000 → off % 4 = 0 → s.regAt b off = some (id, i, false) →
    id ∈ [RegId.aoPwrCtrl, .aoWakeCfg, .aoPlatCfg, .timeTbCfg, .aoIntStat] → (∀ g, groupOf id i = some g → s.coveredGroup g = false) →
    s.opens src b →
      let m := Word.ofNat id.aocMask
      let old := s.reg id i
      let k := regKey id i
      let a := regAddr b .normal off
      let lands (w : Word) : State :=
        let t := s.setReg id i w
        { t with ao := { t.ao with wrote := Store.set 0 s.ao.wrote k (Store.get 0 s.ao.wrote k ||| 2 ^ srcNo src) } }
      completes (.registerWrite src .bar0 a (leBytes 4 v.toNat)) s (lands ((old &&& ~~~m) ||| (v &&& m)))
        ∧ (v &&& m ≠ 0 →
            completes (.setViewWrite src a v) s (lands (old ||| (v &&& m)))
              ∧ completes (.clrViewWrite src a v) s (lands (old &&& ~~~(v &&& m)))
              ∧ completes (.tglViewWrite src a v) s (lands (old ^^^ (v &&& m))))
        ∧ (Store.wf 0 s.ao.wrote = true → ∀ w, (lands w).readReg src id i = (lands w).fullReg id i)

/-- Writes to the settings of the commit groups, and to the registers of the always-on domain. When PROVED clears is read by log
entry 30; that a view write naming no bit changes nothing, by log entry 25. -/
def Obligations.StagedWriteLeavesCommitted : Prop :=
  Rules.StagedWrites ∧ Rules.AlwaysOnWrites

/-- R26: while a commit is pending, a write to a setting of a group that it covers is ignored and counted as an illegal sequence
with CAUSE 3, through every view that names one of its bits; with ALL set every group is covered. A further GO write is ignored and
counted with CAUSE 2. -/
def Obligations.PendingCommitShutsOut : Prop :=
  ∀ (s : State) (src : Src), s.takes src → s.commit.busy = true →
    (∀ tb g, tb < 8 → g < 4096 → completes (.commitGroup src tb g) s (s.illegal .glb 0x100 src 2))
      ∧ (∀ tb, tb < 8 → completes (.commitAll src tb) s (s.illegal .glb 0x100 src 2))
      ∧ ∀ (b : Blk) (off : Nat) (id : RegId) (i : Nat) (win : Bool) (g : Nat) (v : Word), b.ok = true → off < 0x10000 →
        off % 4 = 0 → s.regAt b off = some (id, i, win) → (win = true → s.noPort = false) → groupOf id i = some g →
        (s.commit.all = true ∨ g ∈ s.commit.groups) →
          completes (.registerWrite src .bar0 (regAddr b .normal off) (leBytes 4 v.toNat)) s (s.illegal b off src 3)
            ∧ (v &&& Word.ofNat (id.writableBy src) ≠ 0 →
                completes (.setViewWrite src (regAddr b .normal off) v) s (s.illegal b off src 3)
                  ∧ completes (.clrViewWrite src (regAddr b .normal off) v) s (s.illegal b off src 3)
                  ∧ completes (.tglViewWrite src (regAddr b .normal off) v) s (s.illegal b off src 3))

/-- R356: a write of 1 to BLK_LOCK.LOCK sets it; while it is set, a write that would clear it, through the normal, CLR or TGL view,
changes nothing and counts an illegal sequence with CAUSE 1. -/
def Rules.LockBit : Prop :=
  ∀ (s : State) (src : Src) (b : Blk), b.ok = true →
    s.opens src b →
      completes (.lockSet src b.no) s (s.setReg .blkLock b.no ((s.reg .blkLock b.no) ||| 0x80000000))
        ∧ (bitW (s.reg .blkLock b.no) 31 = true →
            completes (.registerWrite src .bar0 (regAddr b .normal 0xF00) [0, 0, 0, 0]) s (s.illegal b 0xF00 src 1)
              ∧ completes (.clrViewWrite src (regAddr b .normal 0xF00) 0x80000000) s (s.illegal b 0xF00 src 1)
              ∧ completes (.tglViewWrite src (regAddr b .normal 0xF00) 0x80000000) s (s.illegal b 0xF00 src 1))

/-- The registers whose every field is locked by BLK_LOCK (RWL). -/
def lockables : List RegId := [.safCfg, .bootFlaCfg, .bootUpdCfg, .perfUserEn]

/-- R8, R356: while its block is locked, a write to an RWL field is ignored and counted as an illegal sequence with CAUSE 1, through
every view that names one of its bits; unlocked, the field is written. -/
def Rules.LockedFields : Prop :=
  ∀ (s : State) (src : Src) (b : Blk) (off : Nat) (id : RegId) (i : Nat) (v : Word),
    b.ok = true → off < 0x10000 → off % 4 = 0 → s.regAt b off = some (id, i, false) → id ∈ lockables → s.opens src b →
      let m := Word.ofNat id.rwlMask
      let old := s.reg id i
      let a := regAddr b .normal off
      (bitW (s.reg .blkLock b.no) 31 = true →
          completes (.registerWrite src .bar0 a (leBytes 4 v.toNat)) s (s.illegal b off src 1)
            ∧ (v &&& m ≠ 0 →
                completes (.setViewWrite src a v) s (s.illegal b off src 1)
                  ∧ completes (.clrViewWrite src a v) s (s.illegal b off src 1)
                  ∧ completes (.tglViewWrite src a v) s (s.illegal b off src 1)))
        ∧ (bitW (s.reg .blkLock b.no) 31 = false →
          completes (.registerWrite src .bar0 a (leBytes 4 v.toNat)) s (s.setReg id i ((old &&& ~~~m) ||| (v &&& m)))
            ∧ (v &&& m ≠ 0 →
                completes (.setViewWrite src a v) s (s.setReg id i (old ||| (v &&& m)))
                  ∧ completes (.clrViewWrite src a v) s (s.setReg id i (old &&& ~~~(v &&& m)))
                  ∧ completes (.tglViewWrite src a v) s (s.setReg id i (old ^^^ (v &&& m)))))
        ∧ (v &&& m = 0 →
            completes (.setViewWrite src a v) s s ∧ completes (.clrViewWrite src a v) s s
              ∧ completes (.tglViewWrite src a v) s s)

/-- Locks: the bit itself, and the fields that it locks. That a view write naming none of a register's lockable bits changes
nothing and counts no illegal sequence, locked or not, is read by log entry 25, which also says what a write makes of a register
with both lockable fields and others; those registers are not stated here. -/
def Obligations.LockSetsAndHolds : Prop :=
  Rules.LockBit ∧ Rules.LockedFields

/-- R21 to R25: a request for a commit with none pending. A group that no rule names, or the lowest covered group that fails its
check, refuses the whole commit: REFUSED, REFUSED_GROUP and an illegal sequence with CAUSE 4, and nothing else changes. Otherwise
the commit is pending: in Immediate mode without a target, in Timed mode with the target, or with LATE when it lies in the past. -/
def Rules.CommitRequest : Prop :=
  ∀ (s : State) (src : Src) (tb : Nat), s.takes src → s.commit.busy = false → tb < 8 →
    let refused (g : Nat) : State :=
      ((s.orReg .glbCommitStat 0 (2 ^ 29)).setRf .glbCommitStat 0 23 12 g).illegal .glb 0x100 src 4
    let at_ := s.targetOf tb (s.reg .glbCommitAt 0).toNat
    let accepted (c : CommitSt) : State :=
      if s.timedMode = false then { s with commit := c }
      else if at_.2 = true then { s with commit := { c with target := some at_.1 } }
      else { s.orReg .glbCommitStat 0 (2 ^ 28) with commit := c }
    (∀ g, g < 4096 → groupNamed g = false → completes (.commitGroup src tb g) s (refused g))
      ∧ (∀ g, groupNamed g = true →
          (s.failing [g] false = some g → completes (.commitGroup src tb g) s (refused g))
            ∧ (s.failing [g] false = none →
                completes (.commitGroup src tb g) s (accepted { busy := true, groups := [g], tb := tb })))
      ∧ (∀ g, s.failing s.stagedGroups true = some g → completes (.commitAll src tb) s (refused g))
      ∧ (s.failing s.stagedGroups true = none →
          completes (.commitAll src tb) s
            (accepted { busy := true, groups := s.stagedGroups, all := true, proved := s.rb .schAdmStat 0 30, tb := tb }))

/-- R22: the group reported is a covered one that fails, and every covered group of a lower number passes; a commit without a
failing group has none. -/
def Rules.LowestFailingGroup : Prop :=
  ∀ (s : State) (g : Nat),
    let fails (h : Nat) : Prop := (s.groupOk (s.afterCommit s.stagedGroups) h && s.admAllows true h) = false
    (s.failing s.stagedGroups true = some g →
        g ∈ s.stagedGroups ∧ fails g ∧ ∀ h ∈ s.stagedGroups, h < g → ¬ fails h)
      ∧ (s.failing s.stagedGroups true = none → ∀ h ∈ s.stagedGroups, ¬ fails h)

/-- The acceptance and the refusal of commits. -/
def Obligations.CommitRequests : Prop :=
  Rules.CommitRequest ∧ Rules.LowestFailingGroup

/-- R21, R24: at its edge a pending commit makes the staged values of every group that it covers the committed ones and leaves the
committed values of all others; the commit is over, and frames that the old settings bind keep them (R28). Before the edge is due,
nothing happens. -/
def Obligations.CommitEdgeTakesStaged : Prop :=
  ∀ s : State, s.running = true →
    (s.edgeDue = true → completes .commitEdge s s.commitEdge ∧ s.commitEdge.commit = {}
        ∧ s.commitEdge.epochs = s.afterCommit s.commit.groups :: s.epochs
        ∧ s.commitEdge.cfg = regOf (s.afterCommit s.commit.groups))
      ∧ (s.edgeDue = false → completes .commitEdge s s)

/-- R63: a snapshot copies the 64 counters of the port named and sets BUSY; a request while BUSY is set is ignored and counted with
CAUSE 2; BUSY clears, and nothing else with it. -/
def Rules.CounterSnapshot : Prop :=
  ∀ (s : State) (src : Src) (p n : Nat), p < 8 → n < 64 →
    (s.takes src → (s.plat p).snapBusy = true → completes (.cntSnap src p n) s (s.illegal (.plat p) 0x40 src 2))
      ∧ (s.takes src → (s.plat p).snapBusy = false →
          completes (.cntSnap src p n) s
            { (s.setRf .platCntSnap p 5 0 n).modPlat p fun x => { x with snapPort := n, snapBusy := true } with
              snap := (List.range 64).foldl (fun m k => Store.set 0 m (p * 64 + k) (s.counter .plat (p * 64 + n) k)) s.snap })
      ∧ (s.running = true → (s.plat p).snapBusy = true →
          completes (.cntSnapDone p) s (s.modPlat p fun x => { x with snapBusy := false }))

/-- R364: software writes a performance counter's words, and what the counter has counted in that core clock is not counted; a
counter of clocks that stands at 2^48 − 1 passes to 0, its bit of OVF is set, and FREEZE with it where FRZ_OVF is set, with the
values of that clock. Counters of a Platform that does not count stand (R363), and so does one that has been written in the same
clock. -/
def Rules.CounterWritesAndWraps : Prop :=
  ∀ (s : State) (src : Src) (p n : Nat) (v : Word), p < 8 → n ≤ 8 →
    let lo := (perfRegs p n).1
    let hi := (perfRegs p n).2.1
    let i := (perfRegs p n).2.2
    (s.takes src →
        let u := s.perfUndo p n
        completes (.perfCounterWrite src p n false v) s (u.setReg lo i v)
          ∧ completes (.perfCounterWrite src p n true v) s (u.setReg hi i ((u.reg hi i &&& 0xFFFF0000) ||| (v &&& 0xFFFF)))
          ∧ ∀ b off, b.ok = true → off < 0x10000 → off % 4 = 0 → v ≠ 0 → s.regAt b off = some (lo, i, false) →
            completes (.tglViewWrite src (regAddr b .normal off) v) s (u.setReg lo i (u.reg lo i ^^^ v)))
      ∧ (s.running = true →
          (s.perfOn p = true → s.countsClocks p n = true → s.perf48 lo hi i = 2 ^ 48 - 1 → s.perfDrops p n = true →
              completes (.perfCounterWrap p n) s s)
            ∧ (s.perfOn p = true → s.countsClocks p n = true → s.perf48 lo hi i = 2 ^ 48 - 1 → s.perfDrops p n = false →
              let t := (((s.notePerf p n 1 true).setReg lo i 0).setReg hi i 0).orReg .platPerfOvf p (2 ^ n)
              completes (.perfCounterWrap p n) s
                (if t.rb .platPerfCtrl p 29 = true ∧ t.rb .platPerfCtrl p 30 = false then
                  (t.orReg .platPerfCtrl p (2 ^ 30)).modPlat p fun x => { x with frozeAt := some s.fs }
                else t))
            ∧ (s.perfOn p = false → completes (.perfCounterWrap p n) s s))

/-- R364, R368: the events of the clock in which a counter is written are not counted: those counted before the write are taken
back, and those that follow it are dropped. -/
def Rules.WrittenCounterDropsItsClock : Prop :=
  ∀ (s : State) (p n : Nat), p < s.plats.length → n ≤ 8 → regsCanonical s.regs →
    let lo := (perfRegs p n).1
    let hi := (perfRegs p n).2.1
    let i := (perfRegs p n).2.2
    let m := ((s.perfClock p).ev[n]?).getD 0
    (∀ k, (s.perfUndo p n).perfBump p n k = s.perfUndo p n)
      ∧ (m = 0 → (s.perfUndo p n).regs = s.regs)
      ∧ (0 < m → m < 2 ^ 48 → (s.perfUndo p n).perf48 lo hi i = (s.perf48 lo hi i + 2 ^ 48 - m) % 2 ^ 48)

/-- The performance counters. At which value the wrap command acts is read by log entry 58. -/
def Obligations.PerformanceCounters : Prop :=
  Rules.CounterWritesAndWraps ∧ Rules.WrittenCounterDropsItsClock

/-- R62: the half-range bit of a line port's counter is set exactly when bit 39 of the counter changes; the counter wraps at 2^40.
-/
def Obligations.HalfRangeOfPortCounters : Prop :=
  ∀ (s : State) (e k n : Nat),
    let old := s.counter .plat e k
    let new_ := (old + n) % 2 ^ 40
    let t := { s with cnt := Store.set 0 s.cnt (cntKey .plat e k) new_ }
    (bitOf old 39 ≠ bitOf new_ 39 → s.countN .plat e k n = t.orReg .platCntHalf (e * 2 + k / 32) (2 ^ (k % 32)))
      ∧ (bitOf old 39 = bitOf new_ 39 → s.countN .plat e k n = t)

/-- R61, R62: the microsecond at which a duration counter reaches half its range: the counter, and its half-range bit. -/
def Rules.DurationCounterHalf : Prop :=
  ∀ (s : State) (e k : Nat), s.running = true →
    (e < 512 → (k = 25 ∨ k = 51 ∨ k = 52) → s.counter .plat e k % 2 ^ 39 = 2 ^ 39 - 1 →
        completes (.durationCounterHalfRange 0 e k) s
          ({ s with cnt := Store.set 0 s.cnt (cntKey .plat e k) ((s.counter .plat e k + 1) % 2 ^ 40) }.orReg .platCntHalf
            (e * 2 + k / 32) (2 ^ (k % 32))))
      ∧ (e < 8 → k < 3 → s.counter .ao e k % 2 ^ 39 = 2 ^ 39 - 1 →
        completes (.durationCounterHalfRange 1 e k) s
          ({ s with cnt := Store.set 0 s.cnt (cntKey .ao e k) ((s.counter .ao e k + 1) % 2 ^ 40) }.orReg .aoCntHalf e (2 ^ k)))

/-- Counter snapshots, and the duration counters at half their range. At which value the half-range command acts is read by log
entry 58. -/
def Obligations.PortCounters : Prop :=
  Rules.CounterSnapshot ∧ Rules.DurationCounterHalf

/-- R349: an SPI WRITE writes its complete words in ascending address order as agent 1, and an SPI READ returns each word after the
marker 0x5A, from the end of Init on (R485); any other transaction does nothing. -/
def Rules.SpiTransactions : Prop :=
  ∀ (s : State) (a0 a1 a2 a3 : Byte) (bytes : List Byte) (v : Word) (n : Nat),
    let a := beNat [a0, a1, a2, a3]
    completes (.spiWrite ([2, a0, a1, a2, a3] ++ leBytes 4 v.toNat)) s (s.busWrite .spi a v)
      ∧ completes (.spiWrite [2, a0, a1, a2, a3]) s s
      ∧ (be bytes 0 1 ≠ 2 → completes (.spiWrite bytes) s s)
      ∧ (be bytes 0 1 ≠ 3 → completes (.spiRead bytes n) s s)
      ∧ (s.powered = true → s.phase = 0 → s.halted = false → completes (.spiRead [3, a0, a1, a2, a3] n) s s)
      ∧ (s.powered = true → s.phase ≠ 0 ∨ s.halted = true → ∃ u, exec (.spiRead [3, a0, a1, a2, a3] n) s = .next u ∧ u.bare = s.bare
          ∧ Out.spi ((List.range n).flatMap fun i => 0x5A :: leBytes 4 (s.busRead .spi (a + 4 * i)).toNat) ∈ u.out)

/-- R352: unmasking a vector clears its mask and its pending bit, and sends the message that pended where the source is still
active. -/
def Rules.UnmaskSendsPending : Prop :=
  ∀ (s : State) (v : Nat), v < 64 → s.awake = true → s.ao.perstLow = false →
    let t := { s with host := { s.host with msix := Store.set 1 s.host.msix (v * 4 + 3) 0 } }
    completes (.msixUnmask v) s t
      ∧ (bitOf s.host.pend v = true → s.active v = true →
          ∃ u, exec (.msixUnmask v) s = .next u ∧ Out.msix v ∈ u.out ∧ bitOf u.host.pend v = false)

/-! ### Tables and generations (chapters 3 and 4) -/

/-- R106, R107, R111: a swap request. A reason that R106 lists refuses it: REFUSED, the reason, and an illegal sequence with CAUSE
5. Otherwise the swap pends, Timed with its target or with LATE where the target has passed. A bank that has drained retires
first. -/
def Rules.SwapRequest : Prop :=
  ∀ (s : State) (src : Src) (timed : Bool) (tb : Nat), s.takes src → tb < 8 →
    let r := s.retire
    let c : ClsSt := { r.cls with swap := true, swapTb := tb, swapTarget := none }
    let at_ := r.targetOf tb (r.reg .clsGenSwapAt 0).toNat
    (r.swapReason ≠ 0 →
        completes (.swap src timed tb) s
          (((r.orReg .clsGenStat 0 (2 ^ 30)).setRf .clsGenStat 0 26 24 r.swapReason).illegal .cls 0x10 src 5))
      ∧ (r.swapReason = 0 →
          (timed = false → completes (.swap src timed tb) s { r with cls := c })
            ∧ (timed = true → at_.2 = true →
                completes (.swap src timed tb) s { r with cls := { c with swapTarget := some at_.1 } })
            ∧ (timed = true → at_.2 = false →
                completes (.swap src timed tb) s { r.orReg .clsGenStat 0 (2 ^ 29) with cls := c }))
      ∧ (r.cls.retiring = true ∨ r.cls.swap = true → r.swapReason = 1)
      ∧ (r.cls.retiring = false → r.cls.swap = false → r.rb .clsBankGen (1 - r.cls.cur) 31 = false → r.swapReason = 2)

/-- R107, R108: the swap edge makes the other bank current and the former one retiring; a retiring bank that no frame uses is
retired, and RETIRED is set. Neither happens before it is due. -/
def Rules.SwapEdgeAndRetirement : Prop :=
  ∀ s : State, s.running = true →
    (s.swapDue = true →
        completes .swapEdge s
          { (s.orReg .clsIntStat 0 1).setReg .clsGenEdge 0 (Word.ofNat (s.tbNow32 s.cls.swapTb)) with
            cls := { s.cls with cur := 1 - s.cls.cur, retiring := true, swap := false, swapTarget := none } })
      ∧ (s.swapDue = false → completes .swapEdge s s)
      ∧ (s.cls.retiring = true → (s.cls.inflight[1 - s.cls.cur]?).getD 0 = 0 →
          completes .genRetired s ({ s with cls := { s.cls with retiring := false } }.orReg .clsIntStat 0 2))
      ∧ (s.cls.retiring = false ∨ (s.cls.inflight[1 - s.cls.cur]?).getD 0 ≠ 0 → completes .genRetired s s)

/-- Generations: swap requests, swap edges and retirement. -/
def Obligations.ClassifierGenerations : Prop :=
  Rules.SwapRequest ∧ Rules.SwapEdgeAndRetirement

/-- R123, R126, R143: the oldest learn event of a Platform's table. A static entry stays; an entry with the same destination is
refreshed; one with another destination moves and is counted; a new address is learned in a free slot, or counted as failed. A
claimed table and one asleep learn nothing. A flush in progress sweeps on meanwhile, how far being a free value (R128, log
entries 7 and 35). -/
def Obligations.LearnEvents : Prop :=
  ∀ (s : State) (p : Nat), p < 8 → s.running = true →
    (bitOf s.tbl.claimed p = true ∨ (s.plat p).power ≠ .run ∨ (s.plat p).learnQ = [] → completes (.learnEventApply p) s s)
      ∧ ∀ ev rest, bitOf s.tbl.claimed p = false → (s.plat p).power = .run → (s.plat p).learnQ = ev :: rest →
        let q := ((s.setPlat p { s.plat p with learnQ := rest }).perf p 6 none none 1).flushOn p
        let key := macKey ev.fid ev.sa
        let dst := at_ ev.destType 16 + ev.dest
        (∀ i, q.lookup p key = some i →
            (bitW (q.tab p i 2) 30 = true → completes (.learnEventApply p) s q)
              ∧ (bitW (q.tab p i 2) 30 = false → fld (q.tab p i 2) 17 0 = dst →
                  completes (.learnEventApply p) s (q.setTab p i 2 (setBitW (setFld (q.tab p i 2) 26 24 0) 29 false)))
              ∧ (bitW (q.tab p i 2) 30 = false → fld (q.tab p i 2) 17 0 ≠ dst →
                  completes (.learnEventApply p) s
                    (((q.setTab p i 2 (setBitW (setFld (setFld (q.tab p i 2) 17 0 dst) 26 24 0) 29 false)).count .tbl p 1).askSpread
                      p i)))
          ∧ (q.lookup p key = none →
              (∀ i, q.freeSlot p key = some i →
                  completes (.learnEventApply p) s
                    (((q.setTabs p i 0 [Word.ofNat ev.sa, Word.ofNat (at_ ev.fid 16 + ev.sa / 2 ^ 32), Word.ofNat (2 ^ 31 + dst), 0]).count
                      .tbl p 0).askSpread p i))
                ∧ (q.freeSlot p key = none →
                    completes (.learnEventApply p) s ((q.count .tbl p 3).orReg .tblIntStat 0 8)))

/-- R124, R125, R143, R147: when a sweep is due, every table is swept, each of its entries aged by one, but for the tables claimed
or asleep, which only count a missed sweep; the next one follows an interval later. Otherwise nothing happens. -/
def Rules.AgingSweeps : Prop :=
  ∀ s : State, s.running = true →
    (s.sweepDue = false → completes .agingSweep s s)
      ∧ (s.sweepDue = true →
          (∃ t, exec .agingSweep s = .next t
              ∧ t.tbl = { s.tbl with lastSweep := s.tbl.lastSweep + s.cfg.f .tblAge 0 11 0 * 1000000000000000 })
            ∧ completes .agingSweep s
                ((List.range 8).foldl
                  (fun u p =>
                    if s.tableWaits p then u.setPlat p { u.plat p with missed := (u.plat p).missed + 1 }
                    else
                      ((u.macIndices p).foldl (fun v i => v.ageEntry p 1 (s.cfg.f .tblAge 0 18 16) i) u).keepAddrs p)
                  { s with
                    tbl := { s.tbl with lastSweep := s.tbl.lastSweep + s.cfg.f .tblAge 0 11 0 * 1000000000000000 } })
            ∧ (s.plats.length = 8 → (∀ p, p < 8 → s.tableWaits p = true) →
                completes .agingSweep s
                  { s with
                    tbl := { s.tbl with lastSweep := s.tbl.lastSweep + s.cfg.f .tblAge 0 11 0 * 1000000000000000 }
                    plats := s.plats.map fun x => { x with missed := x.missed + 1 } }))

/-- R124: a sweep adds its count to the AGE of a learned entry, and deletes and counts the entry, with the copies of its address,
when that reaches MAX_AGE; static entries, SPREAD copies and entries that are not VALID stay as they are. -/
def Rules.AgingOfAnEntry : Prop :=
  ∀ (s : State) (p n maxAge i : Nat), p < 8 →
    let w := s.tab p i 2
    (bitW w 31 = false ∨ bitW w 30 = true ∨ bitW w 29 = true → s.ageEntry p n maxAge i = s)
      ∧ (bitW w 31 = true → bitW w 30 = false → bitW w 29 = false → fld w 26 24 + n < maxAge →
          s.ageEntry p n maxAge i = s.setTab p i 2 (setFld w 26 24 (fld w 26 24 + n)))
      ∧ (bitW w 31 = true → bitW w 30 = false → bitW w 29 = false → maxAge ≤ fld w 26 24 + n →
          s.ageEntry p n maxAge i
            = ((s.setTab p i 2 (setBitW w 31 false)).dropCopies p (keyOfEntry p (s.entry p i)) (List.range 8)).count .tbl p 4)

/-- R126, R143: firmware makes the next spread copy in every table that SPREAD_TO names; where the entry that the learn engine
wrote no longer stands there, but none, a static one, a copy or one of another key, the request is skipped. A copy for a table
that is claimed or asleep waits for it; any other is placed: a static or learned entry of the address stays, a copy is replaced,
and where no slot is free the drop is counted at the table's Platform. -/
def Rules.SpreadCopies : Prop :=
  ∀ s : State, s.running = true →
    (s.tbl.spreadQ = [] → completes .spreadCopy s s)
      ∧ ∀ p i key rest, s.tbl.spreadQ = (p, i, key) :: rest →
        let goals := (List.range 8).filter fun q => q ≠ p && bitOf (s.cfg.f .tblLearnCtrl 0 15 8) q
        let t := { s with tbl := { s.tbl with spreadQ := rest } }
        let ws := s.entry p i
        let w := (ws[2]?).getD 0
        let stands : Prop := validEntry p ws = true ∧ bitW w 30 = false ∧ bitW w 29 = false ∧ keyOfEntry p ws = key
        (¬ stands → completes .spreadCopy s t)
          ∧ (stands → completes .spreadCopy s (goals.foldl (fun s q => s.spreadTo p (t.entry p i) q) t))

/-- Where a spread copy goes (R126, R143). -/
def Rules.SpreadPlaces : Prop :=
  ∀ (s : State) (origin q : Nat) (ws : List Word),
    (s.tableWaits q = true →
        s.spreadTo origin ws q = s.setPlat q { s.plat q with delPend := (s.plat q).delPend ++ [.spread origin ws] })
      ∧ (s.tableWaits q = false →
        (∀ i, s.lookup q (keyOfEntry q ws) = some i → bitW (s.tab q i 2) 29 = false → s.spreadTo origin ws q = s)
          ∧ (s.lookup q (keyOfEntry q ws) = none → s.freeSlot q (keyOfEntry q ws) = none →
              s.spreadTo origin ws q = (s.count .tbl q 6).orReg .tblIntStat 0 8))

/-- Aging sweeps and spread copies. That a copy never overwrites a static or learned entry, and how copies wait for a table, are the
model's choices (log entry 35). -/
def Obligations.AgingAndSpreading : Prop :=
  Rules.AgingSweeps ∧ Rules.AgingOfAnEntry ∧ Rules.SpreadCopies ∧ Rules.SpreadPlaces

/-- R128, R143: a flush takes its criteria at the GO write and sets BUSY; a GO write while one is in progress is ignored and counted
with CAUSE 2. Its share of a table that is claimed or asleep then waits behind the work that waits there already; it ends with
FLUSH_DONE when no table is left. -/
def Rules.FlushRuns : Prop :=
  ∀ (s : State) (src : Src) (v : Word),
    let w := (s.reg .tblFlush 0 &&& ~~~(0x78FF0FFF : Word)) ||| (v &&& 0x78FF0FFF)
    (s.takes src → s.tbl.flushBusy = true → completes (.flush src v) s (s.illegal .tbl 0x90 src 2))
      ∧ (s.takes src → s.tbl.flushBusy = false →
          completes (.flush src v) s
            (((List.range 8).filter fun p => bitOf (fld v 23 16) p && s.tableWaits p).foldl
              (fun s p => s.setPlat p { s.plat p with delPend := (s.plat p).delPend ++ [.flush] })
              { s.setReg .tblFlush 0 w with
                tbl := { s.tbl with
                  flushBusy := true, flushPlats := fld v 23 16, flushWord := w, flushDest := s.rf .tblFlushDest 0 15 0
                  flushPos := List.replicate 8 0 } }))
      ∧ (s.running = true → s.tbl.flushBusy = true → s.tbl.flushPlats ≠ 0 →
          (∀ p, p < 8 → bitOf s.tbl.flushPlats p = true → s.tableWaits p = true) → completes .flushDone s s)
      ∧ (s.running = true → s.retained = false → s.tbl.flushBusy = true → s.tbl.flushPlats = 0 →
          completes .flushDone s ({ s with tbl := { s.tbl with flushBusy := false } }.orReg .tblIntStat 0 4))
      ∧ (s.running = true → s.retained = false → s.tbl.flushBusy = true → s.tbl.flushPlats < 256 →
          (∀ p, p < 8 → bitOf s.tbl.flushPlats p = true → s.tableWaits p = false) →
          ∃ t, exec .flushDone s = .next t ∧ t.tbl = { s.tbl with flushBusy := false, flushPlats := 0 })

/-- R128: the sweep of a table by the flush in progress. In the buckets that it has not yet reached it takes VALID from every
entry of its criteria (DEST_MATCH with DEST_TYPE and DEST, FID where FID_EN is set, no static one unless STATIC is set), and
changes no other word of the table. The table is then done. -/
def Rules.FlushSelects : Prop :=
  ∀ (s : State) (p : Nat), p < 8 → Store.wf 0 s.tables = true → s.tbl.flushPlats < 256 →
    let w := s.tbl.flushWord
    let selected (i : Nat) : Prop :=
      let e := s.tab p i 2
      bitW e 31 = true ∧ (s.tbl.flushPos[p]?).getD 0 ≤ i / 4 ∧ (bitW e 30 = true → bitW w 30 = true)
        ∧ (bitW w 29 = true → fld (s.tab p i 1) 27 16 = fld w 11 0)
        ∧ (fld w 28 27 ≠ 0 → fld e 17 0 = (fld w 28 27 - 1) * 65536 + s.tbl.flushDest)
    let t := s.doWork p .flush
    bitOf t.tbl.flushPlats p = false
      ∧ ∀ i, (selected i → t.tab p i 2 = setBitW (s.tab p i 2) 31 false)
        ∧ ∀ k, k < 32 → (k = 2 → ¬ selected i) → t.tab p i k = s.tab p i k

/-- R143: the work that waited for a table is made in the order in which it came, once the table is neither claimed nor asleep,
after the sweeps that it missed, and first of all the rest of a flush that was sweeping it; before that none of it is. -/
def Rules.WorkMadeInOrder : Prop :=
  ∀ (s : State) (p : Nat),
    (s.tableWaits p = true → s.catchUpTable p = s)
      ∧ (s.tableWaits p = false →
          let t := s.setPlat p { s.plat p with delPend := [], missed := 0 }
          let n := min (s.plat p).missed 7
          let owes := s.tbl.flushBusy && bitOf s.tbl.flushPlats p && !(s.plat p).delPend.contains .flush
          let work := (if owes then [.flush] else []) ++ (s.plat p).delPend
          s.catchUpTable p = work.foldl (fun s w => s.doWork p w) (if n = 0 then t else (t.sweep p n).keepAddrs p))

/-- Flushes, and the work that waits for a table. That the flush takes its criteria, TBL_FLUSH_DEST among them, at the GO write, and
how work waits, are the model's choices (log entry 35). -/
def Obligations.Flushes : Prop :=
  Rules.FlushRuns ∧ Rules.FlushSelects ∧ Rules.WorkMadeInOrder

/-- R142, R143: a claim asks for a table and grants nothing yet; the grant sets its bit and CLAIM_GRANTED; a table claimed is
released at once when its bit is cleared, and what waited for a MAC table is then made. Blocks in retention grant none (R457). -/
def Rules.Claims : Prop :=
  ∀ (s : State) (src : Src) (t : Nat), t < 22 →
    let asked := fld (s.fullReg .tblClaim 0) 21 0
    (s.takes src → completes (.claim src t) s (s.setClaims (asked ||| 2 ^ t)))
      ∧ (s.takes src → completes (.claimRelease src t) s (s.setClaims (asked &&& (2 ^ 22 - 1 - 2 ^ t))))
      ∧ (s.running = true → s.retained = false → s.claimDue t = true →
          completes (.claimGranted t) s
            ({ s with tbl := { s.tbl with claimed := s.tbl.claimed ||| 2 ^ t } }.orReg .tblIntStat 0 1))
      ∧ (s.running = true → s.claimDue t = false → completes (.claimGranted t) s s)

/-- R142, R143: a write of the claim bits. Each table keeps its claim while its bit stays set; none is granted by it. Where no MAC
table is released, nothing but the two words changes. -/
def Rules.ClaimBits : Prop :=
  ∀ (s : State) (req t : Nat),
    (s.setClaims req).tbl.claimReq = req
      ∧ bitOf (s.setClaims req).tbl.claimed t = (bitOf s.tbl.claimed t && !(bitOf s.tbl.claimReq t && !bitOf req t))
      ∧ ((∀ p, p < 8 → bitOf s.tbl.claimed p = true → bitOf s.tbl.claimReq p = true → bitOf req p = true) →
          (s.setClaims req).bare = { s with tbl := (s.setClaims req).tbl }.bare)

/-- Claims on tables. -/
def Obligations.ClaimsOfTables : Prop :=
  Rules.Claims ∧ Rules.ClaimBits

/-- R146: each command of TBL_CMD is taken as it is written, and set BUSY; a GO write while one is in progress is ignored and
counted with CAUSE 2. -/
def Rules.TableCommandStarts : Prop :=
  ∀ (s : State) (src : Src) (t i : Nat), s.takes src → t < 32 → i < 1048576 →
    let busy := s.illegal .tbl 0x20 src 2
    let go (op : Nat) : State := { s with tbl := { s.tbl with cmd := some { src := src, op := op, target := t, index := i } } }
    (s.tbl.cmd ≠ none →
        completes (.tblCmdRead src t i) s busy ∧ completes (.tblCmdWrite src t i) s busy
          ∧ completes (.tblCmdLookup src t i) s busy ∧ completes (.tblCmdInsert src t i) s busy
          ∧ completes (.tblCmdDelete src t i) s busy)
      ∧ (s.tbl.cmd = none →
          completes (.tblCmdRead src t i) s (go 1) ∧ completes (.tblCmdWrite src t i) s (go 2)
            ∧ completes (.tblCmdLookup src t i) s (go 3) ∧ completes (.tblCmdInsert src t i) s (go 4)
            ∧ completes (.tblCmdDelete src t i) s (go 5))

/-- R146, R143: what a table command answers when it completes. RESULT is 4 with CAUSE 11 for a command that the table does not
allow, 3 with CAUSE 9 for a claimed table, 1 for a key not found, 2 for a full bucket, else 0; INDEX changes only where an entry is
found, placed or deleted. Blocks in retention complete none (R457). -/
def Rules.TableCommandCompletes : Prop :=
  ∀ (s : State) (c : TblCmd), s.running = true → s.retained = false → s.tbl.cmd = some c →
    let ends (t : State) (res idx : Nat) : State :=
      { t with tbl := { t.tbl with cmd := none, cmdResult := res, cmdIndex := idx } }.orReg .tblIntStat 0 2
    let d := s.cmdData c.target
    let key := keyOfEntry c.target d
    (s.cmdBad c = true → completes .cmdDone s (ends (s.illegal .tbl 0x20 c.src 11) 4 s.tbl.cmdIndex))
      ∧ (s.cmdBad c = false → bitOf s.tbl.claimed c.target = true →
          completes .cmdDone s (ends (s.illegal .tbl 0x20 c.src 9) 3 s.tbl.cmdIndex))
      ∧ (s.cmdBad c = false → bitOf s.tbl.claimed c.target = false →
          (c.op = 1 → completes .cmdDone s (ends (s.showEntry c.target c.index) 0 s.tbl.cmdIndex))
            ∧ (c.op = 2 → completes .cmdDone s (ends (s.writeEntry c.target c.index d) 0 s.tbl.cmdIndex))
            ∧ (c.op = 3 ∨ c.op = 5 → s.lookup c.target key = none → completes .cmdDone s (ends s 1 s.tbl.cmdIndex))
            ∧ (∀ i, s.lookup c.target key = some i →
                (c.op = 3 → completes .cmdDone s (ends (s.showEntry c.target i) 0 i))
                  ∧ (c.op = 4 → completes .cmdDone s (ends (s.writeEntry c.target i d) 0 i))
                  ∧ (c.op = 5 → completes .cmdDone s (ends (s.deleteEntry c.target i) 0 i)))
            ∧ (c.op = 4 → s.lookup c.target key = none →
                (∀ i, s.freeSlot c.target key = some i → completes .cmdDone s (ends (s.writeEntry c.target i d) 0 i))
                  ∧ (s.freeSlot c.target key = none → completes .cmdDone s (ends s 2 s.tbl.cmdIndex))))

/-- The command register of the tables. That INDEX stays for READ, WRITE and a key not found, and that a command acts when it
completes, are the model's readings (log entry 36). -/
def Obligations.TableCommands : Prop :=
  Rules.TableCommandStarts ∧ Rules.TableCommandCompletes

/-- What a table-DMA descriptor names: its target, its first entry and how many. -/
def tdTarget (d : List Word) : Nat := fld (dword d 4) 28 24
def tdFirst (d : List Word) : Nat := fld (dword d 2) 19 0
def tdCount (d : List Word) : Nat := fld (dword d 3) 20 0

/-- The completion of a table-DMA operation, with the head that it advances. -/
def tdEnds (d : List Word) (u : State) (status moved : Nat) : State :=
  (u.postCompl 16 (u.tdCompl d status moved)).modUnit 16 fun x => { x with fetch := (x.fetch + 1) % 65536 }

/-- R144, R389, R392, R393: a table-DMA descriptor, none being in progress. A malformed one halts the switch with fault 0x0030; a
target that may not be moved completes with STATUS 2 and CAUSE 9, counted in the CLS block too for a write to a resident bank
(R104); COUNT 0 moves nothing; READ writes the entries to host memory, and WRITE takes them from it, with READY cleared of a
classifier bank written. -/
def Rules.TableDmaStarts : Prop :=
  ∀ (s : State) (d data : List Word), d.length = 8 → s.running = true → s.retained = false → s.host.td = none → s.tdAble = true →
    let t := tdTarget d
    let first := tdFirst d
    let count := tdCount d
    let ends (u : State) (status moved : Nat) : State := tdEnds d u status moved
    let run : DmaRun := ⟨d, none⟩
    let both (u : State) : Prop :=
      (bitW (dword d 4) 31 = false → completes (.tableDmaRead run) s u)
        ∧ (bitW (dword d 4) 31 = true → completes (.tableDmaWrite run data) s u)
    (s.tdBad d = true → both (s.halt 0x0030 [16, 2, Word.ofNat ((s.unit 16).fetch % 65536), 7]))
      ∧ (s.tdBad d = false → count = 0 → both (ends s 0 0))
      ∧ (s.tdBad d = false → count ≠ 0 → s.tdDenied t = true →
          both (ends
            ((if (t = 0x18 ∨ t = 0x19) ∧ bitW (dword d 4) 31 = true then s.illegal .cls 0 .pcie 9 else s).illegal .tbl 0 .pcie 9)
            2 0))
      ∧ (s.tdBad d = false → count ≠ 0 → s.tdDenied t = false →
          (bitW (dword d 4) 31 = false →
              ∃ u, exec (.tableDmaRead run) s = .next u ∧ u.bare = (ends s 0 count).bare
                ∧ Out.hostMem ((dword d 0).toNat + (dword d 1).toNat * 2 ^ 32)
                    ((List.range count).flatMap fun k => s.dmaEntry t (first + k)) ∈ u.out)
            ∧ (bitW (dword d 4) 31 = true →
                let w := s.putEntries t count first (data.flatMap fun w => leBytes 4 w.toNat)
                completes (.tableDmaWrite run data) s
                  (ends (if t = 0x18 ∨ t = 0x19 then w.setRf .clsBankGen (t - 0x18) 31 31 0 else w) 0 count)))

/-- An operation of table DMA that has moved `n` entries of its run stands in the engine, or begins with none. -/
def tdStands (s : State) (d : List Word) (n : Nat) : Prop :=
  s.host.td = some (d, n)
    ∨ (s.host.td = none ∧ n = 0 ∧ s.tdAble = true ∧ s.tdBad d = false ∧ tdCount d ≠ 0 ∧ s.tdDenied (tdTarget d) = false)

/-- What a part of a run makes of its entries from `n` on, up to `m`: entries for a classifier bank that has become resident since
the run began are ignored, and each is counted in the CLS block (R104). -/
def tdMoves (s : State) (d : List Word) (n m : Nat) (data : List Byte) : State :=
  let t := tdTarget d
  let w := s.putEntries t (m - n) (tdFirst d + n) data
  if bitW (dword d 4) 31 = false then s
  else if (t = 0x18 ∨ t = 0x19) ∧ s.resident (t - 0x18) = true then
    (List.range (m - n)).foldl (fun u _ => u.illegal .cls 0 .pcie 9) s
  else if (t = 0x18 ∨ t = 0x19) ∧ m ≠ n then w.setRf .clsBankGen (t - 0x18) 31 31 0 else w

/-- R144, R145, R393: a run moves in parts, each of whole entries, one after the other: between two of them the operation stands
in the engine, with the unit busy, and the last part completes it. A failed access ends it with STATUS 3 after the entries moved.
-/
def Rules.TableDmaParts : Prop :=
  ∀ (s : State) (d data : List Word) (n : Nat) (upTo : Option Nat), d.length = 8 → s.running = true → s.retained = false →
    tdStands s d n →
    let count := tdCount d
    let bytes := data.flatMap fun w => leBytes 4 w.toNat
    let m := max n (min count (upTo.getD count))
    let goes (u : State) : State :=
      if m = count then tdEnds d { u with host := { u.host with td := none } } 0 m
      else
        let v := u.setRf .hostQpStat 16 31 31 0
        { v with host := { v.host with td := some (d, m) } }
    (bitW (dword d 4) 31 = false →
        ∃ u, exec (.tableDmaRead ⟨d, upTo⟩) s = .next u ∧ u.bare = (goes s).bare
          ∧ Out.hostMem ((dword d 0).toNat + (dword d 1).toNat * 2 ^ 32 + n * (4 * tblWords (tdTarget d)))
              ((List.range (m - n)).flatMap fun k => s.dmaEntry (tdTarget d) (tdFirst d + n + k)) ∈ u.out)
      ∧ (bitW (dword d 4) 31 = true → completes (.tableDmaWrite ⟨d, upTo⟩ data) s (goes (tdMoves s d n m bytes)))
      ∧ ∀ (moved : Nat) (b : List Byte),
        let k := max n (min count moved)
        completes (.dmaAccessFail (.tdData d moved b)) s
          (tdEnds d { tdMoves s d n k b with host := { (tdMoves s d n k b).host with td := none } } 3 k)

/-- R145: an entry written by table DMA is replaced whole, and the entries of the run that are not yet moved stand as they were. -/
def Rules.EntriesReplacedWhole : Prop :=
  ∀ (s : State) (t n first : Nat) (b : List Byte),
    (Store.wf 0 s.tables = true → ∀ t' i w, t' < 32 → w < 32 → t < 0x18 → (t' ≠ t ∨ i < first ∨ first + n ≤ i) →
        (s.putEntries t n first b).tab t' i w = s.tab t' i w)
      ∧ s.putEntries t (n + 1) first b
        = (s.putEntry t first (b.take (4 * tblWords t))).putEntries t n (first + 1) (b.drop (4 * tblWords t))

/-- Table DMA. The offset that a refused target is counted with is read by log entry 27; the order of the checks, and how a run
moves in parts, are the model's choices, and that a part into a bank become resident is ignored entry by entry its reading (log
entry 39). -/
def Obligations.TableDma : Prop :=
  Rules.TableDmaStarts ∧ Rules.TableDmaParts ∧ Rules.EntriesReplacedWhole

/-! ### Policing, schedules and recovery functions (chapters 5, 8 and 9) -/

/-- R158, R218: a pending list whose start its time base has reached becomes the running one, from the instant of its start on, and
its status bit is set; before that nothing happens. Gate schedules and Timetables alike. -/
def Rules.ListsStart : Prop :=
  ∀ (s : State) (n : Nat), s.running = true →
    let runs (g : GateSeq) (l : GateList) : GateSeq :=
      { g with run := some l, pend := none, past := s.ended (s.tbWhen l.tb l.start) g.run :: g.past }
    (n < 256 →
        (∀ l, (s.sched n).pend = some l →
            (s.started l s.fs = true →
                completes (.gateScheduleStart n) s ((s.setSched n (runs (s.sched n) l)).orReg .psfIntStat 0 1))
              ∧ (s.started l s.fs = false → completes (.gateScheduleStart n) s s))
          ∧ ((s.sched n).pend = none → completes (.gateScheduleStart n) s s))
      ∧ (n < 512 ∨ n = 520 →
        (∀ l, (s.port n).tt.pend = some l →
            (s.started l s.fs = true →
                completes (.timetableStart n) s
                  ((s.setPort n { s.port n with tt := runs (s.port n).tt l }).orReg .schTtChg (n / 32) (2 ^ (n % 32))))
              ∧ (s.started l s.fs = false → completes (.timetableStart n) s s))
          ∧ ((s.port n).tt.pend = none → completes (.timetableStart n) s s))

/-- R165, R166: the windows of the policing unit. RECOVER_GO opens the recovery window for RECOVERY_MS, and nothing where that is 0;
TEST opens the test window, for LIMIT seconds where LIMIT is not 0, and closes it; each window closes at its instant and not
before. WINDOW is set where BLIND changes. -/
def Obligations.PolicingWindows : Prop :=
  ∀ (s : State) (src : Src),
    let ms := s.cfg.f .psfWinCfg 0 15 0
    let limit := s.rf .psfWinCtrl 0 15 0
    (s.takes src → ms = 0 → completes (.recoverGo src) s s)
      ∧ (s.takes src → ms ≠ 0 →
          completes (.recoverGo src) s (s.setWindows { s.psf with recovery := some (s.fs + ms * 1000000000000) }))
      ∧ (s.takes src → s.psf.test = none →
          completes (.testWindowSet src true) s
            (s.setWindows { s.psf with
              test := some (if limit = 0 then none else some (s.fs + limit * 1000 * 1000000000000)) }))
      ∧ (s.takes src → s.psf.test ≠ none → completes (.testWindowSet src true) s s)
      ∧ (s.takes src → completes (.testWindowSet src false) s (s.setWindows { s.psf with test := none }))
      ∧ (s.running = true →
          (∀ t, s.psf.startup = some t →
              (t ≤ s.fs → completes .startupWindowClose s (s.setWindows { s.psf with startup := none }))
                ∧ (s.fs < t → completes .startupWindowClose s s))
            ∧ (∀ t, s.psf.test = some (some t) →
              (t ≤ s.fs → completes .testWindowExpiry s (s.setWindows { s.psf with test := none }))
                ∧ (s.fs < t → completes .testWindowExpiry s s))
            ∧ (∀ t, s.psf.recovery = some t →
              (t ≤ s.fs → completes .recoveryWindowClose s (s.setWindows { s.psf with recovery := none }))
                ∧ (s.fs < t → completes .recoveryWindowClose s s)))

/-- R228, R229: a sampling period's end. Where the records would pass 2,048 they are all lost, with OVERFLOW and the loss counted;
else they are written, WR advances, and SMP_READY is set at the threshold. The next period begins an interval later. -/
def Rules.SamplePeriods : Prop :=
  ∀ s : State, s.running = true →
    let next : State :=
      { s with sch := { s.sch with sampleAt := s.sch.sampleAt + s.cfg.f .schSmpCtrl 0 15 0 * 1000000000 } }
    let l := s.sampleList
    let wr := s.rf .schSmpIdx 0 27 16
    let held := (wr + 4096 - s.rf .schSmpIdx 0 11 0) % 4096
    let kept := (next.putSamples wr l).setRf .schSmpIdx 0 27 16 (wr + l.length)
    (s.sampleDue = false → completes .samplePeriod s s)
      ∧ (s.sampleDue = true → 2048 < held + l.length →
          completes .samplePeriod s ((next.orReg .schSmpIdx 0 (2 ^ 31)).count .sch 0 6))
      ∧ (s.sampleDue = true → held + l.length ≤ 2048 →
          completes .samplePeriod s
            (if s.cfg.f .schSmpCtrl 0 27 16 ≤ held + l.length then kept.orReg .schIntStat 0 4 else kept))

/-- R217, R219: the record of a list that ran: until when, and the value that its base had then, with its rate. -/
def Rules.ListsRemembered : Prop :=
  ∀ (s : State) (fs : Nat),
    s.ended fs none = { untilFs := fs, list := none }
      ∧ ∀ l, s.ended fs (some l) = { untilFs := fs, list := some l, endFine := s.tbFine l.tb fs, rate := 2 ^ 40 + s.tbTrim l.tb }

/-- Gate schedules, Timetables, and the sampler. That SMP_READY is set after every period at or above the threshold is the model's
reading (log entry 37). -/
def Obligations.SchedulesAndSampler : Prop :=
  Rules.ListsStart ∧ Rules.ListsRemembered ∧ Rules.SamplePeriods

/-- R244, R249: a check starts with BUSY, and a GO write while one is in progress is ignored and counted with CAUSE 2. When it
is done it writes the reports, RESULT with the reason and the index of the first declaration that fails, and PROVED where none
fails and nothing was written meanwhile; BUSY clears, and no setting, declaration or counter changes. Verdicts follow the
readings of log entries 14 to 16. -/
def Rules.CheckRuns : Prop :=
  ∀ (s : State) (src : Src),
    (s.takes src → s.rb .schAdmStat 0 31 = true → completes (.check src) s (s.illegal .sch 0xC00 src 2))
      ∧ (s.takes src → s.rb .schAdmStat 0 31 = false →
          completes (.check src) s { s.setRf .schAdmStat 0 31 31 1 with adm := { s.adm with clean := true } })
      ∧ (s.running = true → s.rb .schAdmStat 0 31 = false → completes .checkDone s s)
      ∧ (s.running = true → s.rb .schAdmStat 0 31 = true →
            let t : State := { s with adm := { s.adm with rpt := s.admFinish.adm.rpt } }
            let shows (res reason idx : Nat) : State :=
              ((t.setRf .schAdmStat 0 27 26 res).setRf .schAdmStat 0 19 16 reason).setRf .schAdmStat 0 13 0 idx
            let ends (u : State) (ok : Bool) : State := (u.setRf .schAdmStat 0 30 30 (b2n ok)).setRf .schAdmStat 0 31 31 0
            (∀ l, s.admRun.find? (fun l => l.reason ≠ 0) = some l →
                completes .checkDone s (ends (shows 2 l.reason l.decl.idx) false))
              ∧ ((∀ l ∈ s.admRun, l.reason = 0) → completes .checkDone s (ends (shows 1 0 0) s.adm.clean)))

/-- R244, R247: the reports of a check. Set 1 has a line for each staged declaration, in the layout of R247, with its verdict, its
bound and its reservation; set 0 is the same where every declaration proves, and stays as it was where one fails. -/
def Rules.CheckReports : Prop :=
  ∀ s : State, Store.wf 0 s.adm.rpt = true → Store.wf 0 s.adm.decl = true → (∀ l ∈ s.admRun, l.decl.idx < 16384) →
    let word (set idx w : Nat) : Word := Store.get 0 s.admFinish.adm.rpt ((set * 16384 + idx) * 8 + w)
    (∀ l ∈ s.admRun, ∀ w, w < 8 →
        word 1 l.decl.idx w = ((l.words s.asStaged)[w]?).getD 0
          ∧ ((∀ x ∈ s.admRun, x.reason = 0) → word 0 l.decl.idx w = ((l.words s.asStaged)[w]?).getD 0))
      ∧ (∀ l ∈ s.admRun, l.reason ≠ 0 → ∀ idx w, idx < 16384 → w < 8 →
          word 0 idx w = Store.get 0 s.adm.rpt (idx * 8 + w))
      ∧ (∀ l ∈ s.admRun, fld ((l.words s.asStaged)[0]?.getD 0) 31 30 = if l.reason = 0 then 1 else 2)
      ∧ s.admRun.map (·.decl) = declList s.adm.decl

/-- The admission check. Verdicts follow the readings of log entries 14 to 16. -/
def Obligations.AdmissionCheck : Prop :=
  Rules.CheckRuns ∧ Rules.CheckReports

/-- R261: a recovery function that has accepted no frame for RESET_MS takes any sequence number again, forgets its history and
counts the reset; no other function does. -/
def Rules.RecoveryReset : Prop :=
  ∀ (s : State) (fn : Nat), s.running = true → fn < 131072 →
    (s.rcvLive fn = true → s.resetDue fn = true →
        completes (.recoveryReset fn) s
          (((s.setTab 0x15 fn 5 (setBitW (s.tab 0x15 fn 5) 31 true)).setRcvHist fn 0).countRcv fn 6 1))
      ∧ (s.rcvLive fn = false ∨ s.resetDue fn = false → completes (.recoveryReset fn) s s)

/-- R262: a latent error test compares the copies discarded since the last base with those expected for the frames passed. A
difference above LATENT_DIFF is counted, and posts event 8 once; the base is taken again when its period is over. -/
def Rules.LatentErrorTest : Prop :=
  ∀ (s : State) (fn : Nat), s.running = true → fn < 131072 →
    let passed := ms32 (s.tab 0x15 fn 16).toNat (s.tab 0x15 fn 11).toNat
    let gone := ms32 (s.tab 0x15 fn 18).toNat (s.tab 0x15 fn 12).toNat
    let error : Prop := ((passed * (s.tf 0x15 fn 2 23 20 - 1) : Nat) : Int) - (gone : Int) > (s.tf 0x15 fn 3 15 0 : Nat)
    let rest (t : State) : State :=
      let u := t.setTab 0x15 fn 9 (Word.ofNat ((t.tab 0x15 fn 9).toNat + max (t.tf 0x15 fn 4 31 16) 1))
      if ms32 u.monoMs (u.tab 0x15 fn 10).toNat < 2 ^ 31 then
        let v := u.setTab 0x15 fn 11 (u.tab 0x15 fn 16)
        let v := v.setTab 0x15 fn 12 (v.tab 0x15 fn 18)
        (v.setTab 0x15 fn 10 (Word.ofNat (v.monoMs + v.tf 0x15 fn 4 15 0))).countRcv fn 7 1
      else u
    let c := s.count .red 0 13
    (s.rcvLive fn = false ∨ s.latentDue fn = false → completes (.latentErrorTest fn) s s)
      ∧ (s.rcvLive fn = true → s.latentDue fn = true →
          (¬ error → completes (.latentErrorTest fn) s (rest s))
            ∧ (error → s.tb 0x15 fn 5 30 = true → completes (.latentErrorTest fn) s (rest c))
            ∧ (error → s.tb 0x15 fn 5 30 = false →
                completes (.latentErrorTest fn) s
                  (rest ((c.setTab 0x15 fn 5 (setBitW (c.tab 0x15 fn 5) 30 true)).postEvent .redEvtIdx .redEvt
                    (Word.ofNat (at_ 8 28 + fn))))))

/-- R149 to R153, R169: policing. A frame without a stream handle, and a replicated one, passes; a handle, gate or meter that does
not exist drops the frame; a filter that is not valid or asks for another PCP lets it pass, counted; else the filter counts it,
and a blocked filter, a frame that is too long, which blocks the filter where BLOCK_OVERSIZE_EN is set, and a gate that is not
open drop it, counted. What an open gate lets through passes, green where its meter is not VALID; else the meter's red drops it,
and yellow where DROP_YELLOW is set, and what passes takes the meter's colour. -/
def Rules.Policing : Prop :=
  ∀ (s : State) (f : Frame),
    (f.stream = none → s.police f = (s, f, true))
      ∧ ∀ h, f.stream = some h →
        let w0 := s.psfWord f 0x12 h 0
        let w1 := s.psfWord f 0x12 h 1
        let inert : Prop := bitW w0 31 = false ∨ (bitW w0 30 = true ∧ fld w0 29 27 ≠ f.pcp)
        let absent : Prop := (bitW w0 24 = true ∧ s.capacity 0x13 ≤ fld w1 28 16) ∨ (bitW w0 23 = true ∧ s.capacity 0x14 ≤ fld w1 15 0)
        let c := s.countFilter h 0
        let long : Prop := fld w0 13 0 ≠ 0 ∧ fld w0 13 0 < f.len
        (f.replica = true → s.police f = (s, f, true))
          ∧ (f.replica = false → s.capacity 0x12 ≤ h → s.police f = (s.count .psf f.plat 2, f, false))
          ∧ (f.replica = false → h < s.capacity 0x12 →
            (inert → s.police f = (s.count .psf f.plat 1, f, true))
              ∧ (¬ inert → absent → s.police f = (s.count .psf f.plat 2, f, false))
              ∧ (¬ inert → ¬ absent →
                (bitW w0 25 = true → s.police f = ((c.countFilter h 1).count .psf f.plat 3, f, false))
                  ∧ (bitW w0 25 = false → long → bitW w0 26 = false →
                    s.police f = ((c.countFilter h 1).count .psf f.plat 4, f, false))
                  ∧ (bitW w0 25 = false → long → bitW w0 26 = true →
                    s.police f = (((c.setLatch 0x12 h 0 25).countFilter h 1).count .psf f.plat 4, f, false))
                  ∧ (bitW w0 25 = false → ¬ long → bitW w0 24 = true → (c.gate f (fld w1 28 16)).2.2 = false →
                    s.police f
                      = ((c.gate f (fld w1 28 16)).1.countFilter h 1, (c.gate f (fld w1 28 16)).2.1, false))
                  ∧ (bitW w0 25 = false → ¬ long → bitW w0 24 = false → bitW w0 23 = false →
                    s.police f = (c.count .psf f.plat 0, f, true))
                  ∧ (bitW w0 25 = false → ¬ long → (bitW w0 24 = true → (c.gate f (fld w1 28 16)).2.2 = true) →
                    let open_ := c.gate f (fld w1 28 16)
                    let (g, y) : State × Frame := if bitW w0 24 then (open_.1, open_.2.1) else (c, f)
                    let m := fld w1 15 0
                    let x := g.meter y m
                    let drop (t : State) (slot : Nat) : State := (t.countFilter h 2).count .psf y.plat slot
                    (bitW w0 23 = false → s.police f = (g.count .psf y.plat 0, y, true))
                      ∧ (bitW w0 23 = true → bitW (g.psfWord y 0x14 m 0) 31 = false →
                        s.police f = (g.count .psf y.plat 0, { y with colour := 0, metered := false }, true))
                      ∧ (bitW w0 23 = true → bitW (g.psfWord y 0x14 m 0) 31 = true →
                        (x.2 = 2 → s.police f = (drop x.1 9, y, false))
                          ∧ (x.2 = 1 → bitW (x.1.psfWord y 0x14 m 0) 28 = true → s.police f = (drop x.1 10, y, false))
                          ∧ (x.2 ≠ 2 → (x.2 = 1 → bitW (x.1.psfWord y 0x14 m 0) 28 = false) →
                            s.police f = (x.1.count .psf y.plat 0, { y with colour := x.2, metered := true }, true))))))

/-- R157, R161, R162, R168: a stream gate. One that is not VALID, or latched closed, drops the frame; so does one whose state at the
frame's instant is closed, which latches where it is to. An open interval with an octet limit counts the frames that fit it from its
beginning, and drops the first that does not, which latches where it is to; a frame that passes takes the class the interval gives.
The state is that of the interval which holds the instant's place in the running list's cycle, and the gate's own without one. -/
def Rules.StreamGates : Prop :=
  (∀ (s : State) (f : Frame) (g : Nat),
      let w0 := s.psfWord f 0x13 g 0
      let v := s.gateView f g
      let refused (t : State) : State × Frame × Bool := (t.count .psf f.plat 5, f, false)
      let classed : Frame := match v.ipv with | some c => { f with cls := some c } | none => f
      let works : Prop := bitW w0 31 = true ∧ bitW w0 24 = false ∧ bitW w0 22 = false
      (¬ works → s.gate f g = refused s)
        ∧ (works → v.isOpen = false →
          s.gate f g = refused (if bitW w0 25 then s.setLatch 0x13 g 0 24 else s))
        ∧ (works → v.isOpen = true →
          ((∀ cyc i w, v.entry = some (cyc, i, w) → bitOf w 26 = false) → s.gate f g = (s, classed, true))
            ∧ ∀ cyc i w, v.entry = some (cyc, i, w) → bitOf w 26 = true →
              let fresh : Bool := Store.get none s.psf.tags g ≠ some (cyc, i)
              let z := s.setTab 0x13 g 2 0
              let u : State :=
                if fresh then { z with psf := { z.psf with tags := Store.set none z.psf.tags g (some (cyc, i)) } } else s
              let n := (u.tab 0x13 g 2).toNat
              (n + f.len ≤ bits w 23 0 → s.gate f g = (u.setTab 0x13 g 2 (Word.ofNat (n + f.len)), classed, true))
                ∧ (bits w 23 0 < n + f.len →
                  s.gate f g
                    = ((if bitW (u.psfWord f 0x13 g 0) 23 then u.setLatch 0x13 g 0 22 else u).count .psf f.plat 6, f, false))))
    ∧ ∀ (entries : List (Nat × Nat)) (pos i w : Nat),
      entryAt pos entries 0 = some (i, w) ↔
        ∃ n, entries[i]? = some (n, w) ∧ ((entries.take i).map Prod.fst).sum ≤ pos
          ∧ pos < ((entries.take (i + 1)).map Prod.fst).sum

/-- R163: a meter's judgement, after its buckets are filled up to the frame's instant: green where the committed bucket holds the
frame's octets, which it takes from it; yellow where a frame not red on arrival finds them in the excess bucket; red otherwise,
which a meter that is to latch then is. A latched meter finds every frame red. Where it is colour-aware and not blind, only a
green frame may be found green. -/
def Rules.Metering : Prop :=
  ∀ (s : State) (f : Frame) (m : Nat),
    let t := s.refill f m (instantNs f.instant)
    let w0 := t.psfWord f 0x14 m 0
    let aware := bitW w0 29
    let u := if aware = true ∧ f.blind = true then t.count .psf f.plat 12 else t
    let colour := if aware = true ∧ f.blind = false then f.colour else 0
    let need := f.len * 256
    let green : Prop := colour = 0 ∧ need ≤ (u.tab 0x14 m 4).toNat
    let yellow : Prop := colour ≠ 2 ∧ need ≤ (u.tab 0x14 m 5).toNat
    (bitW w0 26 = true → s.meter f m = (t.count .psf f.plat 11, 2))
      ∧ (bitW w0 26 = false →
        (green →
            s.meter f m = ((u.setTab 0x14 m 4 (Word.ofNat ((u.tab 0x14 m 4).toNat - need))).count .psf f.plat 7, 0))
          ∧ (¬ green → yellow →
            s.meter f m = ((u.setTab 0x14 m 5 (Word.ofNat ((u.tab 0x14 m 5).toNat - need))).count .psf f.plat 8, 1))
          ∧ (¬ green → ¬ yellow → s.meter f m = (if bitW w0 27 then u.setLatch 0x14 m 0 26 else u, 2)))

/-- R258, R259, R260: what a recovery function lets pass. A frame without a sequence number only where TAKE_NO_SEQ is set. After a
reset any number; then by the vector algorithm one within the history that has not been seen, or one ahead of it by less than the
history's length; by the match algorithm any but the last one. -/
def Rules.SequencesRecovered : Prop :=
  ∀ (s : State) (p fn n : Nat), n < 65536 →
    let len := min (max (s.tf 0x15 fn 2 6 0) 2) 64
    let any := s.tb 0x15 fn 5 31
    let d := seqDiff n (s.tf 0x15 fn 5 15 0)
    let seen : Prop := d ≤ 0 ∧ bitOf (s.rcvHist fn) (-d).toNat = true
    let outside : Prop := (len : Int) ≤ d ∨ d ≤ -(len : Int)
    let vector := s.recover p fn (some n)
    ((s.recover p fn none).2 = (s.countRcv fn 5 1).tb 0x15 fn 2 29)
      ∧ (s.tb 0x15 fn 2 30 = false →
        (any = true → vector.2 = true)
          ∧ (any = false → (vector.2 = true ↔ ¬ outside ∧ ¬ seen))
          ∧ (any = false → outside → vector.1 = (s.countRcv fn 3 1).count .red p 4)
          ∧ (any = false → ¬ outside → seen → vector.1 = (s.countRcv fn 1 1).count .red p 3)
          ∧ (any = true → vector.1 = ((s.setRecSeq fn n).setRcvHist fn 1).rcvAccept p fn))
      ∧ (s.tb 0x15 fn 2 30 = true →
        (vector.2 = true ↔ any = true ∨ d ≠ 0)
          ∧ (any = false → d = 0 → vector.1 = (s.countRcv fn 1 1).count .red p 3)
          ∧ (any = true ∨ d = 1 → vector.1 = (s.setRecSeq fn n).rcvAccept p fn)
          ∧ (any = false → d ≠ 0 → d ≠ 1 → vector.1 = ((s.countRcv fn 2 1).setRecSeq fn n).rcvAccept p fn))

/-- Policing and sequence recovery of a frame, and the timers of the recovery functions. -/
def Obligations.RecoveryFunctions : Prop :=
  Rules.Policing ∧ Rules.StreamGates ∧ Rules.Metering ∧ Rules.SequencesRecovered ∧ Rules.RecoveryReset ∧ Rules.LatentErrorTest

/-! ### The twin (chapter 9) -/

/-- R270, R274: the Coupler comes up: lock, alignment, the link interrupt, and the state Hello. It goes down: the state is No link,
except where the partner has halted and no reset is asked for; which lanes keep lock is a free value. -/
def Rules.CouplerLink : Prop :=
  ∀ s : State, s.running = true →
    (s.red.cplLink = false → s.pairedCfg = true →
        completes .couplerLinkUp s
          (({ s with red := { s.red with cplLink := true, cplLock := 0xFF, cplAligned := 0xFF, seen := 0 } }.orReg .redIntStat 0
            4).setTwin 2))
      ∧ (s.red.cplLink = true ∨ s.pairedCfg = false → completes .couplerLinkUp s s)
      ∧ (s.red.cplLink = false → completes .couplerLinkDown s s)
      ∧ (s.red.cplLink = true →
          let t := { s with
              free := s.free + 2
              red := { s.red with
                cplLink := false, cplLock := Config.freeValue s.free % 256
                cplAligned := Config.freeValue (s.free + 1) % 256, seen := 0 } }.orReg .redIntStat 0 4
          let u := if s.red.state = 4 ∧ s.red.resetUntil = none then t else t.setTwin 1
          completes .couplerLinkDown s (u.setPort 520 { u.port 520 with tx := none }))

/-- R273: a health frame goes out on an idle transmitter when it is due, and not otherwise. -/
def Rules.HealthFramesSent : Prop :=
  ∀ s : State, s.running = true →
    (s.healthDue = true → (s.port 520).tx = none →
        completes .healthFrameSend s
          { s.setPort 520 { s.port 520 with
              tx := some { bytes := cplPlain 0 s.healthPayload, start := s.fs, cross := s.crossFs 520 s.fs } } with
            red := { s.red with lastSend := s.fs } })
      ∧ (s.healthDue = false ∨ (s.port 520).tx ≠ none → completes .healthFrameSend s s)

/-- R272: a Coupler frame that fails a check is dropped and counted in CPL_RX_ERR, whatever it was taken for. That a dropped frame
of TYPE 0 ends the run of good health frames is the model's reading (log entry 41). A reset request that a halting switch takes
before its fault record is judged later (R286). -/
def Obligations.BadCouplerFrames : Prop :=
  ∀ (s : State) (b : List Byte), cplParse b = none → s.running = true → s.pairedCfg = true → s.red.cplLink = true →
    let c := s.count .red 0 9
    let t := if cplType b = 0 then { c with red := { s.red with seen := 0, goodCount := 0 } } else c
    completes (.healthFrameReceive b) s t ∧ completes (.haltNoticeReceive b) s t ∧ completes (.couplerFrameReceive b) s t
      ∧ (s.faultDue = false → completes (.resetRequestReceive b) s t)

/-- R273 to R275, R281: a sound health frame is noted, with the partner, its echo and its count, moves the twin state, and steers
the followed time bases. A halt notice makes the state Partner halted, but for a member without a link. Frames of another TYPE are
not theirs to take. -/
def Rules.SoundCouplerFrames : Prop :=
  ∀ (s : State) (b : List Byte) (h : CplHdr) (p : List Byte), cplParse b = some (h, p) → s.running = true →
    s.pairedCfg = true → s.red.cplLink = true →
    (h.type ≠ 0 → completes (.healthFrameReceive b) s s)
      ∧ (h.type = 0 →
          let d := s.takeDelay p
          let t := { d with red := { d.red with
              partner := be p 0 2, lastHealth := s.fs, seen := s.red.seen + 1, echoAt := s.mono
              echo := be p 16 4 + be p 20 4 * 2 ^ 32, peer := [Word.ofNat (be p 4 4), Word.ofNat (be p 8 4)] } }
          completes (.healthFrameReceive b) s
            ((t.healthMove (be p 0 2) (t.twinCheck p) (bitOf (be p 12 4) 26)).steer p))
      ∧ (h.type ≠ 1 → completes (.haltNoticeReceive b) s s)
      ∧ (h.type = 1 →
          let t := s.orReg .redIntStat 0 2
          (s.red.state = 0 ∨ (s.red.state = 1 ∧ s.red.stateSince ≠ s.fs) → completes (.haltNoticeReceive b) s t)
            ∧ (s.red.state ≠ 0 → (s.red.state = 1 → s.red.stateSince = s.fs) →
                completes (.haltNoticeReceive b) s
                  { t.setTwin 4 with red := { (t.setTwin 4).red with seen := 0 } }))
      ∧ (h.type ≠ 2 → h.type ≠ 3 → completes (.couplerFrameReceive b) s s)
      ∧ (h.type = 2 ∨ h.type = 3 → completes (.couplerFrameReceive b) s (s.takeCpl h p))

/-- R452, R453, R454: a Coupler frame for a Platform that is not in Run wakes it, and is dropped and counted there; nothing else
changes. -/
def Rules.CouplerFrameAsleep : Prop :=
  ∀ (s : State) (b : List Byte) (h : CplHdr) (p : List Byte), cplParse b = some (h, p) → s.running = true →
    s.red.cplLink = true → h.type = 2 ∨ h.type = 3 →
    let plat := if h.origPort < 512 then h.origPort / 64 else 0
    (s.plat plat).power ≠ .run →
    completes (.couplerFrameReceive b) s (((s.wake plat 0).count .ao plat 6).orReg .aoIntStat 0 2)

/-- R274, R283: with no valid health frame for 4 µs in Hello or Paired, the state is Silent; with none of it, nothing changes.
RESET_PARTNER asks for resets while the partner has halted, and is counted with CAUSE 11 otherwise; PARTNER_RESET_MS asks for them
by itself, once; requests go out every microsecond until the series ends, whether or not the halted partner still sends. -/
def Rules.PartnerSilenceAndReset : Prop :=
  ∀ (s : State) (src : Src),
    let asks (timed : Bool) : State :=
      { s.count .red 0 14 with red :=
        { s.red with resetUntil := some (s.fs + 1000000000000), resetAsked := s.red.resetAsked || timed } }
    (s.running = true →
        (s.red.state ≠ 2 → s.red.state ≠ 3 → completes .partnerSilent s s)
          ∧ (s.red.state = 3 → s.red.lastHealth + 4000000000 ≤ s.fs →
              completes .partnerSilent s { s.setTwin 5 with red := { (s.setTwin 5).red with seen := 0 } })
          ∧ (s.red.state = 3 → s.fs < s.red.lastHealth + 4000000000 → completes .partnerSilent s s)
          ∧ (s.red.state = 2 → max s.red.lastHealth s.red.stateSince + 4000000000 ≤ s.fs →
              completes .partnerSilent s { s.setTwin 5 with red := { (s.setTwin 5).red with seen := 0 } })
          ∧ (s.red.state = 2 → s.fs < max s.red.lastHealth s.red.stateSince + 4000000000 → completes .partnerSilent s s)
          ∧ (s.partnerResetDue = true → completes .partnerResetTimeout s (asks true))
          ∧ (s.partnerResetDue = false → completes .partnerResetTimeout s s)
          ∧ (s.red.resetUntil = none → completes .resetRequestSend s s)
          ∧ (∀ t, s.red.resetUntil = some t → t ≤ s.fs →
              completes .resetRequestSend s { s with red := { s.red with resetUntil := none } })
          ∧ (∀ t, s.red.resetUntil = some t → s.fs < t → (s.port 520).tx = none →
              s.red.lastReq + 1000000000 ≤ s.fs →
              completes .resetRequestSend s
                { s.setPort 520 { s.port 520 with
                    tx := some {
                      bytes := cplPlain 4 (beBytes 4 (at_ s.nodeNo 16 + s.nodeBase) ++ List.replicate 12 0)
                      start := s.fs, cross := s.crossFs 520 s.fs } } with
                  red := { s.red with lastReq := s.fs } }))
      ∧ (s.takes src → s.red.state = 4 → completes (.resetPartner src) s (asks false))
      ∧ (s.takes src → s.red.state ≠ 4 → completes (.resetPartner src) s (s.illegal .red 0x14 src 11))

/-- The Coupler's link, health frames sent, silence, and partner resets. Which lanes keep lock is a free value (log entry 7). That
RESET_SENT counts once for each series, that requests go out without a link, and that only the request of PARTNER_RESET_MS keeps it
from asking again, are the model's readings (log entry 41). -/
def Obligations.TwinLinkAndResets : Prop :=
  Rules.CouplerLink ∧ Rules.HealthFramesSent ∧ Rules.PartnerSilenceAndReset

/-- R284, R286: a halted member resets itself on a sound request from the partner it was last paired with, that names its node
base, while its COUNT is below RESET_MAX; it counts the reset, and samples the balls (R397), whose levels are a free value. Any
other request changes nothing. One that comes before the fault record is written waits for it. -/
def Rules.ResetRequests : Prop :=
  ∀ (s : State) (b : List Byte) (h : CplHdr) (p : List Byte), cplParse b = some (h, p) → s.powered = true → s.pairedCfg = true →
    (s.faultDue = false → h.type = 4 → s.halted = true → be p 2 2 = s.nodeBase → some (be p 0 2) = s.red.pairedNode →
        s.red.count < s.saf.resetMax →
        completes (.resetRequestReceive b) s
          (({ s with free := s.free + 1, red := { s.red with count := s.red.count + 1 } }.resetSwitch true).startBoot
            (Config.freeValue s.free % 256)))
      ∧ (s.faultDue = false → h.type ≠ 4 ∨ s.acceptsReset p = false → completes (.resetRequestReceive b) s s)
      ∧ (∀ x, s.saf.halting = some x → x.written = false →
          completes (.resetRequestReceive b) s
            { s with saf := { s.saf with halting := some { x with asked := x.asked ++ [b] } } })

/-- R281: a valid health frame steers each time base that follows, by its trim alone: so that within the frame's period it comes
level with the lead's value plus the delay, to within less than a nanosecond of it. No other base changes. -/
def Rules.FollowedBasesSteered : Prop :=
  ∀ (s : State) (p : List Byte) (k : Nat), k < 8 → s.time.tbs.length = 8 →
    let want := (be p (40 + 4 * k) 4 + s.red.delayPs / 1000) % 2 ^ 32
    let level := catchTrim (diff32 want (s.tbNow32 k))
    (s.followed k = true → bitOf (be p 36 4) k = true →
        (s.steer p).tbTrim k ≤ level + (catchSlack : Int) ∧ level ≤ (s.steer p).tbTrim k + (catchSlack : Int))
      ∧ (s.followed k = false ∨ bitOf (be p 36 4) k = false → (s.steer p).tbSegs k = s.tbSegs k)

/-- Sound Coupler frames. The trim of a followed base is a free value within its bounds, as are the balls' levels at a reset (log
entry 7); how a base is steered is read by log entry 43. That a halt notice without a link acts only at the instant of link down,
and that Silent and Partner halted move to Hello, are the model's readings (log entry 41), and so are the conditions of a reset
request (log entry 42). -/
def Obligations.CouplerFramesTaken : Prop :=
  Rules.SoundCouplerFrames ∧ Rules.CouplerFrameAsleep ∧ Rules.ResetRequests ∧ Rules.FollowedBasesSteered

/-! ### Time (chapter 10) -/

/-- R292, R293, R295: a time-base command is accepted from the base's owner alone, and never for a base that is followed: otherwise
RESULT is 1 with CAUSE 10. While one is in progress a GO write is ignored and counted with CAUSE 2. Firmware's servo gives none that
R295 keeps it from: such a command for a base that firmware owns changes nothing (log entry 43, the model's reading). -/
def Rules.TimeCommandStarts : Prop :=
  ∀ (s : State) (src : Src) (k : Nat), s.takes src → k < 8 →
    let all (u : Nat → State) : Prop :=
      completes (.timeCmdStep src k) s (u 1) ∧ completes (.timeCmdSet src k) s (u 2) ∧ completes (.timeCmdTrim src k) s (u 3)
    let owns : Bool := s.rb .timeTbCfg k 31 = decide (src = .firmware)
    (s.time.cmd ≠ none → all fun _ => s.illegal .time 0x10 src 2)
      ∧ (s.time.cmd = none → s.followed k = true ∨ owns = false →
          all fun _ => (s.setRf .timeCmdStat 0 30 29 1).illegal .time 0x10 src 10)
      ∧ (s.time.cmd = none → s.followed k = false → owns = true →
          all fun op =>
            let data := (s.reg .timeCmdDataLo 0).toNat + (s.reg .timeCmdDataHi 0).toNat * 2 ^ 32
            if src = .firmware ∧ s.servoMay k op = false then s
            else { s with time := { s.time with cmd := some { op := op, tb := k, data := data } } })

/-- R295: the servo of firmware trims a base by no more than 200 ppm from the trim at which it last judged the base syntonised
(read by log entry 43), and steps it only where STEP_EN is set, by more than STEP_THRESH_US. -/
def Rules.ServoLimits : Prop :=
  ∀ (s : State) (k : Nat),
    let data := (s.reg .timeCmdDataLo 0).toNat + (s.reg .timeCmdDataHi 0).toNat * 2 ^ 32
    (s.servoMay k 3 = true ↔ (signed 32 (data % 2 ^ 32) - (s.time.syn[k]?).getD 0).natAbs ≤ trim200ppm)
      ∧ (s.servoMay k 1 = true ↔
          s.rb .timeTbCfg k 30 = true ∧ s.rf .timeTbCfg k 15 0 * 1000 < (signed 64 data).natAbs)
      ∧ (s.servoMay k 2 = true ↔ s.rb .timeTbCfg k 30 = true
          ∧ s.rf .timeTbCfg k 15 0 * 1000 < (signed 64 ((data + 2 ^ 64 - s.tbNow k) % 2 ^ 64)).natAbs)

/-- R292, R294: the accepted command at its tick. TRIM changes the rate and not the value; STEP adds DATA and SET puts it, and a
step to where the base stands is none. RESULT is 0 and DONE is set. -/
def Rules.TimeCommandApplies : Prop :=
  ∀ (s : State) (c : TimeCmd), s.awake = true → s.time.cmd = some c →
    let t := ({ s with time := { s.time with cmd := none } }.setRf .timeCmdStat 0 30 29 0).orReg .timeIntStat 0 (2 ^ 29)
    (c.op = 3 → completes .timeCmdApply s (t.setSeg c.tb (t.tbTick c.tb) (signed 32 (c.data % 2 ^ 32))))
      ∧ (c.op = 1 → c.data = 0 → completes .timeCmdApply s t)
      ∧ (c.op = 1 → c.data ≠ 0 → completes .timeCmdApply s (t.stepTb c.tb (t.tbTick c.tb + signed 64 c.data * tbUnit)))
      ∧ (c.op = 2 → s.tbNow c.tb = c.data → completes .timeCmdApply s t)
      ∧ (c.op = 2 → s.tbNow c.tb ≠ c.data → completes .timeCmdApply s (t.stepTb c.tb ((c.data : Int) * tbUnit)))

/-- R292: from a step on, a time base has the value it was stepped to, modulo 2^64 ns, and its trim; the others count on as before,
and monotonic time does not change. -/
def Rules.StepSetsTimeBase : Prop :=
  ∀ (s : State) (k j : Nat) (v : Int), k < s.time.tbs.length →
    (s.stepTb k v).tbTick k = v % ((tbUnit * 2 ^ 64 : Nat) : Int) ∧ (s.stepTb k v).tbTrim k = s.tbTrim k
      ∧ (j ≠ k → (s.stepTb k v).tbSegs j = s.tbSegs j) ∧ (s.stepTb k v).mono = s.mono

/-- Time-base commands, and what a step makes of a base. That a command outside R295's limits is never given by firmware, and so
changes nothing, and from which trim its limit of 200 ppm counts, are the model's readings (log entry 43). -/
def Obligations.TimeCommands : Prop :=
  Rules.TimeCommandStarts ∧ Rules.ServoLimits ∧ Rules.TimeCommandApplies ∧ Rules.StepSetsTimeBase

/-- R297, R298, R301: a snapshot is asked for, a further GO write meanwhile counted with CAUSE 2, and taken at its tick; the time
page shows the present values; the save writes monotonic time, the offsets and the trims. -/
def Rules.TimeSnapshots : Prop :=
  ∀ (s : State) (src : Src),
    (s.takes src → s.time.snapBusy = true → completes (.timeSnap src) s (s.illegal .time 0x20 src 2))
      ∧ (s.takes src → s.time.snapBusy = false →
          completes (.timeSnap src) s { s with time := { s.time with snapBusy := true } })
      ∧ (s.awake = true → s.time.snapBusy = false → completes .timeSnapTake s s)
      ∧ (s.awake = true → s.time.snapBusy = true →
          let t := (List.range 8).foldl (fun s k => s.setPair .timeSnapTbLo .timeSnapTbHi k (s.tbNow k))
            (s.setPair .timeSnapMonoLo .timeSnapMonoHi 0 s.mono)
          completes .timeSnapTake s { t with time := { s.time with snapBusy := false } })
      ∧ (s.running = true → completes .timePageRefresh s { s with time := { s.time with page := s.timePage } })
      ∧ (s.running = true →
          let t := (List.range 8).foldl
            (fun s k => s.setPair .timeTbOfsLo .timeTbOfsHi k (unsigned 64 ((s.tbNow k : Int) - s.mono)))
            (s.setPair .timeMonoSavedLo .timeMonoSavedHi 0 s.mono)
          let saved : TimeSave :=
            { mono := s.mono, ofs := (List.range 8).map fun k => unsigned 64 ((s.tbNow k : Int) - s.mono)
              trims := (List.range 8).map s.tbTrim }
          completes .timeSave s { t with time := { s.time with saved := saved } })

/-- R314: two-step records of a Platform older than one second are freed and counted; younger ones stay. -/
def Rules.TwoStepRecordsAge : Prop :=
  ∀ (s : State) (p : Nat), p < 8 → s.running = true →
    let old (r : TcRec) : Bool := decide (r.at_ + 1000 * 1000000000000 < s.fs)
    let t := s.setPlat p { s.plat p with tc := (s.plat p).tc.filter fun r => !old r }
    let n := ((s.plat p).tc.filter old).length
    completes (.tcRecordAged p) s (if n = 0 then t else t.countN .time p 5 n)

/-- Time snapshots, the time page, the save, and two-step records. -/
def Obligations.SnapshotsAndRecords : Prop :=
  Rules.TimeSnapshots ∧ Rules.TwoStepRecordsAge

/-- R317: a 1PPS output asserts when it is due, at its polarity, but not twice at one tick, ends after its width, and does nothing
between. -/
def Rules.PpsOutputs : Prop :=
  ∀ (s : State) (n : Nat), n < 4 → s.running = true →
    let x := s.pps n
    let low := s.cfg.b .timePpsOutCfg n 30
    (s.ppsDue n = true → x.pulse = none → x.last ≠ some s.tickQ →
        ∃ u, exec (.ppsOutPulse n) s = .next u
          ∧ u.bare = (s.setPps n {
              pulse := some (s.fs + s.cfg.f .timePpsOutWidth n 29 0 * 1000000), low := low, last := some s.tickQ }).bare
          ∧ Out.pin (ppsName n) (!low) ∈ u.out)
      ∧ (s.ppsDue n = false ∨ x.pulse ≠ none ∨ x.last = some s.tickQ → completes (.ppsOutPulse n) s s)
      ∧ (x.pulse = none → completes (.ppsOutPulseEnd n) s s)
      ∧ (∀ t, x.pulse = some t →
          (s.fs < t → completes (.ppsOutPulseEnd n) s s)
            ∧ (t ≤ s.fs → ∃ u, exec (.ppsOutPulseEnd n) s = .next u ∧ u.bare = (s.setPps n { x with pulse := none }).bare
                ∧ Out.pin (ppsName n) x.low ∈ u.out))

/-- R318: an edge on an enabled 1PPS input that is too short, or comes within a microsecond of the last, is counted as rejected; any
other is stamped with the base's value and monotonic time and counted. A disabled input sees nothing. -/
def Rules.PpsInputs : Prop :=
  ∀ (s : State) (n highNs : Nat), n < 4 → s.running = true →
    let soon : Prop := ∃ t, (s.time.ppsIn[n]?).getD none = some t ∧ s.fs < t + 1000000000
    (s.rb .timePpsInCfg n 31 = false → completes (.ppsInEdge n highNs) s s)
      ∧ (s.rb .timePpsInCfg n 31 = true → highNs < 20 ∨ soon → completes (.ppsInEdge n highNs) s (s.count .time 0 10))
      ∧ (s.rb .timePpsInCfg n 31 = true → 20 ≤ highNs → ¬ soon →
          let k := s.rf .timePpsInCfg n 26 24
          let v := Int.fdiv (s.tbFine k s.fs * 1000 - (s.rf .timePpsInCfg n 15 0 : Int) * fineUnit) (fineUnit * 1000)
          let t := (s.setPair .timePpsInTbLo .timePpsInTbHi n (unsigned 64 v)).setPair .timePpsInMonoLo .timePpsInMonoHi n
            s.mono
          let t := t.setRf .timePpsInStat n 15 0 (t.rf .timePpsInStat n 15 0 + 1)
          completes (.ppsInEdge n highNs) s
            ({ t with time := { s.time with ppsIn := s.time.ppsIn.set n (some s.fs) } }.orReg .timeIntStat 0 (2 ^ (16 + n))))

/-- The 1PPS pins. That an output asserts where its command comes within the pulse, and not again at the tick at which it last
did, are the model's readings (log entry 45). -/
def Obligations.PpsPins : Prop :=
  Rules.PpsOutputs ∧ Rules.PpsInputs

/-! ### The capture store (chapter 11) -/

/-- R327, R465: the drain serves the Platforms round robin: it takes the oldest record of the one whose turn it is, frees its
frame's capture reference where bytes were asked for, and hands the record to the writer; a record whose cell fails its CRC is
lost. -/
def Rules.CaptureDrain : Prop :=
  ∀ (s : State) (p : Nat), p < 8 → s.running = true →
    let turn := s.capt.drainTurn
    (s.drainDue p = false → completes (.captureDrainRead p) s s)
      ∧ (turn < 8 →
          (s.drainDue p = true ↔ (s.plat p).capQ ≠ []
            ∧ ∀ q, q < 8 → (q + 7 - turn) % 8 < (p + 7 - turn) % 8 → (s.plat q).capQ = []))
      ∧ ∀ r rest, (s.plat p).capQ = r :: rest → s.drainDue p = true →
        let snap := (s.cfgAt r.frame.epoch).f .recRule r.rule 13 0
        let n := beats (min snap r.frame.bytes.length)
        let read (s : State) : State :=
          let t := { s with capt := { s.capt with drainTurn := p } }.setPlat p { s.plat p with capQ := rest }
          ((if snap = 0 then t else t.freeCapture r.frame.no).perf p 11 none none n).agg 3 n
        let lost (inj : Bool) (t : State) : State := (((read t).loseRecord p).settleRecording).crcFailed p r.frame.port inj
        let sound : Prop := ∀ k ∈ r.frame.badCells, min snap r.frame.bytes.length ≤ 256 * k
        (s.injCell p = false ∨ min snap r.frame.bytes.length = 0 → sound →
            completes (.captureDrainRead p) s
              { read s with capt := { s.capt with
                drainTurn := p, queue := s.capt.queue ++ [.frame r (r.frame.bytes.take snap)] } })
          ∧ (s.injCell p = true → 0 < min snap r.frame.bytes.length →
            completes (.captureDrainRead p) s (lost true (s.takeInjCell p)))
          ∧ (s.injCell p = false → ¬ sound → completes (.captureDrainRead p) s (lost false s))

/-- R328, R330, R332, R333, R339: the writer appends the oldest record, padded to 8 bytes, to the open block where it fits, or to a
new one; after a CXL error records are lost, and while the next block belongs to a window the record waits. -/
def Rules.RecordWriter : Prop :=
  ∀ s : State, s.running = true →
    (s.capt.queue = [] → completes .recordWrite s s)
      ∧ ∀ rest,
        let pop (s : State) : State := { s with capt := { s.capt with queue := rest } }
        (∀ w mono, s.capt.queue = .marker w mono :: rest →
            let t := (s.blockFor 32).1
            (s.capt.cxlErr = true → completes .recordWrite s (pop s).settleRecording)
              ∧ (s.capt.cxlErr = false → (s.blockFor 32).2 = none → completes .recordWrite s t)
              ∧ (∀ b at_, s.capt.cxlErr = false → (s.blockFor 32).2 = some (b, at_) →
                  completes .recordWrite s
                    (((pop t).appendRecord b at_ true mono (markerRecord w mono b.bsn)).settleRecording)))
          ∧ (∀ r bytes, s.capt.queue = .frame r bytes :: rest →
            let t := (s.blockFor (32 + (bytes.length + 7) / 8 * 8)).1
            (s.capt.cxlErr = true → completes .recordWrite s ((pop s).loseRecord r.frame.plat).settleRecording)
              ∧ (s.capt.cxlErr = false → (s.blockFor (32 + (bytes.length + 7) / 8 * 8)).2 = none → completes .recordWrite s t)
              ∧ (∀ b at_, s.capt.cxlErr = false → (s.blockFor (32 + (bytes.length + 7) / 8 * 8)).2 = some (b, at_) →
                  let u := ((pop t).appendRecord b at_ false (instantNs r.frame.instant)
                    ((pop t).frameRecord r bytes b.bsn)).count .capt r.frame.plat 0
                  completes .recordWrite s
                    ((u.countIf (decide ((u.cfgAt r.frame.epoch).f .recRule r.rule 13 0 = 0)) .capt r.frame.plat
                      4).settleRecording)))

/-- R333, R335: a block closes CLOSE_US after its first record, and not before: the next block has the next BSN, and its chain
goes on from the digest. The open block's length is saved with its header counted. -/
def Rules.BlocksClose : Prop :=
  ∀ s : State, s.running = true →
    (s.closeDue = false → completes .blockCloseTimeout s s)
      ∧ (s.closeDue = true → completes .blockCloseTimeout s s.closeBlock)
      ∧ (s.capt.cur = none → completes .openLenSave s s)
      ∧ ∀ b t, s.capt.cur = some (b, t) →
        completes .openLenSave s { s with capt := { s.capt with openLen := 128 + b.data.length } }
          ∧ s.closeBlock.capt.cur = none ∧ s.closeBlock.capt.bsn = s.capt.bsn + 1 ∧ s.closeBlock.capt.openLen = 0
          ∧ s.closeBlock.capt.lost = 0 ∧ s.closeBlock.capt.queue = s.capt.queue ∧ s.closeBlock.capt.wins = s.capt.wins

/-- R336: a trigger, by a register write (source 1) or the GPIO edge that the settings name (source 2), is counted. While a
window is open it is retriggered and its marker written; else the first free slot opens; with neither the trigger is lost, and
its marker's window is a free value. Another edge does nothing. The window in the marker of a lost trigger is a free value (log
entry 7). -/
def Obligations.Triggers : Prop :=
  ∀ (s : State) (src : Src) (pin : Nat) (rising : Bool),
    let c := s.count .capt 0 6
    let both (u : Nat → State) : Prop :=
      (s.takes src → completes (.triggerWrite src) s (u 1))
        ∧ (s.running = true → pin < 16 → s.gpioFires pin rising = true → s.retained = false →
            completes (.gpioTrigger pin rising) s (u 2))
    (∀ w, (List.range 4).find? (fun w => (s.win w).state = 1) = some w →
        both fun _ => (c.count .capt 0 7).putMarker w s.fs)
      ∧ (∀ w, (∀ v, v < 4 → (s.win v).state ≠ 1) → (List.range 4).find? (fun w => (s.win w).state = 0) = some w →
        both fun n => (c.openWindow w n s.fs).putMarker w s.fs)
      ∧ ((∀ v, v < 4 → (s.win v).state ≠ 1 ∧ (s.win v).state ≠ 0) →
        both fun _ =>
          let l := c.count .capt 0 8
          { l with free := s.free + 1 }.putMarker (Config.freeValue s.free % 256) s.fs)
      ∧ (s.running = true → pin < 16 → s.gpioFires pin rising = false → completes (.gpioTrigger pin rising) s s)
      ∧ (s.running = true → pin < 16 → s.gpioFires pin rising = true → s.retained = true →
          completes (.gpioTrigger pin rising) s { s with ao := { s.ao with triggers := s.ao.triggers ++ [s.fs] } })

/-- R338: an open window whose post time has ended, or that has reached half the ring, closes the block and enters sealing with
CUT in the second case; a window in sealing is sealed, unsigned while the key vault holds no signing key, but only once no window
that opened before it is still in sealing (R344). Otherwise nothing happens. -/
def Rules.WindowsSeal : Prop :=
  ∀ (s : State) (w : Nat), w < 4 → s.running = true →
    (s.windowOver w = false → completes (.windowPostEnd w) s s)
      ∧ (s.windowOver w = true →
          let t := s.closeBlock
          completes (.windowPostEnd w) s
            (t.setWin w { t.win w with state := 2, cut := (t.win w).cut || s.windowHalf w, endBsn := t.capt.bsn }))
      ∧ ((s.win w).state ≠ 2 ∨ s.sealTurn w = false → completes (.windowSealed w) s s)
      ∧ (s.sealTurn w = true ↔ ∀ x ∈ s.capt.wins, x.state = 2 → (s.win w).id ≤ x.id)
      ∧ ((s.win w).state = 2 → s.sealTurn w = true → s.cfg.b .recNvmeCfg 0 31 = false →
          let x := { s.win w with state := 3, unsigned_ := s.upd.vault.signKey.isNone }
          let b := s.sealBytes x
          let shows (u : State) (sig : List Byte) : State := (u.setWin w { x with sealed := b ++ sig }).orReg .recIntStat 0 1
          (s.upd.vault.signKey = none → completes (.windowSealed w) s (shows s (List.replicate 96 0)))
            ∧ ∀ k, s.upd.vault.signKey = some k →
              completes (.windowSealed w) s
                (shows { s with free := s.free + 1 }
                  (beBytes 96 (Config.signP384 k (Config.sha384 b) (Config.freeValue s.free)))))
      ∧ ((s.win w).state = 2 → s.sealTurn w = true → s.cfg.b .recNvmeCfg 0 31 = true →
          completes (.windowSealed w) s (s.sealWindow w))

/-- R340: one LBA goes to the drive, or to both with MIRROR, and nothing but the drives' contents and the commands sent changes. -/
def Rules.DrivesWritten : Prop :=
  ∀ (s : State) (fua : Bool) (lba : Nat) (b : List Byte), b.length = 4096 →
    let put (m : Store (List Byte)) : Store (List Byte) := Store.put m lba b
    (s.cfg.b .recNvmeCfg 0 30 = false →
        s.nvmeWrite fua 1 lba b
          = { s with capt := { s.capt with nvme := put s.capt.nvme }, out := .nvme 0 lba fua b :: s.out })
      ∧ (s.cfg.b .recNvmeCfg 0 30 = true →
        s.nvmeWrite fua 1 lba b
          = { s with
              capt := { s.capt with nvme := put s.capt.nvme, nvme2 := put s.capt.nvme2 }
              out := .nvme 1 lba fua b :: .nvme 0 lba fua b :: s.out })

/-- R341: COMMIT and RELEASE act on each slot that the write names, in order: a sealed window starts its commit, or is freed; any
other is counted as an illegal sequence with CAUSE 11. -/
def Rules.WindowControl : Prop :=
  ∀ (s : State) (src : Src) (m : Nat), s.takes src → m < 16 →
    let each (f : State → Nat → State) : State :=
      (List.range 4).foldl
        (fun t w => if bitOf m w then (if (t.win w).state = 3 then f t w else t.illegal .capt 0x180 src 11) else t) s
    completes (.windowCommit src m) s (each fun t w => t.startCommit w)
      ∧ completes (.windowRelease src m) s (each fun t w => (t.setWin w {}).restall)

/-- R340, R341: a commit that completes writes the blocks after the header's LBA, flushes, writes the header with FUA, on both
drives with MIRROR, frees the slot with RESULT 1, and counts; an error leaves the window sealed with RESULT 2. Neither happens to
a window that is not committing. -/
def Rules.WindowCommits : Prop :=
  ∀ (s : State) (w : Nat), w < 4 → s.running = true →
    ((s.win w).state ≠ 4 → completes (.windowCommitDone w) s s ∧ completes (.windowCommitError w) s s)
      ∧ ((s.win w).state = 4 →
          completes (.windowCommitError w) s ((s.setWin w { s.win w with state := 3, result := 2 }).orReg .recIntStat 0 4)
            ∧ (let x := s.win w
              let lba := s.headerLba (s.winLbas x)
              let d := s.nvmeBlocks (lba + 1) (s.blocksOf x)
              let t := d.1.nvmeFlush.nvmeWrite true 1 lba x.sealed
              let base := t.cfg.wide .recNvmeBaseLo .recNvmeBaseHi 0
              let t := { t with capt := { t.capt with
                nvmeWr := if base + (t.cfg .recNvmeCount 0).toNat ≤ d.2 then base else d.2 } }
              completes (.windowCommitDone w) s
                ((((t.setWin w { x with state := 0, result := 1 }).orReg .recIntStat 0 2).count .capt 0 9).restall)))

/-- Capture windows from their end to their commit. Readings of log entry 46; digests and signatures are opaque (log entry 6), and
the number that a signature draws is a free value (log entry 7). -/
def Obligations.CaptureWindows : Prop :=
  Rules.WindowsSeal ∧ Rules.WindowControl ∧ Rules.DrivesWritten ∧ Rules.WindowCommits

/-- R330: a CXL error stops recording and sets its status bit, and nothing else changes. -/
def Rules.CxlErrors : Prop :=
  ∀ s : State, s.running = true →
    completes .cxlError s ({ s with capt := { s.capt with cxlErr := true } }.orReg .recIntStat 0 16)

/-- R331, R334: a block that closes keeps the node of the boot that closed it in its header's bytes 8 and 9, and its digest covers
its records and that header: the bytes that go to a drive later are those that were hashed. -/
def Rules.ClosedBlocks : Prop :=
  ∀ (s : State) (b : RecBlock) (t : Nat), s.capt.cur = some (b, t) →
    let c := Store.get {} s.closeBlock.capt.ring s.capt.wr
    c.node = s.node ∧ c.bsn = b.bsn ∧ c.data = b.data ∧ (c.header.drop 8).take 2 = leBytes 2 s.node
      ∧ c.digest = Config.sha384 (c.data ++ c.header) ∧ s.closeBlock.capt.head = c.digest

/-- The capture drain, the record writer, blocks and CXL errors. Digests are opaque (log entry 6). That the saved length counts the
header is read by log entry 46, and that a cell error waits for the drain's read by log entry 56. -/
def Obligations.CaptureWriting : Prop :=
  Rules.CaptureDrain ∧ Rules.RecordWriter ∧ Rules.BlocksClose ∧ Rules.ClosedBlocks ∧ Rules.CxlErrors

/-! ### The host port (chapters 12 and 13) -/

/-- R346, R347, R348, R391, R400: the PCIe link, which trains only once the image's header has been read, and the power state of
the function; a function reset stops every unit, ends a table operation after its present entry, and puts the registers of chapter
13, the MSI-X table, the function's configuration space, and every index and completion back, with FN_RESET set. A completion
entry that a unit is writing then may reach the ring without its head (R394). -/
def Rules.PcieFunction : Prop :=
  ∀ (s : State) (k : FnReset) (width speed : Nat),
    let strays := (List.range 17).foldl (fun s u => s.strayEntry u) s
    let stopped := (List.range 17).foldl (fun s u => if s.unitOn u then s.stopUnit u else s) strays
    let cold := stopped.coldRegs ringRegs
    let reset := { cold with host := { cold.host with
      gen := cold.host.gen + 1, units := List.replicate 17 {}, turn := 15, td := none, msix := [], pend := 0, d3hot := false
      pci := {} } }.orReg
      .hostLinkStat 0 (2 ^ 30)
    (s.powered = true → k ≠ .d3ToD0 ∨ s.host.d3hot = true →
        completes (.functionReset k) s
          (let t := if k = .linkDown ∨ k = .perst then reset.setReg .hostLinkStat 0 0x40000000 else reset
          if k = .perst then { t with ao := { t.ao with perstLow := true } } else t))
      ∧ (s.powered = false → completes (.functionReset .perst) s { s with ao := { s.ao with perstLow := true } })
      ∧ (s.powered = false → k ≠ .perst → completes (.functionReset k) s s)
      ∧ (s.host.d3hot = false → completes (.functionReset .d3ToD0) s s)
      ∧ (s.powered = false ∨ s.phase < 2 → width = 1 ∨ width = 2 ∨ width = 4 → 0 < speed → speed < 5 →
          completes (.pcieLinkUp width speed) s s)
      ∧ (s.powered = true → 2 ≤ s.phase → width = 1 ∨ width = 2 ∨ width = 4 → 0 < speed → speed < 5 →
          completes (.pcieLinkUp width speed) s
            (let t := (s.setRf .hostLinkStat 0 31 31 1).setRf .hostLinkStat 0 7 0 (width * 16 + speed)
            { t with ao := { t.ao with perstLow := false } }))
      ∧ (∀ src b off v, s.ao.perstLow = true → completes (.registerWrite .pcie b off v) s s
          ∧ (src ≠ .pcie → s.reaches src = true))
      ∧ (s.awake = true → s.ao.perstLow = true → completes .d3hotEntry s s)
      ∧ (s.awake = true → s.ao.perstLow = false → completes .d3hotEntry s { s with host := { s.host with d3hot := true } })

/-- R394: what a function reset may leave of a unit's completions: where one waits and its ring has room, its entry written
without the head that would show it, or nothing; which of the two is a free value. -/
def Rules.StrayEntries : Prop :=
  ∀ (s : State) (u : Nat),
    ((s.unit u).waiting = [] → s.strayEntry u = s)
      ∧ ∀ c rest, (s.unit u).waiting = c :: rest →
        let size := s.ring .hostQpCqSize u
        let head := s.rf .hostQpCqHead u 15 0
        let full : Prop := size ≤ idxDiff head (s.rf .hostCqDb u 15 0)
        let entry := Out.hostMem (s.entryAddr .hostQpCqBaseLo .hostQpCqBaseHi u head size 32)
          (c.words.flatMap fun w => leBytes 4 w.toNat)
        (full ∨ Config.freeValue s.free % 2 = 0 → s.strayEntry u = { s with free := s.free + 1 })
          ∧ (¬ full → Config.freeValue s.free % 2 = 1 →
              s.strayEntry u = { s with free := s.free + 1, out := entry :: s.out })

/-- R372, R384, R390: a unit is enabled with every index and doorbell at 0, unless a ring of it has size zero (CAUSE 7) or work is
in flight (CAUSE 11); disabled, it stops at once; it is idle when nothing is in flight, no completion waits and its heads have
caught up, enabled or not. -/
def Rules.HostUnits : Prop :=
  ∀ (s : State) (src : Src) (u : Nat), u < 17 →
    (s.takes src → s.zeroRing u = true → completes (.enableUnit src u) s (s.illegal .host (unitOff u) src 7))
      ∧ (s.takes src → s.zeroRing u = false → s.unitIdle u = false →
          completes (.enableUnit src u) s (s.illegal .host (unitOff u) src 11))
      ∧ (s.takes src → s.zeroRing u = false → s.unitIdle u = true →
          let t := (((s.setReg .hostTxDb u 0).setReg .hostCqDb u 0).setReg .hostQpTxHead u 0).setReg .hostQpCqHead u 0
          let t := if u < 16 then (t.setReg .hostRxDb u 0).setReg .hostQpRxHead u 0 else t
          let t := ((t.setRf .hostQpStat u 30 30 0).modUnit u fun x => { x with fetch := 0, rxTake := 0, cqSince := none }).setEn
            u true
          completes (.enableUnit src u) s (if u < 16 then t.portUp (528 + u) 10 else t))
      ∧ (s.takes src → s.unitOn u = true →
          completes (.disableUnit src u) s (if u < 16 then (s.setEn u false).portDown (528 + u) 0 else s.setEn u false))
      ∧ (s.takes src → s.unitOn u = false → completes (.disableUnit src u) s s)
      ∧ (s.awake = true →
          (s.unit u).inFlight ≠ 0 ∨ (s.unit u).waiting ≠ [] ∨ s.headsDone u = false ∨ (u = 16 ∧ s.host.td ≠ none) →
          completes (.unitIdle u) s s)
      ∧ (s.headsDone u = true ↔ s.rf .hostQpTxHead u 15 0 = (s.unit u).fetch % 65536
          ∧ s.rf .hostQpRxHead u 15 0 = (s.unit u).rxTake % 65536)
      ∧ (s.awake = true → (s.unit u).inFlight = 0 → (s.unit u).waiting = [] → s.headsDone u = true →
          (u = 16 → s.host.td = none) →
          completes (.unitIdle u) s (s.orReg .hostQpStat u (2 ^ 31)))

/-- The PCIe function and the units of the host port. Which completion entry a function reset finds written without its head is a
free value (log entry 7), and when a disabled unit is idle is read by log entry 39. The order of the checks of an enable is read
by log entry 40; that the link may train in a halted switch is the model's reading (log entry 28), and so is that WIDTH and SPEED
clear when the link is lost (log entry 29). -/
def Obligations.PcieAndUnits : Prop :=
  Rules.PcieFunction ∧ Rules.StrayEntries ∧ Rules.HostUnits

/-- A doorbell write reaches its register: in the register block by an agent, or by PCIe in the page of a delegated queue pair. -/
def rings (s : State) (src : Src) (q : Nat) (user : Bool) : Prop :=
  (user = false ∧ s.takes src) ∨ (user = true ∧ src = .pcie ∧ s.awake = true ∧ s.ao.perstLow = false ∧ s.host.d3hot = false
    ∧ s.delegated q = true)

/-- R373: a producer doorbell of an enabled unit takes its value where that leaves no more entries than the ring holds and does
not go back; else the write is ignored and counted with CAUSE 6, and with CAUSE 11 where the unit is disabled. Both in the
register block and through the user window (R361). -/
def Obligations.ProducerDoorbells : Prop :=
  ∀ (s : State) (src : Src) (q v : Nat) (user : Bool), q < 16 → v < 65536 →
    let ok (db head size : RegId) (u : Nat) : Prop :=
      idxDiff v (s.rf head u 15 0) ≤ s.ring size u ∧ idxDiff (s.rf db u 15 0) (s.rf head u 15 0) ≤ idxDiff v (s.rf head u 15 0)
    let rule (c : Instr) (db head size : RegId) (u off : Nat) : Prop :=
      (s.unitOn u = false → completes c s (s.illegal .host off src 11))
        ∧ (s.unitOn u = true → ok db head size u → completes c s (s.setReg db u (Word.ofNat v)))
        ∧ (s.unitOn u = true → ¬ ok db head size u → completes c s (s.illegal .host off src 6))
    (rings s src q user →
        rule (.txDb src q v user) .hostTxDb .hostQpTxHead .hostQpTxSize q (0x8000 + q * 16)
          ∧ rule (.rxDb src q v user) .hostRxDb .hostQpRxHead .hostQpRxSize q (0x8004 + q * 16))
      ∧ (s.takes src → rule (.tdDb src v) .hostTxDb .hostQpTxHead .hostQpTxSize 16 0x8100)

/-- R374: a completion doorbell frees entries up to its value, whether or not the unit is enabled (R390); a value ahead of the
head is ignored and counted with CAUSE 8. -/
def Rules.CompletionDoorbells : Prop :=
  ∀ (s : State) (src : Src) (q v : Nat) (user : Bool), q < 16 → v < 65536 →
    let rule (c : Instr) (u off : Nat) : Prop :=
      let old := s.rf .hostCqDb u 15 0
      (idxDiff v old ≤ idxDiff (s.rf .hostQpCqHead u 15 0) old → completes c s (s.setReg .hostCqDb u (Word.ofNat v)))
        ∧ (idxDiff (s.rf .hostQpCqHead u 15 0) old < idxDiff v old → completes c s (s.illegal .host off src 8))
    (rings s src q user → rule (.cqDb src q v user) q (0x8008 + q * 16))
      ∧ (s.takes src → rule (.tdcDb src v) 16 0x8104)

/-- R361: a doorbell of a queue pair that is not delegated, written in the user window, is ignored and counted with CAUSE 12. -/
def Rules.UndelegatedDoorbells : Prop :=
  ∀ (s : State) (q v : Nat), q < 16 → v < 65536 → s.awake = true → s.ao.perstLow = false → s.host.d3hot = false →
    s.delegated q = false →
    completes (.txDb .pcie q v true) s (s.illegal .host (0x8000 + q * 16) .pcie 12)
      ∧ completes (.rxDb .pcie q v true) s (s.illegal .host (0x8000 + q * 16 + 4) .pcie 12)
      ∧ completes (.cqDb .pcie q v true) s (s.illegal .host (0x8000 + q * 16 + 8) .pcie 12)

/-- R347: in D3hot a doorbell in the user window completes as Unsupported Request, and changes nothing. -/
def Rules.DoorbellsInD3hot : Prop :=
  ∀ (s : State) (q v : Nat), q < 16 → v < 65536 → s.ao.perstLow = false → s.host.d3hot = true →
    let turned (c : Instr) (a : Nat) : Prop :=
      ∃ u, exec c s = .next u ∧ u.bare = s.bare ∧ Out.unsupported .bar2 a ∈ u.out
    turned (.txDb .pcie q v true) (q * 0x10000) ∧ turned (.rxDb .pcie q v true) (q * 0x10000 + 4)
      ∧ turned (.cqDb .pcie q v true) (q * 0x10000 + 8)

/-- R359, R361, R374, R390, R347: completion doorbells, and doorbells of queue pairs that are not delegated or of a function in
D3hot. The offset that a refused doorbell is counted with is read by log entry 27. -/
def Obligations.OtherDoorbells : Prop :=
  Rules.CompletionDoorbells ∧ Rules.UndelegatedDoorbells ∧ Rules.DoorbellsInD3hot

/-- R376 to R379, R389: the next transmit frame of the queue pair whose turn it is. A malformed descriptor halts the switch; a frame
whose LAST is not posted waits, and so does one without free cells; else the descriptors are taken, and the frame, padded and with
its FCS, waits for its first pass on the Platform of its pair. -/
def Rules.HostTransmit : Prop :=
  ∀ (s : State) (q : Nat) (descs : List (List Word)) (data : List Byte), q < 16 → s.running = true → s.retained = false →
    let posted := descs.take (s.txPosted q)
    (s.txTurn q = false → completes (.hostTxFetch q descs data) s s)
      ∧ (s.txTurn q = true →
          (∀ k code, s.txWalk posted 0 0 0 = .bad k code →
              completes (.hostTxFetch q descs data) s
                (s.halt 0x0030 [Word.ofNat q, 0, Word.ofNat (((s.unit q).fetch + k) % 65536), Word.ofNat code]))
            ∧ (s.txWalk posted 0 0 0 = .open_ →
              completes (.hostTxFetch q descs data) s { s with host := { s.host with turn := q } })
            ∧ ∀ n, s.txWalk posted 0 0 0 = .frame n →
              let h := s.txInfo q n (posted.headD [])
              let cells := ceilDiv (max h.len 60 + 4) 256
              let p := s.rf .hostQpCtrl q 29 27
              let b := hostBytes data h.len
              let f : Frame :=
                { bytes := b, len := b.length, port := 528 + q, plat := p, host := some h, cls := h.cls
                  charge := { fixed := cells } }
              (8192 < s.fixedUsed + s.ownCells + cells → completes (.hostTxFetch q descs data) s s)
                ∧ (s.fixedUsed + s.ownCells + cells ≤ 8192 →
                  let t := ((s.takeDescs q n).writeBeats p b.length).modUnit q fun x => { x with inFlight := x.inFlight + 1 }
                  completes (.hostTxFetch q descs data) s
                    ({ t with fixedUsed := s.fixedUsed + cells }.modPlat p fun x => { x with hostQ := x.hostQ ++ [f] })))

/-- R389, R393: a failed access to host memory stops its unit with ERR, and sets its status bit, where the unit was reading
descriptors, writing receive data or writing a completion. A failed read of a frame's data completes the frame with STATUS 1. -/
def Rules.FailedHostAccesses : Prop :=
  ∀ (s : State) (u : Nat), s.running = true →
    let fails := ((s.stopUnit u).orReg .hostQpStat u (2 ^ 30)).orReg .hostQpIntStat u 2
    (u < 16 → s.txAble u = true → completes (.dmaAccessFail (.txDesc u)) s fails)
      ∧ (u < 16 → s.unitOn u = true →
          completes (.dmaAccessFail (.rxDesc u)) s fails ∧ completes (.dmaAccessFail (.rxData u)) s fails)
      ∧ (u < 16 → s.unitOn u = false →
          completes (.dmaAccessFail (.rxDesc u)) s s ∧ completes (.dmaAccessFail (.rxData u)) s s)
      ∧ (u < 17 → (s.unit u).waiting ≠ [] → completes (.dmaAccessFail (.cqWrite u)) s fails)
      ∧ (u = 16 → s.tdAble = true → s.host.td = none → completes (.dmaAccessFail .tdDesc) s fails)
      ∧ (∀ descs n, u < 16 → s.txTurn u = true → s.txWalk (descs.take (s.txPosted u)) 0 0 0 = .frame n →
          let h := s.txInfo u n ((descs.take (s.txPosted u)).headD [])
          s.fixedUsed + s.ownCells + ceilDiv (max h.len 60 + 4) 256 ≤ 8192 →
          completes (.dmaAccessFail (.txData u descs)) s (((s.takeDescs u n).postCompl u (txCompl h 1)).count .host u 3))

/-- R382: a head frame of a host queue group without receive buffers is dropped whole when the HOLD_US timer that began as it first
could not be handed ends, and counted; before that, or with no such frame, nothing happens. -/
def Rules.ReceiveHold : Prop :=
  ∀ (s : State) (q c : Nat), q < 16 → c < 8 → s.running = true →
    let copies := ((s.port (528 + q)).queue c).copies
    (copies = [] → completes (.rxHoldDrop q c) s s)
      ∧ ∀ x rest, copies = x :: rest →
        (x.holdEnd = none → completes (.rxHoldDrop q c) s s)
          ∧ ∀ t, x.holdEnd = some t →
            (s.fs < t → completes (.rxHoldDrop q c) s s)
              ∧ (t ≤ s.fs →
                completes (.rxHoldDrop q c) s (((s.popHead (528 + q) c).dropCopy x).count .host q 2))

/-- R380, R381, R389: the buffers of a frame of `l` stored bytes: the fewest, in ring order, whose lengths add up to `l`. A frame
fits those posted where there are as many and none of them is malformed: a length below 256, or a length or an address that is no
multiple of 64. -/
def Rules.ReceiveBuffers : Prop :=
  (∀ (bufs : List (List Word)) (l n : Nat),
      let sum (k : Nat) : Nat := ((bufs.take k).map fun d => fld (dword d 2) 15 0).sum
      rxWalk bufs 0 l = .fits n ↔ n ≤ bufs.length ∧ l ≤ sum n ∧ (∀ m, m < n → sum m < l) ∧ ∀ d ∈ bufs.take n, rxBad d = false)
    ∧ ∀ d : List Word, rxBad d = false ↔
      256 ≤ fld (dword d 2) 15 0 ∧ fld (dword d 2) 15 0 % 64 = 0 ∧ fld (dword d 0) 5 0 = 0

/-- R208, R380, R381, R387, R465: host receive delivery. The highest class whose head frame fits the posted buffers has it handed
to the receive ring: its stored bytes fill the buffers in ring order, the ring moves on past them, its completion waits and the
frame is counted. A frame whose cell CRC fails is lost, counted, and its buffers are used again; a malformed buffer halts the
switch. -/
def Rules.HostReceive : Prop :=
  ∀ (s : State) (q : Nat) (bufs : List (List Word)), q < 16 → s.running = true → s.retained = false →
    let e := 528 + q
    let posted := bufs.take (s.rxPosted q)
    let fits (u : State) (_ : Nat) (x : Copy) : Bool := !u.complFull q && rxWalk posted 0 x.frame.bytes.length ≠ .short
    let h := if posted.length = s.rxPosted q then s.holdHeads q posted else s
    let sel := h.selectFrom e fits [7, 6, 5, 4, 3, 2, 1, 0]
    (s.port e).link = true →
    (∀ k, s.rxMalformed q posted = some k →
        completes (.transmissionSelection e bufs) s
          (s.halt 0x0030 [Word.ofNat q, 1, Word.ofNat (((s.unit q).rxTake + k) % 65536), 6]))
      ∧ (s.rxMalformed q posted = none →
        (sel.2 = none → completes (.transmissionSelection e bufs) s sel.1)
          ∧ ∀ c x rest n, sel.2 = some c → ((sel.1.port e).queue c).copies = x :: rest →
            rxWalk posted 0 x.frame.bytes.length = .fits n →
            let b := x.frame.bytes
            let taken := (sel.1.takeCopy e c x).1
            let t := ((taken.perf 0 12 (perfPort e) (some c) 1).perf 0 10 (perfPort e) none (beats b.length)).agg 2 (beats b.length)
            let len (d : List Word) : Nat := fld (dword d 2) 15 0
            (t.injCell 0 = true → completes (.transmissionSelection e bufs) s ((t.takeInjCell 0).crcFailed 0 e true))
              ∧ (t.injCell 0 = false → x.frame.badCells ≠ [] → completes (.transmissionSelection e bufs) s (t.crcFailed 0 e false))
              ∧ (t.injCell 0 = false → x.frame.badCells = [] →
                ∃ u, exec (.transmissionSelection e bufs) s = .next u
                  ∧ u.bare = (((t.modUnit q fun y => { y with rxTake := (y.rxTake + n) % 65536 }).postCompl q
                      (t.rxCompl (sel.1.takeCopy e c x).2 q n)).count .host q 1).bare
                  ∧ ∀ k d, k < n → posted[k]? = some d →
                    Out.hostMem ((dword d 0).toNat + (dword d 1).toNat * 2 ^ 32)
                      ((b.drop ((posted.take k).map len).sum).take (len d)) ∈ u.out))

/-- Host transmit frames, frames delivered to a receive ring, and receive frames without buffers. The order of service is read by
log entry 39. -/
def Obligations.HostFrames : Prop :=
  Rules.HostTransmit ∧ Rules.ReceiveBuffers ∧ Rules.HostReceive ∧ Rules.ReceiveHold

/-- R386 to R388: the oldest waiting completion goes to the ring where that has room, with CQ_HEAD and the other head that it
advances, which never goes back (R379); the entry and the head's write-back leave in that order. The moderation timer raises CQ
when it has run. -/
def Rules.Completions : Prop :=
  ∀ (s : State) (u : Nat), u < 17 → s.running = true →
    let size := s.ring .hostQpCqSize u
    let head := s.rf .hostQpCqHead u 15 0
    let full : Prop := size ≤ idxDiff head (s.rf .hostCqDb u 15 0)
    ((s.unit u).waiting = [] ∨ full → completes (.completionWrite u) s s)
      ∧ (∀ c rest, (s.unit u).waiting = c :: rest → ¬ full →
          let next := (head + 1) % 65536
          let t := s.setReg .hostQpCqHead u (Word.ofNat next)
          let goes (t : State) (id : RegId) (n : Option Nat) : State := match n with
            | some n => if idxDiff n (t.rf id u 15 0) ≤ 32768 then t.setReg id u (Word.ofNat n) else t
            | none => t
          let t := goes (goes t .hostQpTxHead c.txHead) .hostQpRxHead c.rxHead
          let entry := Out.hostMem (s.entryAddr .hostQpCqBaseLo .hostQpCqBaseHi u head size 32)
            (c.words.flatMap fun w => leBytes 4 w.toNat)
          let back := Out.hostMem ((s.reg .hostQpCqWbLo u).toNat + (s.reg .hostQpCqWbHi u).toNat * 2 ^ 32) (leBytes 4 next)
          ∃ v l, exec (.completionWrite u) s = .next v
            ∧ v.bare = ((t.modUnit u fun x => { x with waiting := rest }).raiseCq u).bare ∧ v.out = l ++ back :: entry :: s.out)
      ∧ (∀ t, (s.unit u).cqSince = some t → s.rf .hostQpCqInt u 15 0 ≠ 0 →
          (t + s.rf .hostQpCqInt u 15 0 * 1000000000 ≤ s.fs →
              completes (.cqTimerExpiry u) s
                ((s.orReg .hostQpIntStat u 1).modUnit u fun x => { x with cqSince := none }))
            ∧ (s.fs < t + s.rf .hostQpCqInt u 15 0 * 1000000000 → completes (.cqTimerExpiry u) s s))
      ∧ ((s.unit u).cqSince = none ∨ s.rf .hostQpCqInt u 15 0 = 0 → completes (.cqTimerExpiry u) s s)

/-- Completions, and failed accesses to host memory; a failed access to a table operation's data is stated with table DMA. That
the head never goes back, and that the entry and CQ_HEAD move together, are the model's choices (log entry 39). -/
def Obligations.HostCompletions : Prop :=
  Rules.FailedHostAccesses ∧ Rules.Completions

/-! ### Boot and reset (chapter 14) -/

/-- R288, R300, R396, R397, R471, R478: supplies and RESET_N. A fall of PWRGOOD or RESET_N resets the switch and holds it; a fall of
VAO stops monotonic time as well and ends the block on the key vault; VAO's rise starts time at 0; RESET_N's rise samples the straps
and begins the boot. A pin that stands where it would go changes nothing. A fall of RESET_N waits for the record of a fault. -/
def Rules.SuppliesAndReset : Prop :=
  ∀ (s : State) (straps : Nat), straps < 256 →
    let lost := s.finishRecord.resetSwitch false
    let down := { lost with
      boot := { lost.boot with pwrgood := false, inReset := true }, saf := { lost.saf with powerUp := true } }
    let cold := s.resetSwitch false
    (s.boot.vao = true → s.boot.pwrgood = true → completes .pwrgoodFall s down)
      ∧ (s.boot.vao = false ∨ s.boot.pwrgood = false → completes .pwrgoodFall s s)
      ∧ (s.boot.vao = true →
          completes .vaoFall s
            ({ down with boot := { down.boot with vao := false, vaoLost := true, refOff := false } }.setRf .bootSecStat 0 30 30 0))
      ∧ (s.boot.vao = false → completes .vaoFall s s)
      ∧ (s.boot.vao = true → completes .vaoRise s s)
      ∧ (s.boot.vao = false → ∃ t, exec .vaoRise s = .next t ∧ t.fs = 0 ∧ t.boot = { s.boot with vao := true, riseAt := 0 }
          ∧ t.tables = s.tables ∧ t.epochs = s.epochs ∧ t.ports = s.ports ∧ t.cnt = s.cnt)
      ∧ (s.powered = true → s.faultDue = false →
          completes .resetNAssert s { cold with boot := { cold.boot with inReset := true } })
      ∧ (∀ x, s.powered = true → s.saf.halting = some x → x.written = false →
          completes .resetNAssert s { s with saf := { s.saf with halting := some { x with held := some .pin } } })
      ∧ (s.powered = false → s.boot.waiting = none → completes .resetNAssert s s)
      ∧ (s.powered = false → completes .resetNAssert s { s with boot := { s.boot with waiting := none } })
      ∧ (s.boot.vao = true → s.boot.inReset = true → s.boot.refOff = false →
          completes (.resetNRelease straps) s
            ({ s with boot := { s.boot with pwrgood := true, inReset := false, waiting := none } }.startBoot straps))
      ∧ (s.boot.vao = true → s.boot.inReset = true → s.boot.refOff = true →
          completes (.resetNRelease straps) s { s with boot := { s.boot with pwrgood := true, waiting := some straps } })
      ∧ (s.boot.vao = false ∨ s.boot.inReset = false → completes (.resetNRelease straps) s s)

/-- R300, R301, R342, R396, R410, R439: what a switch reset erases and what it keeps. The keys that the vault holds in clear are
lost, and what it holds wrapped stays; the time bases restored before it need no restoring after it. -/
def Rules.ResetErasesAndKeeps : Prop :=
  ∀ (s : State) (twin : Bool),
    let t := s.resetSwitch twin
    t.tables = [] ∧ t.tree = [] ∧ t.cnt = [] ∧ t.snap = [] ∧ t.ports = [] ∧ t.epochs = [[]] ∧ t.edges = [] ∧ t.refs = []
      ∧ t.sharedUsed = 0 ∧ t.fixedUsed = 0 ∧ t.plats = List.replicate 8 {} ∧ t.commit = {} ∧ t.cls = {} ∧ t.tbl = {}
      ∧ t.psf = {} ∧ t.adm = {} ∧ t.host = {} ∧ t.red = { count := if twin then s.red.count else 0 }
      ∧ t.fs = s.fs ∧ t.time.tbs = s.time.tbs ∧ t.time.saved = s.time.saved ∧ t.time.older = s.time.older
      ∧ t.boot.flash = s.boot.flash ∧ t.boot.vaoLost = (s.boot.vaoLost && !s.boot.restored)
      ∧ t.boot.kept = s.boot.kept ∧ t.boot.areaGen = s.boot.areaGen ∧ t.boot.olderCfg = s.boot.olderCfg
      ∧ t.capt.ring = s.capt.ring ∧ t.capt.wins = s.capt.wins ∧ t.capt.nvme = s.capt.nvme ∧ t.capt.nvme2 = s.capt.nvme2
      ∧ t.boot.durableOk = s.boot.durableOk ∧ t.slots = s.slots ∧ t.rb .bootSecStat 0 26 = false
      ∧ t.upd.rootIds = s.upd.rootIds ∧ t.upd.debugId = s.upd.debugId
      ∧ t.upd.vault
        = { s.upd.vault with wrapKey := none, imageKey := none, slotKeys := [none, none], signKey := none }
      ∧ t.upd.sources = s.upd.sources ∧ t.upd.seq = s.upd.seq ∧ t.upd.rstLow = s.upd.rstLow
      ∧ t.saf.log = s.saf.log ∧ t.saf.seq = s.saf.seq ∧ t.saf.halting = none

/-- R485: the pins in reset. The 1PPS outputs and MDC are low, QSPI_CS_N is high, and GPIO, MDIO, I2C and the returns of SPI and
JTAG are driven no more. A boot that ends with no image is halted, and releases the pins that a halt releases. -/
def Rules.PinsInReset : Prop :=
  ∀ (s : State) (twin : Bool),
    (∀ x, x ∈ resetLevels → Out.pin x.1 x.2 ∈ (s.resetSwitch twin).out)
      ∧ (∀ n, n ∈ resetReleases → Out.release n ∈ (s.resetSwitch twin).out)
      ∧ (∀ o, o ∈ s.out → o ∈ (s.resetSwitch twin).out)
      ∧ ∀ n, n ∈ haltReleases → Out.release n ∈ s.noImage.out

/-- Supplies, RESET_N, and what a reset erases. That the pulse on the pin of UPD_REBOOT goes on over the reset that it causes, and
that one released without REFCLK_AO waits for it, are the model's readings (log entry 50); what a fall of PWRGOOD in a halt keeps
of the record, and that RESET_N waits for the record, are read by log entry 57. -/
def Obligations.ResetsAndSupplies : Prop :=
  Rules.SuppliesAndReset ∧ Rules.ResetErasesAndKeeps ∧ Rules.PinsInReset

/-- R398: each phase of the boot ends only in a boot that stands in it: anywhere else the command changes nothing. Admission ends
before the commit. -/
def Rules.BootPhasesInOrder : Prop :=
  ∀ (s : State) (ok : Bool) (mram : MramCheck) (engine : Nat),
    (s.awake = false ∨ s.phase ≠ 0 → completes (.bootInit ok) s s)
      ∧ (s.awake = false ∨ s.phase ≠ 1 → completes (.bootIdentity ok) s s)
      ∧ (s.awake = false ∨ s.phase ≠ 2 → mram.lost < 32768 → mram.older < 32768 → completes (.bootRestore mram) s s)
      ∧ (s.awake = false ∨ s.phase ≠ 3 → completes (.bootLoad ok engine) s s)
      ∧ (s.awake = false ∨ s.phase ≠ 4 → completes .bootApply s s)
      ∧ (s.awake = false ∨ s.phase ≠ 5 ∨ s.boot.proved = true → completes .bootAdmission s s)
      ∧ (s.awake = false ∨ s.phase ≠ 5 ∨ s.boot.proved = false → completes .bootCommit s s)

/-- R398, R399, R477: Init. The vault derives its keys, a power-up is counted, and the self-test is judged; a failed one halts the
switch. -/
def Rules.BootInit : Prop :=
  ∀ s : State, s.awake = true → s.phase = 0 →
    let t := { s with saf := { s.saf with wdogAt := s.fs } }
    let t := if s.saf.powerUp = true then
        ({ t with saf := { t.saf with powerUp := false } }.setReg .safLifeCycles 0
          (s.reg .safLifeCycles 0 + 1)).writeLogHeader
      else t
    let t := t.deriveKeys
    completes (.bootInit true) s (t.setRf .bootStat 0 31 28 1)
      ∧ completes (.bootInit false) s
          ({ t with free := s.free + 1 }.halt 0x0060 [Word.ofNat (Config.freeValue s.free), 1])

/-- R438, R439, R443: the vault at Init. From the device secret come the wrapping key, under which the image key and the transport
keys are unwrapped, and the signing key; nothing is derived while DERIVE_BLOCKED is set. -/
def Rules.KeysDerived : Prop :=
  ∀ s : State,
    let v := s.upd.vault
    let k := Config.hkdf v.secret labelWrap
    let x := s.deriveKeys.upd.vault
    (s.deriveBlocked = true → x = v)
      ∧ (s.deriveBlocked = false →
          x.wrapKey = some k ∧ x.signKey = some (Config.keyPair (Config.hkdf v.secret labelSign))
            ∧ x.wrapSlots = v.wrapSlots ∧ x.wrapImage = v.wrapImage ∧ x.secret = v.secret ∧ x.pubs = v.pubs
            ∧ (∀ w, v.wrapImage = some w → w.under = k → x.imageKey = some w.key)
            ∧ (∀ w, v.wrapImage = some w → w.under ≠ k → x.imageKey = none)
            ∧ (v.wrapImage = none → x.imageKey = none)
            ∧ ∀ (n : Nat) (w : Wrapped), v.wrapSlots[n]? = some (some w) → w.under = k → x.slotKeys[n]? = some (some w.key))

/-- R397, R401, R403, R405, R408: Identity. A flash that cannot be read leaves the switch in PHASE 8. Else the bank that the straps
or the boot record choose is booted where its check passes, a trial after one of its tries is used; where it fails the other bank
is tried, as one is whose predecessor failed in Load. -/
def Rules.BootIdentity : Prop :=
  ∀ s : State, s.awake = true → s.phase = 1 →
    let b := s.chooseBank.1
    let w := s.writeBootRec { s.bootRecord with tries := s.bootRecord.tries - 1 }
    let boots (u : State) (trial : Bool) : State :=
      ({ u with boot := { u.boot with trial := trial } }.setRf .bootStat 0 23 23 (b2n trial)).takeBank b
    let fails (u : State) : State :=
      let f := u.failBank b
      State.tryBanks (f.otherBanks b) (if f.otherBanks b = [] then f else f.setRf .bootStat 0 22 22 1)
    completes (.bootIdentity false) s s.noImage
      ∧ (∀ o, s.boot.retry = some o →
        let r := { s with boot := { s.boot with retry := none } }
        (r.bankOk o = true → completes (.bootIdentity true) s (r.takeBank o))
          ∧ (r.bankOk o = false → completes (.bootIdentity true) s (r.failBank o).noImage))
      ∧ (s.boot.retry = none → s.chooseBank.2 = false →
          (s.bankOk b = true → completes (.bootIdentity true) s (boots s false))
            ∧ (s.bankOk b = false → completes (.bootIdentity true) s (fails s)))
      ∧ (s.boot.retry = none → s.chooseBank.2 = true →
          (w.bankOk b = true → completes (.bootIdentity true) s (boots w true))
            ∧ (w.bankOk b = false → completes (.bootIdentity true) s (fails w)))

/-- R301, R398, R410, R412: Restore. It checks the areas and records, shows the saved times where the generation area is valid,
restores the time bases after a loss of VAO, checks the capture ring, and shows the areas. -/
def Rules.BootRestore : Prop :=
  ∀ (s : State) (ok : Bool) (lost older : Nat), s.awake = true → s.phase = 2 → lost < 32768 → older < 32768 →
    let a := (s.checkAreas lost older).dropRecords lost older
    let d := (if a.boot.durableOk = true then a else a.newDurable).countLost lost
    let times := d.genValid && !bitOf lost 13
    let v := d.showSaved (if times = true then d.time.saved else {})
    let r := if v.boot.vaoLost = true then v.restoreTime times else v
    let t := { r with boot := { r.boot with restored := true } }.restoreCapture ok
    completes (.bootRestore { ringOk := ok, lost := lost, older := older }) s
      ((t.setReg .bootRet 0 (Word.ofNat
        (at_ (b2n t.boot.durableOk) 31 + at_ (b2n t.genValid) 30 + t.boot.areaGen.getD 0))).setPhase 3)

/-- R405, R407, R408, R435, R436, R444: Load. An image that does not open, a part that does not belong, and an engine that fails to
start, each fail the bank; else the parts are applied and the sections stand by, refused where one is malformed. -/
def Rules.BootLoad : Prop :=
  ∀ (s : State) (fails : Bool) (engine : Nat), s.awake = true → s.phase = 3 →
    (s.openImage = none → completes (.bootLoad fails engine) s s.bankFailed)
      ∧ ∀ l, s.openImage = some l →
        (∀ x ∈ l, 0 < x.1 → x.1 ≤ 4 → partOk l x.1 x.2.1 x.2.2 = false →
            completes (.bootLoad fails engine) s s.bankFailed)
          ∧ ((∀ x ∈ l, x.1 = 0 ∨ 4 < x.1 ∨ partOk l x.1 x.2.1 x.2.2 = true) →
              let r := { s with boot := { s.boot with engines := [] } }.applyParts (if fails = true then some engine else none) (partOrder l)
              let t := r.1.setPhase 4
              let stands (bad : Nat) : State := { t with boot := { t.boot with sects := l, bad := bad } }
              (r.2 = true → completes (.bootLoad fails engine) s r.1.bankFailed)
                ∧ (r.2 = false → l.any (sectionBad l) = false →
                    completes (.bootLoad fails engine) s (stands t.boot.bad))
                ∧ (r.2 = false → l.any (sectionBad l) = true →
                    completes (.bootLoad fails engine) s
                      ((stands (if t.boot.bad = 0 then 2 else t.boot.bad)).refuseBoot 2)))

/-- R405, R439, R444: an image opens where the vault has the image key and the bytes of every section, decrypted under the counter
blocks of IMAGE_GEN and the section's index, match its DIGEST; the sections stand in table order. Each byte is decrypted by the
block counter's one of its 16. -/
def Rules.ImageOpens : Prop :=
  ∀ s : State,
    let h := s.imageHeader s.bank
    let entries := sectionsOf h
    let clear (key : List Byte) (i : Nat) (x : Sect) : List Byte :=
      (List.range x.len).map fun n =>
        let counter := beBytes 2 (le h 6 2) ++ beBytes 2 i ++ List.replicate 8 0 ++ beBytes 4 (n / 16)
        s.flashByte (s.bankBase s.bank + x.off + n) ^^^ (Config.aes256 key counter).getD (n % 16) 0
    (s.upd.vault.imageKey = none → s.openImage = none)
      ∧ ∀ key, s.upd.vault.imageKey = some key →
        ((∀ i x, entries[i]? = some x → beBytes 48 (Config.sha384 (clear key i x)) = x.digest) →
            ∃ l, s.openImage = some l ∧ l.length = entries.length
              ∧ ∀ (i : Nat) (x : Sect), entries[i]? = some x → l[i]? = some (x.type, x.arg, clear key i x))
          ∧ (∀ i x, entries[i]? = some x → beBytes 48 (Config.sha384 (clear key i x)) ≠ x.digest → s.openImage = none)

/-- R404, R405, R439: a bank passes its check where its header is in order and its signature over the bytes before KEY_ID verifies
under a public key of the vault whose KEY_ID the header names and an unrevoked ROOT_ID holds; a header that names no such key, or
whose signature does not verify, fails. -/
def Rules.SignaturesVerify : Prop :=
  ∀ (s : State) (b : Nat),
    let h := s.imageHeader b
    let id := sliceZ h 3712 16
    let accepted : Prop := ∃ n, n < 4 ∧ s.upd.rootIds[n]? = some (some id) ∧ s.rb .bootSecStat 0 n = false
    let verifies (pub : List Byte) : Prop :=
      be h 3776 48 = Config.verifiesP384 pub (Config.sha384 (h.take 3712)) (be h 3728 48) % 2 ^ 384
    (headerOk h s.bootRecord.bankSize = false → s.bankOk b = false)
      ∧ (¬ accepted → s.bankOk b = false)
      ∧ (s.upd.vault.pubs.find? (keyId · = id) = none → s.bankOk b = false)
      ∧ ∀ pub, s.upd.vault.pubs.find? (keyId · = id) = some pub →
        (¬ verifies pub → s.bankOk b = false)
          ∧ (accepted → verifies pub → headerOk h s.bootRecord.bankSize = true → s.bankOk b = true)

/-- R408: a bank that fails in Load. Where the other bank may be tried the boot goes back to PHASE 1 for it; else there is no
image. -/
def Rules.BankFails : Prop :=
  ∀ s : State,
    let f := s.failBank s.bank
    let t := { f with boot := { f.boot with trial := false } }.setRf .bootStat 0 23 23 0
    (f.otherBanks s.bank = [] → s.bankFailed = t.noImage)
      ∧ ∀ o l, f.otherBanks s.bank = o :: l →
        s.bankFailed = (({ t with boot := { t.boot with retry := some o } }.setRf .bootStat 0 22 22 1).setPhase 1)

/-- R436: parts are applied by ORDER, then by TYPE, each of the image's parts once; where every engine starts, all of them run. -/
def Rules.PartsApplied : Prop :=
  ∀ (s : State) (l : List (Nat × Nat × List Byte)),
    (partOrder l).Pairwise (fun x y => partBefore x y = true)
      ∧ (partOrder l).Perm (l.filter fun x => decide (1 ≤ x.1 ∧ x.1 ≤ 4))
      ∧ (s.applyParts none l).2 = false
      ∧ (s.applyParts none l).1.boot.engines = s.boot.engines ++ l.map (·.1)

/-- R410, R411: the check of MRAM at Restore. Where nothing is lost nothing changes but what an older slot of the store header
says; a learned-address block, the durable area or the generation area that fails its check is discarded, with MRAM_ERR, and the
rest is kept. -/
def Rules.AreasChecked : Prop :=
  ∀ (s : State) (lost older : Nat),
    let valid := if bitOf older 8 = true ∧ bitOf lost 8 = false then s.boot.olderOk else s.boot.durableOk
    (s.checkAreas 0 0 = s) ∧ (lost = 0 → s.checkAreas lost older = { s with boot := { s.boot with durableOk := valid } })
      ∧ (lost ≠ 0 → s.boot.kept.length = 8 →
        let t := s.checkAreas lost older
        (∀ p, p < 8 → t.boot.kept[p]? = if bitOf lost p = true then some [] else s.boot.kept[p]?)
          ∧ t.boot.durableOk = (valid && !bitOf lost 8)
          ∧ t.boot.areaGen = (if bitOf lost 9 = true then none else s.boot.areaGen)
          ∧ t.rb .bootIntStat 0 3 = true ∧ t.tables = s.tables ∧ t.capt = s.capt ∧ t.saf = s.saf ∧ t.time = s.time)

/-- R410, R412: the records of MRAM. One that fails in every slot is discarded alone, as if nothing had been saved; of one whose
newer slot alone fails the older is read; each discarded record counts in MRAM_UE. -/
def Rules.RecordsDiscarded : Prop :=
  ∀ (s : State) (lost older : Nat),
    let t := s.dropRecords lost older
    let reads (k : Nat) : Prop := bitOf lost k = false ∧ bitOf older k = true
    let stands (k : Nat) : Prop := bitOf lost k = false ∧ bitOf older k = false
    t.red = { s.red with count := if bitOf lost 14 = true then 0 else s.red.count }
      ∧ (reads 13 → t.time = { s.time with saved := s.time.older }) ∧ (¬ reads 13 → t.time = s.time)
      ∧ (bitOf lost 12 = true → t.capt = { nvme := s.capt.nvme, nvme2 := s.capt.nvme2 })
      ∧ (reads 12 → t.captRec = s.slots.capt ∧ t.capt.nvme = s.capt.nvme ∧ t.capt.nvme2 = s.capt.nvme2
          ∧ ∀ x ∈ t.capt.ring, x ∈ s.capt.ring ∧ x.2.bsn < s.slots.capt.bsn)
      ∧ (stands 12 → t.capt = s.capt)
      ∧ (bitOf lost 11 = true → t.upd = { s.upd with pkgBytes := 0, bitmap := 0, sources := [], floor := 0 })
      ∧ (regsCanonical s.regs → reads 11 → t.updRec = s.slots.upd) ∧ (stands 11 → t.upd = s.upd)
      ∧ t.boot.retDigest = (if bitOf lost 10 = true then []
          else if bitOf older 10 = true then s.boot.olderCfg.2 else s.boot.retDigest)
      ∧ t.tables = s.tables ∧ t.ports = s.ports ∧ t.saf = s.saf
      ∧ s.countLost 0 = s
      ∧ ∀ k, k < 15 →
        s.countLost (2 ^ k) = { s with free := s.free + 1 }.mramLost (Config.freeValue s.free % 65536)

/-- R410: a command that changes the update state or the capture state writes the slot that held the older contents, so that what it
found is now the older slot; one that changes neither leaves both. (DESIGN CHOICE, log 51.) -/
def Rules.SlotsWritten : Prop :=
  ∀ s t : State, s.phase ≠ 2 →
    let u := s.fin t
    (t.captRec = s.captRec → u.slots.capt = t.slots.capt) ∧ (t.captRec ≠ s.captRec → u.slots.capt = s.captRec)
      ∧ (t.updRec = s.updRec → u.slots.upd = t.slots.upd) ∧ (t.updRec ≠ s.updRec → u.slots.upd = s.updRec)

/-- R241, R242, R406, R408: Apply and Admission. A configuration that is malformed is refused, and one that does not prove is
refused with REFUSE 5, its report kept and RESULT, REASON and FIRST shown; BOOT_SRC 3 runs the holding configuration. -/
def Rules.ApplyAndAdmission : Prop :=
  ∀ s : State, s.awake = true →
    (s.phase = 4 →
        completes .bootApply s
          ((if s.genValid && s.boot.kept.any (!·.isEmpty) then s.orReg .bootRet 0 (2 ^ 28) else s).setRf .bootStat 0 31 28 5))
      ∧ (s.phase = 5 → s.boot.proved = false →
          (s.bootSrc = 3 → completes .bootAdmission s s.enterHolding)
            ∧ (s.bootSrc ≠ 3 → s.boot.bad ≠ 0 → completes .bootAdmission s s.refuseConfig)
            ∧ (s.bootSrc ≠ 3 → s.boot.bad = 0 → (∀ l ∈ s.install.admRun, l.reason = 0) →
                ∃ t, exec .bootAdmission s = .next t ∧ t.boot = { s.boot with proved := true } ∧ t.epochs = s.epochs
                  ∧ t.tables = s.tables ∧ t.ports = s.ports)
            ∧ (s.bootSrc ≠ 3 → s.boot.bad = 0 → (∃ l ∈ s.install.admRun, l.reason ≠ 0) →
                let r := s.install.admFinish
                let u := { s with adm := { s.adm with rpt := r.adm.rpt } }.setReg .schAdmStat 0
                  ((r.reg .schAdmStat 0 &&& 0x0C0F3FFF) ||| (s.reg .schAdmStat 0 &&& 0x30000000))
                completes .bootAdmission s ((u.refuseBoot 5).refuseConfig)))

/-- What the boot commit edge makes of the installed image: the edge of every group that the image changes, locks set, the staged
declarations running, but for a fallback the image retained, and the REVOKE bits blown that it asks for (R242, R406, R440). -/
def bootRuns (t : State) : State :=
  let e := (t.bootEdge t.stagedGroups 6).setLocks
  let d : State := { e with adm := { e.adm with
    run := e.adm.decl
    gated := ((declList e.adm.decl).map (·.idx)).filter fun k => bitW (Store.get 0 e.adm.rpt (k * 8)) 23 } }
  (if e.boot.fallback = true then d else d.admitted).firmwareRevokes

/-- R242, R343, R345, R406, R408: the boot commit edge. The windows do not stand in the way of a ring that goes on. A
configuration that fails a check is refused; one that passes runs, in Running, with its locks set. -/
def Rules.BootCommitEdge : Prop :=
  ∀ s : State, s.awake = true → s.phase = 5 → s.boot.proved = true →
    let t := s.install
    let judged := if t.ringKept = true then { t with capt := { t.capt with wins := List.replicate 4 {} } } else t
    let fails := judged.failing t.stagedGroups true
    (∀ g, fails = some g →
        completes .bootCommit s (((s.refuseCommit .firmware g).refuseBoot 4).refuseConfig))
      ∧ (fails = none →
        completes .bootCommit s { bootRuns t with boot := { (bootRuns t).boot with trial := false } })

/-- The phases of the boot. Cryptography is by opaque functions, with the model's byte orders (log entry 6), the monitor that
fails the self-test of Init is a free value (log entry 7), REVOKE bits are blown at the boot commit edge (log entry 22), the ring
is judged without the windows that stand in it (log entry 46), Load's order is read by log entry 48, which failure is reported,
and that a flash that cannot be read leaves the record of R408, by log entry 49, and which records fail is an operand (log entry 51). -/
def Obligations.BootPhases : Prop :=
  Rules.BootPhasesInOrder ∧ Rules.BootInit ∧ Rules.KeysDerived ∧ Rules.BootIdentity ∧ Rules.BootRestore ∧ Rules.BootLoad
    ∧ Rules.ImageOpens ∧ Rules.SignaturesVerify ∧ Rules.BankFails ∧ Rules.PartsApplied ∧ Rules.AreasChecked ∧ Rules.RecordsDiscarded
    ∧ Rules.SlotsWritten ∧ Rules.ApplyAndAdmission ∧ Rules.BootCommitEdge

/-! ### Flalith, updates and security (chapter 15) -/

/-- A Flalith request: its outer part, and the bytes of its payload (R419, R424). -/
def flalithPart : Instr → Option (FlaHdr × List Byte)
  | .flalithRead h addrs => some (h, nums addrs)
  | .flalithWrite h writes => some (h, nums (writes.flatMap fun w => [w.1, w.2.toNat]))
  | .report h n first => some (h, nums [n, first])
  | .windowRead h w k => some (h, nums [w] ++ beBytes 8 k)
  | .updBegin h pkg bytes => some (h, nums [pkg, bytes])
  | .updPiece h pkg i piece => some (h, nums [pkg, i] ++ List.replicate 8 0 ++ piece.data)
  | .updStatus h first => some (h, nums [first])
  | .updArm h pkg tries => some (h, nums [pkg] ++ beBytes 1 tries)
  | .updReboot h delayMs force => some (h, nums [delayMs] ++ beBytes 1 (b2n force))
  | .updAbort h => some (h, [])
  | .keyRoll h key => some (h, key)
  | _ => none

/-- A request passes R418, R420 and R421 and the limit of R423. -/
def flalithPasses (s : State) (h : FlaHdr) (p : List Byte) : Prop :=
  s.running = true ∧ s.isFlalith h = true ∧ s.flaAuth h p = true ∧ s.flaFresh h = true ∧ s.flaSecond.upd.rate < 20000

/-- The state once a request is accepted: its SEQ recorded, counted, and relayed where it is for others (R421 to R423). -/
def flalithTaken (s : State) (h : FlaHdr) (p : List Byte) : State :=
  let t := (s.flaSecond.flaRecord h).count .fla 0 0
  { t with upd := { t.upd with rate := t.upd.rate + 1 } }.flaRelay h p

/-- A request that passes and is addressed to this node is acted on in state `t`. -/
def heard (s : State) (c : Instr) (h : FlaHdr) (t : State) : Prop :=
  c.wf = true ∧ ∃ p, flalithPart c = some (h, p) ∧ flalithPasses s h p ∧ (h.dst = s.node ∨ h.dst = 0xFFFF)
    ∧ t = flalithTaken s h p

/-- The frame of a reply as it leaves (R420, R424): its payload encrypted under the current slot's key. -/
def replyOut (t : State) (h : FlaHdr) (q status : Nat) (data : List Byte) : Out :=
  let payload := beBytes 8 h.seq ++ beBytes 1 status ++ [0, 0, 0] ++ data
  let r := t.replyFrame h q payload
  .flalith r (flaSeal r ((t.slotKey r.slot).getD []) payload)

/-- A request completes with the state `t`, but for the switch's own SEQ, which its reply uses; the reply is sent (R424). None is
sent from a port that is no management port (R418). -/
def answers (c : Instr) (s t : State) (h : FlaHdr) (status : Nat) (data : List Byte) : Prop :=
  ∃ u, exec c s = .next u ∧ u.pending = s.pending
    ∧ (h.port ∈ t.boot.mgmtPorts →
        u.bare = { t with upd := { t.upd with seq := t.upd.seq + 1 } }.bare ∧ replyOut t h (t.upd.seq + 1) status data ∈ u.out)
    ∧ (h.port ∉ t.boot.mgmtPorts → u.bare = t.bare)

/-- R418, R420 to R423: a frame that is not Flalith's changes nothing; one that fails authentication, repeats a SEQ, or exceeds
20,000 in its second is dropped and counted, whatever it asks for; one that is accepted but addressed to another node is relayed
and nothing more. -/
def Rules.RequestsAccepted : Prop :=
  ∀ (s : State) (c : Instr) (h : FlaHdr) (p : List Byte), flalithPart c = some (h, p) → c.wf = true → s.running = true →
    (s.isFlalith h = false → completes c s s)
      ∧ (s.isFlalith h = true →
          (s.flaAuth h p = false → completes c s (s.count .fla 0 1))
            ∧ (s.flaAuth h p = true → s.flaFresh h = false → completes c s (s.count .fla 0 2))
            ∧ (s.flaAuth h p = true → s.flaFresh h = true → 20000 ≤ s.flaSecond.upd.rate →
                completes c s (s.flaSecond.count .fla 0 3)))
      ∧ (flalithPasses s h p → h.dst ≠ s.node → h.dst ≠ 0xFFFF → completes c s (flalithTaken s h p))

/-- R418 to R420: a frame is Flalith's where it carries the EtherType of BOOT_FLA_CFG and a station entry of TARGET 0 brings it to
firmware; it is authentic where VER is 1, TYPE is one of R424's, LEN is that of its ciphertext and at most 4,112, its slot holds a
key, and its tag is that key's over header and ciphertext, with HOPS taken as 0. The ciphertext is the payload under AES-256 in
counter mode, each block's counter after the nonce. -/
def Rules.RequestsJudged : Prop :=
  ∀ (s : State) (h : FlaHdr) (p : List Byte),
    (s.isFlalith h = true ↔
        h.etype = s.rf .bootFlaCfg 0 31 16
          ∧ ∃ e, (if h.port = 520 then s.cfg.stationIn 0 none h.da else s.cfg.station h.port h.da) = some (e, 0))
      ∧ (s.flaAuth h p = true ↔
          h.ver = 1 ∧ h.type ∈ flaTypes ∧ h.len = p.length ∧ h.len ≤ 4112 ∧ ∃ k, s.slotKey h.slot = some k
            ∧ let nonce := beBytes 2 h.src ++ beBytes 1 h.slot ++ [0] ++ beBytes 8 h.seq
              h.tag = Config.gcmTag k nonce
                (beBytes 1 h.ver ++ beBytes 1 h.type ++ beBytes 1 0 ++ beBytes 1 h.slot ++ beBytes 2 h.dst ++ beBytes 2 h.src
                  ++ beBytes 8 h.seq ++ beBytes 2 h.len ++ List.replicate 6 0)
                ((List.range p.length).map fun n =>
                  (p[n]?).getD 0 ^^^ (Config.aes256 k (nonce ++ beBytes 4 (2 + n / 16))).getD (n % 16) 0))

/-- R421: a SEQ is new where it is above the last one accepted from its source. The switch remembers 4,096 sources, and forgets
the one least recently heard; a source that it has forgotten must be above all those. -/
def Rules.SequencesChecked : Prop :=
  ∀ (s : State) (h : FlaHdr),
    (∀ x, s.upd.sources.find? (·.1 = h.src) = some x → (s.flaFresh h = true ↔ x.2 < h.seq))
      ∧ (s.upd.sources.find? (·.1 = h.src) = none → (s.flaFresh h = true ↔ s.upd.floor < h.seq))
      ∧ (s.flaRecord h).flaFresh h = false
      ∧ (s.upd.sources.length ≤ 4096 → (s.flaRecord h).upd.sources.length ≤ 4096)

/-- R422: a frame to the group address that is not for this node alone, and has hops left, goes out on every other management port
with one hop fewer and otherwise as it is, and counts once; any other is not relayed. -/
def Rules.RequestsRelayed : Prop :=
  ∀ (s : State) (h : FlaHdr) (p : List Byte),
    let ports := s.boot.mgmtPorts.filter (· ≠ h.port)
    (h.da ≠ 0x0300000088B5 ∨ h.hops = 0 ∨ h.dst = s.node → s.flaRelay h p = s)
      ∧ (h.da = 0x0300000088B5 → 1 ≤ h.hops → h.dst ≠ s.node →
          (ports = [] → s.flaRelay h p = s)
            ∧ (ports ≠ [] →
              s.flaRelay h p
                = { s with
                    out := (ports.map fun n =>
                      Out.flalith { h with port := n, hops := h.hops - 1 } (s.flaCipher h p)).reverse ++ s.out }.count
                  .fla 0 4))

/-- R418, R419, R421, R422, R424, R441: a reply goes to the request's source on its port, with its addresses exchanged, TYPE
raised by 0x80, the switch's SEQ, and the tag of the current slot's key. -/
def Rules.RepliesFormed : Prop :=
  ∀ (s : State) (h : FlaHdr) (q : Nat) (p : List Byte),
    let r := s.replyFrame h q p
    let slot := s.rf .bootSecStat 0 26 26
    r.port = h.port ∧ r.da = h.sa ∧ r.sa = h.da ∧ r.vlan = h.vlan ∧ r.etype = s.rf .bootFlaCfg 0 31 16 ∧ r.ver = 1
      ∧ r.type = h.type + 0x80 ∧ r.slot = slot ∧ r.dst = h.src ∧ r.src = s.node ∧ r.seq = q ∧ r.len = p.length
      ∧ ∀ k, s.slotKey slot = some k → r.tag = flaTag r k (flaSeal r k p)

/-- The acceptance of Flalith frames, and the frames that the switch sends. The second of the rate limit, the order of the tests,
the entries for port 520, the port of a reply and its HOPS are read by log entry 20; the cipher is opaque (log entry 6). -/
def Obligations.FlalithAcceptance : Prop :=
  Rules.RequestsAccepted ∧ Rules.RequestsJudged ∧ Rules.SequencesChecked ∧ Rules.RequestsRelayed ∧ Rules.RepliesFormed

/-- R424: READ answers the registers named, WRITE writes them in order as firmware and answers how many were ignored, and more than
512 of either answer BAD_ARG; a report or a window block that does not exist answers BAD_ARG. -/
def Rules.FlalithAccess : Prop :=
  ∀ (s t : State) (h : FlaHdr),
    (∀ addrs, heard s (.flalithRead h addrs) h t →
        (512 < addrs.length → answers (.flalithRead h addrs) s t h 2 [])
          ∧ (addrs.length ≤ 512 →
              answers (.flalithRead h addrs) s t h 0 (addrs.flatMap fun a => beBytes 4 (t.busRead .firmware a).toNat)))
      ∧ (∀ writes, heard s (.flalithWrite h writes) h t →
        (512 < writes.length → answers (.flalithWrite h writes) s t h 2 [])
          ∧ (writes.length ≤ 512 →
              answers (.flalithWrite h writes) s (t.flaWrites writes 0).1 h 0 (beBytes 4 (t.flaWrites writes 0).2)))
      ∧ (∀ n first, heard s (.report h n first) h t →
        (n < 1 ∨ 6 < n → answers (.report h n first) s t h 2 [])
          ∧ ∀ l, t.reportItems n = some l → answers (.report h n first) s t h 0 ((l.drop first).flatten.take 4096))
      ∧ (∀ id k, heard s (.windowRead h id k) h t →
        (t.windowBlock id k = none → answers (.windowRead h id k) s t h 2 [])
          ∧ ∀ b, t.windowBlock id k = some b → answers (.windowRead h id k) s t h 0 b)

/-- R427: BEGIN. A package that fits a bank that may be written begins anew; the same one while it is RECEIVING or COMPLETE goes
on where it stands; where one is ARMED the boot record is disarmed first. -/
def Rules.PackageBegins : Prop :=
  ∀ (s t : State) (h : FlaHdr) (pkg bytes : Nat), heard s (.updBegin h pkg bytes) h t →
    let fits : Prop := 0 < bytes ∧ bytes ≤ t.bootRecord.bankSize
    let same : Prop := (t.updState = 1 ∨ t.updState = 2) ∧ t.pkgId = pkg ∧ t.upd.pkgBytes = bytes
    let begins (u : State) : State :=
      let v := u.clearPieces
      (({ v with upd := { v.upd with pkgBytes := bytes } }.setReg .bootUpdPkg 0 (Word.ofNat pkg)).setRf .bootUpdStat 0 31 30 1)
    (¬ fits → answers (.updBegin h pkg bytes) s t h 2 [])
      ∧ (fits → t.fixedBank = true → answers (.updBegin h pkg bytes) s t h 5 [])
      ∧ (fits → t.fixedBank = false → same → answers (.updBegin h pkg bytes) s t h 0 [])
      ∧ (fits → t.fixedBank = false → ¬ same →
          (t.updState ≠ 3 → answers (.updBegin h pkg bytes) s (begins t) h 0 [])
            ∧ (t.updState = 3 →
              answers (.updBegin h pkg bytes) s (begins (t.writeBootRec { t.bootRecord with try_ := 0 })) h 0 []))

/-- R428: a PIECE is stored once, its sector erased before its first piece, and read back; one that the flash does not hold as it
was sent, or fails to program, is not noted and answers FLASH_ERR; the last one completes the package. -/
def Rules.PieceStored : Prop :=
  ∀ (s t : State) (h : FlaHdr) (pkg i : Nat) (x : Piece), heard s (.updPiece h pkg i x) h t →
    let c := Instr.updPiece h pkg i x
    (t.updState ≠ 1 ∨ t.pkgId ≠ pkg → answers c s t h 1 [])
      ∧ (t.updState = 1 → t.pkgId = pkg → t.pieces ≤ i ∨ x.data.length ≠ 4096 → answers c s t h 2 [])
      ∧ (t.updState = 1 → t.pkgId = pkg → i < t.pieces → x.data.length = 4096 → bitOf t.upd.bitmap i = true → answers c s t h 0 [])
      ∧ (t.updState = 1 → t.pkgId = pkg → i < t.pieces → x.data.length = 4096 → bitOf t.upd.bitmap i = false →
          let base := t.bankBase t.inactiveBank
          let e := t.freshSector base i
          let w := e.flashProgram (base + 4096 * i) x.data
          let have_ := w.rf .bootUpdStat 0 15 0 + 1
          let v := { w with upd := { w.upd with bitmap := w.upd.bitmap ||| 2 ^ i } }.setRf .bootUpdStat 0 15 0 have_
          (x.programOk = false → answers c s (e.failedProgram (base + 4096 * i) x.data) h 4 [])
            ∧ (x.programOk = true → w.flashRead (base + 4096 * i) 4096 ≠ x.data → answers c s w h 4 [])
            ∧ (x.programOk = true → w.flashRead (base + 4096 * i) 4096 = x.data →
                answers c s (if have_ = v.pieces then v.setRf .bootUpdStat 0 31 30 2 else v) h 0 []))

/-- R425, R430, R432: STATUS answers the package's state and the bitmap of its pieces; ARM writes the boot record with its tries;
ABORT forgets the package and disarms. -/
def Rules.PackageArmed : Prop :=
  ∀ (s t : State) (h : FlaHdr),
    (∀ first, heard s (.updStatus h first) h t →
        (first % 8 ≠ 0 → answers (.updStatus h first) s t h 2 [])
          ∧ (first % 8 = 0 →
              answers (.updStatus h first) s t h 0
                (leBytes 1 t.updState ++ [0, 0, 0] ++ beBytes 4 t.pkgId ++ beBytes 4 (t.rf .bootUpdStat 0 15 0)
                  ++ leBytes 4080 (if t.pieces ≤ first then 0 else t.upd.bitmap >>> first))))
      ∧ (∀ pkg tries, heard s (.updArm h pkg tries) h t →
        (t.updState ≠ 2 ∨ t.pkgId ≠ pkg → answers (.updArm h pkg tries) s t h 1 [])
          ∧ (t.updState = 2 → t.pkgId = pkg → tries = 0 ∨ 3 < tries → answers (.updArm h pkg tries) s t h 2 [])
          ∧ (t.updState = 2 → t.pkgId = pkg → 1 ≤ tries → tries ≤ 3 →
              answers (.updArm h pkg tries) s
                ((t.writeBootRec { t.bootRecord with try_ := t.inactiveBank + 1, tries := tries }).setRf .bootUpdStat 0 31 30 3)
                h 0 []))
      ∧ (heard s (.updAbort h) h t →
          answers (.updAbort h) s ((t.disarm.clearPieces).setRf .bootUpdStat 0 31 30 0) h 0 [])

/-- The update requests. Which STATUS answers a request out of turn is the model's choice (log entry 21), and what a flash that
fails leaves is a free value (log entry 7). -/
def Obligations.UpdateRequests : Prop :=
  Rules.PackageBegins ∧ Rules.PieceStored ∧ Rules.PackageArmed

/-- R431, R437, R441: a reboot is refused unless a package is armed, a reset pin is chosen, and the twin allows it; else its delay
starts, and at its end, where the twin still allows it, the reply goes out and the pin falls. A key roll puts a key of 32 bytes into
the other slot and makes it current. -/
def Rules.RebootAndKeyRoll : Prop :=
  ∀ s : State,
    (∀ t h delayMs force, heard s (.updReboot h delayMs force) h t →
        (t.updState ≠ 3 ∨ t.upd.reboot ≠ none → answers (.updReboot h delayMs force) s t h 1 [])
          ∧ (t.updState = 3 → t.upd.reboot = none → t.rb .bootUpdCfg 0 31 = false →
              answers (.updReboot h delayMs force) s t h 2 [])
          ∧ (t.updState = 3 → t.upd.reboot = none → t.rb .bootUpdCfg 0 31 = true → t.mayReboot force = false →
              answers (.updReboot h delayMs force) s t h 3 [])
          ∧ (t.updState = 3 → t.upd.reboot = none → t.rb .bootUpdCfg 0 31 = true → t.mayReboot force = true →
              completes (.updReboot h delayMs force) s
                { t with upd := { t.upd with reboot := some (s.fs + delayMs * 1000000000000, h, force) } }))
      ∧ (s.running = true → s.upd.reboot = none → completes .updRebootDelayEnd s s)
      ∧ (∀ at_ h force, s.running = true → s.upd.reboot = some (at_, h, force) →
          (s.fs < at_ → completes .updRebootDelayEnd s s)
            ∧ (at_ ≤ s.fs →
              let sends : Prop := h.port ∈ s.boot.mgmtPorts
              let low := if s.mayReboot force = true then some (s.fs + 1000000000000, s.rf .bootUpdCfg 0 3 0) else s.upd.rstLow
              let q := s.upd.seq + 1
              let ends (q : Nat) : State := { s with upd := { s.upd with reboot := none, seq := q, rstLow := low } }
              ∃ v, exec .updRebootDelayEnd s = .next v
                ∧ (sends → v.bare = (ends q).bare
                    ∧ replyOut s h q (if s.mayReboot force = true then 0 else 3) [] ∈ v.out)
                ∧ (¬ sends → v.bare = (ends s.upd.seq).bare)
                ∧ (s.mayReboot force = true → Out.pin (gpioName (s.rf .bootUpdCfg 0 3 0)) false ∈ v.out)))
      ∧ (∀ t h key, heard s (.keyRoll h key) h t →
          let slot := 1 - t.rf .bootSecStat 0 26 26
          (key.length ≠ 32 → answers (.keyRoll h key) s t h 2 [])
            ∧ (key.length = 32 →
              answers (.keyRoll h key) s
                ({ t with upd := { t.upd with vault := t.upd.vault.putSlot slot key } }.setRf .bootSecStat 0 26 26 slot) h 0 []))

/-- R438, R441: a key put into a slot is held there wrapped and in clear, and the other slot keeps its own, while the vault has its
wrapping key; without it nothing is put. -/
def Rules.KeySlots : Prop :=
  ∀ (v : Vault) (slot other : Nat) (key : List Byte),
    (v.wrapKey = none → v.putSlot slot key = v)
      ∧ ∀ k, v.wrapKey = some k → slot < v.slotKeys.length → slot < v.wrapSlots.length →
        (v.putSlot slot key).slotKeys[slot]? = some (some key)
          ∧ (v.putSlot slot key).wrapSlots[slot]? = some (some { under := k, key := key })
          ∧ (other ≠ slot → (v.putSlot slot key).slotKeys[other]? = v.slotKeys[other]?
              ∧ (v.putSlot slot key).wrapSlots[other]? = v.wrapSlots[other]?)

/-- Flalith requests beside those of an update package. Layouts of the replies are the model's choice (log entry 19); that a second
REBOOT while one waits answers BAD_STATE is its choice too (log entry 21). -/
def Obligations.FlalithRequests : Prop :=
  Rules.FlalithAccess ∧ Rules.RebootAndKeyRoll ∧ Rules.KeySlots

/-- R442, R443: JTAG and the debug port. A challenge is read, the same until an attempt uses it; an attempt opens debug only with
a signature over the challenge that verifies under the public key that DEBUG_ID names, and an open policy; the debug reset acts
only while debug is open, and samples the balls (R397), but waits for the record of a fault (R471). -/
def Rules.DebugAccess : Prop :=
  ∀ (s : State) (sig : DebugSig), s.powered = true →
    let spent := { s with upd := { s.upd with challenge := none } }
    let shows (u : State) (c : Nat) : Prop :=
      ∃ v, exec .debugChallengeRead s = .next v ∧ v.bare = u.bare
        ∧ Out.jtag (leBytes 8 Config.dieNumber ++ leBytes 32 c) ∈ v.out
    let good (c : Nat) : Prop :=
      ∃ id pub, s.upd.debugId = some id ∧ s.upd.vault.pubs.find? (keyId · = id) = some pub
        ∧ sig.value
          = Config.verifiesP384 pub (Config.sha384 (leBytes 8 Config.dieNumber ++ leBytes 32 c)) sig.nonce
    let driven : Prop := s.phase ≠ 0 ∨ s.halted = true
    (∀ c, driven → s.upd.challenge = some c → shows s c)
      ∧ (s.phase = 0 → s.halted = false → completes .debugChallengeRead s s)
      ∧ (driven → s.upd.challenge = none →
          shows { s with free := s.free + 1, upd := { s.upd with challenge := some (Config.freeValue s.free) } }
            (Config.freeValue s.free))
      ∧ ((∀ c, s.upd.challenge = some c → ¬ good c) ∨ s.debugAllows 2 = false ∨ s.rb .bootSecStat 0 31 = true →
          completes (.debugUnlock sig) s spent)
      ∧ (∀ c, s.upd.challenge = some c → good c → s.debugAllows 2 = true → s.rb .bootSecStat 0 31 = false →
          completes (.debugUnlock sig) s (spent.openDebug 2))
      ∧ (s.rb .bootSecStat 0 31 = false → completes .debugReset s s)
      ∧ (s.rb .bootSecStat 0 31 = true → s.faultDue = false →
          completes .debugReset s
            (({ s with free := s.free + 1 }.resetSwitch false).startBoot (Config.freeValue s.free % 256)))
      ∧ (∀ x, s.rb .bootSecStat 0 31 = true → s.saf.halting = some x → x.written = false →
          completes .debugReset s { s with saf := { s.saf with halting := some { x with held := some .debug } } })

/-- R443: opening debug zeroes every key that the vault holds in clear, and leaves what it holds wrapped. -/
def Rules.DebugZeroesKeys : Prop :=
  ∀ (s : State) (by_ : Nat),
    (s.openDebug by_).upd.vault
        = { s.upd.vault with wrapKey := none, imageKey := none, slotKeys := [none, none], signKey := none }
      ∧ (s.openDebug by_).tables = s.tables ∧ (s.openDebug by_).ports = s.ports ∧ (s.openDebug by_).epochs = s.epochs

/-- R440: provisioning. Keys and fuses are written only while PROV_LOCK is intact, and fuses are only ever blown. -/
def Rules.Provisioning : Prop :=
  ∀ s : State, s.powered = true →
    (∀ i, i.wf = true → s.rb .bootSecStat 0 27 = true → completes (.jtagProvision i) s s)
      ∧ (s.rb .bootSecStat 0 27 = false →
          let v := s.upd.vault
          let w := Config.hkdf v.secret labelWrap
          let vault (x : Vault) : State := { s with upd := { s.upd with vault := x } }
          (∀ slot (k : List Byte), slot < 2 → k.length = 32 →
              completes (.jtagProvision (.transportKey slot k)) s
                (vault { v with wrapSlots := v.wrapSlots.set slot (some { under := w, key := k }) }))
            ∧ (∀ k : List Byte, k.length = 32 →
              completes (.jtagProvision (.imageKey k)) s (vault { v with wrapImage := some { under := w, key := k } }))
            ∧ (∀ k : List Byte, k.length = 97 →
              completes (.jtagProvision (.publicKey k)) s (vault { v with pubs := v.pubs ++ [k] }))
            ∧ (∀ b : List Byte, b.length = 32 →
              completes (.jtagProvision (.secret b)) s
                (vault { v with secret := (List.range 32).map fun i => (v.secret[i]?).getD 0 ||| (b[i]?).getD 0 }))
            ∧ (∀ n (id : List Byte), n < 4 → id.length = 16 →
              completes (.jtagProvision (.rootId n id)) s
                { s with upd := { s.upd with rootIds := s.upd.rootIds.set n (some id) } })
            ∧ (∀ id : List Byte, id.length = 16 →
              completes (.jtagProvision (.debugId id)) s { s with upd := { s.upd with debugId := some id } })
            ∧ (∀ x, x < 4 →
              completes (.jtagProvision (.policy x)) s
                (s.setRf .bootSecStat 0 25 24 (s.rf .bootSecStat 0 25 24 ||| x)))
            ∧ (∀ b, b < 4 →
              completes (.jtagProvision (.revoke b)) s (s.setRf .bootSecStat 0 3 0 (s.rf .bootSecStat 0 3 0 ||| 2 ^ b)))
            ∧ completes (.jtagProvision .provLock) s (s.orReg .bootSecStat 0 (2 ^ 27)))

/-- JTAG, the debug port and provisioning. The challenge is a free value, kept until an attempt uses it, and so are the balls'
levels at a debug reset (log entries 7 and 23); keys are given in clear and act from the next Init on (log entry 22); cryptography
is opaque (log entry 6). -/
def Obligations.DebugAndProvisioning : Prop :=
  Rules.DebugAccess ∧ Rules.DebugZeroesKeys ∧ Rules.Provisioning

/-! ### Power (chapter 16) -/

/-- R451 to R456: the states of a Platform. Each transition is made under its conditions and changes the state and its instant;
without them nothing happens. A wake is counted by its cause, and only where the Platform is neither in Run nor waking. A Platform
reaches Run once the chip-level blocks are active (log entry 54). -/
def Rules.PlatformStates : Prop :=
  ∀ (s : State) (p cause : Nat), p < 8 → cause < 3 → s.running = true →
    let x := s.plat p
    let c := s.cfg
    let goes (w : PwrState) : State := s.setPlat p { x with power := w, pwrSince := s.fs }
    let dozes : Prop := x.power = .run ∧ s.powerPolicy ≠ 0 ∧ s.held p = 0 ∧ s.dozeDue p = true ∧ x.lanesOff = false
    let sleeps : Prop := x.power = .doze ∧ s.held p = 0 ∧ c.b .aoPlatCfg p 31 = true ∧ 5 ≤ c.f .aoPlatCfg p 30 24
      ∧ x.pwrSince + c.f .aoPlatCfg p 23 12 * 1000000000 ≤ s.fs
    (dozes → completes (.dozeEntry p) s (goes .doze)) ∧ (¬ dozes → completes (.dozeEntry p) s s)
      ∧ (sleeps → completes (.sleepEntry p) s (goes .sleep)) ∧ (¬ sleeps → completes (.sleepEntry p) s s)
      ∧ (x.power = .run ∨ x.power = .waking → completes (.platformWake p cause) s s)
      ∧ (x.power ≠ .run → x.power ≠ .waking →
          completes (.platformWake p cause) s
            ((s.setPlat p { x with power := .waking, pwrSince := s.fs, lanesOff := c.lanesOff p }).count .ao p (3 + cause)))
      ∧ (x.power ≠ .waking → completes (.platformRun p) s s)
      ∧ (x.power = .waking → s.retained = false →
          completes (.platformRun p) s (((goes .run).forwardPlat p).catchUpTable p))
      ∧ (x.power ≠ .run ∨ x.lanesOff = false ∨ s.dozeDue p = false → completes (.offReturn p) s s)
      ∧ (x.power = .run → x.lanesOff = true → s.held p &&& 0xFD = 0 → s.dozeDue p = true →
          completes (.offReturn p) s ((goes .off).modPlat p fun x => { x with lanesOff := false }))

/-- R225, R240: under the Scheduled policy a Platform out of Run is woken ahead of an opening, and counted where a Timetable
opens; an opening that finds it out of Run is counted as late, each on that Platform. Under another policy, or in Run, nothing
happens. -/
def Rules.WakeAheadOfOpenings : Prop :=
  ∀ (s : State) (p : Nat), p < 8 → s.running = true →
    (s.powerPolicy ≠ 2 ∨ (s.plat p).power = .run → completes (.wakeAhead p) s s)
      ∧ (s.powerPolicy = 2 → (s.plat p).power ≠ .run →
          let t := if s.openingNow p = true then s.count .sch p 5 else s
          let w := t.wake p 1
          (t.leadWake p = true → (s.plat p).power ≠ .waking →
              completes (.wakeAhead p) s (if t.ttWake p = true then w.count .sch p 4 else w))
            ∧ (t.leadWake p = false ∨ (s.plat p).power = .waking → completes (.wakeAhead p) s t))

/-- R240, R454, R460: a Platform out of Run that is not quiet, that R240 keeps in Run for a stream, or that a HOLD_RUN bit, a
claim or a command on its table holds, starts to return to Run; in Run, on its way there, or without a cause, it stays as it is.
Such causes are met at a core clock (log entry 53). -/
def Rules.LastingCausesWake : Prop :=
  ∀ (s : State) (p : Nat), p < s.plats.length →
    let cause : Prop := s.quiet p = false ∨ s.streamHold p = true ∨ s.rb .aoPwrCtrl 0 p = true ∨ bitOf s.tbl.claimed p = true
      ∨ ∃ c, s.tbl.cmd = some c ∧ c.target = p
    ((s.plat p).power ≠ .run → (s.plat p).power ≠ .waking → cause → ((s.wakeDue p).plat p).power = .waking)
      ∧ ((s.plat p).power = .run ∨ (s.plat p).power = .waking ∨ ¬ cause → s.wakeDue p = s)

/-- R461: time in the power states counts on the slow clock in every state of the switch. A core clock of a powered switch that
does not run counts nothing else of a Platform, and before the boot's commit edge the aggregates (R367). -/
def Rules.PowerTimeCounts : Prop :=
  ∀ s : State, s.pending = [] → s.timeRuns = true → s.powered = true → s.running = false → s.saf.halting = none →
    let t := { s with fs := s.fs + 800000 }.endRst
    let n := (s.fs + 800000) / 1000000000 - s.fs / 1000000000
    step s = .next ((if s.awake = true then t.aggClock else t).countPower n)
      ∧ ∀ u : State, u.countPower n = (List.range 8).foldl
        (fun v p => v.countN .ao p
          (match (v.plat p).power with
            | .run => 0 | .waking => 0 | .doze => 1 | .off => 2 | .sleep => if v.enteringSleep p then 1 else 2) n) u

/-- The states of a Platform, wake-ahead, and the causes that last. The lead of a wake is read by log entry 53. -/
def Obligations.PlatformPower : Prop :=
  Rules.PlatformStates ∧ Rules.WakeAheadOfOpenings ∧ Rules.LastingCausesWake ∧ Rules.PowerTimeCounts

/-- R455: a fall of WAKE_N sets its status bit from power-up on, and wakes the Platforms that AO_WAKE_CFG names where its EN is set;
a low pin falls no further. In reset and in a halt only the level is taken (R485, R497). -/
def Rules.WakeN : Prop :=
  ∀ s : State,
    (s.ao.wakeNLow = true → completes .wakeNFall s s)
      ∧ (s.awake = false → completes .wakeNFall s { s with ao := { s.ao with wakeNLow := true } })
      ∧ (s.awake = true → s.ao.wakeNLow = false →
          let t := { s with ao := { s.ao with wakeNLow := true } }.orReg .aoIntStat 0 1
          completes .wakeNFall s (if s.cfg.b .aoWakeCfg 0 31 then t.wakeMask (s.cfg.f .aoWakeCfg 0 7 0) 2 else t))
      ∧ completes .wakeNRise s { s with ao := { s.ao with wakeNLow := false } }

/-- R457, R264: the chip-level blocks enter retention once their conditions have held for 10 µs, and not before. They return once a
cause has ended those conditions, or their time has begun anew since; on the return the scrubber begins new passes, and each
recovery function catches up, and the GPIO triggers that came meanwhile are served with their instants. -/
def Rules.ChipRetention : Prop :=
  ∀ s : State, s.running = true →
    (s.ao.chipIdle = none ∨ s.chipQuiet = false ∨ s.retained = true → completes .chipRetentionEntry s s)
      ∧ (∀ t, s.ao.chipIdle = some t →
          (s.fs < t + 10000000000 → completes .chipRetentionEntry s s)
            ∧ (t + 10000000000 ≤ s.fs → s.chipQuiet = true → s.retained = false →
              completes .chipRetentionEntry s ({ s with ao := { s.ao with retainedAt := s.fs } }.orReg .aoChipStat 0 (2 ^ 31))))
      ∧ (s.chipCalled = true ↔ s.retained = true ∧ ∀ t, s.ao.chipIdle = some t → s.ao.retainedAt ≤ t)
      ∧ (s.chipCalled = false → completes .chipWake s s)
      ∧ (s.chipCalled = true →
          let t := s.setRf .aoChipStat 0 31 31 0
          let t := { t with saf := { t.saf with tableLine := 0, treeLine := 0 }, ao := { t.ao with chipIdle := none } }
          let t := t.rcvIndices.foldl (fun s fn => s.catchUpRcv fn) t
          (s.ao.triggers = [] → completes .chipWake s t)
            ∧ completes .chipWake s (t.ao.triggers.foldl (fun s at_ => s.trigger 2 at_) { t with ao := { t.ao with triggers := [] } }))

/-- R457: what the chip-level blocks are to serve while they are in retention waits for their return, and changes nothing before it.
That such a command changes nothing then is the model's reading (log entry 54). -/
def Rules.RetentionDefers : Prop :=
  ∀ (s : State) (p t q : Nat) (d : DmaRun) (data : List Word) (bufs : List (List Word)) (bytes : List Byte), p < 8 →
    t < 22 → q < 16 → d.desc.length = 8 → s.retained = true →
    completes .flushDone s s ∧ completes .cmdDone s s ∧ completes (.claimGranted t) s s ∧ completes (.platformRun p) s s
      ∧ (isWriteDesc d.desc = false → completes (.tableDmaRead d) s s)
      ∧ (isWriteDesc d.desc = true → completes (.tableDmaWrite d data) s s)
      ∧ completes (.hostTxFetch q bufs bytes) s s ∧ completes .recordWrite s s
      ∧ completes (.transmissionSelection (528 + q) bufs) s s

/-- The WAKE_N pin, and the retention of the chip-level blocks, whose causes to return are read by log entry 54. -/
def Obligations.WakePinAndRetention : Prop :=
  Rules.WakeN ∧ Rules.ChipRetention ∧ Rules.RetentionDefers

/-- R8, R357: a refresh brings the copies of the always-on registers up to their originals, and no agent's own write is pending
after it. -/
def Rules.AlwaysOnCopies : Prop :=
  ∀ s : State, s.powered = true →
    completes .aocCopyRefresh s s.refreshAoc ∧ s.refreshAoc.ao.wrote = []
      ∧ (Store.wfD coldKey none s.ao.copy = true →
          let shows (id : RegId) (i : Nat) : Prop :=
            Store.get (coldWord id i) s.refreshAoc.ao.copy (regKey id i) = s.fullReg id i &&& Word.ofNat id.aocMask
          shows .aoPwrCtrl 0 ∧ shows .aoWakeCfg 0 ∧ ∀ p, p < 8 → shows .aoPlatCfg p ∧ shows .aoPlatStat p)

/-- The SPI target, the masks of the interrupt vectors, and the copies of the always-on registers. -/
def Obligations.SpiMsixAndCopies : Prop :=
  Rules.SpiTransactions ∧ Rules.UnmaskSendsPending ∧ Rules.AlwaysOnCopies

/-! ### The Signal Box (chapter 17) -/

/-- R470, R471: a fatal fault in a switch that is powered and not halted halts it. Its code is latched beside HALTED, the halt is
counted, no port has a frame in transmission, no line port and no Coupler a link, every 1PPS output is idle, the pins a halt
leaves undriven are released, and tables, tree, settings and time bases stand. The record and the notices are still to come, with
times and time base 0 as of now. -/
def Rules.FatalHalt : Prop :=
  ∀ (s : State) (code : Nat) (detail : List Word), isFatal code = true → s.powered = true →
    completes (.halt code detail) s (s.halt code detail)
      ∧ (s.halted = false → regsCanonical s.regs → Store.wf {} s.ports = true →
          let t := s.halt code detail
          t.reg .safStat 0 = Word.ofNat (2 ^ 31 + code)
            ∧ t.reg .safLifeHalts 0 = s.reg .safLifeHalts 0 + 1
            ∧ (∀ n, (t.port n).tx = none)
            ∧ (∀ n, n < 512 → (t.port n).link = false ∧ (t.port n).rx = none)
            ∧ t.red.cplLink = false
            ∧ (∀ n, n < 4 → (t.pps n).pulse = none)
            ∧ (∀ n, n < 4 → (s.pps n).pulse ≠ none → Out.pin (ppsName n) (s.pps n).low ∈ t.out)
            ∧ (∀ pin, pin ∈ ["GPIO", "MDC", "MDIO", "I2C", "QSPI_IO"] → Out.release pin ∈ t.out)
            ∧ t.upd.rstLow = none
            ∧ t.saf.halting = some {
                code := code, detail := detail.take (namedWords code), injected := false, at_ := s.fs, mono := s.mono
                tb0 := s.tbNow 0, notify := s.paired && s.red.cplLink }
            ∧ t.saf.log = s.saf.log ∧ t.tables = s.tables ∧ t.tree = s.tree ∧ t.epochs = s.epochs
            ∧ t.time.tbs = s.time.tbs)

/-- R53, R470: what a halt sends for a frame that was in transmission on a port: a beginning of it, how long a one being free, with
an inverted FCS, or CRC-32 on the Coupler. -/
def Rules.HaltCutsFrames : Prop :=
  ∀ (s : State) (e : Nat) (t : TxFrame), Store.wf {} s.ports = true → (s.port e).tx = some t → s.fs ≤ t.cross →
    ∃ k, k ≤ t.bytes.length ∧ ((s.cutTx e).port e).tx = none
      ∧ (s.cutTx e).out = .wire e (endInverted e (t.bytes.take k)) true :: s.out

/-- R470: what a halt does to a line port: no link, no speed, no LPI, and no frame on the way in. -/
def Rules.HaltIdlesLanes : Prop :=
  ∀ s : State,
    s.idleLanes.red = { s.red with cplLink := false, cplLock := 0, cplAligned := 0 }
      ∧ (Store.wf {} s.ports = true → ∀ n, n < 512 →
          s.idleLanes.port n = { s.port n with link := false, speed := 0, txLpi := false, rxLpi := false, rx := none })
      ∧ (Store.wf {} s.ports = true → ∀ n, 512 ≤ n → s.idleLanes.port n = s.port n)

/-- R473, R474, R478: a fault during a halt. One of the halt's own core clock takes its place where its code is lower; a later one,
and one that is not fatal, counts in SECONDARY, up to 15, also in a record that is already written. Once the halt is complete a
fault changes nothing. -/
def Rules.FurtherFaults : Prop :=
  ∀ (s : State) (code : Nat) (detail : List Word), isFatal code = true → s.halted = true →
    (s.saf.halting = none → s.halt code detail = s ∧ (s.powered = true → completes (.halt code detail) s s))
      ∧ ∀ h, s.saf.halting = some h →
        let n := min 15 (h.secondary + 1)
        let counted (log : Store (List Byte)) : State :=
          { s with saf := { s.saf with halting := some { h with secondary := n }, log := log } }
        let more := counted (if h.written = true then
          Store.set [] s.saf.log h.unit (withSecondary (Store.get [] s.saf.log h.unit) n) else s.saf.log)
        (h.at_ / 800000 ≠ s.fs / 800000 → s.halt code detail = more)
          ∧ (h.at_ / 800000 = s.fs / 800000 → h.code ≤ code → s.halt code detail = s)
          ∧ (h.at_ / 800000 = s.fs / 800000 → code < h.code →
              s.halt code detail
                = { s.setRf .safStat 0 15 0 code with saf := { s.saf with
                    halting := some { h with code := code, detail := detail.take (namedWords code), injected := false } } })
          ∧ ∀ c words inj, s.logNonFatal c words inj = more

/-- R282, R286, R470, R471, R478: the steps of a halt. The notices go out at the first core clock after detection, the record is
written 1.8 µs after it and the halt complete with 2 µs, when reset requests that came meanwhile are judged; a reset that came
before the record follows it. A loss of supplies from 500 ns on finds the record begun, and completes it. -/
def Rules.HaltSteps : Prop :=
  ∀ (s : State) (h : Halting), s.saf.halting = some h →
    let now (x : Halting) : State := { s with saf := { s.saf with halting := some x } }
    let silent : Halting := { h with notify := false }
    let notice := cplPlain 1 (beBytes 2 s.nodeNo ++ beBytes 2 h.code ++ List.replicate 12 0)
    let complete := { s.orReg .safStat 0 (2 ^ 30) with saf := { s.saf with halting := none } }
    (h.notify = false → s.sendNotices h = s)
      ∧ (h.notify = true → s.sendNotices h = { now silent with out := List.replicate 4 (.coupler notice) ++ s.out })
      ∧ (h.written = false → s.fs < h.at_ + 1800000000 → s.haltStep = s.sendNotices h)
      ∧ (h.written = false → h.at_ + 1800000000 ≤ s.fs → s.fs < h.at_ + 2000000000 → h.held = none →
          s.haltStep = (s.sendNotices h).writeFault silent)
      ∧ (h.written = true → s.fs < h.at_ + 2000000000 → h.held = none → s.haltStep = s)
      ∧ (h.written = true → h.at_ + 2000000000 ≤ s.fs → h.held = none →
          s.haltStep = h.asked.foldl (fun t frame => t.resetRequest frame) complete)
      ∧ (h.written = true → h.held = some .pin → s.haltStep = s.holdReset)
      ∧ (h.written = true → h.held = some .debug → s.haltStep = s.debugReset)
      ∧ (h.written = true ∨ s.fs < h.at_ + 500000000 → s.finishRecord = s)
      ∧ (h.written = false → h.at_ + 500000000 ≤ s.fs → s.finishRecord = s.writeFault h)

/-- R472, R473: the record of a halt: it stands in the next unit of the fatal ring, with FLAGS, SECONDARY and the times of its
detection; the ring's index and SEQ go on. -/
def Rules.HaltRecord : Prop :=
  ∀ (s : State) (h : Halting), regsCanonical s.regs → Store.wf [] s.saf.log = true →
    let u := s.rf .safLogIdx 0 31 24
    let t := s.writeFault h
    let head := leBytes 4 s.saf.seq ++ leBytes 2 h.code
      ++ leBytes 2 (b2n true + at_ (b2n h.injected) 1 + at_ (b2n (!s.committed)) 2 + at_ h.secondary 4)
      ++ leBytes 2 s.nodeNo ++ leBytes 2 (s.rf .bootImage 0 31 16) ++ leBytes 8 h.mono ++ leBytes 8 h.tb0
    let body := head ++ ((h.detail ++ List.replicate 8 0).take 8).flatMap fun w : Word => leBytes 4 w.toNat
    2 ≤ u → u ≤ 33 →
      Store.get [] t.saf.log u = body ++ leBytes 4 (crc32 body)
        ∧ t.rf .safLogIdx 0 31 24 = (if u = 33 then 2 else u + 1) ∧ t.saf.seq = (s.saf.seq + 1) % 2 ^ 32
        ∧ t.saf.halting = some { h with written := true, unit := u } ∧ t.ports = s.ports ∧ t.tables = s.tables
        ∧ ∀ n, n < 16 →
          let again := head.take 6 ++ leBytes 2 (b2n true + at_ (b2n h.injected) 1 + at_ (b2n (!s.committed)) 2 + at_ n 4)
            ++ body.drop 8
          body.length = 60 → h.secondary < 16 →
            withSecondary (Store.get [] t.saf.log u) n = again ++ leBytes 4 (crc32 again)

/-- The fail-silent halt. How many bytes of a cut frame have left is a free value (log entry 7); the instants of its steps and the
order of faults within one core clock are read by log entry 57. -/
def Obligations.FailSilentHalt : Prop :=
  Rules.FatalHalt ∧ Rules.HaltCutsFrames ∧ Rules.HaltIdlesLanes ∧ Rules.FurtherFaults ∧ Rules.HaltSteps ∧ Rules.HaltRecord

/-- R467: SAF_WDOG starts the watchdog again for firmware, and is counted with CAUSE 11 from any other agent; when the watchdog
expires the switch halts with code 0x0040, and not before. -/
def Rules.Watchdog : Prop :=
  ∀ (s : State) (src : Src),
    (s.takes .firmware → completes (.safWdog .firmware) s { s with saf := { s.saf with wdogAt := s.fs } })
      ∧ (s.takes src → src ≠ .firmware → completes (.safWdog src) s (s.illegal .saf 0x1C src 11))
      ∧ (s.halted = true → completes .watchdogExpiry s s)
      ∧ (s.awake = true → 1 ≤ s.phase →
          (s.fs ≤ s.saf.wdogAt + s.rf .safCfg 0 7 0 * 1000000000000 → completes .watchdogExpiry s s)
            ∧ (s.saf.wdogAt + s.rf .safCfg 0 7 0 * 1000000000000 < s.fs →
                completes .watchdogExpiry s (s.halt 0x0040 [Word.ofNat (s.rf .safCfg 0 7 0)])))

/-- R464, R466, R479: a scrub read goes on to the next line of each memory, with a pass counted at the table memory's last; a
single-bit error is corrected and counted where ECC_EN is set, and any other halts the switch with code 0x0010, the address within
the line and the syndrome being free; an injected error is found in the table memory. Disabled or in retention it reads nothing.
-/
def Rules.Scrubber : Prop :=
  ∀ (s : State) (a b : Bool), s.awake = true → 1 ≤ s.phase →
    let e (double : Bool) : Option MemErr := some ⟨.line, double⟩
    let f := s.saf
    let next (inj single : Bool) : State :=
      let t := { s with saf := { f with
        injDouble := inj, injSingle := single, tableLine := if f.tableLine + 1 = 1048576 then 0 else f.tableLine + 1
        treeLine := if f.treeLine + 1 = 393216 then 0 else f.treeLine + 1 } }
      if f.tableLine + 1 = 1048576 then t.count .saf 0 3 else t
    let fixed (t : State) : State := (t.count .saf 0 0).orReg .safIntStat 0 1
    let dies (t : State) (region line : Nat) (injected : Bool) : State :=
      { t with free := t.free + 2 }.haltWith 0x0010
        [Word.ofNat region, Word.ofNat (line * 64 + Config.freeValue t.free % 64), Word.ofNat (Config.freeValue (t.free + 1)), 1]
        injected
    (s.rb .safCfg 0 30 = false ∨ s.rb .aoChipStat 0 31 = true →
        completes (.scrubRead none none) s s ∧ completes (.scrubRead (e a) (e b)) s s)
      ∧ (s.rb .safCfg 0 30 = true → s.rb .aoChipStat 0 31 = false →
          (f.injDouble = false → f.injSingle = false →
              completes (.scrubRead none none) s (next false false)
                ∧ (s.rb .safCfg 0 31 = true →
                  completes (.scrubRead (e false) none) s (fixed (next false false))
                    ∧ completes (.scrubRead none (e false)) s (fixed (next false false)))
                ∧ (a = true ∨ s.rb .safCfg 0 31 = false →
                  completes (.scrubRead (e a) none) s (dies (next false false) 0 f.tableLine false)
                    ∧ completes (.scrubRead none (e a)) s (dies (next false false) 1 f.treeLine false)))
            ∧ (f.injDouble = false → f.injSingle = true → s.rb .safCfg 0 31 = true →
              completes (.scrubRead none none) s (fixed (next false false)))
            ∧ (f.injDouble = true →
              completes (.scrubRead none none) s (dies (next false f.injSingle) 0 f.tableLine true)))

/-- R464, R466, R469: an error that is not in the line read, with the scrubber off so that nothing else happens. A single-bit
error of an SRAM with ECC_EN is corrected and counted; else a table or tree word halts the switch with 0x0010, a register with
0x0012, a core's memory with 0x0011; a cell goes bad, a frame's metadata and a queue's entry lose what they hold, and a unit of MRAM
its record. -/
def Rules.MemoryErrors : Prop :=
  ∀ (s : State) (double : Bool) (p x y : Nat) (q : PlatQueue) (c : CellPlace), s.awake = true → 1 ≤ s.phase →
    s.rb .safCfg 0 30 = false → p < 8 → x < 64 * 1048576 → c.wf = true →
    let at0 (m : MemPlace) (t : State) : Prop := completes (.scrubRead (some ⟨m, double⟩) none) s t
    let fixed := (s.count .saf 0 0).orReg .safIntStat 0 1
    let free1 := { s with free := s.free + 1 }
    let v := Word.ofNat (Config.freeValue s.free)
    (double = false → s.rb .safCfg 0 31 = true →
        at0 (.word x) fixed ∧ at0 (.core y x) fixed ∧ at0 (.cell c y) fixed ∧ at0 (.queue p q x) fixed)
      ∧ (double = true ∨ s.rb .safCfg 0 31 = false →
          at0 (.word x) (free1.halt 0x0010 [0, Word.ofNat x, v, 0])
            ∧ completes (.scrubRead none (some ⟨.word x, double⟩)) s (free1.halt 0x0010 [1, Word.ofNat x, v, 0])
            ∧ at0 (.core y x) (s.halt 0x0011 [Word.ofNat y, Word.ofNat x])
            ∧ at0 (.cell c y) (s.spoilCell c y)
            ∧ at0 (.queue p q x) (s.loseEntry p q x))
      ∧ (isBlock y = true → at0 (.register y x) (s.halt 0x0012 [Word.ofNat y, Word.ofNat x]))
      ∧ at0 (.metadata p) { s with saf := { s.saf with badParity := s.saf.badParity ||| 2 ^ p } }
      ∧ (double = false → s.rb .safCfg 0 31 = true → at0 (.mram x) s)
      ∧ (double = true ∨ s.rb .safCfg 0 31 = false →
          at0 (.mram x)
            (({ s with saf := { s.saf with log := Store.set [] s.saf.log x [] } }.count .saf 0 5).logNonFatal 0x0023
              [Word.ofNat x] false))

/-- R464, R465, R479: an injected error of a Platform's cells, and an entry of one of its queues that is lost. Where no frame in
transmission has a cell still to be read, the next cell read meets the error; where one port's has, the error meets that frame or
a later read, which of the two being free. A frame whose entry is lost is dropped, counted and logged. -/
def Rules.CellsAndEntriesLost : Prop :=
  ∀ (s : State) (p i : Nat), p < 8 →
    let waits (t : State) : State := { t with saf := { t.saf with injCell := t.saf.injCell ||| 2 ^ p } }
    let free1 := { s with free := s.free + 1 }
    let drops (t : State) (f : Frame) : State :=
      let u := (t.discard f).drain
      ({ u with free := u.free + 1 }.count .saf 0 2).logNonFatal 0x0022
        [Word.ofNat f.plat, Word.ofNat (Config.freeValue u.free)] false
    (s.reading p = [] → s.meetCell p = waits s)
      ∧ (∀ e, s.reading p = [e] →
          s.meetCell p = waits free1 ∨ s.meetCell p = (free1.cutReading e).crcFailed p e true)
      ∧ (∀ f, (s.plat p).intake[i]? = some f →
          s.loseEntry p .intake i = drops (s.setPlat p { s.plat p with intake := (s.plat p).intake.eraseIdx i }) f)
      ∧ (∀ f, (s.plat p).prio[i]? = some f →
          s.loseEntry p .prio i = drops (s.setPlat p { s.plat p with prio := (s.plat p).prio.eraseIdx i }) f)
      ∧ (∀ f, (s.plat p).norm[i]? = some f →
          s.loseEntry p .norm i = drops (s.setPlat p { s.plat p with norm := (s.plat p).norm.eraseIdx i }) f)
      ∧ ((s.plat p).learnQ[i]? = none → s.loseEntry p .learn i = s)

/-- R465: a cell that goes bad. In a copy source, every frame of that number on the Platform carries the error, and so does each
copy of it that is still to be written; copies that are written do not. In the buffer, the one copy does. In a frame in
transmission a cell still to be read ends the frame before it, and one already read changes nothing. -/
def Rules.BadCells : Prop :=
  ∀ (s : State) (e c i k p no : Nat), Store.wf {} s.ports = true →
    (p < s.plats.length →
        let t := s.spoilCell (.source p no) k
        (∀ f ∈ (t.plat p).intake ++ (t.plat p).prio ++ (t.plat p).norm, f.no = no → k < f.cells → k ∈ f.badCells)
          ∧ (∀ f ∈ (s.plat p).intake, f.no ≠ no → f ∈ (t.plat p).intake)
          ∧ (∀ n d x, x ∈ ((t.port n).queue d).copies → x.frame.no = no → x.written = false → k < x.frame.cells →
              k ∈ x.frame.badCells)
          ∧ ∀ n d x, x ∈ ((s.port n).queue d).copies → x.written = true → x ∈ ((t.port n).queue d).copies)
      ∧ (∀ x, e < 544 → c < (s.port e).queues.length → (((s.port e).queue c).copies)[i]? = some x → x.written = true →
          (((s.spoilCell (.queued e c i) k).port e).queue c).copies[i]? = some { x with frame := x.frame.spoil k })
      ∧ (∀ t x, (s.port e).tx = some t → t.copy = some x → t.bad = false →
          (s.firstUnsent e t x ≤ k → k < x.cells →
              s.spoilCell (.leaving e) k
                = (s.modPort e fun y => { y with tx := some (t.cutAt e k) }).crcFailed (egressPlat e) e false)
            ∧ (k < s.firstUnsent e t x ∨ x.cells ≤ k → s.spoilCell (.leaving e) k = s))

/-- R468, R478, R497: the clock monitors and the self-test. A monitor that fails in two windows running halts the switch with code
0x0002, and other readings only bring the monitors' counts up to date; a failed self-test halts it with 0x0060. In reset, to the end
of Init, only REFCLK_AO is watched, without which time stands still and no reset completes. -/
def Rules.ClockMonitors : Prop :=
  ∀ s : State,
    (s.awake = true → 1 ≤ s.phase → s.boot.vao = true → ∀ readings : List Nat,
        let bad := (List.range 4).map fun m =>
          if clockBad m ((readings[m]?).getD 0) then (s.saf.clkBad[m]?).getD 0 + 1 else 0
        let t := { s with saf := { s.saf with clkBad := bad } }
        let t := if (readings[3]?).getD 0 = 0 then t else { t with boot := { t.boot with refOff := false } }
        ((∀ m, m < 4 → (bad[m]?).getD 0 < 2) → completes (.clockMonitorWindow readings) s t)
          ∧ (∀ m, m < 4 → 2 ≤ (bad[m]?).getD 0 → (∀ k, k < m → (bad[k]?).getD 0 < 2) →
              completes (.clockMonitorWindow readings) s
                (t.halt 0x0002 [Word.ofNat m, Word.ofNat ((readings[m]?).getD 0)])))
      ∧ (s.powered = false ∨ s.phase = 0 → s.boot.vao = true → ∀ readings : List Nat,
          ((readings[3]?).getD 0 = 0 →
              completes (.clockMonitorWindow readings) s { s with boot := { s.boot with refOff := true, vaoLost := true } })
            ∧ ((readings[3]?).getD 0 ≠ 0 →
              let t := { s with boot := { s.boot with refOff := false } }
              (s.boot.waiting = none → completes (.clockMonitorWindow readings) s t)
                ∧ ∀ straps, s.boot.waiting = some straps →
                  completes (.clockMonitorWindow readings) s
                    ({ t with boot := { t.boot with pwrgood := true, inReset := false, waiting := none } }.startBoot straps)))
      ∧ (s.timeRuns = true ↔ s.boot.vao = true ∧ s.boot.refOff = false)
      ∧ (s.awake = true → 1 ≤ s.phase →
          completes (.safetySelftest none) s s ∧ ∀ m, completes (.safetySelftest (some m)) s (s.halt 0x0060 [Word.ofNat m, 0]))

/-- R468, R486, R488: the sensors, from power-up on and in a halted switch too. A junction at TEMP_HALT halts the switch with
0x0050, a rail that has been out of its limits for 1 µs with 0x0051; readings in their limits only bring the temperature and the
rails' times up to date. -/
def Rules.Sensors : Prop :=
  ∀ (s : State) (temps rails : List Int) (i : Nat) (v : Int), s.powered = true → hottest temps 0 = some (i, v) →
    let out (r : Nat) : Prop :=
      (rails[r]?).getD 0 < ((railLimits r).1 : Int) ∨ ((railLimits r).2 : Int) < (rails[r]?).getD 0
    let t := s.setReg .safTemp 0 (Word.ofNat (at_ i 28 + unsigned 10 v))
    let t := if 2 * (t.rf .safCfg 0 23 16 : Int) ≤ v then t.orReg .safIntStat 0 8 else t
    let t := { t with saf := { t.saf with
      lowest := temps.foldl min v
      hourMax := some (match t.saf.hourMax with | some m => max m v | none => v)
      railOut := s.railsOut rails } }
    let tripped (r : Nat) : Prop := ∃ since, s.saf.railOut[r]? = some (some since) ∧ since + 1000000000 ≤ s.fs ∧ out r
    (∀ r, r < 6 →
        (rails.length ≤ r → (s.railsOut rails)[r]? = some ((s.saf.railOut[r]?).getD none))
          ∧ (r < rails.length → ¬ out r → (s.railsOut rails)[r]? = some none)
          ∧ (r < rails.length → out r → (s.railsOut rails)[r]? = some (some (((s.saf.railOut[r]?).getD none).getD s.fs))))
      ∧ (∀ k, k < temps.length → 2 * (t.rf .safCfg 0 15 8 : Int) ≤ (temps[k]?).getD 0 →
          (∀ j, j < k → (temps[j]?).getD 0 < 2 * (t.rf .safCfg 0 15 8 : Int)) →
          completes (.sensorRead temps rails) s
            (t.halt 0x0050 [Word.ofNat k, Word.ofNat (unsigned 32 ((temps[k]?).getD 0))]))
      ∧ ((∀ k, k < temps.length → (temps[k]?).getD 0 < 2 * (t.rf .safCfg 0 15 8 : Int)) →
          ((∀ r, r < 6 → r < rails.length → ¬ tripped r) → completes (.sensorRead temps rails) s t)
            ∧ ∀ r, r < 6 → r < rails.length → tripped r → (∀ j, j < r → ¬ tripped j) →
              completes (.sensorRead temps rails) s
                (t.halt 0x0051 [Word.ofNat r, Word.ofNat (unsigned 32 ((rails[r]?).getD 0))]))

/-- The scrubber, the errors of memories, the monitors, the sensors and the self-test. Which sensor, rail or monitor a fault
names, and when a rail trips, is read by log entry 57, where an error appears by log entries 55, 56; a fault's free details, and
which read meets a corrupt cell, are log entry 7. -/
def Obligations.ScrubberAndMonitors : Prop :=
  Rules.Scrubber ∧ Rules.MemoryErrors ∧ Rules.CellsAndEntriesLost ∧ Rules.BadCells ∧ Rules.ClockMonitors ∧ Rules.Sensors

/-- R476, R477: an operating hour is added to the bin of the highest reading since the last one. -/
def Rules.OperatingHours : Prop :=
  ∀ s : State, s.powered = true →
    let v := s.saf.hourMax.getD (signed 10 (s.rf .safTemp 0 9 0))
    let bin := if v < 140 then 0 else if v < 160 then 1 else if v < 180 then 2 else if v < 200 then 3 else 4
    let t := s.setReg .safLifeHours bin (s.reg .safLifeHours bin + 1)
    completes .lifeHour s ({ t with saf := { t.saf with hourMax := none } }.writeLogHeader)

/-- R478, R479: an injection where INJ_EN is clear is ignored and counted with CAUSE 11; else each kind waits for its place, but for
the lockstep and clock faults, which halt the switch with INJECTED and free details. -/
def Rules.FaultInjection : Prop :=
  ∀ (s : State) (src : Src) (p : Nat), s.takes src → p < 8 →
    let off := s.illegal .saf 0x20 src 11
    let free2 := { s with free := s.free + 2 }
    let v := Config.freeValue s.free
    let w := Config.freeValue (s.free + 1)
    (s.rb .safCfg 0 29 = false →
        completes (.injectSingleBit src p) s off ∧ completes (.injectDoubleBit src p) s off
          ∧ completes (.injectCellCrc src p) s off ∧ completes (.injectLockstep src p) s off
          ∧ completes (.injectClockMonitor src p) s off ∧ completes (.injectPipelineParity src p) s off)
      ∧ (s.rb .safCfg 0 29 = true →
          completes (.injectSingleBit src p) s { s with saf := { s.saf with injSingle := true } }
            ∧ completes (.injectDoubleBit src p) s { s with saf := { s.saf with injDouble := true } }
            ∧ completes (.injectCellCrc src p) s (s.meetCell p)
            ∧ completes (.injectPipelineParity src p) s { s with saf := { s.saf with injParity := s.saf.injParity ||| 2 ^ p } }
            ∧ completes (.injectLockstep src p) s (free2.haltWith 0x0001 [Word.ofNat v, Word.ofNat w] true)
            ∧ completes (.injectClockMonitor src p) s (free2.haltWith 0x0002 [Word.ofNat (v % 4), Word.ofNat w] true))

/-- The watchdog, the operating hours and fault injection. The details of injected faults are free values (log entry 7); where
an injected error appears is read by log entry 56, and a WDOG_MS of 0 by log entry 57. -/
def Obligations.WatchdogAndInjection : Prop :=
  Rules.Watchdog ∧ Rules.OperatingHours ∧ Rules.FaultInjection

/-! ### Reception and passes (chapters 2, 3 and 6) -/

/-- R41, R44, R179, R191: the bytes of a frame at a line MAC. A delimiter begins a frame where none is in progress; the next bytes
belong to the one in progress while its cells so far are full, and a cell is drawn for them; anything else at a MAC changes
nothing, and without a link nothing arrives. -/
def Rules.CellsDrawn : Prop :=
  ∀ (s : State) (e : Nat) (d : List Byte), e < 512 → 0 < d.length → d.length ≤ 256 → s.running = true →
    let takes (x : RxCtx) : State := (s.drawCell e x d).1.setPort e { (s.drawCell e x d).1.port e with rx := some (s.drawCell e x d).2 }
    ((s.port e).link = false → ∀ sfd, completes (.cellDraw e sfd d) s s)
      ∧ ((s.port e).link = true →
          ((s.port e).rx = none →
              completes (.cellDraw e true d) s
                (takes { sfd := s.fs, epoch := s.epoch, early := (s.plat (e / 64)).power ≠ .run,
                         dropped := (s.plat (e / 64)).power ≠ .run })
                ∧ completes (.cellDraw e false d) s s)
            ∧ ∀ x, (s.port e).rx = some x →
              completes (.cellDraw e true d) s s
                ∧ (x.bytes.length % 256 = 0 → completes (.cellDraw e false d) s (takes x))
                ∧ (x.bytes.length % 256 ≠ 0 → completes (.cellDraw e false d) s s))

/-- R42, R44, R453: the last byte of a frame. A frame that began before the Platform ran is counted in LOST_WAKE and nothing more;
one of less than 64 bytes is freed and counted as a runt or a fragment by its FCS; any other is received (R42 to R47). -/
def Rules.FramesReceived : Prop :=
  ∀ (s : State) (e : Nat) (codeErr : Bool) (x : RxCtx), e < 512 → s.running = true → (s.port e).link = true →
    ((s.port e).rx = none → completes (.frameReceive e codeErr) s s)
      ∧ ((s.port e).rx = some x →
          let t := s.setPort e { s.port e with rx := none }
          let n := x.bytes.length
          let fcsOk : Bool := 4 ≤ n ∧ x.bytes.drop (n - 4) = fcsOf (x.bytes.take (n - 4))
          let c := t.countN .plat e 1 n
          (x.early = true →
              completes (.frameReceive e codeErr) s ((t.count .ao (e / 64) 6).orReg .aoIntStat 0 2))
            ∧ (x.early = false → n < 64 →
                completes (.frameReceive e codeErr) s
                  ((c.freeStaging (e / 64) e x.acct x.charge).count .plat e (if fcsOk then 10 else 11)))
            ∧ (x.early = false → 64 ≤ n →
                completes (.frameReceive e codeErr) s (c.receiveFrame e x codeErr fcsOk)))

/-- R42, R45, R47, R100: what is made of a whole frame. Its error mark is that of the first test it fails; a sound frame for a MAC
control address is consumed and counted by its opcode; any other, unless its cells were lost, goes to the intake with its mark,
its station entry and its length, cut at MAX_FRAME, or is dropped and counted where the intake is full. -/
def Rules.FramesJudged : Prop :=
  (∀ (codeErr fcsOk : Bool) (len max : Nat),
      (codeErr = true → rxError codeErr fcsOk len max = (4, 14))
        ∧ (codeErr = false → max < len → fcsOk = true → rxError codeErr fcsOk len max = (2, 12))
        ∧ (codeErr = false → max < len → fcsOk = false → rxError codeErr fcsOk len max = (3, 13))
        ∧ (codeErr = false → len ≤ max → fcsOk = false → rxError codeErr fcsOk len max = (1, 9))
        ∧ (codeErr = false → len ≤ max → fcsOk = true → (rxError codeErr fcsOk len max).1 = 0))
    ∧ (∀ (c : Cfg) (port da e n : Nat), c.station port da = some (e, n) →
        let k (i : Nat) : Nat := port / 64 * 16 + i
        let matching (i : Nat) : Prop := c.b .platStaHi (k i) 31 = true
          ∧ c.f .platStaHi (k i) 15 0 * 2 ^ 32 + (c .platStaLo (k i)).toNat = da
          ∧ (c.b .platStaHi (k i) 30 = false ∨ c.f .platStaHi (k i) 29 24 = port % 64)
        e < 16 ∧ matching e ∧ n = c.f .platStaHi (k e) 20 16 ∧ ∀ i, i < e → ¬ matching i)
    ∧ (∀ (s : State) (f : Frame),
        (64 ≤ (s.plat f.plat).intake.length → s.handOff f = (s.count .cls f.plat 10).freeFrame f)
          ∧ ((s.plat f.plat).intake.length < 64 →
            let b := s.bind f
            let t := (b.1.arriveImage b.2.plat b.2.no b.2.bytes.length).1
            s.handOff f = t.setPlat f.plat { t.plat f.plat with intake := (t.plat f.plat).intake ++ [b.2] }))
    ∧ ∀ (s : State) (port : Nat) (x : RxCtx) (codeErr fcsOk : Bool),
      let len := x.bytes.length
      let max := (s.cfgAt x.epoch).maxFrame port
      let err := rxError codeErr fcsOk len max
      let c := if err.1 = 0 then s else s.count .plat port err.2
      let c := if len ≤ max then c.count .plat port (17 + sizeBin len) else c
      let c := if err.1 = 0 then c.countGood port len (be x.bytes 0 6) else c
      let control : Prop := err.1 = 0 ∧ be x.bytes 12 2 = 0x8808
      let sta := if err.1 = 0 then c.cfg.station port (be x.bytes 0 6) else none
      let d := if sta.isSome then c.count .plat port 16 else c
      (control →
          s.receiveFrame port x codeErr fcsOk = (c.freeStaging (port / 64) port x.acct x.charge).consumeControl port x.bytes)
        ∧ (¬ control → x.dropped = true → s.receiveFrame port x codeErr fcsOk = d)
        ∧ (¬ control → x.dropped = false →
          s.receiveFrame port x codeErr fcsOk
            = d.handOff
              { bytes := x.bytes.take max, len := len, trunc := decide (max < len), err := err.1, port := port
                plat := port / 64, instant := x.sfd, sta := sta, charge := x.charge, acct := x.acct, rxEpoch := x.epoch })

/-- Cells and frames received. That a control frame which the MAC consumes counts only where R47 says, and not in RX_STATION, is the
model's choice (log entry 63). -/
def Obligations.MacReception : Prop :=
  Rules.CellsDrawn ∧ Rules.FramesReceived ∧ Rules.FramesJudged

/-- R48: a received pause takes effect: with pause honoured, all queues stand until its end, or are released by 0 quanta;
per-priority pause acts on the priorities it names and the port honours; a pause that has run out is over, and one that has not
stays. A frame handed to a class that a pause reaches is marked, since it is to return even where the pause ends first (R211). -/
def Rules.ReceivedPause : Prop :=
  ∀ (s : State) (e c : Nat), e < 512 → c < 8 → s.running = true →
    let p := s.port e
    let until_ (q : Nat) : Nat := if q = 0 then 0 else s.fs + q * 512 * bitFs p.speed
    let on := s.cfg.f .platPortCtrl e 23 16
    let hit (reached : Nat → Bool) : List (Option TxFrame) :=
      p.macQ.mapIdx fun k t => if reached k then t.map fun t => { t with hit := true } else t
    (p.rxPause = [] → completes (.pauseReceived e) s s ∧ completes (.pfcReceived e) s s)
      ∧ (∀ q rest, p.rxPause = .pause q :: rest →
          completes (.pfcReceived e) s s
            ∧ (s.cfg.b .platPortCtrl e 29 = true →
                completes (.pauseReceived e) s
                  (s.setPort e { p with
                    rxPause := rest, pauseEnd := List.replicate 8 (until_ q), macQ := hit fun _ => decide (q ≠ 0) }))
            ∧ (s.cfg.b .platPortCtrl e 29 = false →
                completes (.pauseReceived e) s (s.setPort e { p with rxPause := rest })))
      ∧ (∀ en times rest, p.rxPause = .pfc en times :: rest →
          completes (.pauseReceived e) s s
            ∧ completes (.pfcReceived e) s
                (s.setPort e { p with
                  rxPause := rest
                  pauseEnd := (List.range 8).map fun k =>
                    if bitOf en k && bitOf on k then until_ ((times[k]?).getD 0) else (p.pauseEnd[k]?).getD 0
                  macQ := hit fun k => bitOf en k && bitOf on k && decide ((times[k]?).getD 0 ≠ 0) }))
      ∧ (p.paused c = true → (p.pauseEnd[c]?).getD 0 ≤ s.fs →
          completes (.pauseTimerExpiry e c) s (s.setPort e { p with pauseEnd := p.pauseEnd.set c 0 }))
      ∧ (s.fs < (p.pauseEnd[c]?).getD 0 → completes (.pauseTimerExpiry e c) s s)

/-- R13, R98, R464, R479: a Platform in Run takes the oldest frame of its intake for its first pass; with an empty intake and both
Turntable lanes empty, its oldest host frame; otherwise none. A frame whose metadata fails parity on an injected error is dropped. A
Platform out of Run begins no pass. -/
def Rules.FirstPasses : Prop :=
  ∀ (s : State) (p : Nat), p < 8 → s.running = true →
    let x := s.plat p
    let pass (t : State) (f : Frame) : Prop :=
      (t.injParity p = false → completes (.firstPass p) s (t.beginFirst f))
        ∧ (t.injParity p = true → completes (.firstPass p) s ((t.discard f).drain.parityFailed f.plat))
    (x.power ≠ .run → completes (.firstPass p) s s ∧ completes (.turntablePass p) s s)
      ∧ (x.power = .run →
          (∀ f rest, x.intake = f :: rest → pass (s.setPlat p { x with intake := rest, took := true }) f)
            ∧ (x.intake = [] → x.prio ≠ [] ∨ x.norm ≠ [] ∨ x.hostQ = [] → completes (.firstPass p) s s)
            ∧ ∀ f rest, x.intake = [] → x.prio = [] → x.norm = [] → x.hostQ = f :: rest →
              let b := (s.setPlat p { x with hostQ := rest, took := true }).bind { f with instant := s.fs }
              let t := (b.1.arriveImage p b.2.no b.2.bytes.length).1
              pass (match b.2.host with | some h => t.hostFirst h | none => t) b.2)

/-- R94, R98, R99: a Turntable pass takes the oldest frame of the priority lane, else of the normal lane; with both empty nothing
happens, nor while a line arrival waits and BUDGET gives the Turntable no slot. An injected parity error drops the frame (R464). -/
def Rules.TurntablePasses : Prop :=
  ∀ (s : State) (p : Nat), p < 8 → s.running = true → (s.plat p).power = .run →
    let x := s.plat p
    let pass (t : State) (f : Frame) : Prop :=
      (s.injParity p = false → completes (.turntablePass p) s ((t.beginTurn f).runPass f))
        ∧ (s.injParity p = true → completes (.turntablePass p) s ((t.discard f).drain.parityFailed f.plat))
    let turn : Prop := x.intake = [] ∨ s.cfg.f .clsTtCtrl p 20 16 ≠ 0
    (∀ f rest, turn → x.prio = f :: rest → pass (s.setPlat p { x with prio := rest, took := true }) f)
      ∧ (∀ f rest, turn → x.prio = [] → x.norm = f :: rest → pass (s.setPlat p { x with norm := rest, took := true }) f)
      ∧ (¬ turn → completes (.turntablePass p) s s)
      ∧ (x.prio = [] → x.norm = [] → completes (.turntablePass p) s s)

/-- R182, R185, R192: the write side writes the oldest extra copy of a Platform, and nothing where none waits; a frame of the wait
list is admitted once all its copies fit and none of its account waits before it, and with it what it held up at the admission
front (R29); the copy source returns to XON at its threshold. -/
def Rules.CopiesAndWaitList : Prop :=
  ∀ (s : State) (p i : Nat), p < 8 → s.running = true →
    (firstCopy (s.pendingCopies p) = none → completes (.extraCopyWrite p) s s)
      ∧ (∀ x, firstCopy (s.pendingCopies p) = some x → completes (.extraCopyWrite p) s (s.writeExtra x))
      ∧ (s.waitReady p i = false → completes (.waitListAdmit p i) s s)
      ∧ (∀ r, s.waitReady p i = true → (s.plat p).waitList[i]? = some r →
          let t := s.setPlat p { s.plat p with waitList := (s.plat p).waitList.eraseIdx i }
          completes (.waitListAdmit p i) s
            ((t.refuseDown r.frame r.wants).1.admitLossless r.frame (t.refuseDown r.frame r.wants).2).drain)
      ∧ ((s.plat p).copyXoff = true → (s.plat p).copyBytes ≤ s.cfg.f .tmReplCfg 0 9 0 * 1024 →
          completes (.copySourceXon p) s (s.setPlat p { s.plat p with copyXoff := false }))
      ∧ ((s.plat p).copyXoff = false → completes (.copySourceXon p) s s)

/-- R84: of the rules that set a group, listed in the order of their trees, the one of highest priority applies, and among equals
that of the lowest-numbered tree; none applies exactly where none sets it. The trees that are walked are those enabled for the
pass. -/
def Rules.RulesMerge : Prop :=
  (∀ (p : Hit → Bool) (hs : List Hit), hs.Pairwise (fun a b => a.tree < b.tree) →
      (applying p hs = none ↔ ∀ g, g ∈ hs → p g = false)
        ∧ ∀ h, applying p hs = some h →
          h ∈ hs ∧ p h = true ∧ ∀ g, g ∈ hs → p g = true → g.prio < h.prio ∨ (g.prio = h.prio ∧ h.tree ≤ g.tree))
    ∧ ∀ (s : State) (bank pass : Nat) (key : Nat → List Nat) (hs : List Hit), walkAll s bank pass key 16 0 = .ok hs →
      hs.Pairwise (fun a b => a.tree < b.tree)
        ∧ ∀ h, h ∈ hs → h.tree < 16 ∧ bitW (s.reg .clsTreeCfg (bank * 16 + h.tree)) 31 = true
          ∧ bitOf (fld (s.reg .clsTreeCfg (bank * 16 + h.tree)) 27 24) pass = true

/-- R86, R91, R92, R93: the disposition of a pass. DROP beats TURNTABLE, which beats FWD_MODE; a frame with an error mark is never
sent round, a directed frame keeps its port, and an errored frame or one for a station is redirected to the host or not at all. -/
def Rules.Dispositions : Prop :=
  ∀ (f : Frame) (m : Merged),
    (m.disp = none → f.disp m = .none)
      ∧ ∀ h, m.disp = some h →
        (h.drop = true → f.disp m = .drop)
          ∧ (h.drop = false → h.turntable = true → f.err = 0 → f.disp m = .turn h.inner)
          ∧ (h.drop = false → h.turntable = false ∨ f.err ≠ 0 →
              (f.isDirected = true → f.disp m = .none)
                ∧ (f.isDirected = false →
                  (h.fwdMode = 3 → f.disp m = .host h.hostq)
                    ∧ (h.fwdMode ≠ 3 → f.err ≠ 0 ∨ f.sta.isSome = true → f.disp m = .none)
                    ∧ (f.err = 0 → f.sta = none →
                      (h.fwdMode = 1 → f.disp m = .port h.port) ∧ (h.fwdMode = 2 → f.disp m = .group h.mgroup)
                        ∧ (h.fwdMode = 0 → f.disp m = .none))))

/-- A frame dropped within a pass: it counts in its bank no more, the record that its mirror asks for is made with COPIES 0 (R323),
and its cells are free unless that record holds them. -/
def dropped (s : State) (f : Frame) : State :=
  let x := ((s.passEnded f).dropImage f.plat f.no).postCapture f 0
  if x.2 = some true then x.1 else x.1.freeFrame f

/-- R83, R87, R91, R92, R96, R97, R101: what a pass comes to. A walk fault drops the frame, counted and latched; a frame sent
round goes to the end of the lane its class names, one pass on, and is dropped and counted where it has used its passes or the
lane is full. Of a frame with an error mark only disposition, mirror and host copy apply, of one for a station neither colour nor
stream. -/
def Rules.PassesEnd : Prop :=
  (∀ (s : State) (f : Frame) (e : WalkFault),
      let r := s.passParse f
      let c := if f.pass = 0 ∧ r.odd ≠ 0 then s.count .cls f.plat 7 else s
      let c := if f.pass = 0 ∧ r.frag = true then c.count .cls f.plat 8 else c
      classify c (c.frameCfg f) f.bank f.pass (keyWords f.keyMeta r f.bytes) (f.err ≠ 0) f.sta.isSome f.isDirected = .error e →
      s.runPass f = (dropped (c.walkFault f e) f).drain)
    ∧ (∀ (s : State) (cfg : Cfg) (bank pass : Nat) (key : Nat → List Nat) (errored station directed : Bool) (m : Merged),
      classify s cfg bank pass key errored station directed = .ok m →
        (errored = true → m.cls = none ∧ m.carry = none)
          ∧ (errored = true ∨ station = true → m.colour = none ∧ m.stream = none)
          ∧ ∀ h, m.colour = some h → h.colour ≠ 3)
    ∧ ∀ (s : State) (f : Frame) (inner : Bool),
      let p := s.plat f.plat
      let c := s.frameCfg f
      let g := { f with pass := f.pass + 1, wantInner := inner }
      let lost (slot : Nat) : State := (dropped ((s.count .cls f.plat slot).orReg .clsIntStat 0 8) f).drain
      let high := bitOf (c.f .clsTtCtrl f.plat 7 0) (f.cls.getD 0)
      (c.f .clsTtCtrl f.plat 13 12 ≤ f.pass → s.recirculate f inner = lost 3)
        ∧ (f.pass < c.f .clsTtCtrl f.plat 13 12 →
          (high = true → p.prio.length < 16 →
              s.recirculate f inner = s.setPlat f.plat { p with prio := p.prio ++ [g] })
            ∧ (high = true → 16 ≤ p.prio.length → s.recirculate f inner = lost 2)
            ∧ (high = false → p.norm.length < 240 →
              s.recirculate f inner = s.setPlat f.plat { p with norm := p.norm ++ [g] })
            ∧ (high = false → 240 ≤ p.norm.length → s.recirculate f inner = lost 2))

/-- R121, R134, R138: forwarding in stage 4. A frame is bridged to the destination of its address's entry, unless the entry says
DROP_DA or names where the frame came from; an address without an entry is flooded, or dropped where the VLAN says so. A routed
frame goes where its next hop says, and one whose next hop is not valid is a miss. -/
def Rules.Forwarding : Prop :=
  ∀ (s : State) (f : Frame) (r : Parsed),
    let v := s.tab 0x08 f.vid 0
    let da := r.da f.bytes
    let flood := Stage4.to (some (.set (s.tf 0x08 f.vid 3 12 0)))
    let from_ := at_ (s.ingressDest f.port).1 16 + (s.ingressDest f.port).2
    (∀ i, s.macLookup f.plat (fld v 11 0) da = some i →
        let w := s.tab f.plat i 2
        (bitW w 28 = true → s.bridge f r = (s.count .tbl f.plat 11, .drop))
          ∧ (bitW w 28 = false → fld w 17 0 = from_ → s.bridge f r = (s.count .tbl f.plat 10, .drop))
          ∧ (bitW w 28 = false → fld w 17 0 ≠ from_ →
            (fld w 17 16 = 0 → s.bridge f r = (s, .to (some (.port (fld w 15 0)))))
              ∧ (fld w 17 16 = 1 → s.bridge f r = (s, .to (some (.lag (fld w 15 0)))))
              ∧ (fld w 17 16 = 2 → s.bridge f r = (s, .to (some (.mgroup (fld w 15 0)))))))
      ∧ (s.macLookup f.plat (fld v 11 0) da = none →
        (da = 0xFFFFFFFFFFFF → s.bridge f r = (s, flood))
          ∧ (da ≠ 0xFFFFFFFFFFFF → bitW v (if bitOf da 40 then 27 else 28) = true →
            s.bridge f r = (s.count .tbl f.plat 8, .drop))
          ∧ (da ≠ 0xFFFFFFFFFFFF → bitW v (if bitOf da 40 then 27 else 28) = false →
            s.bridge f r = (s.count .tbl f.plat 7, flood)))
      ∧ ∀ vrf nh,
        let w := s.tab 0x10 nh 0
        (bitW w 31 = false → s.nextHop f vrf nh = ((s.lpmMiss f vrf).1, f, (s.lpmMiss f vrf).2))
          ∧ (bitW w 31 = true → bitW w 30 = true → s.nextHop f vrf nh = (s.count .tbl f.plat 16, f, .drop))
          ∧ (bitW w 31 = true → bitW w 30 = false → bitW w 29 = true →
            s.nextHop f vrf nh = (s, f, .to (some (.port (528 + fld w 27 24)))))
          ∧ (bitW w 31 = true → bitW w 30 = false → bitW w 29 = false →
            s.nextHop f vrf nh
              = (s, { f with route := some nh }, .to (some (if bitW w 28 then .lag (fld w 9 0) else .port (fld w 9 0)))))

/-- R97, R101, R135: the LPM lookup. Present lengths are probed from the longest down, six in a pass, with the bits below each
cleared: the first found gives its next hop. With none found and lengths to go the frame continues at the seventh where another
pass is allowed, and is dropped and counted where none is; with none left the default of its family is taken, else the miss is
counted and goes to the host where MISS_TO_HOST is set, and is dropped otherwise. -/
def Rules.LongestPrefix : Prop :=
  (∀ (s : State) (v6 : Bool) (vrf addr start probes : Nat),
      let here := ((List.range start).map fun k => start - k).filter fun l => s.lpmPresent v6 vrf l
      let width := if v6 then 128 else 32
      let cut (l : Nat) : Nat := addr / 2 ^ (width - l) * 2 ^ (width - l)
      let key (l : Nat) : List Nat :=
        if v6 then [vrf * 256 + l, bits (cut l) 127 96, bits (cut l) 95 64, bits (cut l) 63 32, cut l % 2 ^ 32]
        else [vrf * 256 + l, cut l]
      let hop (l : Nat) : Option Nat :=
        if v6 then (s.lookup 0x0E (key l)).map fun i => s.tf 0x0E i 5 16 0 else (s.lookup 0x0D (key l)).map fun i => s.tf 0x0D i 2 16 0
      s.lpmProbe v6 vrf addr start probes
        = match (here.take probes).findSome? hop, here[probes]? with
          | some nh, _ => .found nh
          | none, some l => .cont l
          | none, none => .miss)
    ∧ ∀ (s : State) (f : Frame) (st : LpmState),
      let y := { f with lpm := none }
      let t := s.perf f.plat 5 (perfPort f.port) none (s.lpmProbes st.v6 st.vrf st.addr st.len 6)
      let w := s.tab 0x0F st.vrf 0
      let more : Prop := f.pass < (t.frameCfg y).f .clsTtCtrl f.plat 13 12
      let c := t.count .tbl f.plat 15
      (∀ nh, s.lpmProbe st.v6 st.vrf st.addr st.len 6 = .found nh → s.lpm f st = t.nextHop y st.vrf nh)
        ∧ (∀ l, s.lpmProbe st.v6 st.vrf st.addr st.len 6 = .cont l →
          (more → s.lpm f st = (t, { f with lpm := some { st with len := l } }, .cont))
            ∧ (¬ more → s.lpm f st = ((t.count .cls f.plat 3).orReg .clsIntStat 0 8, y, .limit)))
        ∧ (s.lpmProbe st.v6 st.vrf st.addr st.len 6 = .miss →
          (st.v6 = true → bitW w 30 = true → s.lpm f st = t.nextHop y st.vrf (s.tf 0x0F st.vrf 1 16 0))
            ∧ (st.v6 = false → bitW w 31 = true → s.lpm f st = t.nextHop y st.vrf (fld w 16 0))
            ∧ ((st.v6 = true → bitW w 30 = false) → (st.v6 = false → bitW w 31 = false) →
              (bitW w 29 = true → s.lpm f st = (c, y, .to (some (.port (528 + fld w 27 24)))))
                ∧ (bitW w 29 = false → s.lpm f st = (c, y, .drop))))

/-- R186, R188, R193, R198: admission of one copy. The maximum SDU comes first, then a port that refuses; a scheduled class takes
cells of its reservation, and what does not fit there, or the dynamic limit, pushes out or is refused. The copies of a frame are
decided one by one, each on what those before it left. -/
def Rules.CopiesAdmitted : Prop :=
  ∀ (s : State) (f : Frame) (e rank : Nat) (first : Bool),
    let c := f.cls.getD 0
    let cfg := s.frameCfg f
    let q := (s.port e).queue c
    let reserved : Prop := cfg.kind c = 2 ∧ q.resvUsed + f.cells ≤ cfg.resv e c
    let push : State × Bool := if cfg.b .tmClassCfg c 29 = true then s.pushout f e rank else (s, false)
    (s.sduFails f e = true → s.admitCopy f e rank first = (s.refuseSdu f e, none))
      ∧ (s.sduFails f e = false → s.portRefuses e = true → s.admitCopy f e rank first = (s.refuse f.plat e 4 c, none))
      ∧ (s.sduFails f e = false → s.portRefuses e = false →
        (reserved →
            s.admitCopy f e rank first
              = ((s.setQueue e c { q with resvUsed := q.resvUsed + f.cells }).payCells f first 0, some .reservation))
          ∧ (¬ reserved → s.fits f e (s.shiftOf f) s.sharedFree = true →
            s.admitCopy f e rank first = (s.chargeShared f e first, some .shared))
          ∧ (¬ reserved → s.fits f e (s.shiftOf f) s.sharedFree = false →
            (push.2 = true → s.admitCopy f e rank first = (push.1.chargeShared f e first, some .shared))
              ∧ (push.2 = false → f.colour = 1 → push.1.fits f e 0 push.1.sharedFree = true →
                s.admitCopy f e rank first = (push.1.refuse f.plat e 2 c, none))
              ∧ (push.2 = false → f.colour ≠ 1 ∨ push.1.fits f e 0 push.1.sharedFree = false →
                s.admitCopy f e rank first = (push.1.refuse f.plat e 1 c, none))))
      ∧ ∀ w ws k,
        let d := s.admitCopy f w.port rank (decide (k = 0))
        (d.2 = none → s.admitWants f rank (w :: ws) k = d.1.admitWants f rank ws k)
          ∧ ∀ pool, d.2 = some pool → k = 0 →
            s.admitWants f rank (w :: ws) k = (d.1.link (d.1.copyOf f w rank pool true)).admitWants f rank ws 1

/-- First passes, Turntable passes, what they decide, extra copies and the wait list. Which frame a pass takes, and which slots
BUDGET gives the Turntable, is read by log entries 34 and 12; where an injected error appears by log entry 56. That a walk fault
drops a frame with an error mark too, counted in FAULT_DROP alone, and that the host copies which a dropped frame's earlier passes
asked for are lost with it, are the model's choices (log entry 62). -/
def Obligations.PipelinePasses : Prop :=
  Rules.FirstPasses ∧ Rules.TurntablePasses ∧ Rules.RulesMerge ∧ Rules.Dispositions ∧ Rules.PassesEnd ∧ Rules.Forwarding
    ∧ Rules.LongestPrefix
    ∧ Rules.CopiesAdmitted ∧ Rules.CopiesAndWaitList

/-- R119, R138, R141: the addresses, the TTL and the outer tag of a copy on a line port. A routed copy takes the next hop's
destination address and the router MAC it names, and its TTL or hop limit is one lower; an overwrite puts its destination address
over that. A copy for a port in UNTAG_SET of the frame's VLAN loses its outer tag; any other keeps its TPID and DEI with the VID
set, or has a tag of TPID 0x8100 added; VID and PCP are the overwrite's where there is one. -/
def Rules.AddressAndTagEdits : Prop :=
  ∀ (s : State) (f : Frame) (r : Parsed) (port : Nat) (b : List Byte), 14 ≤ b.length →
    (f.route = none → s.routeEdit f r b = b)
      ∧ (∀ nh, f.route = some nh → (∀ o, r.ip = some o → 14 ≤ o ∧ o + 12 ≤ b.length) →
        let x := s.routeEdit f r b
        let sel := s.tf 0x10 nh 3 1 0
        x.length = b.length ∧ be x 0 6 = s.tf 0x10 nh 1 15 0 * 2 ^ 32 + (s.tab 0x10 nh 2).toNat
          ∧ be x 6 6 = s.cfg.f .tblRouterMacHi sel 15 0 * 2 ^ 32 + (s.cfg .tblRouterMacLo sel).toNat
          ∧ ∀ o, r.ip = some o → be b (o + if r.l3 = 1 then 8 else 7) 1 ≠ 0 →
            be x (o + if r.l3 = 1 then 8 else 7) 1 + 1 = be b (o + if r.l3 = 1 then 8 else 7) 1)
      ∧ (f.overEntry = none → s.overEdit f b = b)
      ∧ (∀ i, f.overEntry = some i →
        be (s.overEdit f b) 0 6 = s.tf 0x11 i 5 15 0 * 2 ^ 32 + (s.tab 0x11 i 4).toNat
          ∧ (s.overEdit f b).drop 6 = b.drop 6)
      ∧ (f.hasVlan = true → ∀ last,
        let vidPcp (pcp : Nat) : Nat × Nat := match f.overEntry, f.route with
          | some i, _ => (s.tf 0x11 i 5 27 16, s.tf 0x11 i 5 30 28)
          | none, some nh => (s.tf 0x10 nh 1 27 16, pcp)
          | none, none => (f.vid, pcp)
        (s.inPortSet (s.tf 0x08 f.vid 2 12 0) port = true →
            (∀ o, (s.tagEdit f port b (some o) last).1 = b.take o ++ b.drop (o + 4))
              ∧ (s.tagEdit f port b none last).1 = b)
          ∧ (s.inPortSet (s.tf 0x08 f.vid 2 12 0) port = false →
            (∀ o, o + 4 ≤ b.length →
              let x := (s.tagEdit f port b (some o) last).1
              let tci := be b (o + 2) 2
              x.take (o + 2) = b.take (o + 2) ∧ x.drop (o + 4) = b.drop (o + 4)
                ∧ be x (o + 2) 2
                  = ((vidPcp (tci / 8192)).2 * 8192 + tci / 4096 % 2 * 4096 + (vidPcp (tci / 8192)).1) % 65536)
              ∧ (let x := (s.tagEdit f port b none last).1
                x.take 12 = b.take 12 ∧ be x 12 2 = 0x8100
                  ∧ be x 14 2 = ((vidPcp f.pcp).2 * 8192 + (vidPcp f.pcp).1) % 65536 ∧ x.drop 16 = b.drop 12)))

/-- R119, R266, R381: the sequence encodings. One is written on a line port whose STRIP is clear, of the kind that the handle's
entry names: an R-TAG or an HSR tag after the last VLAN tag, or a PRP trailer at the end. A copy for the Coupler or a host queue
group is not edited. -/
def Rules.SequenceEncodings : Prop :=
  ∀ (s : State) (f : Frame) (port v : Nat) (b : List Byte), v ≤ b.length →
    let kind := s.encodeKind f port
    let x := s.encodeSeq f port b v
    let n := f.seq.getD 0 % 65536
    let lan := s.cfg.f .redPortCfg port 27 24
    (512 ≤ port → (s.edit f port).bytes = f.body ∧ (s.edit f port).encoded = false ∧ (s.edit f port).removed = false)
      ∧ (port < 512 → ((s.edit f port).encoded = true ↔ s.encodeKind f port ≠ 0)
        ∧ ((s.edit f port).removed = true ↔ f.seqEnc ≠ none))
      ∧ (f.seq = none ∨ f.stream = none ∨ s.cfg.b .redPortCfg port 29 = true → kind = 0)
      ∧ (∀ h, f.seq ≠ none → f.stream = some h → s.cfg.b .redPortCfg port 29 = false → kind = s.tf 0x15 h 0 25 24)
      ∧ (kind = 0 → x = b)
      ∧ (kind = 1 → x.take v = b.take v ∧ be x v 2 = 0xF1C1 ∧ be x (v + 2) 2 = 0 ∧ be x (v + 4) 2 = n ∧ x.drop (v + 6) = b.drop v)
      ∧ (kind = 2 → x.take v = b.take v ∧ be x v 2 = 0x892F ∧ be x (v + 2) 2 / 4096 = lan ∧ be x (v + 4) 2 = n
        ∧ x.drop (v + 6) = b.drop v)
      ∧ (kind = 3 → x.take b.length = b ∧ be x (x.length - 6) 2 = n ∧ be x (x.length - 4) 2 / 4096 = lan
        ∧ be x (x.length - 2) 2 = 0x88FB)

/-- R194, R195: an account below its threshold returns to XON, counted; one that stays in XOFF sends it again after half the pause
time; a pause frame goes out at a frame boundary, ends LPI, and clears what waited to be sent. Otherwise nothing happens. -/
def Rules.PauseSent : Prop :=
  ∀ (s : State) (e a : Nat), e < 512 ∨ e = 520 → a < 8 → s.running = true →
    let p := s.port e
    let x := p.acct a
    let plain := s.pauseFrame e
    let bytes := if e = 520 then cplFrame (beBytes 4 (at_ 3 28 + at_ 520 10) ++ List.replicate 12 0) plain else plain
    (s.xonDue e a = false → completes (.xonSent e a) s s)
      ∧ (s.xonDue e a = true →
          completes (.xonSent e a) s
            ((s.setPort e { p with accts := p.accts.set a { x with xoff := false }, pauseTx := p.pauseTx ++ [(a, false)] }).count
              .tm (portPlat e) 9))
      ∧ (x.xoff = true → p.link = true → x.lastXoff + s.halfPause e ≤ s.fs →
          completes (.xoffRefresh e a) s
            ((s.setPort e { p with
                accts := p.accts.set a { x with xoff := true, lastXoff := s.fs }, pauseTx := p.pauseTx ++ [(a, true)] }).count
              .tm (portPlat e) 8))
      ∧ (x.xoff = false ∨ p.link = false ∨ s.fs < x.lastXoff + s.halfPause e → completes (.xoffRefresh e a) s s)
      ∧ (p.pauseTx = [] ∨ p.tx ≠ none ∨ p.link = false → completes (.pauseFrameTx e) s s)
      ∧ (p.pauseTx ≠ [] → p.tx = none → p.link = true →
          completes (.pauseFrameTx e) s
            (s.setPort e { p with
              pauseTx := [], txLpi := false
              tx := some {
                bytes := bytes, start := s.fs, cross := s.crossFs e s.fs
                pause := if s.cfg.fcMode e = 1 then 1 else 2 } }))

/-- Pause received and sent. That a pause on the Coupler is the payload of a TYPE 3 frame, and that its accounts' XON and XOFF
counters stand on Platform 0, is log entry 38. -/
def Obligations.PauseFrames : Prop :=
  Rules.ReceivedPause ∧ Rules.PauseSent

/-! ### Egress and links (chapters 2, 6 and 7) -/

/-- R202, R206, R207, R208, R384: transmission selection. A port without a link, in a hold, or on a Platform out of Run selects
nothing; else the highest class that may be sent is handed to its transmit queue. A host group without a link selects nothing. -/
def Rules.Selection : Prop :=
  ∀ (s : State) (e : Nat) (bufs : List (List Word)), s.running = true →
    let free (t : State) (c : Nat) (_ : Copy) : Bool := (((t.port e).macQ[c]?).getD none).isNone
    let sel := s.selectFrom e free [7, 6, 5, 4, 3, 2, 1, 0]
    let closed : Prop := (s.port e).link = false ∨ (s.port e).hold ≠ none ∨ (e < 512 ∧ (s.plat (e / 64)).power ≠ .run)
      ∨ ((s.port e).timed = true ∧ s.fs + s.leadD e < (s.port e).wireFree)
    (e < 512 ∨ e = 520 →
        (closed → completes (.transmissionSelection e bufs) s s)
          ∧ (¬ closed → sel.2 = none → completes (.transmissionSelection e bufs) s sel.1)
          ∧ (∀ c x rest, ¬ closed → sel.2 = some c → ((sel.1.port e).queue c).copies = x :: rest →
              completes (.transmissionSelection e bufs) s (sel.1.handCopy e c x)))
      ∧ (528 ≤ e → e ≤ 543 →
        ((s.port e).link = false → completes (.transmissionSelection e bufs) s s)
          ∧ completes (.transmissionSelection e bufs) s (s.hostSelect (e - 528) bufs))

/-- R207: within a class, a queue without copies, a copy that is not written, a place that is not free, a shaper without credit,
and on a timed port a paused class are passed over, in that order of classes, and none of it changes the state. -/
def Rules.SelectionSkips : Prop :=
  ∀ (s : State) (e c : Nat) (cs : List Nat) (ready : State → Nat → Copy → Bool),
    s.selectFrom e ready [] = (s, none)
      ∧ (((s.port e).queue c).copies = [] → s.selectFrom e ready (c :: cs) = s.selectFrom e ready cs)
      ∧ ∀ x rest, ((s.port e).queue c).copies = x :: rest → x.held = false →
        (x.written = false ∨ ready s c x = false ∨ ((s.port e).timed = true ∧ (s.port e).paused c = true)
            ∨ s.shaperAllows e c (s.txLen x.frame e) = false →
          s.selectFrom e ready (c :: cs) = s.selectFrom e ready cs)
        ∧ (x.written = true → ready s c x = true → (s.port e).timed = false → s.shaperAllows e c (s.txLen x.frame e) = true →
          s.selectFrom e ready (c :: cs) = (s, some c))

/-- R51, R53, R273: a frame boundary of a free port with a link starts the highest transmit queue that holds a frame and is not
paused, once enough of its cells are read; pause frames and a health frame go first. A bad cell has a statement of its own. -/
def Rules.FrameStarts : Prop :=
  ∀ (s : State) (e cells : Nat), e < 512 ∨ e = 520 → s.running = true → s.cellsSound e = true →
    let p := s.port e
    let busy : Prop := p.link = false ∨ p.tx ≠ none ∨ p.pauseTx ≠ [] ∨ (e = 520 ∧ s.healthDue = true)
    let size (t : TxFrame) : Nat := match t.copy with | some x => x.cells | none => 0
    (busy → completes (.frameStart e cells) s s)
      ∧ (p.nextStart highFirst = none → completes (.frameStart e cells) s s)
      ∧ ∀ c t, p.nextStart highFirst = some (c, t) → ¬ busy →
        (min p.cur (size t) ≤ cells → completes (.frameStart e cells) s (s.startTx e c s.fs t))
          ∧ (cells < min p.cur (size t) → completes (.frameStart e cells) s s)

/-- R195, R210, R211: a frame with a projected start leaves at exactly that instant; where it cannot, it returns to the head of its
queue and is counted, with its status bit: where a pause has reached its class since it was handed, ended or not, where its cells,
the link or the wire are missing, and where a pause or health frame goes first. Before the instant nothing happens. -/
def Rules.ProjectedStarts : Prop :=
  ∀ (s : State) (e cells : Nat), e < 512 ∨ e = 520 → s.running = true → s.cellsSound e = true →
    let p := s.port e
    let size (t : TxFrame) : Nat := match t.copy with | some x => x.cells | none => 0
    (p.projected highFirst = none → completes (.projectedStart e cells) s s)
      ∧ ∀ c t at0, p.projected highFirst = some (c, t, at0) →
        let no : Prop := p.paused c = true ∨ t.hit = true ∨ cells < min p.cur (size t) ∨ p.link = false ∨ p.tx ≠ none
          ∨ at0 < p.wireEnd ∨ p.pauseTx ≠ [] ∨ (e = 520 ∧ s.healthDue = true)
        (s.fs < at0 → completes (.projectedStart e cells) s s)
          ∧ (at0 ≤ s.fs → no → completes (.projectedStart e cells) s ((s.returnTx e c t).orReg .schIntStat 0 2))
          ∧ (at0 ≤ s.fs → ¬ no → completes (.projectedStart e cells) s (s.startTx e c at0 t))

/-- R465, R479: a start of a frame one of whose cells fails its CRC: the first of those that are bad, and of the one, which is
free, that an error injected on its Platform meets. Where that is one of those read before the start, the frame is dropped whole;
otherwise it has started and ends before that cell with an inverted FCS, or CRC-32 on the Coupler. Either way the error is counted
and logged, and an injected one that is met is used up. That it meets the frame that starts next is the model's reading (log entry
56). -/
def Rules.CellCrcAtStart : Prop :=
  ∀ (s : State) (e cells c : Nat) (t x : TxFrame), e < 512 ∨ e = 520 → s.running = true → s.cellsSound e = false →
    let p := s.port e
    let size (t : TxFrame) : Nat := match t.copy with | some x => x.cells | none => 0
    let bad := match x.copy with | some y => y.frame.badCells | none => []
    Store.wf {} s.ports = true → p.link = true → p.tx = none → p.pauseTx = [] → (e = 520 → s.healthDue = false) →
    p.nextStart highFirst = some (c, t) → min p.cur (size t) ≤ cells → ((s.startTx e c s.fs t).port e).tx = some x →
    let u := s.startTx e c s.fs t
    let ends (n k : Nat) (inj : Bool) : Prop :=
      let failed (w : State) : State := (if inj then w.takeInjCell (egressPlat e) else w).crcFailed (egressPlat e) e inj
      (k < max cells 1 →
          completes (.frameStart e cells) s
            (failed (({ s with free := n }.forwardCredit e c).modPort e fun q =>
              { q with macQ := q.macQ.set c none, idleSince := s.fs })))
        ∧ (max cells 1 ≤ k →
          completes (.frameStart e cells) s
            (failed ({ u with free := n }.modPort e fun q => { q with tx := some (x.cutAt e k) })))
    (s.injCell (egressPlat e) = false →
        (bad = [] → completes (.frameStart e cells) s u)
          ∧ ∀ k, k ∈ bad → (∀ j ∈ bad, k ≤ j) → ends u.free k false)
      ∧ (s.injCell (egressPlat e) = true →
          ∃ k, k < max (size x) 1
            ∧ ((∀ j ∈ bad, k ≤ j) → ends (u.free + 1) k true)
            ∧ ∀ j, j ∈ bad → (∀ i ∈ bad, j ≤ i) → j < k → ends (u.free + 1) j false)

/-- Transmission selection, the edits of a copy for its port, and starts. That an overwrite stands over a routing edit is the
model's choice (log entry 64). -/
def Obligations.SelectionAndStarts : Prop :=
  Rules.Selection ∧ Rules.SelectionSkips ∧ Rules.AddressAndTagEdits ∧ Rules.SequenceEncodings
    ∧ Rules.FrameStarts ∧ Rules.ProjectedStarts ∧ Rules.CellCrcAtStart

/-- R53, R54, R60, R465, R478: an underrun ends the frame after the bytes sent with an inverted FCS, or CRC-32 on the Coupler, and
the start threshold rises by a cell, to 40 at most, noted with the instant at which that end has left. A frame that a cell's CRC
has ended already is not ended again, but the threshold rises, once. A frame of the switch's own runs out of no bytes. -/
def Rules.Underruns : Prop :=
  ∀ (s : State) (e sent : Nat) (t0 t : TxFrame), e < 512 ∨ e = 520 → s.running = true → (s.port e).tx = some t0 →
    let u := s.stampDue e s.fs
    (u.port e).tx = some t →
    let tally (x : State) (slot : Nat) : State := if e < 512 then x.countN .plat e slot 1 else x
    let cut := endInverted e (t.bytes.take sent)
    let leaves (n : Nat) : Nat := t.start + (n + 8) * 8 * u.bit e
    let ended := ((tally (u.endTx e t (leaves cut.length)) 39).postTxts e t true).perf (egressPlat e) 13 (perfPort e) none 1
    let cur := (ended.port e).cur
    let marked := ended.setPort e { ended.port e with cut := some (leaves cut.length, cur, decide (cur < 40)) }
    let raised := if cur < 40 then tally (marked.setPort e { marked.port e with cur := cur + 1 }) 53 else marked
    (t0.copy = none → completes (.txUnderrun e sent) s s)
      ∧ (t0.copy ≠ none → t.bad = false →
          ∃ v, exec (.txUnderrun e sent) s = .next v ∧ Out.wire e cut true ∈ v.out
            ∧ v.bare = (if e < 512 then raised.orReg .platTxstartChg (e / 32) (2 ^ (e % 32)) else raised).bare)
      ∧ (t0.copy ≠ none → t.bad = true → (u.port e).cut ≠ none → completes (.txUnderrun e sent) s u)
      ∧ (t0.copy ≠ none → t.bad = true → (u.port e).cut = none →
          completes (.txUnderrun e sent) s (u.raiseCur e (leaves t.bytes.length)))

/-- R60, R305, R433, R465: a frame completes when its last bit has left, stamped by then: its bytes go out, and the first forwarded
frame is noted. One that a cell's CRC has ended leaves as an errored one and is counted as sent by no counter. -/
def Rules.FramesEnd : Prop :=
  ∀ (s : State) (e : Nat) (t : TxFrame), e < 512 ∨ e = 520 → s.running = true → (s.port e).tx = some t →
    let gone : Prop := t.start + (t.bytes.length + 8) * 8 * s.bit e ≤ s.fs
    let done (n : State) : Prop := ∀ x, ((n.stampTx e).port e).tx = some x →
      let y := (n.stampTx e).endTx e x (x.start + (x.bytes.length + 8) * 8 * (n.stampTx e).bit e)
      ∃ v, exec (.txFrameComplete e) s = .next v ∧ Out.wire e x.bytes x.bad ∈ v.out
        ∧ v.bare = ((if x.bad then y else y.countSent e x).postTxts e x x.bad).bare
    (¬ gone → completes (.txFrameComplete e) s s)
      ∧ (gone → s.boot.first = true ∨ t.copy = none ∨ t.bad = true → done s)
      ∧ (gone → s.boot.first = false → t.copy ≠ none → t.bad = false →
          let n := (s.setReg .bootTFirst 0 (Word.ofNat ((s.fs - s.boot.riseAt) / 1000000000000))).orReg .bootIntStat 0 2
          done { n with boot := { n.boot with first := true } })

/-- R54, R60: a link down that overtakes an underrun whose inverted FCS is still leaving makes the frame an abort, and takes back
the rise of the start threshold, which is then what it would be without the underrun; one that comes later does not. -/
def Rules.UnderrunOvertaken : Prop :=
  ∀ (s : State) (e fin cur : Nat) (raised : Bool), e < 512 → (s.port e).cut = some (fin, cur, raised) →
    let c := s.setPort e { s.port e with cut := none }
    let b := c.setPort e { c.port e with cur := cur }
    let back (x : State) (slot : Nat) : State := x.setCounter .plat e slot (x.counter .plat e slot + 2 ^ 40 - 1)
    (fin ≤ s.fs → s.undoUnderrun e = c)
      ∧ (s.fs < fin → s.undoUnderrun e = (back (if raised then back b 53 else b) 39).countN .plat e 40 1)

/-- R57, R58, R225, R450: low-power idle. A port enters it when it is due, counted; an opening within its lead ends it; a peer's
entry is counted, and its end only noted. Otherwise nothing happens. -/
def Rules.LowPowerIdle : Prop :=
  ∀ (s : State) (e : Nat), e < 512 → s.running = true →
    let p := s.port e
    (s.lpiDue e = false → completes (.lpiEntry e) s s)
      ∧ (s.lpiDue e = true → completes (.lpiEntry e) s ((s.setPort e { p with txLpi := true }).count .plat e 50))
      ∧ (s.openingNear e = false → completes (.lpiLeadWake e) s s)
      ∧ (s.openingNear e = true → completes (.lpiLeadWake e) s (s.setPort e { p with txLpi := false }))
      ∧ (p.link = false → ∀ on, completes (.receiveLpiChange e on) s s)
      ∧ (p.link = true → p.rxLpi = false →
          let c := s.count .plat e 24
          completes (.receiveLpiChange e true) s (c.setPort e { p with rxLpi := true }))
      ∧ (p.link = true → completes (.receiveLpiChange e false) s (s.setPort e { p with rxLpi := false }))

/-- R59, R60, R186, R200, R202: a line port's link. It comes up only where the port is enabled, present and awake, at a speed of its
mode, and its hold ends; it goes down with a hold of HOLD_MS, its frames in transmission and reception lost. A port that is down
already only shows the faults reported with it. -/
def Rules.Links : Prop :=
  ∀ (s : State) (e : Nat), e < 512 → s.running = true →
    let p := s.port e
    (∀ v, v < 16 → p.link = true ∨ s.mayLink e v = false → completes (.linkUp e v) s s)
      ∧ (∀ v, v < 16 → p.link = false → s.mayLink e v = true →
          completes (.linkUp e v) s
            ((s.setPort e { p with
                link := true, localFault := false, remoteFault := false, speed := v, everUp := true, hold := none
                expired := false, idleSince := s.fs }).orReg .platLinkChg (e / 32) (2 ^ (e % 32))))
      ∧ (∀ lf rf, p.link = false → s.cfg.enabled e = false ∨ s.cfg.present e = false → completes (.linkDown e lf rf) s s)
      ∧ (∀ lf rf, p.link = false → s.cfg.enabled e = true → s.cfg.present e = true →
          completes (.linkDown e lf rf) s (s.setPort e { p with localFault := lf, remoteFault := rf }))
      ∧ (∀ lf rf, p.link = true →
          let a := ((s.abortRx e).abortTx e).returnUntimed e
          let q := a.port e
          let d := (a.setPort e { q.markHeld with
              link := false, speed := 0, txLpi := false, rxLpi := false
              hold := some (s.fs + s.cfg.f .tmPortHold e 13 0 * 1000000000000) }).orReg .platLinkChg (e / 32) (2 ^ (e % 32))
          let d := if s.cfg.f .tmPortHold e 13 0 = 0 then d.expireHold e else d
          completes (.linkDown e lf rf) s (d.setPort e { d.port e with localFault := lf, remoteFault := rf }))

/-- R200, R202: the hold of a line port or of the Coupler. It ends at its instant with every queue flushed; before that, frames past
their deadline are dropped. Without a hold nothing happens. -/
def Rules.Holds : Prop :=
  ∀ (s : State) (e : Nat), e < 512 ∨ e = 520 → s.running = true →
    let p := s.port e
    (p.hold = none → completes (.holdExpiry e) s s ∧ ∀ c, c < 8 → completes (.deadlineDrop e c) s s)
      ∧ ∀ t, p.hold = some t →
        (s.fs < t → completes (.holdExpiry e) s s)
          ∧ (t ≤ s.fs →
            let f := s.flushPort e
            let f := f.setPort e { f.port e with hold := none, expired := true, idleSince := s.fs }
            completes (.holdExpiry e) s ((f.orReg .tmIntStat 0 2).forgetPort e))
          ∧ ∀ c, c < 8 →
            completes (.deadlineDrop e c) s (s.dropLate e c ((p.queue c).copies.length))
              ∧ (∀ x rest d, (p.queue c).copies = x :: rest → x.deadline = some d → s.fs ≤ d →
                  completes (.deadlineDrop e c) s s)

/-- Frames that end on the wire, low-power idle, links and holds. The link that takes back an underrun leaves the port's bit of
PLAT_TXSTART_CHG set (log entry 63); the idle time of a port counts from link up, and the faults of a port that is down already
come with LINK_DOWN (log entry 59). -/
def Obligations.WireAndLinks : Prop :=
  Rules.Underruns ∧ Rules.FramesEnd ∧ Rules.UnderrunOvertaken ∧ Rules.LowPowerIdle ∧ Rules.Links ∧ Rules.Holds

/-! ### Commands that complete, by what they leave -/

/-- The canonical forms that the statements below ask for hold right after reset. -/
def Rules.CanonicalAtReset : Prop :=
  regsCanonical State.reset.regs ∧ regsCanonical (State.reset.epochs.headD []) ∧ Store.wf {} State.reset.ports = true

/-- R21, R24: the edge of a pending commit completes, at once in Immediate mode where no edit waits: the commit is over, each
setting of a covered group has its staged value, and each other one the value it had. -/
def Rules.CommitEdgeCompletes : Prop :=
  ∀ s : State, s.running = true → regsCanonical s.regs → regsCanonical (s.epochs.headD []) →
    (s.commit.busy = true → s.commit.target = none → s.editHeld = false → s.edgeDue = true)
      ∧ (s.edgeDue = true →
        ∃ t, exec .commitEdge s = .next t ∧ t.commit = {}
          ∧ ∀ id i g, groupOf id i = some g → t.cfg id i = if g ∈ s.commit.groups then s.reg id i else s.cfg id i)

/-- R206, R207: selection completes on a port that has a link, no hold and a Platform in Run, and follows no Timetable: where no
higher class has a copy, and the head of the queue is written, held by no shaper, and not too long, it leaves its queue for the
MAC transmit queue of its class. -/
def Rules.SelectionCompletes : Prop :=
  ∀ (s : State) (e c : Nat) (bufs : List (List Word)) (x : Copy) (rest : List Copy), e < 512 ∨ e = 520 → c < 8 →
    s.running = true → Store.wf {} s.ports = true → (s.port e).link = true → (s.port e).hold = none →
    (e < 512 → (s.plat (e / 64)).power = .run) → (s.port e).timed = false → (s.port e).macQ.length = 8 →
    (s.port e).macQ[c]? = some none → (∀ k, c < k → k < 8 → ((s.port e).queue k).copies = []) →
    ((s.port e).queue c).copies = x :: rest → x.held = false → x.written = true →
    s.shaperAllows e c (s.txLen x.frame e) = true →
    (e < 512 → (s.edit x.frame e).bytes.length + 4 ≤ s.cfg.maxFrame e) →
    ∃ t y, exec (.transmissionSelection e bufs) s = .next t ∧ ((t.port e).queue c).copies = rest
      ∧ (t.port e).macQ[c]? = some (some y) ∧ y.copy.map (·.frame) = some x.frame ∧ y.projected = none

/-- R51, R53: the start of a frame without a projected start completes at the boundary of a free port with a link: it leaves its
transmit queue, and is in transmission from this instant. -/
def Rules.FrameStartCompletes : Prop :=
  ∀ (s : State) (e c cells : Nat) (f : TxFrame), e < 512 ∨ e = 520 → s.running = true → s.cellsSound e = true →
    (s.port e).link = true → (s.port e).tx = none → (s.port e).pauseTx = [] → (e = 520 → s.healthDue = false) →
    (s.port e).nextStart highFirst = some (c, f) →
    (∀ x, f.copy = some x → min (s.port e).cur x.cells ≤ cells) →
    ∃ t y, exec (.frameStart e cells) s = .next t ∧ (t.port e).tx = some y ∧ y.start = s.fs ∧ y.copy = f.copy
      ∧ ((t.port e).macQ[c]?).getD none = none

/-- R210: the start of a frame with a projected start completes once that instant has come, with the wire free and enough of its
cells read: it is in transmission from exactly its projected instant. -/
def Rules.ProjectedStartCompletes : Prop :=
  ∀ (s : State) (e c cells at0 : Nat) (f : TxFrame), e < 512 ∨ e = 520 → s.running = true →
    s.cellsSound e = true → (s.port e).projected highFirst = some (c, f, at0) → at0 ≤ s.fs →
    (s.port e).paused c = false → f.hit = false → (s.port e).link = true → (s.port e).tx = none → (s.port e).pauseTx = [] →
    (e = 520 → s.healthDue = false) → (s.port e).wireEnd ≤ at0 →
    (∀ x, f.copy = some x → min (s.port e).cur x.cells ≤ cells) →
    ∃ t y, exec (.projectedStart e cells) s = .next t ∧ (t.port e).tx = some y ∧ y.start = at0 ∧ y.copy = f.copy
      ∧ ((t.port e).macQ[c]?).getD none = none

/-- R349: an SPI WRITE of one word to an interrupt enable writes it, as agent 1, and an SPI READ of it returns the marker 0x5A and
its word and changes nothing. -/
def Rules.SpiCompletes : Prop :=
  ∀ (s : State) (b : Blk) (off : Nat) (id : RegId) (i : Nat) (v : Word), b.ok = true → off < 0x10000 → off % 4 = 0 →
    s.regAt b off = some (id, i, false) → id ∈ enables → s.opens .spi b → s.phase ≠ 0 →
    let m := Word.ofNat id.rwMask
    completes (.spiWrite (2 :: (beBytes 4 (regAddr b .normal off) ++ leBytes 4 v.toNat))) s
        (s.setReg id i ((s.reg id i &&& ~~~m) ||| (v &&& m)))
      ∧ ∃ t, exec (.spiRead (3 :: beBytes 4 (regAddr b .normal off)) 1) s = .next t ∧ t.bare = s.bare
        ∧ Out.spi (0x5A :: leBytes 4 (s.reg id i).toNat) ∈ t.out

/-- R352: an unmask completes: the vector is no longer masked and has no pending bit, and the message that pended has left where the
source is active. -/
def Rules.UnmaskCompletes : Prop :=
  ∀ (s : State) (v : Nat), v < 64 → s.awake = true → s.ao.perstLow = false →
    ∃ t, exec (.msixUnmask v) s = .next t ∧ Store.get 1 t.host.msix (v * 4 + 3) = 0 ∧ bitOf t.host.pend v = false
      ∧ t.regs = s.regs
      ∧ (bitOf s.host.pend v = true → s.active v = true → Out.msix v ∈ t.out)

/-- R8: a refresh completes: no agent's write is pending in a copy, the trims shown are those of the time bases, and no table, port,
setting or time base changes. -/
def Rules.RefreshCompletes : Prop :=
  ∀ s : State, s.powered = true → regsCanonical s.regs →
    ∃ t, exec .aocCopyRefresh s = .next t ∧ t.ao.wrote = []
      ∧ (∀ k, k < 8 → t.reg .timeTbTrim k = Word.ofNat (unsigned 32 (s.tbTrim k)))
      ∧ t.tables = s.tables ∧ t.ports = s.ports ∧ t.epochs = s.epochs ∧ t.time = s.time

/-- R470: a fatal fault in a switch that is awake completes as a halt: SAF_STAT shows HALTED and the code, the record being still to
come, no line port and no Coupler has a link, and tables, settings and time stand as they were. -/
def Rules.HaltCompletes : Prop :=
  ∀ (s : State) (code : Nat) (detail : List Word), isFatal code = true → s.awake = true → regsCanonical s.regs →
    Store.wf {} s.ports = true →
    ∃ t, exec (.halt code detail) s = .next t ∧ t.reg .safStat 0 = Word.ofNat (2 ^ 31 + code)
      ∧ t.red.cplLink = false ∧ (∀ n, n < 512 → (t.port n).link = false) ∧ t.tables = s.tables ∧ t.epochs = s.epochs
      ∧ t.time.tbs = s.time.tbs

/-- R364: a counter of clocks that wraps reads 0 with its bit of OVF set, and FREEZE is set where FRZ_OVF is. -/
def Rules.WrapCompletes : Prop :=
  ∀ (s : State) (p n : Nat), p < 8 → n ≤ 8 → s.running = true → regsCanonical s.regs →
    let lo := (perfRegs p n).1
    let hi := (perfRegs p n).2.1
    let i := (perfRegs p n).2.2
    s.perfOn p = true → s.countsClocks p n = true → s.perf48 lo hi i = 2 ^ 48 - 1 → s.perfDrops p n = false →
    ∃ t, exec (.perfCounterWrap p n) s = .next t ∧ t.perf48 lo hi i = 0 ∧ t.rb .platPerfOvf p n = true
      ∧ (s.rb .platPerfCtrl p 29 = true → t.rb .platPerfCtrl p 30 = true)

/-- Commands that complete, stated by what they leave: the commit edge, selection and starts, SPI, the unmask of a vector, the
refresh of the always-on copies, a halt, and the wrap of a performance counter (log entry 58: at which value). -/
def Obligations.CommandsComplete : Prop :=
  Rules.CanonicalAtReset ∧ Rules.CommitEdgeCompletes ∧ Rules.SelectionCompletes ∧ Rules.FrameStartCompletes
    ∧ Rules.ProjectedStartCompletes
    ∧ Rules.SpiCompletes ∧ Rules.UnmaskCompletes ∧ Rules.RefreshCompletes ∧ Rules.HaltCompletes ∧ Rules.WrapCompletes
end

