-- ==== Sys2Proof/Laws/State.lean ====
section
/-! SUPPORT. What each update of the state leaves alone, field by field, so that no proof unfolds a record update. -/

namespace Sys2Proof.Machine

variable (s : State)

/-! ### setReg -/

@[simp] theorem State.setReg_pending (id : RegId) (i : Nat) (w : Word) :
    (s.setReg id i w).pending = s.pending := rfl
@[simp] theorem State.setReg_fs (id : RegId) (i : Nat) (w : Word) :
    (s.setReg id i w).fs = s.fs := rfl
@[simp] theorem State.setReg_out (id : RegId) (i : Nat) (w : Word) :
    (s.setReg id i w).out = s.out := rfl
@[simp] theorem State.setReg_free (id : RegId) (i : Nat) (w : Word) :
    (s.setReg id i w).free = s.free := rfl
@[simp] theorem State.setReg_nextNo (id : RegId) (i : Nat) (w : Word) :
    (s.setReg id i w).nextNo = s.nextNo := rfl
@[simp] theorem State.setReg_epochs (id : RegId) (i : Nat) (w : Word) :
    (s.setReg id i w).epochs = s.epochs := rfl
@[simp] theorem State.setReg_cnt (id : RegId) (i : Nat) (w : Word) :
    (s.setReg id i w).cnt = s.cnt := rfl
@[simp] theorem State.setReg_snap (id : RegId) (i : Nat) (w : Word) :
    (s.setReg id i w).snap = s.snap := rfl
@[simp] theorem State.setReg_ports (id : RegId) (i : Nat) (w : Word) :
    (s.setReg id i w).ports = s.ports := rfl
@[simp] theorem State.setReg_plats (id : RegId) (i : Nat) (w : Word) :
    (s.setReg id i w).plats = s.plats := rfl
@[simp] theorem State.setReg_sharedUsed (id : RegId) (i : Nat) (w : Word) :
    (s.setReg id i w).sharedUsed = s.sharedUsed := rfl
@[simp] theorem State.setReg_fixedUsed (id : RegId) (i : Nat) (w : Word) :
    (s.setReg id i w).fixedUsed = s.fixedUsed := rfl
@[simp] theorem State.setReg_refs (id : RegId) (i : Nat) (w : Word) :
    (s.setReg id i w).refs = s.refs := rfl
@[simp] theorem State.setReg_commit (id : RegId) (i : Nat) (w : Word) :
    (s.setReg id i w).commit = s.commit := rfl
@[simp] theorem State.setReg_cls (id : RegId) (i : Nat) (w : Word) :
    (s.setReg id i w).cls = s.cls := rfl
@[simp] theorem State.setReg_tbl (id : RegId) (i : Nat) (w : Word) :
    (s.setReg id i w).tbl = s.tbl := rfl
@[simp] theorem State.setReg_psf (id : RegId) (i : Nat) (w : Word) :
    (s.setReg id i w).psf = s.psf := rfl
@[simp] theorem State.setReg_sch (id : RegId) (i : Nat) (w : Word) :
    (s.setReg id i w).sch = s.sch := rfl
@[simp] theorem State.setReg_adm (id : RegId) (i : Nat) (w : Word) :
    (s.setReg id i w).adm = s.adm := rfl
@[simp] theorem State.setReg_red (id : RegId) (i : Nat) (w : Word) :
    (s.setReg id i w).red = s.red := rfl
@[simp] theorem State.setReg_time (id : RegId) (i : Nat) (w : Word) :
    (s.setReg id i w).time = s.time := rfl
@[simp] theorem State.setReg_capt (id : RegId) (i : Nat) (w : Word) :
    (s.setReg id i w).capt = s.capt := rfl
@[simp] theorem State.setReg_host (id : RegId) (i : Nat) (w : Word) :
    (s.setReg id i w).host = s.host := rfl
@[simp] theorem State.setReg_boot (id : RegId) (i : Nat) (w : Word) :
    (s.setReg id i w).boot = s.boot := rfl
@[simp] theorem State.setReg_upd (id : RegId) (i : Nat) (w : Word) :
    (s.setReg id i w).upd = s.upd := rfl
@[simp] theorem State.setReg_saf (id : RegId) (i : Nat) (w : Word) :
    (s.setReg id i w).saf = s.saf := rfl
@[simp] theorem State.setReg_ao (id : RegId) (i : Nat) (w : Word) :
    (s.setReg id i w).ao = s.ao := rfl
@[simp] theorem State.setReg_slots (id : RegId) (i : Nat) (w : Word) :
    (s.setReg id i w).slots = s.slots := rfl
@[simp] theorem State.setReg_tables (id : RegId) (i : Nat) (w : Word) :
    (s.setReg id i w).tables = s.tables := rfl
@[simp] theorem State.setReg_tree (id : RegId) (i : Nat) (w : Word) :
    (s.setReg id i w).tree = s.tree := rfl

/-! ### setRf -/

@[simp] theorem State.setRf_pending (id : RegId) (i hi lo v : Nat) :
    (s.setRf id i hi lo v).pending = s.pending := rfl
@[simp] theorem State.setRf_fs (id : RegId) (i hi lo v : Nat) :
    (s.setRf id i hi lo v).fs = s.fs := rfl
@[simp] theorem State.setRf_out (id : RegId) (i hi lo v : Nat) :
    (s.setRf id i hi lo v).out = s.out := rfl
@[simp] theorem State.setRf_free (id : RegId) (i hi lo v : Nat) :
    (s.setRf id i hi lo v).free = s.free := rfl
@[simp] theorem State.setRf_nextNo (id : RegId) (i hi lo v : Nat) :
    (s.setRf id i hi lo v).nextNo = s.nextNo := rfl
@[simp] theorem State.setRf_epochs (id : RegId) (i hi lo v : Nat) :
    (s.setRf id i hi lo v).epochs = s.epochs := rfl
@[simp] theorem State.setRf_cnt (id : RegId) (i hi lo v : Nat) :
    (s.setRf id i hi lo v).cnt = s.cnt := rfl
@[simp] theorem State.setRf_snap (id : RegId) (i hi lo v : Nat) :
    (s.setRf id i hi lo v).snap = s.snap := rfl
@[simp] theorem State.setRf_ports (id : RegId) (i hi lo v : Nat) :
    (s.setRf id i hi lo v).ports = s.ports := rfl
@[simp] theorem State.setRf_plats (id : RegId) (i hi lo v : Nat) :
    (s.setRf id i hi lo v).plats = s.plats := rfl
@[simp] theorem State.setRf_sharedUsed (id : RegId) (i hi lo v : Nat) :
    (s.setRf id i hi lo v).sharedUsed = s.sharedUsed := rfl
@[simp] theorem State.setRf_fixedUsed (id : RegId) (i hi lo v : Nat) :
    (s.setRf id i hi lo v).fixedUsed = s.fixedUsed := rfl
@[simp] theorem State.setRf_refs (id : RegId) (i hi lo v : Nat) :
    (s.setRf id i hi lo v).refs = s.refs := rfl
@[simp] theorem State.setRf_commit (id : RegId) (i hi lo v : Nat) :
    (s.setRf id i hi lo v).commit = s.commit := rfl
@[simp] theorem State.setRf_cls (id : RegId) (i hi lo v : Nat) :
    (s.setRf id i hi lo v).cls = s.cls := rfl
@[simp] theorem State.setRf_tbl (id : RegId) (i hi lo v : Nat) :
    (s.setRf id i hi lo v).tbl = s.tbl := rfl
@[simp] theorem State.setRf_psf (id : RegId) (i hi lo v : Nat) :
    (s.setRf id i hi lo v).psf = s.psf := rfl
@[simp] theorem State.setRf_sch (id : RegId) (i hi lo v : Nat) :
    (s.setRf id i hi lo v).sch = s.sch := rfl
@[simp] theorem State.setRf_adm (id : RegId) (i hi lo v : Nat) :
    (s.setRf id i hi lo v).adm = s.adm := rfl
@[simp] theorem State.setRf_red (id : RegId) (i hi lo v : Nat) :
    (s.setRf id i hi lo v).red = s.red := rfl
@[simp] theorem State.setRf_time (id : RegId) (i hi lo v : Nat) :
    (s.setRf id i hi lo v).time = s.time := rfl
@[simp] theorem State.setRf_capt (id : RegId) (i hi lo v : Nat) :
    (s.setRf id i hi lo v).capt = s.capt := rfl
@[simp] theorem State.setRf_host (id : RegId) (i hi lo v : Nat) :
    (s.setRf id i hi lo v).host = s.host := rfl
@[simp] theorem State.setRf_boot (id : RegId) (i hi lo v : Nat) :
    (s.setRf id i hi lo v).boot = s.boot := rfl
@[simp] theorem State.setRf_upd (id : RegId) (i hi lo v : Nat) :
    (s.setRf id i hi lo v).upd = s.upd := rfl
@[simp] theorem State.setRf_saf (id : RegId) (i hi lo v : Nat) :
    (s.setRf id i hi lo v).saf = s.saf := rfl
@[simp] theorem State.setRf_ao (id : RegId) (i hi lo v : Nat) :
    (s.setRf id i hi lo v).ao = s.ao := rfl
@[simp] theorem State.setRf_slots (id : RegId) (i hi lo v : Nat) :
    (s.setRf id i hi lo v).slots = s.slots := rfl
@[simp] theorem State.setRf_tables (id : RegId) (i hi lo v : Nat) :
    (s.setRf id i hi lo v).tables = s.tables := rfl
@[simp] theorem State.setRf_tree (id : RegId) (i hi lo v : Nat) :
    (s.setRf id i hi lo v).tree = s.tree := rfl

/-! ### orReg -/

@[simp] theorem State.orReg_pending (id : RegId) (i m : Nat) :
    (s.orReg id i m).pending = s.pending := rfl
@[simp] theorem State.orReg_fs (id : RegId) (i m : Nat) :
    (s.orReg id i m).fs = s.fs := rfl
@[simp] theorem State.orReg_out (id : RegId) (i m : Nat) :
    (s.orReg id i m).out = s.out := rfl
@[simp] theorem State.orReg_free (id : RegId) (i m : Nat) :
    (s.orReg id i m).free = s.free := rfl
@[simp] theorem State.orReg_nextNo (id : RegId) (i m : Nat) :
    (s.orReg id i m).nextNo = s.nextNo := rfl
@[simp] theorem State.orReg_epochs (id : RegId) (i m : Nat) :
    (s.orReg id i m).epochs = s.epochs := rfl
@[simp] theorem State.orReg_cnt (id : RegId) (i m : Nat) :
    (s.orReg id i m).cnt = s.cnt := rfl
@[simp] theorem State.orReg_snap (id : RegId) (i m : Nat) :
    (s.orReg id i m).snap = s.snap := rfl
@[simp] theorem State.orReg_ports (id : RegId) (i m : Nat) :
    (s.orReg id i m).ports = s.ports := rfl
@[simp] theorem State.orReg_plats (id : RegId) (i m : Nat) :
    (s.orReg id i m).plats = s.plats := rfl
@[simp] theorem State.orReg_sharedUsed (id : RegId) (i m : Nat) :
    (s.orReg id i m).sharedUsed = s.sharedUsed := rfl
@[simp] theorem State.orReg_fixedUsed (id : RegId) (i m : Nat) :
    (s.orReg id i m).fixedUsed = s.fixedUsed := rfl
@[simp] theorem State.orReg_refs (id : RegId) (i m : Nat) :
    (s.orReg id i m).refs = s.refs := rfl
@[simp] theorem State.orReg_commit (id : RegId) (i m : Nat) :
    (s.orReg id i m).commit = s.commit := rfl
@[simp] theorem State.orReg_cls (id : RegId) (i m : Nat) :
    (s.orReg id i m).cls = s.cls := rfl
@[simp] theorem State.orReg_tbl (id : RegId) (i m : Nat) :
    (s.orReg id i m).tbl = s.tbl := rfl
@[simp] theorem State.orReg_psf (id : RegId) (i m : Nat) :
    (s.orReg id i m).psf = s.psf := rfl
@[simp] theorem State.orReg_sch (id : RegId) (i m : Nat) :
    (s.orReg id i m).sch = s.sch := rfl
@[simp] theorem State.orReg_adm (id : RegId) (i m : Nat) :
    (s.orReg id i m).adm = s.adm := rfl
@[simp] theorem State.orReg_red (id : RegId) (i m : Nat) :
    (s.orReg id i m).red = s.red := rfl
@[simp] theorem State.orReg_time (id : RegId) (i m : Nat) :
    (s.orReg id i m).time = s.time := rfl
@[simp] theorem State.orReg_capt (id : RegId) (i m : Nat) :
    (s.orReg id i m).capt = s.capt := rfl
@[simp] theorem State.orReg_host (id : RegId) (i m : Nat) :
    (s.orReg id i m).host = s.host := rfl
@[simp] theorem State.orReg_boot (id : RegId) (i m : Nat) :
    (s.orReg id i m).boot = s.boot := rfl
@[simp] theorem State.orReg_upd (id : RegId) (i m : Nat) :
    (s.orReg id i m).upd = s.upd := rfl
@[simp] theorem State.orReg_saf (id : RegId) (i m : Nat) :
    (s.orReg id i m).saf = s.saf := rfl
@[simp] theorem State.orReg_ao (id : RegId) (i m : Nat) :
    (s.orReg id i m).ao = s.ao := rfl
@[simp] theorem State.orReg_slots (id : RegId) (i m : Nat) :
    (s.orReg id i m).slots = s.slots := rfl
@[simp] theorem State.orReg_tables (id : RegId) (i m : Nat) :
    (s.orReg id i m).tables = s.tables := rfl
@[simp] theorem State.orReg_tree (id : RegId) (i m : Nat) :
    (s.orReg id i m).tree = s.tree := rfl

/-! ### illegal -/

@[simp] theorem State.illegal_pending (b : Blk) (off : Nat) (src : Src) (cause : Nat) :
    (s.illegal b off src cause).pending = s.pending := rfl
@[simp] theorem State.illegal_fs (b : Blk) (off : Nat) (src : Src) (cause : Nat) :
    (s.illegal b off src cause).fs = s.fs := rfl
@[simp] theorem State.illegal_out (b : Blk) (off : Nat) (src : Src) (cause : Nat) :
    (s.illegal b off src cause).out = s.out := rfl
@[simp] theorem State.illegal_free (b : Blk) (off : Nat) (src : Src) (cause : Nat) :
    (s.illegal b off src cause).free = s.free := rfl
@[simp] theorem State.illegal_nextNo (b : Blk) (off : Nat) (src : Src) (cause : Nat) :
    (s.illegal b off src cause).nextNo = s.nextNo := rfl
@[simp] theorem State.illegal_epochs (b : Blk) (off : Nat) (src : Src) (cause : Nat) :
    (s.illegal b off src cause).epochs = s.epochs := rfl
@[simp] theorem State.illegal_cnt (b : Blk) (off : Nat) (src : Src) (cause : Nat) :
    (s.illegal b off src cause).cnt = s.cnt := rfl
@[simp] theorem State.illegal_snap (b : Blk) (off : Nat) (src : Src) (cause : Nat) :
    (s.illegal b off src cause).snap = s.snap := rfl
@[simp] theorem State.illegal_ports (b : Blk) (off : Nat) (src : Src) (cause : Nat) :
    (s.illegal b off src cause).ports = s.ports := rfl
@[simp] theorem State.illegal_plats (b : Blk) (off : Nat) (src : Src) (cause : Nat) :
    (s.illegal b off src cause).plats = s.plats := rfl
@[simp] theorem State.illegal_sharedUsed (b : Blk) (off : Nat) (src : Src) (cause : Nat) :
    (s.illegal b off src cause).sharedUsed = s.sharedUsed := rfl
@[simp] theorem State.illegal_fixedUsed (b : Blk) (off : Nat) (src : Src) (cause : Nat) :
    (s.illegal b off src cause).fixedUsed = s.fixedUsed := rfl
@[simp] theorem State.illegal_refs (b : Blk) (off : Nat) (src : Src) (cause : Nat) :
    (s.illegal b off src cause).refs = s.refs := rfl
@[simp] theorem State.illegal_commit (b : Blk) (off : Nat) (src : Src) (cause : Nat) :
    (s.illegal b off src cause).commit = s.commit := rfl
@[simp] theorem State.illegal_cls (b : Blk) (off : Nat) (src : Src) (cause : Nat) :
    (s.illegal b off src cause).cls = s.cls := rfl
@[simp] theorem State.illegal_tbl (b : Blk) (off : Nat) (src : Src) (cause : Nat) :
    (s.illegal b off src cause).tbl = s.tbl := rfl
@[simp] theorem State.illegal_psf (b : Blk) (off : Nat) (src : Src) (cause : Nat) :
    (s.illegal b off src cause).psf = s.psf := rfl
@[simp] theorem State.illegal_sch (b : Blk) (off : Nat) (src : Src) (cause : Nat) :
    (s.illegal b off src cause).sch = s.sch := rfl
@[simp] theorem State.illegal_adm (b : Blk) (off : Nat) (src : Src) (cause : Nat) :
    (s.illegal b off src cause).adm = s.adm := rfl
@[simp] theorem State.illegal_red (b : Blk) (off : Nat) (src : Src) (cause : Nat) :
    (s.illegal b off src cause).red = s.red := rfl
@[simp] theorem State.illegal_time (b : Blk) (off : Nat) (src : Src) (cause : Nat) :
    (s.illegal b off src cause).time = s.time := rfl
@[simp] theorem State.illegal_capt (b : Blk) (off : Nat) (src : Src) (cause : Nat) :
    (s.illegal b off src cause).capt = s.capt := rfl
@[simp] theorem State.illegal_host (b : Blk) (off : Nat) (src : Src) (cause : Nat) :
    (s.illegal b off src cause).host = s.host := rfl
@[simp] theorem State.illegal_boot (b : Blk) (off : Nat) (src : Src) (cause : Nat) :
    (s.illegal b off src cause).boot = s.boot := rfl
@[simp] theorem State.illegal_upd (b : Blk) (off : Nat) (src : Src) (cause : Nat) :
    (s.illegal b off src cause).upd = s.upd := rfl
@[simp] theorem State.illegal_saf (b : Blk) (off : Nat) (src : Src) (cause : Nat) :
    (s.illegal b off src cause).saf = s.saf := rfl
@[simp] theorem State.illegal_ao (b : Blk) (off : Nat) (src : Src) (cause : Nat) :
    (s.illegal b off src cause).ao = s.ao := rfl
@[simp] theorem State.illegal_slots (b : Blk) (off : Nat) (src : Src) (cause : Nat) :
    (s.illegal b off src cause).slots = s.slots := rfl
@[simp] theorem State.illegal_tables (b : Blk) (off : Nat) (src : Src) (cause : Nat) :
    (s.illegal b off src cause).tables = s.tables := rfl
@[simp] theorem State.illegal_tree (b : Blk) (off : Nat) (src : Src) (cause : Nat) :
    (s.illegal b off src cause).tree = s.tree := rfl

/-! ### setPort -/

@[simp] theorem State.setPort_pending (n : Nat) (p : PortSt) :
    (s.setPort n p).pending = s.pending := rfl
@[simp] theorem State.setPort_fs (n : Nat) (p : PortSt) :
    (s.setPort n p).fs = s.fs := rfl
@[simp] theorem State.setPort_out (n : Nat) (p : PortSt) :
    (s.setPort n p).out = s.out := rfl
@[simp] theorem State.setPort_free (n : Nat) (p : PortSt) :
    (s.setPort n p).free = s.free := rfl
@[simp] theorem State.setPort_nextNo (n : Nat) (p : PortSt) :
    (s.setPort n p).nextNo = s.nextNo := rfl
@[simp] theorem State.setPort_regs (n : Nat) (p : PortSt) :
    (s.setPort n p).regs = s.regs := rfl
@[simp] theorem State.setPort_epochs (n : Nat) (p : PortSt) :
    (s.setPort n p).epochs = s.epochs := rfl
@[simp] theorem State.setPort_cnt (n : Nat) (p : PortSt) :
    (s.setPort n p).cnt = s.cnt := rfl
@[simp] theorem State.setPort_snap (n : Nat) (p : PortSt) :
    (s.setPort n p).snap = s.snap := rfl
@[simp] theorem State.setPort_plats (n : Nat) (p : PortSt) :
    (s.setPort n p).plats = s.plats := rfl
@[simp] theorem State.setPort_sharedUsed (n : Nat) (p : PortSt) :
    (s.setPort n p).sharedUsed = s.sharedUsed := rfl
@[simp] theorem State.setPort_fixedUsed (n : Nat) (p : PortSt) :
    (s.setPort n p).fixedUsed = s.fixedUsed := rfl
@[simp] theorem State.setPort_refs (n : Nat) (p : PortSt) :
    (s.setPort n p).refs = s.refs := rfl
@[simp] theorem State.setPort_commit (n : Nat) (p : PortSt) :
    (s.setPort n p).commit = s.commit := rfl
@[simp] theorem State.setPort_cls (n : Nat) (p : PortSt) :
    (s.setPort n p).cls = s.cls := rfl
@[simp] theorem State.setPort_tbl (n : Nat) (p : PortSt) :
    (s.setPort n p).tbl = s.tbl := rfl
@[simp] theorem State.setPort_psf (n : Nat) (p : PortSt) :
    (s.setPort n p).psf = s.psf := rfl
@[simp] theorem State.setPort_sch (n : Nat) (p : PortSt) :
    (s.setPort n p).sch = s.sch := rfl
@[simp] theorem State.setPort_adm (n : Nat) (p : PortSt) :
    (s.setPort n p).adm = s.adm := rfl
@[simp] theorem State.setPort_red (n : Nat) (p : PortSt) :
    (s.setPort n p).red = s.red := rfl
@[simp] theorem State.setPort_time (n : Nat) (p : PortSt) :
    (s.setPort n p).time = s.time := rfl
@[simp] theorem State.setPort_capt (n : Nat) (p : PortSt) :
    (s.setPort n p).capt = s.capt := rfl
@[simp] theorem State.setPort_host (n : Nat) (p : PortSt) :
    (s.setPort n p).host = s.host := rfl
@[simp] theorem State.setPort_boot (n : Nat) (p : PortSt) :
    (s.setPort n p).boot = s.boot := rfl
@[simp] theorem State.setPort_upd (n : Nat) (p : PortSt) :
    (s.setPort n p).upd = s.upd := rfl
@[simp] theorem State.setPort_saf (n : Nat) (p : PortSt) :
    (s.setPort n p).saf = s.saf := rfl
@[simp] theorem State.setPort_ao (n : Nat) (p : PortSt) :
    (s.setPort n p).ao = s.ao := rfl
@[simp] theorem State.setPort_slots (n : Nat) (p : PortSt) :
    (s.setPort n p).slots = s.slots := rfl
@[simp] theorem State.setPort_tables (n : Nat) (p : PortSt) :
    (s.setPort n p).tables = s.tables := rfl
@[simp] theorem State.setPort_tree (n : Nat) (p : PortSt) :
    (s.setPort n p).tree = s.tree := rfl

/-! ### modPort -/

@[simp] theorem State.modPort_pending (n : Nat) (f : PortSt → PortSt) :
    (s.modPort n f).pending = s.pending := rfl
@[simp] theorem State.modPort_fs (n : Nat) (f : PortSt → PortSt) :
    (s.modPort n f).fs = s.fs := rfl
@[simp] theorem State.modPort_out (n : Nat) (f : PortSt → PortSt) :
    (s.modPort n f).out = s.out := rfl
@[simp] theorem State.modPort_free (n : Nat) (f : PortSt → PortSt) :
    (s.modPort n f).free = s.free := rfl
@[simp] theorem State.modPort_nextNo (n : Nat) (f : PortSt → PortSt) :
    (s.modPort n f).nextNo = s.nextNo := rfl
@[simp] theorem State.modPort_regs (n : Nat) (f : PortSt → PortSt) :
    (s.modPort n f).regs = s.regs := rfl
@[simp] theorem State.modPort_epochs (n : Nat) (f : PortSt → PortSt) :
    (s.modPort n f).epochs = s.epochs := rfl
@[simp] theorem State.modPort_cnt (n : Nat) (f : PortSt → PortSt) :
    (s.modPort n f).cnt = s.cnt := rfl
@[simp] theorem State.modPort_snap (n : Nat) (f : PortSt → PortSt) :
    (s.modPort n f).snap = s.snap := rfl
@[simp] theorem State.modPort_plats (n : Nat) (f : PortSt → PortSt) :
    (s.modPort n f).plats = s.plats := rfl
@[simp] theorem State.modPort_sharedUsed (n : Nat) (f : PortSt → PortSt) :
    (s.modPort n f).sharedUsed = s.sharedUsed := rfl
@[simp] theorem State.modPort_fixedUsed (n : Nat) (f : PortSt → PortSt) :
    (s.modPort n f).fixedUsed = s.fixedUsed := rfl
@[simp] theorem State.modPort_refs (n : Nat) (f : PortSt → PortSt) :
    (s.modPort n f).refs = s.refs := rfl
@[simp] theorem State.modPort_commit (n : Nat) (f : PortSt → PortSt) :
    (s.modPort n f).commit = s.commit := rfl
@[simp] theorem State.modPort_cls (n : Nat) (f : PortSt → PortSt) :
    (s.modPort n f).cls = s.cls := rfl
@[simp] theorem State.modPort_tbl (n : Nat) (f : PortSt → PortSt) :
    (s.modPort n f).tbl = s.tbl := rfl
@[simp] theorem State.modPort_psf (n : Nat) (f : PortSt → PortSt) :
    (s.modPort n f).psf = s.psf := rfl
@[simp] theorem State.modPort_sch (n : Nat) (f : PortSt → PortSt) :
    (s.modPort n f).sch = s.sch := rfl
@[simp] theorem State.modPort_adm (n : Nat) (f : PortSt → PortSt) :
    (s.modPort n f).adm = s.adm := rfl
@[simp] theorem State.modPort_red (n : Nat) (f : PortSt → PortSt) :
    (s.modPort n f).red = s.red := rfl
@[simp] theorem State.modPort_time (n : Nat) (f : PortSt → PortSt) :
    (s.modPort n f).time = s.time := rfl
@[simp] theorem State.modPort_capt (n : Nat) (f : PortSt → PortSt) :
    (s.modPort n f).capt = s.capt := rfl
@[simp] theorem State.modPort_host (n : Nat) (f : PortSt → PortSt) :
    (s.modPort n f).host = s.host := rfl
@[simp] theorem State.modPort_boot (n : Nat) (f : PortSt → PortSt) :
    (s.modPort n f).boot = s.boot := rfl
@[simp] theorem State.modPort_upd (n : Nat) (f : PortSt → PortSt) :
    (s.modPort n f).upd = s.upd := rfl
@[simp] theorem State.modPort_saf (n : Nat) (f : PortSt → PortSt) :
    (s.modPort n f).saf = s.saf := rfl
@[simp] theorem State.modPort_ao (n : Nat) (f : PortSt → PortSt) :
    (s.modPort n f).ao = s.ao := rfl
@[simp] theorem State.modPort_slots (n : Nat) (f : PortSt → PortSt) :
    (s.modPort n f).slots = s.slots := rfl
@[simp] theorem State.modPort_tables (n : Nat) (f : PortSt → PortSt) :
    (s.modPort n f).tables = s.tables := rfl
@[simp] theorem State.modPort_tree (n : Nat) (f : PortSt → PortSt) :
    (s.modPort n f).tree = s.tree := rfl

/-! ### setPlat -/

@[simp] theorem State.setPlat_pending (p : Nat) (x : Plat) :
    (s.setPlat p x).pending = s.pending := rfl
@[simp] theorem State.setPlat_fs (p : Nat) (x : Plat) :
    (s.setPlat p x).fs = s.fs := rfl
@[simp] theorem State.setPlat_out (p : Nat) (x : Plat) :
    (s.setPlat p x).out = s.out := rfl
@[simp] theorem State.setPlat_free (p : Nat) (x : Plat) :
    (s.setPlat p x).free = s.free := rfl
@[simp] theorem State.setPlat_nextNo (p : Nat) (x : Plat) :
    (s.setPlat p x).nextNo = s.nextNo := rfl
@[simp] theorem State.setPlat_regs (p : Nat) (x : Plat) :
    (s.setPlat p x).regs = s.regs := rfl
@[simp] theorem State.setPlat_epochs (p : Nat) (x : Plat) :
    (s.setPlat p x).epochs = s.epochs := rfl
@[simp] theorem State.setPlat_cnt (p : Nat) (x : Plat) :
    (s.setPlat p x).cnt = s.cnt := rfl
@[simp] theorem State.setPlat_snap (p : Nat) (x : Plat) :
    (s.setPlat p x).snap = s.snap := rfl
@[simp] theorem State.setPlat_ports (p : Nat) (x : Plat) :
    (s.setPlat p x).ports = s.ports := rfl
@[simp] theorem State.setPlat_sharedUsed (p : Nat) (x : Plat) :
    (s.setPlat p x).sharedUsed = s.sharedUsed := rfl
@[simp] theorem State.setPlat_fixedUsed (p : Nat) (x : Plat) :
    (s.setPlat p x).fixedUsed = s.fixedUsed := rfl
@[simp] theorem State.setPlat_refs (p : Nat) (x : Plat) :
    (s.setPlat p x).refs = s.refs := rfl
@[simp] theorem State.setPlat_commit (p : Nat) (x : Plat) :
    (s.setPlat p x).commit = s.commit := rfl
@[simp] theorem State.setPlat_cls (p : Nat) (x : Plat) :
    (s.setPlat p x).cls = s.cls := rfl
@[simp] theorem State.setPlat_tbl (p : Nat) (x : Plat) :
    (s.setPlat p x).tbl = s.tbl := rfl
@[simp] theorem State.setPlat_psf (p : Nat) (x : Plat) :
    (s.setPlat p x).psf = s.psf := rfl
@[simp] theorem State.setPlat_sch (p : Nat) (x : Plat) :
    (s.setPlat p x).sch = s.sch := rfl
@[simp] theorem State.setPlat_adm (p : Nat) (x : Plat) :
    (s.setPlat p x).adm = s.adm := rfl
@[simp] theorem State.setPlat_red (p : Nat) (x : Plat) :
    (s.setPlat p x).red = s.red := rfl
@[simp] theorem State.setPlat_time (p : Nat) (x : Plat) :
    (s.setPlat p x).time = s.time := rfl
@[simp] theorem State.setPlat_capt (p : Nat) (x : Plat) :
    (s.setPlat p x).capt = s.capt := rfl
@[simp] theorem State.setPlat_host (p : Nat) (x : Plat) :
    (s.setPlat p x).host = s.host := rfl
@[simp] theorem State.setPlat_boot (p : Nat) (x : Plat) :
    (s.setPlat p x).boot = s.boot := rfl
@[simp] theorem State.setPlat_upd (p : Nat) (x : Plat) :
    (s.setPlat p x).upd = s.upd := rfl
@[simp] theorem State.setPlat_saf (p : Nat) (x : Plat) :
    (s.setPlat p x).saf = s.saf := rfl
@[simp] theorem State.setPlat_ao (p : Nat) (x : Plat) :
    (s.setPlat p x).ao = s.ao := rfl
@[simp] theorem State.setPlat_slots (p : Nat) (x : Plat) :
    (s.setPlat p x).slots = s.slots := rfl
@[simp] theorem State.setPlat_tables (p : Nat) (x : Plat) :
    (s.setPlat p x).tables = s.tables := rfl
@[simp] theorem State.setPlat_tree (p : Nat) (x : Plat) :
    (s.setPlat p x).tree = s.tree := rfl

/-! ### modPlat -/

@[simp] theorem State.modPlat_pending (p : Nat) (f : Plat → Plat) :
    (s.modPlat p f).pending = s.pending := rfl
@[simp] theorem State.modPlat_fs (p : Nat) (f : Plat → Plat) :
    (s.modPlat p f).fs = s.fs := rfl
@[simp] theorem State.modPlat_out (p : Nat) (f : Plat → Plat) :
    (s.modPlat p f).out = s.out := rfl
@[simp] theorem State.modPlat_free (p : Nat) (f : Plat → Plat) :
    (s.modPlat p f).free = s.free := rfl
@[simp] theorem State.modPlat_nextNo (p : Nat) (f : Plat → Plat) :
    (s.modPlat p f).nextNo = s.nextNo := rfl
@[simp] theorem State.modPlat_regs (p : Nat) (f : Plat → Plat) :
    (s.modPlat p f).regs = s.regs := rfl
@[simp] theorem State.modPlat_epochs (p : Nat) (f : Plat → Plat) :
    (s.modPlat p f).epochs = s.epochs := rfl
@[simp] theorem State.modPlat_cnt (p : Nat) (f : Plat → Plat) :
    (s.modPlat p f).cnt = s.cnt := rfl
@[simp] theorem State.modPlat_snap (p : Nat) (f : Plat → Plat) :
    (s.modPlat p f).snap = s.snap := rfl
@[simp] theorem State.modPlat_ports (p : Nat) (f : Plat → Plat) :
    (s.modPlat p f).ports = s.ports := rfl
@[simp] theorem State.modPlat_sharedUsed (p : Nat) (f : Plat → Plat) :
    (s.modPlat p f).sharedUsed = s.sharedUsed := rfl
@[simp] theorem State.modPlat_fixedUsed (p : Nat) (f : Plat → Plat) :
    (s.modPlat p f).fixedUsed = s.fixedUsed := rfl
@[simp] theorem State.modPlat_refs (p : Nat) (f : Plat → Plat) :
    (s.modPlat p f).refs = s.refs := rfl
@[simp] theorem State.modPlat_commit (p : Nat) (f : Plat → Plat) :
    (s.modPlat p f).commit = s.commit := rfl
@[simp] theorem State.modPlat_cls (p : Nat) (f : Plat → Plat) :
    (s.modPlat p f).cls = s.cls := rfl
@[simp] theorem State.modPlat_tbl (p : Nat) (f : Plat → Plat) :
    (s.modPlat p f).tbl = s.tbl := rfl
@[simp] theorem State.modPlat_psf (p : Nat) (f : Plat → Plat) :
    (s.modPlat p f).psf = s.psf := rfl
@[simp] theorem State.modPlat_sch (p : Nat) (f : Plat → Plat) :
    (s.modPlat p f).sch = s.sch := rfl
@[simp] theorem State.modPlat_adm (p : Nat) (f : Plat → Plat) :
    (s.modPlat p f).adm = s.adm := rfl
@[simp] theorem State.modPlat_red (p : Nat) (f : Plat → Plat) :
    (s.modPlat p f).red = s.red := rfl
@[simp] theorem State.modPlat_time (p : Nat) (f : Plat → Plat) :
    (s.modPlat p f).time = s.time := rfl
@[simp] theorem State.modPlat_capt (p : Nat) (f : Plat → Plat) :
    (s.modPlat p f).capt = s.capt := rfl
@[simp] theorem State.modPlat_host (p : Nat) (f : Plat → Plat) :
    (s.modPlat p f).host = s.host := rfl
@[simp] theorem State.modPlat_boot (p : Nat) (f : Plat → Plat) :
    (s.modPlat p f).boot = s.boot := rfl
@[simp] theorem State.modPlat_upd (p : Nat) (f : Plat → Plat) :
    (s.modPlat p f).upd = s.upd := rfl
@[simp] theorem State.modPlat_saf (p : Nat) (f : Plat → Plat) :
    (s.modPlat p f).saf = s.saf := rfl
@[simp] theorem State.modPlat_ao (p : Nat) (f : Plat → Plat) :
    (s.modPlat p f).ao = s.ao := rfl
@[simp] theorem State.modPlat_slots (p : Nat) (f : Plat → Plat) :
    (s.modPlat p f).slots = s.slots := rfl
@[simp] theorem State.modPlat_tables (p : Nat) (f : Plat → Plat) :
    (s.modPlat p f).tables = s.tables := rfl
@[simp] theorem State.modPlat_tree (p : Nat) (f : Plat → Plat) :
    (s.modPlat p f).tree = s.tree := rfl

/-! ### emit -/

@[simp] theorem State.emit_pending (o : Out) :
    (s.emit o).pending = s.pending := rfl
@[simp] theorem State.emit_fs (o : Out) :
    (s.emit o).fs = s.fs := rfl
@[simp] theorem State.emit_free (o : Out) :
    (s.emit o).free = s.free := rfl
@[simp] theorem State.emit_nextNo (o : Out) :
    (s.emit o).nextNo = s.nextNo := rfl
@[simp] theorem State.emit_regs (o : Out) :
    (s.emit o).regs = s.regs := rfl
@[simp] theorem State.emit_epochs (o : Out) :
    (s.emit o).epochs = s.epochs := rfl
@[simp] theorem State.emit_cnt (o : Out) :
    (s.emit o).cnt = s.cnt := rfl
@[simp] theorem State.emit_snap (o : Out) :
    (s.emit o).snap = s.snap := rfl
@[simp] theorem State.emit_ports (o : Out) :
    (s.emit o).ports = s.ports := rfl
@[simp] theorem State.emit_plats (o : Out) :
    (s.emit o).plats = s.plats := rfl
@[simp] theorem State.emit_sharedUsed (o : Out) :
    (s.emit o).sharedUsed = s.sharedUsed := rfl
@[simp] theorem State.emit_fixedUsed (o : Out) :
    (s.emit o).fixedUsed = s.fixedUsed := rfl
@[simp] theorem State.emit_refs (o : Out) :
    (s.emit o).refs = s.refs := rfl
@[simp] theorem State.emit_commit (o : Out) :
    (s.emit o).commit = s.commit := rfl
@[simp] theorem State.emit_cls (o : Out) :
    (s.emit o).cls = s.cls := rfl
@[simp] theorem State.emit_tbl (o : Out) :
    (s.emit o).tbl = s.tbl := rfl
@[simp] theorem State.emit_psf (o : Out) :
    (s.emit o).psf = s.psf := rfl
@[simp] theorem State.emit_sch (o : Out) :
    (s.emit o).sch = s.sch := rfl
@[simp] theorem State.emit_adm (o : Out) :
    (s.emit o).adm = s.adm := rfl
@[simp] theorem State.emit_red (o : Out) :
    (s.emit o).red = s.red := rfl
@[simp] theorem State.emit_time (o : Out) :
    (s.emit o).time = s.time := rfl
@[simp] theorem State.emit_capt (o : Out) :
    (s.emit o).capt = s.capt := rfl
@[simp] theorem State.emit_host (o : Out) :
    (s.emit o).host = s.host := rfl
@[simp] theorem State.emit_boot (o : Out) :
    (s.emit o).boot = s.boot := rfl
@[simp] theorem State.emit_upd (o : Out) :
    (s.emit o).upd = s.upd := rfl
@[simp] theorem State.emit_saf (o : Out) :
    (s.emit o).saf = s.saf := rfl
@[simp] theorem State.emit_ao (o : Out) :
    (s.emit o).ao = s.ao := rfl
@[simp] theorem State.emit_slots (o : Out) :
    (s.emit o).slots = s.slots := rfl
@[simp] theorem State.emit_tables (o : Out) :
    (s.emit o).tables = s.tables := rfl
@[simp] theorem State.emit_tree (o : Out) :
    (s.emit o).tree = s.tree := rfl

/-! ### setTab -/

@[simp] theorem State.setTab_pending (t i w : Nat) (v : Word) :
    (s.setTab t i w v).pending = s.pending := rfl
@[simp] theorem State.setTab_fs (t i w : Nat) (v : Word) :
    (s.setTab t i w v).fs = s.fs := rfl
@[simp] theorem State.setTab_out (t i w : Nat) (v : Word) :
    (s.setTab t i w v).out = s.out := rfl
@[simp] theorem State.setTab_free (t i w : Nat) (v : Word) :
    (s.setTab t i w v).free = s.free := rfl
@[simp] theorem State.setTab_nextNo (t i w : Nat) (v : Word) :
    (s.setTab t i w v).nextNo = s.nextNo := rfl
@[simp] theorem State.setTab_regs (t i w : Nat) (v : Word) :
    (s.setTab t i w v).regs = s.regs := rfl
@[simp] theorem State.setTab_epochs (t i w : Nat) (v : Word) :
    (s.setTab t i w v).epochs = s.epochs := rfl
@[simp] theorem State.setTab_cnt (t i w : Nat) (v : Word) :
    (s.setTab t i w v).cnt = s.cnt := rfl
@[simp] theorem State.setTab_snap (t i w : Nat) (v : Word) :
    (s.setTab t i w v).snap = s.snap := rfl
@[simp] theorem State.setTab_ports (t i w : Nat) (v : Word) :
    (s.setTab t i w v).ports = s.ports := rfl
@[simp] theorem State.setTab_plats (t i w : Nat) (v : Word) :
    (s.setTab t i w v).plats = s.plats := rfl
@[simp] theorem State.setTab_sharedUsed (t i w : Nat) (v : Word) :
    (s.setTab t i w v).sharedUsed = s.sharedUsed := rfl
@[simp] theorem State.setTab_fixedUsed (t i w : Nat) (v : Word) :
    (s.setTab t i w v).fixedUsed = s.fixedUsed := rfl
@[simp] theorem State.setTab_refs (t i w : Nat) (v : Word) :
    (s.setTab t i w v).refs = s.refs := rfl
@[simp] theorem State.setTab_commit (t i w : Nat) (v : Word) :
    (s.setTab t i w v).commit = s.commit := rfl
@[simp] theorem State.setTab_cls (t i w : Nat) (v : Word) :
    (s.setTab t i w v).cls = s.cls := rfl
@[simp] theorem State.setTab_tbl (t i w : Nat) (v : Word) :
    (s.setTab t i w v).tbl = s.tbl := rfl
@[simp] theorem State.setTab_psf (t i w : Nat) (v : Word) :
    (s.setTab t i w v).psf = s.psf := rfl
@[simp] theorem State.setTab_sch (t i w : Nat) (v : Word) :
    (s.setTab t i w v).sch = s.sch := rfl
@[simp] theorem State.setTab_adm (t i w : Nat) (v : Word) :
    (s.setTab t i w v).adm = s.adm := rfl
@[simp] theorem State.setTab_red (t i w : Nat) (v : Word) :
    (s.setTab t i w v).red = s.red := rfl
@[simp] theorem State.setTab_time (t i w : Nat) (v : Word) :
    (s.setTab t i w v).time = s.time := rfl
@[simp] theorem State.setTab_capt (t i w : Nat) (v : Word) :
    (s.setTab t i w v).capt = s.capt := rfl
@[simp] theorem State.setTab_host (t i w : Nat) (v : Word) :
    (s.setTab t i w v).host = s.host := rfl
@[simp] theorem State.setTab_boot (t i w : Nat) (v : Word) :
    (s.setTab t i w v).boot = s.boot := rfl
@[simp] theorem State.setTab_upd (t i w : Nat) (v : Word) :
    (s.setTab t i w v).upd = s.upd := rfl
@[simp] theorem State.setTab_saf (t i w : Nat) (v : Word) :
    (s.setTab t i w v).saf = s.saf := rfl
@[simp] theorem State.setTab_ao (t i w : Nat) (v : Word) :
    (s.setTab t i w v).ao = s.ao := rfl
@[simp] theorem State.setTab_slots (t i w : Nat) (v : Word) :
    (s.setTab t i w v).slots = s.slots := rfl
@[simp] theorem State.setTab_tree (t i w : Nat) (v : Word) :
    (s.setTab t i w v).tree = s.tree := rfl

/-! ### setTree -/

@[simp] theorem State.setTree_pending (bank i : Nat) (v : Word) :
    (s.setTree bank i v).pending = s.pending := rfl
@[simp] theorem State.setTree_fs (bank i : Nat) (v : Word) :
    (s.setTree bank i v).fs = s.fs := rfl
@[simp] theorem State.setTree_out (bank i : Nat) (v : Word) :
    (s.setTree bank i v).out = s.out := rfl
@[simp] theorem State.setTree_free (bank i : Nat) (v : Word) :
    (s.setTree bank i v).free = s.free := rfl
@[simp] theorem State.setTree_nextNo (bank i : Nat) (v : Word) :
    (s.setTree bank i v).nextNo = s.nextNo := rfl
@[simp] theorem State.setTree_regs (bank i : Nat) (v : Word) :
    (s.setTree bank i v).regs = s.regs := rfl
@[simp] theorem State.setTree_epochs (bank i : Nat) (v : Word) :
    (s.setTree bank i v).epochs = s.epochs := rfl
@[simp] theorem State.setTree_cnt (bank i : Nat) (v : Word) :
    (s.setTree bank i v).cnt = s.cnt := rfl
@[simp] theorem State.setTree_snap (bank i : Nat) (v : Word) :
    (s.setTree bank i v).snap = s.snap := rfl
@[simp] theorem State.setTree_ports (bank i : Nat) (v : Word) :
    (s.setTree bank i v).ports = s.ports := rfl
@[simp] theorem State.setTree_plats (bank i : Nat) (v : Word) :
    (s.setTree bank i v).plats = s.plats := rfl
@[simp] theorem State.setTree_sharedUsed (bank i : Nat) (v : Word) :
    (s.setTree bank i v).sharedUsed = s.sharedUsed := rfl
@[simp] theorem State.setTree_fixedUsed (bank i : Nat) (v : Word) :
    (s.setTree bank i v).fixedUsed = s.fixedUsed := rfl
@[simp] theorem State.setTree_refs (bank i : Nat) (v : Word) :
    (s.setTree bank i v).refs = s.refs := rfl
@[simp] theorem State.setTree_commit (bank i : Nat) (v : Word) :
    (s.setTree bank i v).commit = s.commit := rfl
@[simp] theorem State.setTree_cls (bank i : Nat) (v : Word) :
    (s.setTree bank i v).cls = s.cls := rfl
@[simp] theorem State.setTree_tbl (bank i : Nat) (v : Word) :
    (s.setTree bank i v).tbl = s.tbl := rfl
@[simp] theorem State.setTree_psf (bank i : Nat) (v : Word) :
    (s.setTree bank i v).psf = s.psf := rfl
@[simp] theorem State.setTree_sch (bank i : Nat) (v : Word) :
    (s.setTree bank i v).sch = s.sch := rfl
@[simp] theorem State.setTree_adm (bank i : Nat) (v : Word) :
    (s.setTree bank i v).adm = s.adm := rfl
@[simp] theorem State.setTree_red (bank i : Nat) (v : Word) :
    (s.setTree bank i v).red = s.red := rfl
@[simp] theorem State.setTree_time (bank i : Nat) (v : Word) :
    (s.setTree bank i v).time = s.time := rfl
@[simp] theorem State.setTree_capt (bank i : Nat) (v : Word) :
    (s.setTree bank i v).capt = s.capt := rfl
@[simp] theorem State.setTree_host (bank i : Nat) (v : Word) :
    (s.setTree bank i v).host = s.host := rfl
@[simp] theorem State.setTree_boot (bank i : Nat) (v : Word) :
    (s.setTree bank i v).boot = s.boot := rfl
@[simp] theorem State.setTree_upd (bank i : Nat) (v : Word) :
    (s.setTree bank i v).upd = s.upd := rfl
@[simp] theorem State.setTree_saf (bank i : Nat) (v : Word) :
    (s.setTree bank i v).saf = s.saf := rfl
@[simp] theorem State.setTree_ao (bank i : Nat) (v : Word) :
    (s.setTree bank i v).ao = s.ao := rfl
@[simp] theorem State.setTree_slots (bank i : Nat) (v : Word) :
    (s.setTree bank i v).slots = s.slots := rfl
@[simp] theorem State.setTree_tables (bank i : Nat) (v : Word) :
    (s.setTree bank i v).tables = s.tables := rfl

/-! ### setPerf48 -/

@[simp] theorem State.setPerf48_pending (lo hi : RegId) (i v : Nat) :
    (s.setPerf48 lo hi i v).pending = s.pending := rfl
@[simp] theorem State.setPerf48_fs (lo hi : RegId) (i v : Nat) :
    (s.setPerf48 lo hi i v).fs = s.fs := rfl
@[simp] theorem State.setPerf48_out (lo hi : RegId) (i v : Nat) :
    (s.setPerf48 lo hi i v).out = s.out := rfl
@[simp] theorem State.setPerf48_free (lo hi : RegId) (i v : Nat) :
    (s.setPerf48 lo hi i v).free = s.free := rfl
@[simp] theorem State.setPerf48_nextNo (lo hi : RegId) (i v : Nat) :
    (s.setPerf48 lo hi i v).nextNo = s.nextNo := rfl
@[simp] theorem State.setPerf48_epochs (lo hi : RegId) (i v : Nat) :
    (s.setPerf48 lo hi i v).epochs = s.epochs := rfl
@[simp] theorem State.setPerf48_cnt (lo hi : RegId) (i v : Nat) :
    (s.setPerf48 lo hi i v).cnt = s.cnt := rfl
@[simp] theorem State.setPerf48_snap (lo hi : RegId) (i v : Nat) :
    (s.setPerf48 lo hi i v).snap = s.snap := rfl
@[simp] theorem State.setPerf48_ports (lo hi : RegId) (i v : Nat) :
    (s.setPerf48 lo hi i v).ports = s.ports := rfl
@[simp] theorem State.setPerf48_plats (lo hi : RegId) (i v : Nat) :
    (s.setPerf48 lo hi i v).plats = s.plats := rfl
@[simp] theorem State.setPerf48_sharedUsed (lo hi : RegId) (i v : Nat) :
    (s.setPerf48 lo hi i v).sharedUsed = s.sharedUsed := rfl
@[simp] theorem State.setPerf48_fixedUsed (lo hi : RegId) (i v : Nat) :
    (s.setPerf48 lo hi i v).fixedUsed = s.fixedUsed := rfl
@[simp] theorem State.setPerf48_refs (lo hi : RegId) (i v : Nat) :
    (s.setPerf48 lo hi i v).refs = s.refs := rfl
@[simp] theorem State.setPerf48_commit (lo hi : RegId) (i v : Nat) :
    (s.setPerf48 lo hi i v).commit = s.commit := rfl
@[simp] theorem State.setPerf48_cls (lo hi : RegId) (i v : Nat) :
    (s.setPerf48 lo hi i v).cls = s.cls := rfl
@[simp] theorem State.setPerf48_tbl (lo hi : RegId) (i v : Nat) :
    (s.setPerf48 lo hi i v).tbl = s.tbl := rfl
@[simp] theorem State.setPerf48_psf (lo hi : RegId) (i v : Nat) :
    (s.setPerf48 lo hi i v).psf = s.psf := rfl
@[simp] theorem State.setPerf48_sch (lo hi : RegId) (i v : Nat) :
    (s.setPerf48 lo hi i v).sch = s.sch := rfl
@[simp] theorem State.setPerf48_adm (lo hi : RegId) (i v : Nat) :
    (s.setPerf48 lo hi i v).adm = s.adm := rfl
@[simp] theorem State.setPerf48_red (lo hi : RegId) (i v : Nat) :
    (s.setPerf48 lo hi i v).red = s.red := rfl
@[simp] theorem State.setPerf48_time (lo hi : RegId) (i v : Nat) :
    (s.setPerf48 lo hi i v).time = s.time := rfl
@[simp] theorem State.setPerf48_capt (lo hi : RegId) (i v : Nat) :
    (s.setPerf48 lo hi i v).capt = s.capt := rfl
@[simp] theorem State.setPerf48_host (lo hi : RegId) (i v : Nat) :
    (s.setPerf48 lo hi i v).host = s.host := rfl
@[simp] theorem State.setPerf48_boot (lo hi : RegId) (i v : Nat) :
    (s.setPerf48 lo hi i v).boot = s.boot := rfl
@[simp] theorem State.setPerf48_upd (lo hi : RegId) (i v : Nat) :
    (s.setPerf48 lo hi i v).upd = s.upd := rfl
@[simp] theorem State.setPerf48_saf (lo hi : RegId) (i v : Nat) :
    (s.setPerf48 lo hi i v).saf = s.saf := rfl
@[simp] theorem State.setPerf48_ao (lo hi : RegId) (i v : Nat) :
    (s.setPerf48 lo hi i v).ao = s.ao := rfl
@[simp] theorem State.setPerf48_slots (lo hi : RegId) (i v : Nat) :
    (s.setPerf48 lo hi i v).slots = s.slots := rfl
@[simp] theorem State.setPerf48_tables (lo hi : RegId) (i v : Nat) :
    (s.setPerf48 lo hi i v).tables = s.tables := rfl
@[simp] theorem State.setPerf48_tree (lo hi : RegId) (i v : Nat) :
    (s.setPerf48 lo hi i v).tree = s.tree := rfl

/-! ### modUnit -/

@[simp] theorem State.modUnit_pending (u : Nat) (f : HostUnit → HostUnit) :
    (s.modUnit u f).pending = s.pending := rfl
@[simp] theorem State.modUnit_fs (u : Nat) (f : HostUnit → HostUnit) :
    (s.modUnit u f).fs = s.fs := rfl
@[simp] theorem State.modUnit_out (u : Nat) (f : HostUnit → HostUnit) :
    (s.modUnit u f).out = s.out := rfl
@[simp] theorem State.modUnit_free (u : Nat) (f : HostUnit → HostUnit) :
    (s.modUnit u f).free = s.free := rfl
@[simp] theorem State.modUnit_nextNo (u : Nat) (f : HostUnit → HostUnit) :
    (s.modUnit u f).nextNo = s.nextNo := rfl
@[simp] theorem State.modUnit_regs (u : Nat) (f : HostUnit → HostUnit) :
    (s.modUnit u f).regs = s.regs := rfl
@[simp] theorem State.modUnit_epochs (u : Nat) (f : HostUnit → HostUnit) :
    (s.modUnit u f).epochs = s.epochs := rfl
@[simp] theorem State.modUnit_cnt (u : Nat) (f : HostUnit → HostUnit) :
    (s.modUnit u f).cnt = s.cnt := rfl
@[simp] theorem State.modUnit_snap (u : Nat) (f : HostUnit → HostUnit) :
    (s.modUnit u f).snap = s.snap := rfl
@[simp] theorem State.modUnit_ports (u : Nat) (f : HostUnit → HostUnit) :
    (s.modUnit u f).ports = s.ports := rfl
@[simp] theorem State.modUnit_plats (u : Nat) (f : HostUnit → HostUnit) :
    (s.modUnit u f).plats = s.plats := rfl
@[simp] theorem State.modUnit_sharedUsed (u : Nat) (f : HostUnit → HostUnit) :
    (s.modUnit u f).sharedUsed = s.sharedUsed := rfl
@[simp] theorem State.modUnit_fixedUsed (u : Nat) (f : HostUnit → HostUnit) :
    (s.modUnit u f).fixedUsed = s.fixedUsed := rfl
@[simp] theorem State.modUnit_refs (u : Nat) (f : HostUnit → HostUnit) :
    (s.modUnit u f).refs = s.refs := rfl
@[simp] theorem State.modUnit_commit (u : Nat) (f : HostUnit → HostUnit) :
    (s.modUnit u f).commit = s.commit := rfl
@[simp] theorem State.modUnit_cls (u : Nat) (f : HostUnit → HostUnit) :
    (s.modUnit u f).cls = s.cls := rfl
@[simp] theorem State.modUnit_tbl (u : Nat) (f : HostUnit → HostUnit) :
    (s.modUnit u f).tbl = s.tbl := rfl
@[simp] theorem State.modUnit_psf (u : Nat) (f : HostUnit → HostUnit) :
    (s.modUnit u f).psf = s.psf := rfl
@[simp] theorem State.modUnit_sch (u : Nat) (f : HostUnit → HostUnit) :
    (s.modUnit u f).sch = s.sch := rfl
@[simp] theorem State.modUnit_adm (u : Nat) (f : HostUnit → HostUnit) :
    (s.modUnit u f).adm = s.adm := rfl
@[simp] theorem State.modUnit_red (u : Nat) (f : HostUnit → HostUnit) :
    (s.modUnit u f).red = s.red := rfl
@[simp] theorem State.modUnit_time (u : Nat) (f : HostUnit → HostUnit) :
    (s.modUnit u f).time = s.time := rfl
@[simp] theorem State.modUnit_capt (u : Nat) (f : HostUnit → HostUnit) :
    (s.modUnit u f).capt = s.capt := rfl
@[simp] theorem State.modUnit_boot (u : Nat) (f : HostUnit → HostUnit) :
    (s.modUnit u f).boot = s.boot := rfl
@[simp] theorem State.modUnit_upd (u : Nat) (f : HostUnit → HostUnit) :
    (s.modUnit u f).upd = s.upd := rfl
@[simp] theorem State.modUnit_saf (u : Nat) (f : HostUnit → HostUnit) :
    (s.modUnit u f).saf = s.saf := rfl
@[simp] theorem State.modUnit_ao (u : Nat) (f : HostUnit → HostUnit) :
    (s.modUnit u f).ao = s.ao := rfl
@[simp] theorem State.modUnit_slots (u : Nat) (f : HostUnit → HostUnit) :
    (s.modUnit u f).slots = s.slots := rfl
@[simp] theorem State.modUnit_tables (u : Nat) (f : HostUnit → HostUnit) :
    (s.modUnit u f).tables = s.tables := rfl
@[simp] theorem State.modUnit_tree (u : Nat) (f : HostUnit → HostUnit) :
    (s.modUnit u f).tree = s.tree := rfl

/-! ### Counters: they change the counter store and, at a half range, a register (R62) -/

/-- All that a write of a counter can change. -/
theorem State.setCounter_shape (b : CntBank) (u i v : Nat) :
    ∃ m r, s.setCounter b u i v = { s with cnt := m, regs := r } := by
  simp only [State.setCounter]
  split
  · exact ⟨_, s.regs, rfl⟩
  · split
    · exact ⟨_, _, rfl⟩
    · exact ⟨_, s.regs, rfl⟩

@[simp] theorem State.setCounter_pending (b : CntBank) (u i v : Nat) : (s.setCounter b u i v).pending = s.pending := by
  obtain ⟨m, r, h⟩ := s.setCounter_shape b u i v; rw [h]
@[simp] theorem State.setCounter_fs (b : CntBank) (u i v : Nat) : (s.setCounter b u i v).fs = s.fs := by
  obtain ⟨m, r, h⟩ := s.setCounter_shape b u i v; rw [h]
@[simp] theorem State.setCounter_out (b : CntBank) (u i v : Nat) : (s.setCounter b u i v).out = s.out := by
  obtain ⟨m, r, h⟩ := s.setCounter_shape b u i v; rw [h]
@[simp] theorem State.setCounter_free (b : CntBank) (u i v : Nat) : (s.setCounter b u i v).free = s.free := by
  obtain ⟨m, r, h⟩ := s.setCounter_shape b u i v; rw [h]
@[simp] theorem State.setCounter_nextNo (b : CntBank) (u i v : Nat) : (s.setCounter b u i v).nextNo = s.nextNo := by
  obtain ⟨m, r, h⟩ := s.setCounter_shape b u i v; rw [h]
@[simp] theorem State.setCounter_epochs (b : CntBank) (u i v : Nat) : (s.setCounter b u i v).epochs = s.epochs := by
  obtain ⟨m, r, h⟩ := s.setCounter_shape b u i v; rw [h]
@[simp] theorem State.setCounter_snap (b : CntBank) (u i v : Nat) : (s.setCounter b u i v).snap = s.snap := by
  obtain ⟨m, r, h⟩ := s.setCounter_shape b u i v; rw [h]
@[simp] theorem State.setCounter_ports (b : CntBank) (u i v : Nat) : (s.setCounter b u i v).ports = s.ports := by
  obtain ⟨m, r, h⟩ := s.setCounter_shape b u i v; rw [h]
@[simp] theorem State.setCounter_plats (b : CntBank) (u i v : Nat) : (s.setCounter b u i v).plats = s.plats := by
  obtain ⟨m, r, h⟩ := s.setCounter_shape b u i v; rw [h]
@[simp] theorem State.setCounter_sharedUsed (b : CntBank) (u i v : Nat) : (s.setCounter b u i v).sharedUsed = s.sharedUsed := by
  obtain ⟨m, r, h⟩ := s.setCounter_shape b u i v; rw [h]
@[simp] theorem State.setCounter_fixedUsed (b : CntBank) (u i v : Nat) : (s.setCounter b u i v).fixedUsed = s.fixedUsed := by
  obtain ⟨m, r, h⟩ := s.setCounter_shape b u i v; rw [h]
@[simp] theorem State.setCounter_refs (b : CntBank) (u i v : Nat) : (s.setCounter b u i v).refs = s.refs := by
  obtain ⟨m, r, h⟩ := s.setCounter_shape b u i v; rw [h]
@[simp] theorem State.setCounter_commit (b : CntBank) (u i v : Nat) : (s.setCounter b u i v).commit = s.commit := by
  obtain ⟨m, r, h⟩ := s.setCounter_shape b u i v; rw [h]
@[simp] theorem State.setCounter_cls (b : CntBank) (u i v : Nat) : (s.setCounter b u i v).cls = s.cls := by
  obtain ⟨m, r, h⟩ := s.setCounter_shape b u i v; rw [h]
@[simp] theorem State.setCounter_tbl (b : CntBank) (u i v : Nat) : (s.setCounter b u i v).tbl = s.tbl := by
  obtain ⟨m, r, h⟩ := s.setCounter_shape b u i v; rw [h]
@[simp] theorem State.setCounter_psf (b : CntBank) (u i v : Nat) : (s.setCounter b u i v).psf = s.psf := by
  obtain ⟨m, r, h⟩ := s.setCounter_shape b u i v; rw [h]
@[simp] theorem State.setCounter_sch (b : CntBank) (u i v : Nat) : (s.setCounter b u i v).sch = s.sch := by
  obtain ⟨m, r, h⟩ := s.setCounter_shape b u i v; rw [h]
@[simp] theorem State.setCounter_adm (b : CntBank) (u i v : Nat) : (s.setCounter b u i v).adm = s.adm := by
  obtain ⟨m, r, h⟩ := s.setCounter_shape b u i v; rw [h]
@[simp] theorem State.setCounter_red (b : CntBank) (u i v : Nat) : (s.setCounter b u i v).red = s.red := by
  obtain ⟨m, r, h⟩ := s.setCounter_shape b u i v; rw [h]
@[simp] theorem State.setCounter_time (b : CntBank) (u i v : Nat) : (s.setCounter b u i v).time = s.time := by
  obtain ⟨m, r, h⟩ := s.setCounter_shape b u i v; rw [h]
@[simp] theorem State.setCounter_capt (b : CntBank) (u i v : Nat) : (s.setCounter b u i v).capt = s.capt := by
  obtain ⟨m, r, h⟩ := s.setCounter_shape b u i v; rw [h]
@[simp] theorem State.setCounter_host (b : CntBank) (u i v : Nat) : (s.setCounter b u i v).host = s.host := by
  obtain ⟨m, r, h⟩ := s.setCounter_shape b u i v; rw [h]
@[simp] theorem State.setCounter_boot (b : CntBank) (u i v : Nat) : (s.setCounter b u i v).boot = s.boot := by
  obtain ⟨m, r, h⟩ := s.setCounter_shape b u i v; rw [h]
@[simp] theorem State.setCounter_upd (b : CntBank) (u i v : Nat) : (s.setCounter b u i v).upd = s.upd := by
  obtain ⟨m, r, h⟩ := s.setCounter_shape b u i v; rw [h]
@[simp] theorem State.setCounter_saf (b : CntBank) (u i v : Nat) : (s.setCounter b u i v).saf = s.saf := by
  obtain ⟨m, r, h⟩ := s.setCounter_shape b u i v; rw [h]
@[simp] theorem State.setCounter_ao (b : CntBank) (u i v : Nat) : (s.setCounter b u i v).ao = s.ao := by
  obtain ⟨m, r, h⟩ := s.setCounter_shape b u i v; rw [h]
@[simp] theorem State.setCounter_slots (b : CntBank) (u i v : Nat) : (s.setCounter b u i v).slots = s.slots := by
  obtain ⟨m, r, h⟩ := s.setCounter_shape b u i v; rw [h]
@[simp] theorem State.setCounter_tables (b : CntBank) (u i v : Nat) : (s.setCounter b u i v).tables = s.tables := by
  obtain ⟨m, r, h⟩ := s.setCounter_shape b u i v; rw [h]
@[simp] theorem State.setCounter_tree (b : CntBank) (u i v : Nat) : (s.setCounter b u i v).tree = s.tree := by
  obtain ⟨m, r, h⟩ := s.setCounter_shape b u i v; rw [h]
@[simp] theorem State.countN_pending (b : CntBank) (u i n : Nat) : (s.countN b u i n).pending = s.pending :=
  s.setCounter_pending b u i _
@[simp] theorem State.count_pending (b : CntBank) (u i : Nat) : (s.count b u i).pending = s.pending :=
  s.setCounter_pending b u i _
@[simp] theorem State.countN_fs (b : CntBank) (u i n : Nat) : (s.countN b u i n).fs = s.fs :=
  s.setCounter_fs b u i _
@[simp] theorem State.count_fs (b : CntBank) (u i : Nat) : (s.count b u i).fs = s.fs :=
  s.setCounter_fs b u i _
@[simp] theorem State.countN_out (b : CntBank) (u i n : Nat) : (s.countN b u i n).out = s.out :=
  s.setCounter_out b u i _
@[simp] theorem State.count_out (b : CntBank) (u i : Nat) : (s.count b u i).out = s.out :=
  s.setCounter_out b u i _
@[simp] theorem State.countN_free (b : CntBank) (u i n : Nat) : (s.countN b u i n).free = s.free :=
  s.setCounter_free b u i _
@[simp] theorem State.count_free (b : CntBank) (u i : Nat) : (s.count b u i).free = s.free :=
  s.setCounter_free b u i _
@[simp] theorem State.countN_nextNo (b : CntBank) (u i n : Nat) : (s.countN b u i n).nextNo = s.nextNo :=
  s.setCounter_nextNo b u i _
@[simp] theorem State.count_nextNo (b : CntBank) (u i : Nat) : (s.count b u i).nextNo = s.nextNo :=
  s.setCounter_nextNo b u i _
@[simp] theorem State.countN_epochs (b : CntBank) (u i n : Nat) : (s.countN b u i n).epochs = s.epochs :=
  s.setCounter_epochs b u i _
@[simp] theorem State.count_epochs (b : CntBank) (u i : Nat) : (s.count b u i).epochs = s.epochs :=
  s.setCounter_epochs b u i _
@[simp] theorem State.countN_snap (b : CntBank) (u i n : Nat) : (s.countN b u i n).snap = s.snap :=
  s.setCounter_snap b u i _
@[simp] theorem State.count_snap (b : CntBank) (u i : Nat) : (s.count b u i).snap = s.snap :=
  s.setCounter_snap b u i _
@[simp] theorem State.countN_ports (b : CntBank) (u i n : Nat) : (s.countN b u i n).ports = s.ports :=
  s.setCounter_ports b u i _
@[simp] theorem State.count_ports (b : CntBank) (u i : Nat) : (s.count b u i).ports = s.ports :=
  s.setCounter_ports b u i _
@[simp] theorem State.countN_plats (b : CntBank) (u i n : Nat) : (s.countN b u i n).plats = s.plats :=
  s.setCounter_plats b u i _
@[simp] theorem State.count_plats (b : CntBank) (u i : Nat) : (s.count b u i).plats = s.plats :=
  s.setCounter_plats b u i _
@[simp] theorem State.countN_sharedUsed (b : CntBank) (u i n : Nat) : (s.countN b u i n).sharedUsed = s.sharedUsed :=
  s.setCounter_sharedUsed b u i _
@[simp] theorem State.count_sharedUsed (b : CntBank) (u i : Nat) : (s.count b u i).sharedUsed = s.sharedUsed :=
  s.setCounter_sharedUsed b u i _
@[simp] theorem State.countN_fixedUsed (b : CntBank) (u i n : Nat) : (s.countN b u i n).fixedUsed = s.fixedUsed :=
  s.setCounter_fixedUsed b u i _
@[simp] theorem State.count_fixedUsed (b : CntBank) (u i : Nat) : (s.count b u i).fixedUsed = s.fixedUsed :=
  s.setCounter_fixedUsed b u i _
@[simp] theorem State.countN_refs (b : CntBank) (u i n : Nat) : (s.countN b u i n).refs = s.refs :=
  s.setCounter_refs b u i _
@[simp] theorem State.count_refs (b : CntBank) (u i : Nat) : (s.count b u i).refs = s.refs :=
  s.setCounter_refs b u i _
@[simp] theorem State.countN_commit (b : CntBank) (u i n : Nat) : (s.countN b u i n).commit = s.commit :=
  s.setCounter_commit b u i _
@[simp] theorem State.count_commit (b : CntBank) (u i : Nat) : (s.count b u i).commit = s.commit :=
  s.setCounter_commit b u i _
@[simp] theorem State.countN_cls (b : CntBank) (u i n : Nat) : (s.countN b u i n).cls = s.cls :=
  s.setCounter_cls b u i _
@[simp] theorem State.count_cls (b : CntBank) (u i : Nat) : (s.count b u i).cls = s.cls :=
  s.setCounter_cls b u i _
@[simp] theorem State.countN_tbl (b : CntBank) (u i n : Nat) : (s.countN b u i n).tbl = s.tbl :=
  s.setCounter_tbl b u i _
@[simp] theorem State.count_tbl (b : CntBank) (u i : Nat) : (s.count b u i).tbl = s.tbl :=
  s.setCounter_tbl b u i _
@[simp] theorem State.countN_psf (b : CntBank) (u i n : Nat) : (s.countN b u i n).psf = s.psf :=
  s.setCounter_psf b u i _
@[simp] theorem State.count_psf (b : CntBank) (u i : Nat) : (s.count b u i).psf = s.psf :=
  s.setCounter_psf b u i _
@[simp] theorem State.countN_sch (b : CntBank) (u i n : Nat) : (s.countN b u i n).sch = s.sch :=
  s.setCounter_sch b u i _
@[simp] theorem State.count_sch (b : CntBank) (u i : Nat) : (s.count b u i).sch = s.sch :=
  s.setCounter_sch b u i _
@[simp] theorem State.countN_adm (b : CntBank) (u i n : Nat) : (s.countN b u i n).adm = s.adm :=
  s.setCounter_adm b u i _
@[simp] theorem State.count_adm (b : CntBank) (u i : Nat) : (s.count b u i).adm = s.adm :=
  s.setCounter_adm b u i _
@[simp] theorem State.countN_red (b : CntBank) (u i n : Nat) : (s.countN b u i n).red = s.red :=
  s.setCounter_red b u i _
@[simp] theorem State.count_red (b : CntBank) (u i : Nat) : (s.count b u i).red = s.red :=
  s.setCounter_red b u i _
@[simp] theorem State.countN_time (b : CntBank) (u i n : Nat) : (s.countN b u i n).time = s.time :=
  s.setCounter_time b u i _
@[simp] theorem State.count_time (b : CntBank) (u i : Nat) : (s.count b u i).time = s.time :=
  s.setCounter_time b u i _
@[simp] theorem State.countN_capt (b : CntBank) (u i n : Nat) : (s.countN b u i n).capt = s.capt :=
  s.setCounter_capt b u i _
@[simp] theorem State.count_capt (b : CntBank) (u i : Nat) : (s.count b u i).capt = s.capt :=
  s.setCounter_capt b u i _
@[simp] theorem State.countN_host (b : CntBank) (u i n : Nat) : (s.countN b u i n).host = s.host :=
  s.setCounter_host b u i _
@[simp] theorem State.count_host (b : CntBank) (u i : Nat) : (s.count b u i).host = s.host :=
  s.setCounter_host b u i _
@[simp] theorem State.countN_boot (b : CntBank) (u i n : Nat) : (s.countN b u i n).boot = s.boot :=
  s.setCounter_boot b u i _
@[simp] theorem State.count_boot (b : CntBank) (u i : Nat) : (s.count b u i).boot = s.boot :=
  s.setCounter_boot b u i _
@[simp] theorem State.countN_upd (b : CntBank) (u i n : Nat) : (s.countN b u i n).upd = s.upd :=
  s.setCounter_upd b u i _
@[simp] theorem State.count_upd (b : CntBank) (u i : Nat) : (s.count b u i).upd = s.upd :=
  s.setCounter_upd b u i _
@[simp] theorem State.countN_saf (b : CntBank) (u i n : Nat) : (s.countN b u i n).saf = s.saf :=
  s.setCounter_saf b u i _
@[simp] theorem State.count_saf (b : CntBank) (u i : Nat) : (s.count b u i).saf = s.saf :=
  s.setCounter_saf b u i _
@[simp] theorem State.countN_ao (b : CntBank) (u i n : Nat) : (s.countN b u i n).ao = s.ao :=
  s.setCounter_ao b u i _
@[simp] theorem State.count_ao (b : CntBank) (u i : Nat) : (s.count b u i).ao = s.ao :=
  s.setCounter_ao b u i _
@[simp] theorem State.countN_slots (b : CntBank) (u i n : Nat) : (s.countN b u i n).slots = s.slots :=
  s.setCounter_slots b u i _
@[simp] theorem State.count_slots (b : CntBank) (u i : Nat) : (s.count b u i).slots = s.slots :=
  s.setCounter_slots b u i _
@[simp] theorem State.countN_tables (b : CntBank) (u i n : Nat) : (s.countN b u i n).tables = s.tables :=
  s.setCounter_tables b u i _
@[simp] theorem State.count_tables (b : CntBank) (u i : Nat) : (s.count b u i).tables = s.tables :=
  s.setCounter_tables b u i _
@[simp] theorem State.countN_tree (b : CntBank) (u i n : Nat) : (s.countN b u i n).tree = s.tree :=
  s.setCounter_tree b u i _
@[simp] theorem State.count_tree (b : CntBank) (u i : Nat) : (s.count b u i).tree = s.tree :=
  s.setCounter_tree b u i _

end Sys2Proof.Machine
end

