-- ==== Sys2Proof/Laws/Finish.lean ====
section
/-! SUPPORT. What the end of every command does (State.fin): it keeps all but messages, pins, pending bits and quiet times, and
leaves no pending bit without an active source. -/

namespace Sys2Proof.Machine

/-! ### Bare states -/

/-- A Platform replaced by one that differs in its quiet time alone. -/
theorem State.bare_setQuiet (s : State) (p : Nat) (q : Option Nat) :
    (State.bare (s.setPlat p { s.plat p with quietSince := q })) = State.bare s := by
  have h : (s.plats.set p { s.plat p with quietSince := q }).map (fun x : Plat => { x with quietSince := none })
      = s.plats.map fun x : Plat => { x with quietSince := none } := by
    rw [List.map_set]
    apply List.ext_getElem
    · simp
    · intro i h1 h2
      simp only [List.getElem_set, List.getElem_map]
      split
      · subst_vars
        simp only [List.length_set, List.length_map] at h1
        simp [State.plat, List.getElem?_eq_getElem h1]
      · rfl
  simp only [State.bare, State.setPlat, h]

/-- A fold of updates that each keep `bare` keeps it. -/
theorem State.bare_foldl {β : Type} (f : State → β → State) (l : List β) (h : ∀ s b, State.bare (f s b) = State.bare s)
    (s : State) : State.bare (l.foldl f s) = State.bare s := by
  induction l generalizing s with
  | nil => rfl
  | cons b l ih => rw [List.foldl_cons, ih, h]

@[simp] theorem State.bare_emit (s : State) (o : Out) : State.bare (s.emit o) = State.bare s := rfl

@[simp] theorem State.bare_keepOlder (s0 s : State) : State.bare (s0.keepOlder s) = State.bare s := rfl

@[simp] theorem State.bare_pinChange (s : State) (n : String) (a b : Bool) :
    State.bare (s.pinChange n a b) = State.bare s := by
  simp only [State.pinChange]; split <;> rfl

@[simp] theorem State.bare_sendVector (s : State) (v : Nat) : State.bare (s.sendVector v) = State.bare s := by
  simp only [State.sendVector]; split <;> rfl

@[simp] theorem State.bare_dropPending (s : State) (v : Nat) : State.bare (s.dropPending v) = State.bare s := by
  simp only [State.dropPending]; split <;> rfl

@[simp] theorem State.bare_vectors (s s0 : State) : State.bare (s.vectors s0) = State.bare s := by
  apply State.bare_foldl
  intro t v
  split
  · split
    · rfl
    · exact State.bare_sendVector t v
  · exact State.bare_dropPending t v

@[simp] theorem State.bare_watchPlat (s : State) (p : Nat) : State.bare (s.watchPlat p) = State.bare s := by
  unfold State.watchPlat
  extract_lets x since
  split
  · rfl
  · exact State.bare_setQuiet s p since

@[simp] theorem State.bare_watchChip (s : State) : State.bare s.watchChip = State.bare s := by
  unfold State.watchChip
  extract_lets since
  split <;> rfl

@[simp] theorem State.bare_watchQuiet (s : State) : State.bare s.watchQuiet = State.bare s := by
  rw [State.watchQuiet, State.bare_watchChip]
  exact State.bare_foldl _ _ State.bare_watchPlat s

/-- The end of a command keeps everything but what `bare` leaves out. -/
@[simp] theorem State.bare_fin (s0 s : State) : State.bare (s0.fin s) = State.bare s := by
  simp only [State.fin, State.bare_pinChange, State.bare_vectors, State.bare_watchQuiet]
  split <;> simp

@[simp] theorem State.bare_pending (s : State) (q : List Instr) : State.bare { s with pending := q } = State.bare s := rfl

/-! ### What bare states share -/

section
variable {s t : State} (h : State.bare s = State.bare t)
include h

theorem State.bare_fs : s.fs = t.fs := (congrArg State.fs h :)
theorem State.bare_nextNo : s.nextNo = t.nextNo := (congrArg State.nextNo h :)
theorem State.bare_regs : s.regs = t.regs := (congrArg State.regs h :)
theorem State.bare_epochs : s.epochs = t.epochs := (congrArg State.epochs h :)
theorem State.bare_cnt : s.cnt = t.cnt := (congrArg State.cnt h :)
theorem State.bare_snap : s.snap = t.snap := (congrArg State.snap h :)
theorem State.bare_ports : s.ports = t.ports := (congrArg State.ports h :)
theorem State.bare_commit : s.commit = t.commit := (congrArg State.commit h :)
theorem State.bare_cls : s.cls = t.cls := (congrArg State.cls h :)
theorem State.bare_tbl : s.tbl = t.tbl := (congrArg State.tbl h :)
theorem State.bare_psf : s.psf = t.psf := (congrArg State.psf h :)
theorem State.bare_sch : s.sch = t.sch := (congrArg State.sch h :)
theorem State.bare_adm : s.adm = t.adm := (congrArg State.adm h :)
theorem State.bare_red : s.red = t.red := (congrArg State.red h :)
theorem State.bare_time : s.time = t.time := (congrArg State.time h :)
theorem State.bare_capt : s.capt = t.capt := (congrArg State.capt h :)
theorem State.bare_boot : s.boot = t.boot := (congrArg State.boot h :)
theorem State.bare_upd : s.upd = t.upd := (congrArg State.upd h :)
theorem State.bare_saf : s.saf = t.saf := (congrArg State.saf h :)
theorem State.bare_tables : s.tables = t.tables := (congrArg State.tables h :)
theorem State.bare_tree : s.tree = t.tree := (congrArg State.tree h :)

theorem State.bare_reg (id : RegId) (i : Nat) : s.reg id i = t.reg id i := by
  simp only [State.reg, State.bare_regs h]

theorem State.bare_counter (b : CntBank) (u i : Nat) : s.counter b u i = t.counter b u i := by
  simp only [State.counter, State.bare_cnt h]

theorem State.bare_port (n : Nat) : s.port n = t.port n := by
  simp only [State.port, State.bare_ports h]

theorem State.bare_tab (x i w : Nat) : s.tab x i w = t.tab x i w := by
  simp only [State.tab, State.bare_tables h]

end

/-! ### Interrupt sources -/

/-- Whether a source is active depends on the registers and the supplies alone. -/
theorem State.active_eq (s : State) (v : Nat) : s.active v = ({ regs := s.regs, boot := s.boot } : State).active v := by
  have h : ∀ o : Option (RegId × RegId × Nat),
      (∀ st en i, o = some (st, en, i) → s.fullReg st i = ({ regs := s.regs, boot := s.boot } : State).fullReg st i
        ∧ s.fullReg en i = ({ regs := s.regs, boot := s.boot } : State).fullReg en i) →
      (match o with
        | none => false
        | some (st, en, i) => s.awake && decide ((s.fullReg st i &&& s.fullReg en i) ≠ 0))
      = (match o with
        | none => false
        | some (st, en, i) => ({ regs := s.regs, boot := s.boot } : State).awake
            && decide ((({ regs := s.regs, boot := s.boot } : State).fullReg st i
              &&& ({ regs := s.regs, boot := s.boot } : State).fullReg en i) ≠ 0)) := by
    intro o ho
    match o with
    | none => rfl
    | some (st, en, i) =>
      simp only [ho st en i rfl]
      rfl
  refine h (vectorRegs v) ?_
  intro st en i hv
  unfold vectorRegs at hv
  split at hv <;> first | (cases hv; exact ⟨rfl, rfl⟩) | skip
  split at hv
  · cases hv; exact ⟨rfl, rfl⟩
  · split at hv
    · cases hv; exact ⟨rfl, rfl⟩
    · split at hv <;> cases hv
      exact ⟨rfl, rfl⟩

/-- States with one set of registers and one boot state have the same active sources. -/
theorem State.active_congr {s t : State} (hr : s.regs = t.regs) (hb : s.boot = t.boot) (v : Nat) :
    s.active v = t.active v := by
  rw [State.active_eq s, State.active_eq t, hr, hb]

/-- Bare-equal states have the same active sources. -/
theorem State.active_bare {s t : State} (h : State.bare s = State.bare t) (v : Nat) : s.active v = t.active v :=
  State.active_congr (State.bare_regs h) (State.bare_boot h) v

end Sys2Proof.Machine
end

