-- ==== Sys2Proof/Laws/Exec.lean ====
section
/-! SUPPORT. What every command can answer: a next state that is its change with the end of a command, or the state as it was
where the event cannot occur or the operands name nothing the switch has. -/

namespace Sys2Proof.Machine

theorem answerFrom_performed {c : Instr} {can : Bool} (s : State) (u : State × State) (hw : c.wf = true) (hc : can = true) :
    answerFrom c can s u = .next { u.1.fin u.2 with pending := s.pending } := by
  simp [answerFrom, hw, hc]

theorem answer_performed {c : Instr} {can : Bool} (s t : State) (hw : c.wf = true) (hc : can = true) :
    answer c can s t = .next { s.fin t with pending := s.pending } := answerFrom_performed s (s, t) hw hc

theorem answer_idle {c : Instr} {can : Bool} (s t : State) (hw : c.wf = true) (hc : can = false) :
    answer c can s t = .next s := by
  simp [answer, answerFrom, hw, hc]

theorem answer_ill_formed {c : Instr} (can : Bool) (s t : State) (hw : c.wf = false) : answer c can s t = .next s := by
  simp [answer, answerFrom, hw]

/-- All that a next state can be. -/
theorem answerFrom_next {c : Instr} {can : Bool} {s u : State} {v : State × State} (h : answerFrom c can s v = .next u) :
    (c.wf = true ∧ can = true ∧ u = { v.1.fin v.2 with pending := s.pending }) ∨ ((c.wf && can) = false ∧ u = s) := by
  cases h
  cases c.wf <;> cases can <;> simp

/-- A performed command completes with its change. -/
theorem answer_bare {c : Instr} {can : Bool} (s t : State) (hw : c.wf = true) (hc : can = true) :
    ∃ u, answer c can s t = .next u ∧ State.bare u = State.bare t ∧ u.pending = s.pending :=
  ⟨_, answer_performed s t hw hc, by simp, rfl⟩

/-- A performed command of several accesses completes with the last one's change. -/
theorem answerFrom_bare {c : Instr} {can : Bool} (s : State) (u : State × State) (hw : c.wf = true) (hc : can = true) :
    ∃ v, answerFrom c can s u = .next v ∧ State.bare v = State.bare u.2 ∧ v.pending = s.pending :=
  ⟨_, answerFrom_performed s u hw hc, by simp, rfl⟩

/-- Every meaning is an answer for the command itself. -/
theorem exec_answer (c : Instr) (s : State) : ∃ can u, exec c s = answerFrom c can s u := by
  cases c <;> exact ⟨_, _, rfl⟩

end Sys2Proof.Machine
end

