-- ==== Sys2Proof/Laws/Bus.lean ====
section
/-! SUPPORT. What a register write comes to: the address names the register, and a write that the lock and the commit groups let
pass does what its register's chapter says. -/

namespace Sys2Proof.Machine

/-- An offset in a view's 64 KiB lies in that view (R4). -/
theorem viewAt_no (w : View) (off : Nat) (ho : off < 0x10000) : viewAt (w.no * 0x10000 + off) = w := by
  cases w
  · have h : View.normal.no = 0 := rfl
    unfold viewAt
    rw [if_pos (by omega)]
  · have h : View.set.no = 1 := rfl
    unfold viewAt
    rw [if_neg (by omega), if_pos (by omega)]
  · have h : View.clr.no = 2 := rfl
    unfold viewAt
    rw [if_neg (by omega), if_neg (by omega), if_pos (by omega)]
  · have h : View.tgl.no = 3 := rfl
    unfold viewAt
    rw [if_neg (by omega), if_neg (by omega), if_neg (by omega)]

/-- The address of a register of a chip-level block names its block, view and offset (R498, R499). -/
theorem decodeAddr_chip (b : Blk) (w : View) (off : Nat) (hb : b.no < 13) (ho : off < 0x10000) :
    decodeAddr (regAddr b w off) = some (b, w, off) := by
  have hw : w.no < 4 := by cases w <;> decide
  have key : ∀ n : Nat, n < 13 → Blk.ofNo n = some b → b.base = n * 0x40000 →
      decodeAddr (regAddr b w off) = some (b, w, off) := by
    intro n hn hof hbase
    have h1 : regAddr b w off < 0x340000 := by simp only [regAddr, hbase]; omega
    have h2 : regAddr b w off / 0x40000 = n := by simp only [regAddr, hbase]; omega
    have h3 : regAddr b w off % 0x40000 = w.no * 0x10000 + off := by simp only [regAddr, hbase]; omega
    have h4 : regAddr b w off % 0x10000 = off := by simp only [regAddr, hbase]; omega
    have h5 := viewAt_no w off ho
    unfold decodeAddr
    rw [if_pos h1, h2, h3, h4, h5, hof]
    rfl
  cases b <;> first
    | exact key _ hb rfl rfl
    | (exfalso; simp only [Blk.no] at hb; omega)

/-- The address of a register of a Platform's block names that Platform, the view and the offset (R498, R499). -/
theorem decodeAddr_plat (p : Nat) (w : View) (off : Nat) (hp : p < 8) (ho : off < 0x10000) :
    decodeAddr (regAddr (.plat p) w off) = some (.plat p, w, off) := by
  have hw : w.no < 4 := by cases w <;> decide
  have h0 : regAddr (.plat p) w off = 0x400000 + p * 0x80000 + w.no * 0x10000 + off := rfl
  have h1 : ¬ regAddr (.plat p) w off < 0x340000 := by omega
  have h2 : 0x400000 ≤ regAddr (.plat p) w off ∧ regAddr (.plat p) w off < 0x800000 := by omega
  have h3 : (regAddr (.plat p) w off - 0x400000) % 0x80000 = w.no * 0x10000 + off := by omega
  have h4 : (regAddr (.plat p) w off - 0x400000) / 0x80000 = p := by omega
  have h5 : regAddr (.plat p) w off % 0x10000 = off := by omega
  have h6 := viewAt_no w off ho
  have h7 : w.no * 0x10000 + off < 0x40000 := by omega
  unfold decodeAddr
  rw [if_neg h1, if_pos h2]
  dsimp only
  rw [h3, h4, h5, h6, if_pos h7]

/-- The address of a register of the PERF block (R498, R499). -/
theorem decodeAddr_perf (w : View) (off : Nat) (ho : off < 0x10000) :
    decodeAddr (regAddr .perf w off) = some (.perf, w, off) := by
  have hw : w.no < 4 := by cases w <;> decide
  have h0 : regAddr .perf w off = 0x800000 + w.no * 0x10000 + off := rfl
  have h1 : ¬ regAddr .perf w off < 0x340000 := by omega
  have h2 : ¬ (0x400000 ≤ regAddr .perf w off ∧ regAddr .perf w off < 0x800000) := by omega
  have h3 : 0x800000 ≤ regAddr .perf w off ∧ regAddr .perf w off < 0x840000 := by omega
  have h4 : regAddr .perf w off % 0x40000 = w.no * 0x10000 + off := by omega
  have h5 : regAddr .perf w off % 0x10000 = off := by omega
  unfold decodeAddr
  rw [if_neg h1, if_neg h2, if_pos h3, h4, h5, viewAt_no w off ho]

/-- The address of any register names its block, view and offset (R498, R499). -/
theorem decodeAddr_regAddr (b : Blk) (w : View) (off : Nat) (hb : b.ok = true) (ho : off < 0x10000) :
    decodeAddr (regAddr b w off) = some (b, w, off) := by
  cases b
  case plat p => exact decodeAddr_plat p w off (by simpa [Blk.ok] using hb) ho
  case perf => exact decodeAddr_perf w off ho
  all_goals exact decodeAddr_chip _ w off (by decide) ho

/-- A word write through a view other than CLR is the write itself: no message is sent again. -/
theorem State.bus_eq (s : State) (src : Src) (b : Blk) (w : View) (off a : Nat) (v : Word)
    (ha : decodeAddr a = some (b, w, off)) (hw : w ≠ .clr) : s.bus src a v = s.busWrite src a v := by
  unfold State.bus State.again
  rw [ha]
  cases w <;> first | rfl | exact absurd rfl hw

/-- The bytes of a word, sent as one aligned request, are that word (R347). -/
theorem requestWords_word (a : Nat) (v : Word) (ha : a % 4 = 0) : requestWords a (leBytes 4 v.toNat) = some [v] := by
  have hv : Word.ofNat (le (leBytes 4 v.toNat) 0 4) = v := by
    have := v.isLt
    apply BitVec.eq_of_toNat_eq
    simp [Word.ofNat, le, sliceZ, leBytes, leNat, Byte.ofNat]
    omega
  have hl : (leBytes 4 v.toNat).length = 4 := by simp [leBytes]
  unfold requestWords
  rw [hl, if_pos ⟨ha, by decide, by decide, by decide⟩]
  simp [wordsOf, hv, List.range_succ]

/-- A register's address in the normal view lies in BAR0, in the first 64 KiB of its block. -/
theorem regAddr_normal (b : Blk) (off : Nat) (hb : b.ok = true) (ho : off < 0x10000) :
    regAddr b .normal off < 0x4000000 ∧ regAddr b .normal off % 0x40000 < 0x10000 := by
  have h0 : regAddr b .normal off = b.base + off := by simp [regAddr, View.no]
  rw [h0]
  cases b <;> simp [Blk.base, Blk.no, Blk.ok] at * <;> omega

/-- The views of a register lie 64 KiB apart (R4). -/
theorem regAddr_view (b : Blk) (w : View) (off : Nat) : regAddr b .normal off + w.no * 0x10000 = regAddr b w off := by
  simp [regAddr, View.no]; omega

/-- A register's address is aligned where its offset is. -/
theorem regAddr_mod (b : Blk) (w : View) (off : Nat) (h : off % 4 = 0) : regAddr b w off % 4 = 0 := by
  have : b.base % 4 = 0 := by
    cases b <;> simp [Blk.base, Blk.no]
    omega
  unfold regAddr
  omega

/-- A message sent again leaves everything else alone. -/
theorem State.bare_again (s0 s : State) (a : Nat) : State.bare (s0.again s a) = State.bare s := by
  unfold State.again
  split
  · split
    · split
      · exact State.bare_sendVector s _
      · rfl
    · rfl
  · rfl

/-- A word write comes to the access of the register that its address names. -/
theorem State.busWrite_run (s : State) (src : Src) (b : Blk) (w : View) (off a : Nat) (id : RegId) (i : Nat) (win : Bool)
    (v : Word) (h4 : a % 4 = 0) (ha : decodeAddr a = some (b, w, off)) (hr : s.regAt b off = some (id, i, win))
    (hn : win = true → s.noPort = false)
    (hs : s.opens src b) :
    s.busWrite src a v = (s.access src b off w id i v).run s := by
  have haw : s.awake = true := hs.1
  unfold State.busWrite
  rw [if_neg (by simp [h4, haw, hs.2.2]), ha]
  simp only [hr]
  rw [if_neg ?_, if_neg (by intro h; simp [hn h.1] at h)]
  intro ⟨h1, h2, h3⟩
  rcases hs.2.1 with h | h | h
  · exact h1 h
  · exact h2 h
  · exact h3 h

/-- An access that names a writable bit, to a register with neither lockable bits nor a commit group, does what the register's
chapter says. -/
theorem Access.run_act (x : Access) (s : State) (hl : x.id.rwlMask = 0) (hg : groupOf x.id x.i = none)
    (hm : x.mask ≠ 0 ∨ x.id = .safWdog) : x.run s = x.act s := by
  have hu : x.unlocked s s = (x, s) := by
    simp [Access.unlocked, hl, Word.ofNat]
  simp only [Access.run, hu, hg]
  rw [if_neg]
  rintro ⟨h1, h2⟩
  rcases hm with h | h
  · exact h h1
  · exact h2 h

/-! ### The commands that write a register -/

/-- An access completes with its change. -/
theorem completes_access {c : Instr} {s t : State} (hw : c.wf = true) (he : exec c s = Machine.access c s t) :
    completes c s t := by
  obtain ⟨u, h1, h2, h3⟩ := answer_bare (c := c) (can := true) s t hw rfl
  exact ⟨u, he.trans h1, h2, h3⟩

/-- An access of several words completes with its last change. -/
theorem completes_writes {c : Instr} {s : State} {u : State × State} (hw : c.wf = true)
    (he : exec c s = Machine.answerFrom c true s u) : completes c s u.2 := by
  obtain ⟨v, h1, h2, h3⟩ := answerFrom_bare (c := c) (can := true) s u hw rfl
  exact ⟨v, he.trans h1, h2, h3⟩

/-- Completion with one state is completion with any that has the same `bare`. -/
theorem completes_of_bare {c : Instr} {s t t' : State} (h : completes c s t) (hb : t.bare = t'.bare) : completes c s t' := by
  obtain ⟨u, h1, h2, h3⟩ := h
  exact ⟨u, h1, h2.trans hb, h3⟩

section
variable {s : State} {src : Src} {b : Blk} {off : Nat} {id : RegId} {i : Nat} {win : Bool} (v : Word)
  (hb : b.ok = true) (ho : off < 0x10000) (h4 : off % 4 = 0) (hr : s.regAt b off = some (id, i, win))
  (hn : win = true → s.noPort = false) (hs : s.opens src b)
include hb ho h4 hr hn hs

theorem bus_run (w : View) : (s.bus src (regAddr b w off) v).bare = ((s.access src b off w id i v).run s).bare := by
  rw [State.bus, State.bare_again,
    State.busWrite_run s src b w off _ id i win v (regAddr_mod b w off h4) (decodeAddr_regAddr b w off hb ho) hr hn hs]

theorem completes_regWrite :
    completes (.registerWrite src .bar0 (regAddr b .normal off) (leBytes 4 v.toNat)) s
      ((s.access src b off .normal id i v).run s) := by
  refine completes_of_bare (completes_writes (by simp [Instr.wf]) rfl) ?_
  have h := bus_run v hb ho h4 hr hn hs .normal
  have hlt := (regAddr_normal b off hb ho).1
  have hmod := regAddr_mod b .normal off h4
  have hu : s.unsupported .bar0 (regAddr b .normal off) (leBytes 4 v.toNat).length = false := by
    have hlen : (leBytes 4 v.toNat).length = 4 := rfl
    rw [hlen, State.unsupported, Bool.and_eq_false_iff, decide_eq_false_iff_not]
    omega
  simp only [State.request, requestWords_word _ v hmod]
  rw [hu, if_neg (by simp), if_pos hlt]
  exact h

theorem completes_setView :
    completes (.setViewWrite src (regAddr b .normal off) v) s ((s.access src b off .set id i v).run s) := by
  refine completes_of_bare (completes_access ?_ rfl) ?_
  · have := regAddr_normal b off hb ho
    simp [Instr.wf, isNormal, this]
  · have h := bus_run v hb ho h4 hr hn hs .set
    rwa [← regAddr_view] at h

theorem completes_clrView :
    completes (.clrViewWrite src (regAddr b .normal off) v) s ((s.access src b off .clr id i v).run s) := by
  refine completes_of_bare (completes_access ?_ rfl) ?_
  · have := regAddr_normal b off hb ho
    simp [Instr.wf, isNormal, this]
  · have h := bus_run v hb ho h4 hr hn hs .clr
    rwa [← regAddr_view] at h

theorem completes_tglView :
    completes (.tglViewWrite src (regAddr b .normal off) v) s ((s.access src b off .tgl id i v).run s) := by
  refine completes_of_bare (completes_access ?_ rfl) ?_
  · have := regAddr_normal b off hb ho
    simp [Instr.wf, isNormal, this]
  · have h := bus_run v hb ho h4 hr hn hs .tgl
    rwa [← regAddr_view] at h

end

/-- A write of a number to a register comes to the access of that register. -/
theorem State.put_run {s : State} {src : Src} {b : Blk} {w : View} {off : Nat} {id : RegId} {i : Nat} {win : Bool} (v : Nat)
    (hb : b.ok = true) (ho : off < 0x10000) (h4 : off % 4 = 0) (hr : s.regAt b off = some (id, i, win))
    (hn : win = true → s.noPort = false) (hs : s.opens src b) :
    (s.put src b w off v).bare = ((s.access src b off w id i (Word.ofNat v)).run s).bare :=
  bus_run (Word.ofNat v) hb ho h4 hr hn hs w

end Sys2Proof.Machine
end

