-- ==== Sys2Proof/Laws/Commands.lean ====
section
/-! SUPPORT. How a command completes: an event that occurs with its change, one that cannot with none, and a command that
writes a register with what the register's chapter makes of the write. -/

namespace Sys2Proof.Machine

/-- A command whose condition holds completes with its change. -/
theorem completes_answer {c : Instr} {can : Bool} {s t : State} (he : exec c s = answer c can s t) (hw : c.wf = true)
    (hc : can = true) : completes c s t := by
  obtain ⟨u, h1, h2, h3⟩ := answer_bare s t hw hc
  exact ⟨u, he.trans h1, h2, h3⟩

/-- A command whose condition does not hold changes nothing. -/
theorem completes_idle {c : Instr} {can : Bool} {s t : State} (he : exec c s = answer c can s t) (hw : c.wf = true)
    (hc : can = false) : completes c s s :=
  ⟨s, he.trans (answer_idle s t hw hc), rfl, rfl⟩

/-- An event that can occur in a running switch completes with its change. -/
theorem completes_event {c : Instr} {can : Bool} {s t : State} (he : exec c s = event c can s t) (hw : c.wf = true)
    (hr : s.running = true) (hc : can = true) : completes c s t :=
  completes_answer he hw (by simp [hr, hc])

/-- An event that cannot occur changes nothing. -/
theorem completes_not_event {c : Instr} {can : Bool} {s t : State} (he : exec c s = event c can s t) (hw : c.wf = true)
    (hc : can = false) : completes c s s :=
  completes_idle he hw (by simp [hc])

/-- The messages that an answer sends come on top of those its change sent. -/
theorem exec_out {c : Instr} {can : Bool} {s t : State} (he : exec c s = answer c can s t) (hw : c.wf = true)
    (hc : can = true) : exec c s = .next { s.fin t with pending := s.pending } :=
  he.trans (answer_performed s t hw hc)

/-- An agent's write through a view of a register in no commit group, with no lockable bits: the register's chapter applies. -/
theorem completes_put {c : Instr} {s : State} {src : Src} {b : Blk} {w : View} {off v : Nat} {id : RegId} {i : Nat}
    (he : exec c s = Machine.access c s (s.put src b w off v)) (hw : c.wf = true) (hs : s.takes src)
    (hb : b.ok = true) (ho : off < 0x10000) (h4 : off % 4 = 0) (hr : s.regAt b off = some (id, i, false))
    (hl : id.rwlMask = 0) (hg : groupOf id i = none)
    (hm : (w.touched (Word.ofNat v) &&& Word.ofNat (id.writableBy src)) ≠ 0 ∨ id = .safWdog) :
    completes c s ((s.access src b off w id i (Word.ofNat v)).act s) := by
  have hs' : s.opens src b := ⟨hs.1, hs.2.1.elim .inl fun h => .inr (.inl h), hs.2.2⟩
  refine completes_of_bare (completes_access hw he) ?_
  rw [State.put_run v hb ho h4 hr (by simp) hs', Access.run_act _ _ hl hg hm]

end Sys2Proof.Machine
end

