-- ==== Sys2Proof/Laws/PerInstr.lean ====
section
/-! SUPPORT. What holds of every command as syntax, one lemma a command: a well-formed command names only Platforms that the
switch has (R10). -/

namespace Sys2Proof.Laws

/-- The Platform of an egress port: of a line port its own (R10), of the Coupler and the host queue groups none. -/
def Named.ofMac (n : Nat) : List Nat := if n = 520 ∨ (528 ≤ n ∧ n ≤ 543) then [] else [n / 64]

/-- The Platform that an error of a memory names, where it lies in a Platform's (R464). -/
def Named.ofMem : Option MemErr → List Nat
  | some ⟨.cell (.source p _) _, _⟩ | some ⟨.metadata p, _⟩ | some ⟨.queue p _ _, _⟩ => [p]
  | some ⟨.cell (.queued e _ _) _, _⟩ | some ⟨.cell (.handed e _) _, _⟩ | some ⟨.cell (.leaving e) _, _⟩ => Named.ofMac e
  | _ => []

/-- The Platforms that a command names, by their number or by a port of theirs. -/
def Named.plats : Instr → List Nat
  | .registerWrite _ _ _ _ => []
  | .setViewWrite _ _ _ => []
  | .clrViewWrite _ _ _ => []
  | .tglViewWrite _ _ _ => []
  | .lockSet _ _ => []
  | .commitGroup _ _ _ => []
  | .commitAll _ _ => []
  | .commitEdge => []
  | .cntSnap _ plat _ => [plat]
  | .cntSnapDone plat => [plat]
  | .cellDraw port _ _ => [port / 64]
  | .frameReceive port _ => [port / 64]
  | .pauseReceived port => [port / 64]
  | .pfcReceived port => [port / 64]
  | .pauseTimerExpiry port _ => [port / 64]
  | .firstPass plat => [plat]
  | .turntablePass plat => [plat]
  | .extraCopyWrite plat => [plat]
  | .waitListAdmit plat _ => [plat]
  | .xonSent port _ => ofMac port
  | .xoffRefresh port _ => ofMac port
  | .copySourceXon plat => [plat]
  | .pauseFrameTx port => ofMac port
  | .transmissionSelection port _ => ofMac port
  | .projectedStart port _ => ofMac port
  | .frameStart port _ => ofMac port
  | .txUnderrun port _ => ofMac port
  | .txFrameComplete port => ofMac port
  | .lpiEntry port => [port / 64]
  | .linkDown port _ _ => [port / 64]
  | .linkUp port _ => [port / 64]
  | .deadlineDrop port _ => ofMac port
  | .holdExpiry port => ofMac port
  | .swap _ _ _ => []
  | .swapEdge => []
  | .genRetired => []
  | .learnEventApply plat => [plat]
  | .agingSweep => []
  | .spreadCopy => []
  | .flush _ _ => []
  | .flushDone => []
  | .claim _ _ => []
  | .claimGranted _ => []
  | .claimRelease _ _ => []
  | .tblCmdRead _ _ _ => []
  | .tblCmdWrite _ _ _ => []
  | .tblCmdLookup _ _ _ => []
  | .tblCmdInsert _ _ _ => []
  | .tblCmdDelete _ _ _ => []
  | .cmdDone => []
  | .tableDmaRead _ => []
  | .tableDmaWrite _ _ => []
  | .gateScheduleStart _ => []
  | .timetableStart port => ofMac port
  | .recoverGo _ => []
  | .testWindowSet _ _ => []
  | .startupWindowClose => []
  | .testWindowExpiry => []
  | .recoveryWindowClose => []
  | .samplePeriod => []
  | .wakeAhead plat => [plat]
  | .check _ => []
  | .checkDone => []
  | .recoveryReset _ => []
  | .latentErrorTest _ => []
  | .couplerLinkUp => []
  | .couplerLinkDown => []
  | .healthFrameSend => []
  | .healthFrameReceive _ => []
  | .partnerSilent => []
  | .haltNoticeReceive _ => []
  | .couplerFrameReceive _ => []
  | .resetPartner _ => []
  | .partnerResetTimeout => []
  | .resetRequestSend => []
  | .resetRequestReceive _ => []
  | .timeCmdStep _ _ => []
  | .timeCmdSet _ _ => []
  | .timeCmdTrim _ _ => []
  | .timeCmdApply => []
  | .timeSnap _ => []
  | .timeSnapTake => []
  | .timePageRefresh => []
  | .timeSave => []
  | .tcRecordAged plat => [plat]
  | .ppsOutPulse _ => []
  | .ppsOutPulseEnd _ => []
  | .ppsInEdge _ _ => []
  | .captureDrainRead plat => [plat]
  | .recordWrite => []
  | .blockCloseTimeout => []
  | .openLenSave => []
  | .triggerWrite _ => []
  | .gpioTrigger _ _ => []
  | .windowPostEnd _ => []
  | .windowSealed _ => []
  | .windowCommit _ _ => []
  | .windowRelease _ _ => []
  | .windowCommitDone _ => []
  | .windowCommitError _ => []
  | .cxlError => []
  | .functionReset _ => []
  | .spiWrite _ => []
  | .spiRead _ _ => []
  | .msixUnmask _ => []
  | .perfCounterWrite _ plat _ _ _ => [plat]
  | .enableUnit _ _ => []
  | .disableUnit _ _ => []
  | .unitIdle _ => []
  | .txDb _ _ _ _ => []
  | .rxDb _ _ _ _ => []
  | .cqDb _ _ _ _ => []
  | .tdDb _ _ => []
  | .tdcDb _ _ => []
  | .hostTxFetch _ _ _ => []
  | .dmaAccessFail _ => []
  | .rxHoldDrop _ _ => []
  | .completionWrite _ => []
  | .cqTimerExpiry _ => []
  | .vaoRise => []
  | .vaoFall => []
  | .pwrgoodFall => []
  | .resetNAssert => []
  | .resetNRelease _ => []
  | .bootInit _ => []
  | .bootIdentity _ => []
  | .bootRestore _ => []
  | .bootLoad _ _ => []
  | .bootApply => []
  | .bootAdmission => []
  | .bootCommit => []
  | .flalithRead _ _ => []
  | .flalithWrite _ _ => []
  | .report _ _ _ => []
  | .windowRead _ _ _ => []
  | .updBegin _ _ _ => []
  | .updPiece _ _ _ _ => []
  | .updStatus _ _ => []
  | .updArm _ _ _ => []
  | .updReboot _ _ _ => []
  | .updRebootDelayEnd => []
  | .updAbort _ => []
  | .keyRoll _ _ => []
  | .debugChallengeRead => []
  | .debugUnlock _ => []
  | .debugReset => []
  | .jtagProvision _ => []
  | .dozeEntry plat => [plat]
  | .sleepEntry plat => [plat]
  | .platformWake plat _ => [plat]
  | .platformRun plat => [plat]
  | .offReturn plat => [plat]
  | .wakeNFall => []
  | .chipRetentionEntry => []
  | .chipWake => []
  | .halt _ _ => []
  | .scrubRead a b => ofMem a ++ ofMem b
  | .safWdog _ => []
  | .watchdogExpiry => []
  | .clockMonitorWindow _ => []
  | .sensorRead _ _ => []
  | .safetySelftest _ => []
  | .lifeHour => []
  | .injectSingleBit _ plat => [plat]
  | .injectDoubleBit _ plat => [plat]
  | .injectCellCrc _ plat => [plat]
  | .injectLockstep _ plat => [plat]
  | .injectClockMonitor _ plat => [plat]
  | .injectPipelineParity _ plat => [plat]
  | .lpiLeadWake port => [port / 64]
  | .receiveLpiChange port _ => [port / 64]
  | .wakeNRise => []
  | .pcieLinkUp _ _ => []
  | .d3hotEntry => []
  | .aocCopyRefresh => []
  | .perfCounterWrap plat _ => [plat]
  | .durationCounterHalfRange _ _ _ => []

/-- A well-formed command names only Platforms that the switch has. -/
def Named.Statement (i : Instr) : Prop := i.wf = true → ∀ p ∈ Named.plats i, p < 8

theorem Named.none_named {i : Instr} (h : Named.plats i = []) : Named.Statement i := fun _ p hp => by simp [h] at hp

theorem Named.plat_named {i : Instr} {q : Nat} (h : Named.plats i = [q]) (hw : i.wf = true → q < 8) : Named.Statement i :=
  fun hi p hp => by
    rw [h, List.mem_singleton] at hp
    exact hp ▸ hw hi

theorem Named.line_named {i : Instr} {n : Nat} (h : Named.plats i = [n / 64]) (hw : i.wf = true → isLine n = true) :
    Named.Statement i :=
  Named.plat_named h fun hi => by
    have := of_decide_eq_true (hw hi)
    omega

theorem Named.ofMac_wf {n p : Nat} (h : isEgress n = true) (hp : p ∈ Named.ofMac n) : p < 8 := by
  rw [Named.ofMac] at hp
  split at hp
  · simp at hp
  · rw [List.mem_singleton] at hp
    simp [isEgress] at h
    omega

theorem Named.mac_named {i : Instr} {n : Nat} (h : Named.plats i = Named.ofMac n)
    (hw : i.wf = true → isEgress n = true) : Named.Statement i := fun hi _ hp => Named.ofMac_wf (hw hi) (h ▸ hp)

theorem Named.left {a b : Bool} (h : (a && b) = true) : a = true := by cases a <;> simp_all

theorem Named.mac_egress {n : Nat} (h : isMac n = true) : isEgress n = true := by
  simp [isMac, isEgress] at *
  omega

theorem Named.registerWrite (src : Src) (bar : Bar) (addr : Nat) (bytes : List Byte) : Named.Statement (.registerWrite src bar addr bytes) :=
  Named.none_named rfl

theorem Named.setViewWrite (src : Src) (addr : Nat) (v : Word) : Named.Statement (.setViewWrite src addr v) :=
  Named.none_named rfl

theorem Named.clrViewWrite (src : Src) (addr : Nat) (v : Word) : Named.Statement (.clrViewWrite src addr v) :=
  Named.none_named rfl

theorem Named.tglViewWrite (src : Src) (addr : Nat) (v : Word) : Named.Statement (.tglViewWrite src addr v) :=
  Named.none_named rfl

theorem Named.lockSet (src : Src) (blk : Nat) : Named.Statement (.lockSet src blk) := Named.none_named rfl

theorem Named.commitGroup (src : Src) (tb : Nat) (group : Nat) : Named.Statement (.commitGroup src tb group) :=
  Named.none_named rfl

theorem Named.commitAll (src : Src) (tb : Nat) : Named.Statement (.commitAll src tb) := Named.none_named rfl

theorem Named.commitEdge : Named.Statement (.commitEdge) := Named.none_named rfl

theorem Named.cntSnap (src : Src) (plat : Nat) (port : Nat) : Named.Statement (.cntSnap src plat port) :=
  Named.plat_named rfl fun h => of_decide_eq_true (Named.left h)

theorem Named.cntSnapDone (plat : Nat) : Named.Statement (.cntSnapDone plat) :=
  Named.plat_named rfl fun h => of_decide_eq_true h

theorem Named.cellDraw (port : Nat) (sfd : Bool) (data : List Byte) : Named.Statement (.cellDraw port sfd data) :=
  Named.line_named rfl fun h => (Named.left (Named.left h))

theorem Named.frameReceive (port : Nat) (codeErr : Bool) : Named.Statement (.frameReceive port codeErr) :=
  Named.line_named rfl fun h => h

theorem Named.pauseReceived (port : Nat) : Named.Statement (.pauseReceived port) :=
  Named.line_named rfl fun h => h

theorem Named.pfcReceived (port : Nat) : Named.Statement (.pfcReceived port) :=
  Named.line_named rfl fun h => h

theorem Named.pauseTimerExpiry (port : Nat) (cls : Nat) : Named.Statement (.pauseTimerExpiry port cls) :=
  Named.line_named rfl fun h => (Named.left h)

theorem Named.firstPass (plat : Nat) : Named.Statement (.firstPass plat) :=
  Named.plat_named rfl fun h => of_decide_eq_true h

theorem Named.turntablePass (plat : Nat) : Named.Statement (.turntablePass plat) :=
  Named.plat_named rfl fun h => of_decide_eq_true h

theorem Named.extraCopyWrite (plat : Nat) : Named.Statement (.extraCopyWrite plat) :=
  Named.plat_named rfl fun h => of_decide_eq_true h

theorem Named.waitListAdmit (plat : Nat) (i : Nat) : Named.Statement (.waitListAdmit plat i) :=
  Named.plat_named rfl fun h => of_decide_eq_true h

theorem Named.xonSent (port : Nat) (acct : Nat) : Named.Statement (.xonSent port acct) :=
  Named.mac_named rfl fun h => Named.mac_egress (Named.left h)

theorem Named.xoffRefresh (port : Nat) (acct : Nat) : Named.Statement (.xoffRefresh port acct) :=
  Named.mac_named rfl fun h => Named.mac_egress (Named.left h)

theorem Named.copySourceXon (plat : Nat) : Named.Statement (.copySourceXon plat) :=
  Named.plat_named rfl fun h => of_decide_eq_true h

theorem Named.pauseFrameTx (port : Nat) : Named.Statement (.pauseFrameTx port) :=
  Named.mac_named rfl fun h => Named.mac_egress h

theorem Named.transmissionSelection (port : Nat) (bufs : List (List Word)) : Named.Statement (.transmissionSelection port bufs) :=
  Named.mac_named rfl fun h => h

theorem Named.projectedStart (port : Nat) (cells : Nat) : Named.Statement (.projectedStart port cells) :=
  Named.mac_named rfl fun h => Named.mac_egress h

theorem Named.frameStart (port : Nat) (cells : Nat) : Named.Statement (.frameStart port cells) :=
  Named.mac_named rfl fun h => Named.mac_egress h

theorem Named.txUnderrun (port : Nat) (sent : Nat) : Named.Statement (.txUnderrun port sent) :=
  Named.mac_named rfl fun h => Named.mac_egress h

theorem Named.txFrameComplete (port : Nat) : Named.Statement (.txFrameComplete port) :=
  Named.mac_named rfl fun h => Named.mac_egress h

theorem Named.lpiEntry (port : Nat) : Named.Statement (.lpiEntry port) := Named.line_named rfl fun h => h

theorem Named.linkDown (port : Nat) (localFault : Bool) (remoteFault : Bool) : Named.Statement (.linkDown port localFault remoteFault) :=
  Named.line_named rfl fun h => h

theorem Named.linkUp (port : Nat) (speed : Nat) : Named.Statement (.linkUp port speed) :=
  Named.line_named rfl fun h => (Named.left h)

theorem Named.deadlineDrop (port : Nat) (cls : Nat) : Named.Statement (.deadlineDrop port cls) :=
  Named.mac_named rfl fun h => Named.mac_egress (Named.left h)

theorem Named.holdExpiry (port : Nat) : Named.Statement (.holdExpiry port) :=
  Named.mac_named rfl fun h => Named.mac_egress h

theorem Named.swap (src : Src) (timed : Bool) (tb : Nat) : Named.Statement (.swap src timed tb) := Named.none_named rfl

theorem Named.swapEdge : Named.Statement (.swapEdge) := Named.none_named rfl

theorem Named.genRetired : Named.Statement (.genRetired) := Named.none_named rfl

theorem Named.learnEventApply (plat : Nat) : Named.Statement (.learnEventApply plat) :=
  Named.plat_named rfl fun h => of_decide_eq_true h

theorem Named.agingSweep : Named.Statement (.agingSweep) := Named.none_named rfl

theorem Named.spreadCopy : Named.Statement (.spreadCopy) := Named.none_named rfl

theorem Named.flush (src : Src) (v : Word) : Named.Statement (.flush src v) := Named.none_named rfl

theorem Named.flushDone : Named.Statement (.flushDone) := Named.none_named rfl

theorem Named.claim (src : Src) (target : Nat) : Named.Statement (.claim src target) := Named.none_named rfl

theorem Named.claimGranted (target : Nat) : Named.Statement (.claimGranted target) := Named.none_named rfl

theorem Named.claimRelease (src : Src) (target : Nat) : Named.Statement (.claimRelease src target) := Named.none_named rfl

theorem Named.tblCmdRead (src : Src) (target : Nat) (index : Nat) : Named.Statement (.tblCmdRead src target index) :=
  Named.none_named rfl

theorem Named.tblCmdWrite (src : Src) (target : Nat) (index : Nat) : Named.Statement (.tblCmdWrite src target index) :=
  Named.none_named rfl

theorem Named.tblCmdLookup (src : Src) (target : Nat) (index : Nat) : Named.Statement (.tblCmdLookup src target index) :=
  Named.none_named rfl

theorem Named.tblCmdInsert (src : Src) (target : Nat) (index : Nat) : Named.Statement (.tblCmdInsert src target index) :=
  Named.none_named rfl

theorem Named.tblCmdDelete (src : Src) (target : Nat) (index : Nat) : Named.Statement (.tblCmdDelete src target index) :=
  Named.none_named rfl

theorem Named.cmdDone : Named.Statement (.cmdDone) := Named.none_named rfl

theorem Named.tableDmaRead (run : DmaRun) : Named.Statement (.tableDmaRead run) := Named.none_named rfl

theorem Named.tableDmaWrite (run : DmaRun) (data : List Word) : Named.Statement (.tableDmaWrite run data) :=
  Named.none_named rfl

theorem Named.gateScheduleStart (sched : Nat) : Named.Statement (.gateScheduleStart sched) := Named.none_named rfl

theorem Named.timetableStart (port : Nat) : Named.Statement (.timetableStart port) :=
  Named.mac_named rfl fun h => Named.mac_egress h

theorem Named.recoverGo (src : Src) : Named.Statement (.recoverGo src) := Named.none_named rfl

theorem Named.testWindowSet (src : Src) (on : Bool) : Named.Statement (.testWindowSet src on) := Named.none_named rfl

theorem Named.startupWindowClose : Named.Statement (.startupWindowClose) := Named.none_named rfl

theorem Named.testWindowExpiry : Named.Statement (.testWindowExpiry) := Named.none_named rfl

theorem Named.recoveryWindowClose : Named.Statement (.recoveryWindowClose) := Named.none_named rfl

theorem Named.samplePeriod : Named.Statement (.samplePeriod) := Named.none_named rfl

theorem Named.wakeAhead (plat : Nat) : Named.Statement (.wakeAhead plat) :=
  Named.plat_named rfl fun h => of_decide_eq_true h

theorem Named.check (src : Src) : Named.Statement (.check src) := Named.none_named rfl

theorem Named.checkDone : Named.Statement (.checkDone) := Named.none_named rfl

theorem Named.recoveryReset (fn : Nat) : Named.Statement (.recoveryReset fn) := Named.none_named rfl

theorem Named.latentErrorTest (fn : Nat) : Named.Statement (.latentErrorTest fn) := Named.none_named rfl

theorem Named.couplerLinkUp : Named.Statement (.couplerLinkUp) := Named.none_named rfl

theorem Named.couplerLinkDown : Named.Statement (.couplerLinkDown) := Named.none_named rfl

theorem Named.healthFrameSend : Named.Statement (.healthFrameSend) := Named.none_named rfl

theorem Named.healthFrameReceive (frame : List Byte) : Named.Statement (.healthFrameReceive frame) := Named.none_named rfl

theorem Named.partnerSilent : Named.Statement (.partnerSilent) := Named.none_named rfl

theorem Named.haltNoticeReceive (frame : List Byte) : Named.Statement (.haltNoticeReceive frame) := Named.none_named rfl

theorem Named.couplerFrameReceive (frame : List Byte) : Named.Statement (.couplerFrameReceive frame) := Named.none_named rfl

theorem Named.resetPartner (src : Src) : Named.Statement (.resetPartner src) := Named.none_named rfl

theorem Named.partnerResetTimeout : Named.Statement (.partnerResetTimeout) := Named.none_named rfl

theorem Named.resetRequestSend : Named.Statement (.resetRequestSend) := Named.none_named rfl

theorem Named.resetRequestReceive (frame : List Byte) : Named.Statement (.resetRequestReceive frame) := Named.none_named rfl

theorem Named.timeCmdStep (src : Src) (tb : Nat) : Named.Statement (.timeCmdStep src tb) := Named.none_named rfl

theorem Named.timeCmdSet (src : Src) (tb : Nat) : Named.Statement (.timeCmdSet src tb) := Named.none_named rfl

theorem Named.timeCmdTrim (src : Src) (tb : Nat) : Named.Statement (.timeCmdTrim src tb) := Named.none_named rfl

theorem Named.timeCmdApply : Named.Statement (.timeCmdApply) := Named.none_named rfl

theorem Named.timeSnap (src : Src) : Named.Statement (.timeSnap src) := Named.none_named rfl

theorem Named.timeSnapTake : Named.Statement (.timeSnapTake) := Named.none_named rfl

theorem Named.timePageRefresh : Named.Statement (.timePageRefresh) := Named.none_named rfl

theorem Named.timeSave : Named.Statement (.timeSave) := Named.none_named rfl

theorem Named.tcRecordAged (plat : Nat) : Named.Statement (.tcRecordAged plat) :=
  Named.plat_named rfl fun h => of_decide_eq_true h

theorem Named.ppsOutPulse (n : Nat) : Named.Statement (.ppsOutPulse n) := Named.none_named rfl

theorem Named.ppsOutPulseEnd (n : Nat) : Named.Statement (.ppsOutPulseEnd n) := Named.none_named rfl

theorem Named.ppsInEdge (n : Nat) (highNs : Nat) : Named.Statement (.ppsInEdge n highNs) := Named.none_named rfl

theorem Named.captureDrainRead (plat : Nat) : Named.Statement (.captureDrainRead plat) :=
  Named.plat_named rfl fun h => of_decide_eq_true h

theorem Named.recordWrite : Named.Statement (.recordWrite) := Named.none_named rfl

theorem Named.blockCloseTimeout : Named.Statement (.blockCloseTimeout) := Named.none_named rfl

theorem Named.openLenSave : Named.Statement (.openLenSave) := Named.none_named rfl

theorem Named.triggerWrite (src : Src) : Named.Statement (.triggerWrite src) := Named.none_named rfl

theorem Named.gpioTrigger (pin : Nat) (rising : Bool) : Named.Statement (.gpioTrigger pin rising) := Named.none_named rfl

theorem Named.windowPostEnd (w : Nat) : Named.Statement (.windowPostEnd w) := Named.none_named rfl

theorem Named.windowSealed (w : Nat) : Named.Statement (.windowSealed w) := Named.none_named rfl

theorem Named.windowCommit (src : Src) (mask : Nat) : Named.Statement (.windowCommit src mask) := Named.none_named rfl

theorem Named.windowRelease (src : Src) (mask : Nat) : Named.Statement (.windowRelease src mask) := Named.none_named rfl

theorem Named.windowCommitDone (w : Nat) : Named.Statement (.windowCommitDone w) := Named.none_named rfl

theorem Named.windowCommitError (w : Nat) : Named.Statement (.windowCommitError w) := Named.none_named rfl

theorem Named.cxlError : Named.Statement (.cxlError) := Named.none_named rfl

theorem Named.functionReset (cause : FnReset) : Named.Statement (.functionReset cause) := Named.none_named rfl

theorem Named.spiWrite (bytes : List Byte) : Named.Statement (.spiWrite bytes) := Named.none_named rfl

theorem Named.spiRead (bytes : List Byte) (words : Nat) : Named.Statement (.spiRead bytes words) := Named.none_named rfl

theorem Named.msixUnmask (v : Nat) : Named.Statement (.msixUnmask v) := Named.none_named rfl

theorem Named.perfCounterWrite (src : Src) (plat : Nat) (n : Nat) (hi : Bool) (v : Word) : Named.Statement (.perfCounterWrite src plat n hi v) :=
  Named.plat_named rfl fun h => of_decide_eq_true (Named.left h)

theorem Named.enableUnit (src : Src) (u : Nat) : Named.Statement (.enableUnit src u) := Named.none_named rfl

theorem Named.disableUnit (src : Src) (u : Nat) : Named.Statement (.disableUnit src u) := Named.none_named rfl

theorem Named.unitIdle (u : Nat) : Named.Statement (.unitIdle u) := Named.none_named rfl

theorem Named.txDb (src : Src) (q : Nat) (v : Nat) (user : Bool) : Named.Statement (.txDb src q v user) := Named.none_named rfl

theorem Named.rxDb (src : Src) (q : Nat) (v : Nat) (user : Bool) : Named.Statement (.rxDb src q v user) := Named.none_named rfl

theorem Named.cqDb (src : Src) (q : Nat) (v : Nat) (user : Bool) : Named.Statement (.cqDb src q v user) := Named.none_named rfl

theorem Named.tdDb (src : Src) (v : Nat) : Named.Statement (.tdDb src v) := Named.none_named rfl

theorem Named.tdcDb (src : Src) (v : Nat) : Named.Statement (.tdcDb src v) := Named.none_named rfl

theorem Named.hostTxFetch (q : Nat) (descs : List (List Word)) (data : List Byte) : Named.Statement (.hostTxFetch q descs data) :=
  Named.none_named rfl

theorem Named.dmaAccessFail (what : DmaFail) : Named.Statement (.dmaAccessFail what) := Named.none_named rfl

theorem Named.rxHoldDrop (q : Nat) (cls : Nat) : Named.Statement (.rxHoldDrop q cls) := Named.none_named rfl

theorem Named.completionWrite (u : Nat) : Named.Statement (.completionWrite u) := Named.none_named rfl

theorem Named.cqTimerExpiry (u : Nat) : Named.Statement (.cqTimerExpiry u) := Named.none_named rfl

theorem Named.vaoRise : Named.Statement (.vaoRise) := Named.none_named rfl

theorem Named.vaoFall : Named.Statement (.vaoFall) := Named.none_named rfl

theorem Named.pwrgoodFall : Named.Statement (.pwrgoodFall) := Named.none_named rfl

theorem Named.resetNAssert : Named.Statement (.resetNAssert) := Named.none_named rfl

theorem Named.resetNRelease (straps : Nat) : Named.Statement (.resetNRelease straps) := Named.none_named rfl

theorem Named.bootInit (selftestOk : Bool) : Named.Statement (.bootInit selftestOk) := Named.none_named rfl

theorem Named.bootIdentity (flashOk : Bool) : Named.Statement (.bootIdentity flashOk) := Named.none_named rfl

theorem Named.bootRestore (found : MramCheck) : Named.Statement (.bootRestore found) := Named.none_named rfl

theorem Named.bootLoad (fails : Bool) (engine : Nat) : Named.Statement (.bootLoad fails engine) := Named.none_named rfl

theorem Named.bootApply : Named.Statement (.bootApply) := Named.none_named rfl

theorem Named.bootAdmission : Named.Statement (.bootAdmission) := Named.none_named rfl

theorem Named.bootCommit : Named.Statement (.bootCommit) := Named.none_named rfl

theorem Named.flalithRead (h : FlaHdr) (addrs : List Nat) : Named.Statement (.flalithRead h addrs) := Named.none_named rfl

theorem Named.flalithWrite (h : FlaHdr) (writes : List (Nat × Word)) : Named.Statement (.flalithWrite h writes) :=
  Named.none_named rfl

theorem Named.report (h : FlaHdr) (number : Nat) (offset : Nat) : Named.Statement (.report h number offset) :=
  Named.none_named rfl

theorem Named.windowRead (h : FlaHdr) (w : Nat) (offset : Nat) : Named.Statement (.windowRead h w offset) :=
  Named.none_named rfl

theorem Named.updBegin (h : FlaHdr) (pkg : Nat) (bytes : Nat) : Named.Statement (.updBegin h pkg bytes) := Named.none_named rfl

theorem Named.updPiece (h : FlaHdr) (pkg : Nat) (index : Nat) (piece : Piece) : Named.Statement (.updPiece h pkg index piece) :=
  Named.none_named rfl

theorem Named.updStatus (h : FlaHdr) (from_ : Nat) : Named.Statement (.updStatus h from_) := Named.none_named rfl

theorem Named.updArm (h : FlaHdr) (pkg : Nat) (tries : Nat) : Named.Statement (.updArm h pkg tries) := Named.none_named rfl

theorem Named.updReboot (h : FlaHdr) (delayMs : Nat) (force : Bool) : Named.Statement (.updReboot h delayMs force) :=
  Named.none_named rfl

theorem Named.updRebootDelayEnd : Named.Statement (.updRebootDelayEnd) := Named.none_named rfl

theorem Named.updAbort (h : FlaHdr) : Named.Statement (.updAbort h) := Named.none_named rfl

theorem Named.keyRoll (h : FlaHdr) (key : List Byte) : Named.Statement (.keyRoll h key) := Named.none_named rfl

theorem Named.debugChallengeRead : Named.Statement (.debugChallengeRead) := Named.none_named rfl

theorem Named.debugUnlock (sig : DebugSig) : Named.Statement (.debugUnlock sig) := Named.none_named rfl

theorem Named.debugReset : Named.Statement .debugReset := Named.none_named rfl

theorem Named.jtagProvision (item : JtagItem) : Named.Statement (.jtagProvision item) := Named.none_named rfl

theorem Named.dozeEntry (plat : Nat) : Named.Statement (.dozeEntry plat) :=
  Named.plat_named rfl fun h => of_decide_eq_true h

theorem Named.sleepEntry (plat : Nat) : Named.Statement (.sleepEntry plat) :=
  Named.plat_named rfl fun h => of_decide_eq_true h

theorem Named.platformWake (plat : Nat) (cause : Nat) : Named.Statement (.platformWake plat cause) :=
  Named.plat_named rfl fun h => of_decide_eq_true (Named.left h)

theorem Named.platformRun (plat : Nat) : Named.Statement (.platformRun plat) :=
  Named.plat_named rfl fun h => of_decide_eq_true h

theorem Named.offReturn (plat : Nat) : Named.Statement (.offReturn plat) :=
  Named.plat_named rfl fun h => of_decide_eq_true h

theorem Named.wakeNFall : Named.Statement (.wakeNFall) := Named.none_named rfl

theorem Named.chipRetentionEntry : Named.Statement (.chipRetentionEntry) := Named.none_named rfl

theorem Named.chipWake : Named.Statement (.chipWake) := Named.none_named rfl

theorem Named.halt (code : Nat) (detail : List Word) : Named.Statement (.halt code detail) := Named.none_named rfl

theorem Named.ofMem_wf {e : Option MemErr} {p : Nat} (h : e.all MemErr.wf = true) (hp : p ∈ Named.ofMem e) : p < 8 := by
  match e with
  | none => simp [Named.ofMem] at hp
  | some ⟨.cell (.source q _) _, _⟩ | some ⟨.metadata q, _⟩ | some ⟨.queue q _ _, _⟩ =>
    simp_all [Named.ofMem, MemErr.wf, CellPlace.wf]
  | some ⟨.cell (.queued e c _) _, _⟩ => exact Named.ofMac_wf (Named.left (h : (isEgress e && decide (c < 8)) = true)) hp
  | some ⟨.cell (.handed e c) _, _⟩ =>
    exact Named.ofMac_wf (Named.mac_egress (Named.left (h : (isMac e && decide (c < 8)) = true))) hp
  | some ⟨.cell (.leaving e) _, _⟩ => exact Named.ofMac_wf (Named.mac_egress (h : isMac e = true)) hp
  | some ⟨.line, _⟩ | some ⟨.word _, _⟩ | some ⟨.register _ _, _⟩ | some ⟨.core _ _, _⟩ | some ⟨.mram _, _⟩ =>
    simp [Named.ofMem] at hp

theorem Named.scrubRead (tableErr treeErr : Option MemErr) : Named.Statement (.scrubRead tableErr treeErr) :=
  fun h p hp => by
    have h := Bool.and_eq_true_iff.mp h
    rcases List.mem_append.mp hp with hp | hp
    · exact Named.ofMem_wf h.1 hp
    · exact Named.ofMem_wf h.2 hp

theorem Named.safWdog (src : Src) : Named.Statement (.safWdog src) := Named.none_named rfl

theorem Named.watchdogExpiry : Named.Statement (.watchdogExpiry) := Named.none_named rfl

theorem Named.clockMonitorWindow (readings : List Nat) : Named.Statement (.clockMonitorWindow readings) := Named.none_named rfl

theorem Named.sensorRead (temps : List Int) (rails : List Int) : Named.Statement (.sensorRead temps rails) :=
  Named.none_named rfl

theorem Named.safetySelftest (failed : Option Nat) : Named.Statement (.safetySelftest failed) := Named.none_named rfl

theorem Named.lifeHour : Named.Statement (.lifeHour) := Named.none_named rfl

theorem Named.injectSingleBit (src : Src) (plat : Nat) : Named.Statement (.injectSingleBit src plat) :=
  Named.plat_named rfl fun h => of_decide_eq_true h

theorem Named.injectDoubleBit (src : Src) (plat : Nat) : Named.Statement (.injectDoubleBit src plat) :=
  Named.plat_named rfl fun h => of_decide_eq_true h

theorem Named.injectCellCrc (src : Src) (plat : Nat) : Named.Statement (.injectCellCrc src plat) :=
  Named.plat_named rfl fun h => of_decide_eq_true h

theorem Named.injectLockstep (src : Src) (plat : Nat) : Named.Statement (.injectLockstep src plat) :=
  Named.plat_named rfl fun h => of_decide_eq_true h

theorem Named.injectClockMonitor (src : Src) (plat : Nat) : Named.Statement (.injectClockMonitor src plat) :=
  Named.plat_named rfl fun h => of_decide_eq_true h

theorem Named.injectPipelineParity (src : Src) (plat : Nat) : Named.Statement (.injectPipelineParity src plat) :=
  Named.plat_named rfl fun h => of_decide_eq_true h

theorem Named.lpiLeadWake (port : Nat) : Named.Statement (.lpiLeadWake port) :=
  Named.line_named rfl fun h => h

theorem Named.receiveLpiChange (port : Nat) (on : Bool) : Named.Statement (.receiveLpiChange port on) :=
  Named.line_named rfl fun h => h

theorem Named.wakeNRise : Named.Statement (.wakeNRise) := Named.none_named rfl

theorem Named.pcieLinkUp (width : Nat) (speed : Nat) : Named.Statement (.pcieLinkUp width speed) := Named.none_named rfl

theorem Named.d3hotEntry : Named.Statement (.d3hotEntry) := Named.none_named rfl

theorem Named.aocCopyRefresh : Named.Statement (.aocCopyRefresh) := Named.none_named rfl

theorem Named.perfCounterWrap (plat : Nat) (n : Nat) : Named.Statement (.perfCounterWrap plat n) :=
  Named.plat_named rfl fun h => of_decide_eq_true (Named.left h)

theorem Named.durationCounterHalfRange (bank : Nat) (unit : Nat) (slot : Nat) : Named.Statement (.durationCounterHalfRange bank unit slot) :=
  Named.none_named rfl

end Sys2Proof.Laws
end

