-- ==== Sys2Proof/Laws/Shared.lean ====
section
/-! SUPPORT. What the shared operations over tables, drives, pins and messages can change, each said once, so that a proof about a
command cites them and unfolds none. -/

namespace Sys2Proof.Machine

variable (s : State)

/-! ### Free values -/

@[simp] theorem State.fresh_value : s.fresh.1 = Config.freeValue s.free := rfl

@[simp] theorem State.fresh_state : s.fresh.2 = { s with free := s.free + 1 } := rfl

/-! ### Work that waits for a table (R143) -/

/-- Work that waits changes its Platform's list and nothing else. -/
theorem State.workLater_shape (p : Nat) (w : TableWork) :
    s.workLater p w = s.setPlat p { s.plat p with delPend := (s.plat p).delPend ++ [w] } := rfl

@[simp] theorem State.workLater_tables (p : Nat) (w : TableWork) : (s.workLater p w).tables = s.tables := rfl

@[simp] theorem State.workLater_tbl (p : Nat) (w : TableWork) : (s.workLater p w).tbl = s.tbl := rfl

@[simp] theorem State.workLater_regs (p : Nat) (w : TableWork) : (s.workLater p w).regs = s.regs := rfl

/-- A flush that does not run on a table goes no further there (R128). -/
theorem State.flushOn_idle {p : Nat} (h : s.flushing p = false) : s.flushOn p = s := by
  simp [State.flushOn, h]

/-! ### Wakes (R454) -/

/-- A Platform in Run, or on its way there, is not woken again. -/
theorem State.wake_awake {p : Nat} (c : Nat) (h : (s.plat p).power = .run ∨ (s.plat p).power = .waking) : s.wake p c = s := by
  simp [State.wake, h]

/-- A chip-level operation notes, at most, when the always-on block was last stirred (R457). -/
theorem State.stir_shape : ∃ a, s.stir = { s with ao := a } := by
  simp only [State.stir]
  split
  · exact ⟨_, rfl⟩
  · exact ⟨s.ao, rfl⟩

/-- A wake stirs the chip-level blocks and changes a Platform and a counter. -/
theorem State.wake_asleep {p : Nat} (c : Nat) (h : (s.plat p).power ≠ .run) (g : (s.plat p).power ≠ .waking) :
    s.wake p c = ((s.stir).setPlat p { s.stir.plat p with
      power := .waking, pwrSince := s.fs, lanesOff := s.cfg.lanesOff p }).count .ao p (3 + min c 2) := by
  simp [State.wake, h, g, State.modPlat]

/-- All that counting, or not, can change. -/
theorem State.countIf_shape (c : Bool) (b : CntBank) (u i : Nat) :
    ∃ m r, s.countIf c b u i = { s with cnt := m, regs := r } := by
  cases c
  · exact ⟨s.cnt, s.regs, rfl⟩
  · exact s.setCounter_shape b u i _

/-- All that a wake can change. -/
theorem State.wake_shape (p c : Nat) : ∃ ps m r a, s.wake p c = { s with plats := ps, cnt := m, regs := r, ao := a } := by
  by_cases h : (s.plat p).power = .run ∨ (s.plat p).power = .waking
  · exact ⟨s.plats, s.cnt, s.regs, s.ao, s.wake_awake c h⟩
  · obtain ⟨h, g⟩ := not_or.mp h
    rw [s.wake_asleep c h g]
    obtain ⟨a, ha⟩ := s.stir_shape
    obtain ⟨m, r, e⟩ := (s.stir.setPlat p _).setCounter_shape .ao p (3 + min c 2) _
    rw [ha] at e ⊢
    exact ⟨_, m, r, a, e⟩

/-- All that a wake of the lead can change. -/
theorem State.wakeLead_shape (p : Nat) : ∃ ps m r a, s.wakeLead p = { s with plats := ps, cnt := m, regs := r, ao := a } := by
  obtain ⟨ps, m, r, a, h⟩ := s.wake_shape p 1
  obtain ⟨m', r', g⟩ := (s.wake p 1).countIf_shape (s.ttWake p) .sch p 4
  exact ⟨ps, m', r', a, by rw [State.wakeLead, g, h]⟩

/-- All that a cause met at a clock can change. -/
theorem State.wakeDue_shape (p : Nat) : ∃ ps m r a, s.wakeDue p = { s with plats := ps, cnt := m, regs := r, ao := a } := by
  simp only [State.wakeDue]
  split
  · exact ⟨s.plats, s.cnt, s.regs, s.ao, rfl⟩
  · split
    · exact s.wakeLead_shape p
    · exact s.wake_shape p _

/-- All that the causes met at a clock can change. -/
theorem State.wakes_shape : ∃ ps m r a, s.wakes = { s with plats := ps, cnt := m, regs := r, ao := a } := by
  have all (l : List Nat) : ∀ s : State, ∃ ps m r a, l.foldl (·.wakeDue) s = { s with plats := ps, cnt := m, regs := r, ao := a } := by
    induction l with
    | nil => exact fun s => ⟨s.plats, s.cnt, s.regs, s.ao, rfl⟩
    | cons p l ih =>
      intro s
      obtain ⟨ps, m, r, a, h⟩ := s.wakeDue_shape p
      obtain ⟨ps', m', r', a', g⟩ := ih (s.wakeDue p)
      exact ⟨ps', m', r', a', by rw [List.foldl_cons, g, h]⟩
  exact all (List.range 8) s

/-- All that an edge's wakes can change. -/
theorem State.edgeWake_shape (l : List Nat) (g : Nat) :
    ∃ ps m r a, s.edgeWake l g = { s with plats := ps, cnt := m, regs := r, ao := a } := by
  simp only [State.edgeWake]
  split
  · split
    · exact s.wake_shape _ 2
    · exact ⟨s.plats, s.cnt, s.regs, s.ao, rfl⟩
  · exact ⟨s.plats, s.cnt, s.regs, s.ao, rfl⟩

/-- Without a cause no Platform is woken at a clock. -/
theorem State.wakeDue_quiet {p : Nat} (h : s.wakeCause p = false) : s.wakeDue p = s := by
  simp [State.wakeDue, h]

/-! ### The drives (R340) -/

/-- A drive's LBA changes the capture store and is one command to the drive. -/
theorem State.driveWrite_shape (fua : Bool) (lba : Nat) (b : List Byte) (d : Nat) :
    ∃ c, s.driveWrite fua lba b d = { s with capt := c, out := .nvme d lba fua b :: s.out } :=
  ⟨_, rfl⟩

/-- Commands to the drives change the capture store and the outputs, and put what they send on top. -/
theorem State.drivesWrite_shape (fua : Bool) (lba : Nat) (b : List Byte) (ds : List Nat) :
    ∃ c l, ds.foldl (fun s d => s.driveWrite fua lba b d) s = { s with capt := c, out := l ++ s.out } := by
  induction ds generalizing s with
  | nil => exact ⟨s.capt, [], rfl⟩
  | cons d ds ih =>
    obtain ⟨c, l, h⟩ := ih (s.driveWrite fua lba b d)
    obtain ⟨c', h'⟩ := s.driveWrite_shape fua lba b d
    exact ⟨c, l ++ [.nvme d lba fua b], by rw [List.foldl_cons, h, h']; simp⟩

/-- A run of LBAs does the same. -/
theorem State.nvmeWrite_shape (fua : Bool) (n lba : Nat) (b : List Byte) :
    ∃ c l, s.nvmeWrite fua n lba b = { s with capt := c, out := l ++ s.out } := by
  induction n generalizing s lba b with
  | zero => exact ⟨s.capt, [], rfl⟩
  | succ n ih =>
    unfold State.nvmeWrite
    obtain ⟨c, l, h⟩ := s.drivesWrite_shape fua lba
      (b.take 4096 ++ List.replicate (4096 - (b.take 4096).length) 0) s.drives
    dsimp only
    rw [h]
    obtain ⟨c', l', h'⟩ := ih { s with capt := c, out := l ++ s.out } (lba + 1) (b.drop 4096)
    exact ⟨c', l' ++ l, by rw [h']; simp⟩

/-! ### The twin -/

/-- Halt notices are four equal frames on the Coupler and nothing else (R282). -/
theorem State.haltNotices_shape (code : Nat) :
    ∃ b, s.haltNotices code = { s with out := List.replicate 4 (.coupler b) ++ s.out } := ⟨_, rfl⟩

/-! ### Links -/

/-- Marking the copies of a port as held leaves its link, its timers and its transmitter as they were (R202). -/
theorem PortSt.markHeld_shape (p : PortSt) : ∃ q m, p.markHeld = { p with queues := q, macQ := m } := ⟨_, _, rfl⟩

/-- A port without an underrun that is still leaving has nothing to take back (R60). -/
theorem State.undoUnderrun_none {e : Nat} (h : (s.port e).cut = none) : s.undoUnderrun e = s := by
  simp [State.undoUnderrun, State.undoRise, h]

end Sys2Proof.Machine
end

