-- ==== Sys2Proof/Laws/Store.lean ====
section
/-! SUPPORT. The sparse store: a read after a write, and every operation keeps the canonical form. -/

namespace Sys2Proof.Machine

variable {α : Type}

/-- What is put at a key is read there. -/
@[simp] theorem Store.get_put_self (d : α) (m : Store α) (k : Nat) (v : α) : Store.get d (m.put k v) k = v := by
  induction m with
  | nil => simp [Store.put, Store.get]
  | cons h r ih =>
    obtain ⟨j, u⟩ := h
    simp only [Store.put]
    split
    · simp [Store.get]
    · split
      · simp [Store.get]
      · simp [Store.get, *]

/-- A put at one key leaves every other key alone. -/
theorem Store.get_put_ne (d : α) (m : Store α) {k k' : Nat} (v : α) (h : k' ≠ k) :
    Store.get d (m.put k v) k' = Store.get d m k' := by
  induction m with
  | nil => simp [Store.put, Store.get, h]
  | cons e r ih =>
    obtain ⟨j, u⟩ := e
    simp only [Store.put]
    split
    · subst_vars; simp [Store.get, h]
    · split
      · by_cases h1 : k' < k
        · have : k' < j := by omega
          have : k' ≠ j := by omega
          simp [Store.get, *]
        · simp [Store.get, *]
      · simp only [Store.get, ih]

variable [DecidableEq α]

/-- Below its first key a canonical store lists nothing. -/
theorem Store.get_of_wfFrom {d : α} {m : Store α} {l k : Nat} (h : Store.wfFrom d (some l) m = true) (hk : k ≤ l) :
    Store.get d m k = d := by
  cases m with
  | nil => rfl
  | cons e r =>
    obtain ⟨j, u⟩ := e
    simp only [Store.wfFrom, Bool.and_eq_true, decide_eq_true_eq] at h
    have : k < j := by omega
    simp [Store.get, this, Nat.ne_of_lt this]

/-- A lower bound of the keys may be lowered. -/
theorem Store.wfFrom_mono {d : α} {m : Store α} {l l' : Nat} (h : Store.wfFrom d (some l) m = true) (hl : l' ≤ l) :
    Store.wfFrom d (some l') m = true := by
  cases m with
  | nil => rfl
  | cons e r =>
    obtain ⟨j, u⟩ := e
    simp only [Store.wfFrom, Bool.and_eq_true, decide_eq_true_eq] at h ⊢
    exact ⟨⟨by omega, h.1.2⟩, h.2⟩

/-- A canonical store is canonical without its bound. -/
theorem Store.wf_of_wfFrom {d : α} {m : Store α} {l : Nat} (h : Store.wfFrom d (some l) m = true) : m.wf d = true := by
  cases m with
  | nil => rfl
  | cons e r =>
    obtain ⟨j, u⟩ := e
    simp only [Store.wf, Store.wfFrom, Bool.and_eq_true, decide_eq_true_eq] at h ⊢
    exact ⟨⟨trivial, h.1.2⟩, h.2⟩

/-- What is deleted from a canonical store reads as the default. -/
theorem Store.get_del_self (d : α) (m : Store α) (k : Nat) (h : m.wf d = true) : Store.get d (m.del k) k = d := by
  induction m with
  | nil => rfl
  | cons e r ih =>
    obtain ⟨j, u⟩ := e
    have h' := h
    simp only [Store.wf, Store.wfFrom, Bool.and_eq_true] at h'
    simp only [Store.del]
    split
    · subst_vars; exact Store.get_of_wfFrom h'.2 (Nat.le_refl _)
    · split
      · simp [Store.get, *]
      · simp [Store.get, *, ih (Store.wf_of_wfFrom h'.2)]

/-- A deletion leaves every other key of a canonical store alone. -/
theorem Store.get_del_ne (d : α) (m : Store α) {k k' : Nat} (hk : k' ≠ k) (h : m.wf d = true) :
    Store.get d (m.del k) k' = Store.get d m k' := by
  induction m with
  | nil => rfl
  | cons e r ih =>
    obtain ⟨j, u⟩ := e
    have h' := h
    simp only [Store.wf, Store.wfFrom, Bool.and_eq_true] at h'
    simp only [Store.del]
    split
    · subst_vars
      simp only [Store.get, hk, ↓reduceIte]
      split
      · exact Store.get_of_wfFrom h'.2 (by omega)
      · rfl
    · split
      · rfl
      · simp only [Store.get, ih (Store.wf_of_wfFrom h'.2)]

/-- A read after a write to the same key of a canonical store gives the value written. -/
theorem Store.get_set_self (d : α) (m : Store α) (k : Nat) (v : α) (h : m.wf d = true) :
    Store.get d (Store.set d m k v) k = v := by
  simp only [Store.set]
  split
  · next hv => rw [hv]; exact Store.get_del_self d m k h
  · exact Store.get_put_self d m k v

/-- A write to a canonical store leaves every other key alone. -/
theorem Store.get_set_ne (d : α) (m : Store α) {k k' : Nat} (v : α) (hk : k' ≠ k) (h : m.wf d = true) :
    Store.get d (Store.set d m k v) k' = Store.get d m k' := by
  simp only [Store.set]
  split
  · exact Store.get_del_ne d m hk h
  · exact Store.get_put_ne d m v hk

/-- A value other than the default is read back whatever the store's form. -/
theorem Store.get_set_of_ne (d : α) (m : Store α) (k : Nat) {v : α} (hv : v ≠ d) :
    Store.get d (Store.set d m k v) k = v := by
  simp [Store.set, hv]

/-- A put of a value other than the default keeps the canonical form. -/
theorem Store.wfFrom_put {d : α} {m : Store α} {lo : Option Nat} {k : Nat} {v : α} (hv : v ≠ d)
    (h : Store.wfFrom d lo m = true) (hk : ∀ l, lo = some l → l < k) : Store.wfFrom d lo (m.put k v) = true := by
  induction m generalizing lo with
  | nil => cases lo <;> simp_all [Store.put, Store.wfFrom]
  | cons e r ih =>
    obtain ⟨j, u⟩ := e
    simp only [Store.wfFrom, Bool.and_eq_true, decide_eq_true_eq] at h
    simp only [Store.put]
    split
    · subst_vars
      simp only [Store.wfFrom, Bool.and_eq_true, decide_eq_true_eq]
      exact ⟨⟨h.1.1, hv⟩, h.2⟩
    · split
      · simp only [Store.wfFrom, Bool.and_eq_true, decide_eq_true_eq]
        refine ⟨⟨?_, hv⟩, ⟨⟨by assumption, h.1.2⟩, h.2⟩⟩
        cases lo with
        | none => rfl
        | some l => simpa using hk l rfl
      · simp only [Store.wfFrom, Bool.and_eq_true, decide_eq_true_eq]
        exact ⟨h.1, ih h.2 (by intro l hl; cases hl; omega)⟩

/-- A deletion keeps the canonical form. -/
theorem Store.wfFrom_del {d : α} {m : Store α} {lo : Option Nat} (k : Nat)
    (h : Store.wfFrom d lo m = true) : Store.wfFrom d lo (m.del k) = true := by
  induction m generalizing lo with
  | nil => rfl
  | cons e r ih =>
    obtain ⟨j, u⟩ := e
    have h' := h
    simp only [Store.wfFrom, Bool.and_eq_true, decide_eq_true_eq] at h'
    simp only [Store.del]
    split
    · cases lo with
      | none => exact Store.wf_of_wfFrom h'.2
      | some l => exact Store.wfFrom_mono h'.2 (by have := h'.1.1; simp at this; omega)
    · split
      · exact h
      · simp only [Store.wfFrom, Bool.and_eq_true, decide_eq_true_eq]
        exact ⟨h'.1, ih h'.2⟩

/-- A write keeps the canonical form. -/
theorem Store.wf_set (d : α) (m : Store α) (k : Nat) (v : α) (h : m.wf d = true) : (Store.set d m k v).wf d = true := by
  simp only [Store.set]
  split
  · exact Store.wfFrom_del k h
  · exact Store.wfFrom_put ‹_› h nofun

end Sys2Proof.Machine
end

