-- ==== Sys2Proof/Tests/Slice0.lean ====
section
/-! SUPPORT. Tests: ill-formed commands, a state for the hypotheses of every statement, and what single commands do. -/

set_option Elab.async false

open Sys2Proof Sys2Proof.Machine

namespace Sys2Proof.Tests

/-! ### States -/

/-- A switch in Running, with every register cold but for the phase. -/
def up : State := State.reset.setRf .bootStat 0 31 28 6

/-- The same with settings committed. -/
def State.with_ (s : State) (l : List (RegId × Nat × Word)) : State :=
  { s with epochs := [l.foldl (fun m (id, i, v) => Store.set (coldWord id i) m (regKey id i) v) []] }

/-- A command answers a next state with a property. -/
def done (o : Host.Outcome State Fault Refusal) (p : State → Bool) : Bool :=
  match o with
  | .next t => p t
  | _ => false

/-- A halted switch. -/
def halted : State := up.setReg .safStat 0 0x80000040

/-- A commit of everything pends. -/
def busyAll : State := { up with commit := { busy := true, all := true } }

/-- One port changed. -/
def onPort (s : State) (e : Nat) (p : PortSt) : State := s.setPort e p

/-- One Platform changed. -/
def onPlat (s : State) (p : Nat) (x : Plat) : State := s.setPlat p x

theorem up_takes (src : Src) : up.takes src := ⟨by decide +kernel, .inl (by decide +kernel), by cases src <;> decide +kernel⟩

theorem up_opens (src : Src) (b : Blk) : up.opens src b := ⟨by decide +kernel, .inl (by decide +kernel), by cases src <;> decide +kernel⟩

/-! ### Commands that name nothing the switch has: one for each check of Instr.wf -/

theorem test_ill_formed :
    ([.registerWrite .spi .bar2 0 [], .setViewWrite .pcie 0x10000 0, .clrViewWrite .pcie 0x4000000 0,
      .tglViewWrite .pcie 0x50000 0, .lockSet .pcie 13, .lockSet .pcie 25, .commitGroup .pcie 8 0, .commitGroup .pcie 0 4096,
      .commitAll .pcie 8, .cntSnap .pcie 8 0, .cntSnap .pcie 0 64, .cntSnapDone 8, .cellDraw 512 true [0], .cellDraw 0 true [],
      .cellDraw 0 true (List.replicate 257 0), .frameReceive 512 false, .pauseReceived 512, .pfcReceived 512,
      .pauseTimerExpiry 512 0, .pauseTimerExpiry 0 8, .firstPass 8, .turntablePass 8, .extraCopyWrite 8, .waitListAdmit 8 0,
      .xonSent 512 0, .xonSent 0 8, .xoffRefresh 528 0, .xoffRefresh 520 8, .copySourceXon 8, .pauseFrameTx 519,
      .transmissionSelection 544 [], .transmissionSelection 521 []] : List Instr).all (fun c => !c.wf) = true := by
  decide +kernel

theorem test_ill_formed_2 :
    ([.projectedStart 512 0, .frameStart 528 0, .txUnderrun 512 0, .txFrameComplete 512, .lpiEntry 520, .linkDown 512 false false,
      .linkUp 512 0, .linkUp 0 16, .deadlineDrop 528 0, .deadlineDrop 0 8, .holdExpiry 512, .swap .pcie false 8,
      .learnEventApply 8, .claim .pcie 22, .claimGranted 22, .claimRelease .pcie 22, .tblCmdRead .pcie 32 0,
      .tblCmdRead .pcie 0 1048576, .tblCmdWrite .pcie 32 0, .tblCmdWrite .pcie 0 1048576, .tblCmdLookup .pcie 32 0,
      .tblCmdLookup .pcie 0 1048576, .tblCmdInsert .pcie 32 0, .tblCmdInsert .pcie 0 1048576, .tblCmdDelete .pcie 32 0,
      .tblCmdDelete .pcie 0 1048576, .tableDmaRead ⟨[0], none⟩, .tableDmaRead ⟨[0, 0, 0, 0, 0x80000000, 0, 0, 0], none⟩,
      .tableDmaWrite ⟨[0], none⟩ [], .tableDmaWrite ⟨List.replicate 8 0, none⟩ [], .gateScheduleStart 256, .timetableStart 512,
      .wakeAhead 8, .recoveryReset 131072, .latentErrorTest 131072] : List Instr).all (fun c => !c.wf) = true := by
  decide +kernel

theorem test_ill_formed_3 :
    ([.timeCmdStep .pcie 8, .timeCmdSet .pcie 8, .timeCmdTrim .pcie 8, .tcRecordAged 8, .ppsOutPulse 4, .ppsOutPulseEnd 4,
      .ppsInEdge 4 0, .captureDrainRead 8, .gpioTrigger 16 true, .windowPostEnd 4, .windowSealed 4, .windowCommit .pcie 16,
      .windowRelease .pcie 16, .windowCommitDone 4, .windowCommitError 4, .msixUnmask 64, .perfCounterWrite .pcie 8 0 false 0,
      .perfCounterWrite .pcie 0 9 false 0, .enableUnit .pcie 17, .disableUnit .pcie 17, .unitIdle 17, .txDb .pcie 16 0 false,
      .txDb .pcie 0 65536 false, .txDb .spi 0 0 true, .rxDb .pcie 16 0 false, .rxDb .pcie 0 65536 false, .rxDb .spi 0 0 true,
      .cqDb .pcie 16 0 false, .cqDb .pcie 0 65536 false, .cqDb .firmware 0 0 true, .tdDb .pcie 65536, .tdcDb .pcie 65536,
      .hostTxFetch 16 [] [], .dmaAccessFail (.txDesc 16), .dmaAccessFail (.txData 16 []), .dmaAccessFail (.rxDesc 16),
      .dmaAccessFail (.rxData 16), .dmaAccessFail (.cqWrite 17), .rxHoldDrop 16 0, .rxHoldDrop 0 8, .completionWrite 17,
      .cqTimerExpiry 17, .resetNRelease 256, .bootRestore ⟨true, 32768, 0⟩, .bootRestore ⟨true, 0, 32768⟩] : List Instr).all (fun c => !c.wf) = true := by
  decide +kernel

theorem test_ill_formed_4 :
    ([.jtagProvision (.secret []), .jtagProvision (.transportKey 2 (List.replicate 32 0)), .jtagProvision (.transportKey 0 []),
      .jtagProvision (.rootId 4 (List.replicate 16 0)), .jtagProvision (.rootId 0 [0]), .jtagProvision (.debugId [0]),
      .jtagProvision (.imageKey [0]), .jtagProvision (.publicKey [0]), .jtagProvision (.policy 4), .jtagProvision (.revoke 4), .dozeEntry 8, .sleepEntry 8, .platformWake 8 0, .platformWake 0 3, .platformRun 8,
      .offReturn 8, .halt 0x0003 [], .scrubRead (some ⟨.word (64 * 1048576), true⟩) none,
      .scrubRead none (some ⟨.register 13 0, false⟩), .scrubRead (some ⟨.cell (.source 8 0) 0, true⟩) none, .scrubRead (some ⟨.metadata 8, true⟩) none,
      .scrubRead (some ⟨.queue 8 .norm 0, true⟩) none, .scrubRead (some ⟨.mram (2 ^ 32), true⟩) none, .injectSingleBit .pcie 8, .injectDoubleBit .pcie 8,
      .injectCellCrc .pcie 8, .injectLockstep .pcie 8, .injectClockMonitor .pcie 8, .injectPipelineParity .pcie 8,
      .lpiLeadWake 512, .receiveLpiChange 512 true, .pcieLinkUp 3 1, .pcieLinkUp 1 0, .pcieLinkUp 1 5, .perfCounterWrap 8 0,
      .perfCounterWrap 0 9, .durationCounterHalfRange 0 512 25, .durationCounterHalfRange 0 0 24,
      .durationCounterHalfRange 1 8 0, .durationCounterHalfRange 1 0 3, .durationCounterHalfRange 2 0 0] : List Instr).all
      (fun c => !c.wf) = true := by
  decide +kernel

/-- A Flalith frame of a type, from node 9 to node 0. -/
def bareHdr (type : Nat) : FlaHdr :=
  { port := 0, da := 0, sa := 0, vlan := none, etype := 0, ver := 1, type := type, hops := 0, slot := 1, dst := 0, src := 9, seq := 6,
    len := 0, tag := 0 }

/-- A command that carries a frame of another command's type, or a frame whose fields pass their widths. -/
theorem test_ill_formed_5 :
    ([.flalithRead (bareHdr 2) [0], .flalithWrite (bareHdr 1) [], .report (bareHdr 1) 0 0, .windowRead (bareHdr 1) 0 0,
      .updBegin (bareHdr 1) 0 0, .updPiece (bareHdr 1) 0 0 ⟨[], true⟩, .updStatus (bareHdr 1) 0, .updArm (bareHdr 1) 0 0,
      .updReboot (bareHdr 1) 0 false, .updAbort (bareHdr 1), .keyRoll (bareHdr 1) [], .updAbort { bareHdr 0x15 with port := 512 },
      .updAbort { bareHdr 0x15 with seq := 2 ^ 64 }, .updAbort { bareHdr 0x15 with dst := 65536 },
      .updAbort { bareHdr 0x15 with hops := 256 }] : List Instr).all (fun c => !c.wf) = true
      ∧ ([.updAbort (bareHdr 0x15), .updAbort (bareHdr 0xFF)] : List Instr).all (fun c => c.wf) = true := by
  decide +kernel

/-- An ill-formed command changes nothing, whatever the state. -/
theorem test_ill_formed_changes_nothing (s : State) : exec (.firstPass 8) s = .next s := rfl

/-! ### The block as a whole -/

theorem witness_StepRunsFrontCommand : ({ up with pending := [.commitEdge, .swapEdge] } : State).pending = .commitEdge :: [.swapEdge] :=
  rfl

/-- The supplies of the main domain are gone, and REFCLK_AO with them. -/
def clockless : State := { up with boot := { up.boot with pwrgood := false, inReset := true, refOff := true } }

theorem witness_IdleStepIsOneClock :
    up.pending = [] ∧ up.timeRuns = true ∧ up.saf.halting = none ∧ clockless.timeRuns = false
      ∧ ({ up with boot := { up.boot with vao := false } } : State).timeRuns = false := by
  decide +kernel

theorem witness_CommandsAnswer :
    (Instr.commitEdge).wf = true ∧ (Instr.firstPass 8).wf = false
      ∧ (done (exec .commitEdge State.reset) fun t => t = State.reset) = true := by
  decide +kernel

/-- A source that stays active with its message pending. -/
def pends : State :=
  { (up.setReg .safIntStat 0 1).setReg .safIntEn 0 1 with host := { up.host with pend := 2 }, pending := [.commitEdge] }

theorem witness_PendingOnlyWhileActive :
    pendingActive pends ∧ pends.active 1 = true ∧ (done (step pends) fun t => t.host.pend = 2) = true :=
  ⟨(by decide +kernel : ∀ v, v < 64 → bitOf pends.host.pend v = true → pends.active v = true), by decide +kernel,
    by decide +kernel⟩

/-- The steps of a halt that was detected at instant 0. -/
def haltSteps : Halting := { code := 0x0040, detail := [], injected := false, at_ := 0, mono := 0, tb0 := 0, notify := false }

theorem witness_HaltedSwitchStandsStill :
    halted.halted = true ∧ endsHalt .commitEdge = false ∧ halted.hears .commitEdge = false ∧ halted.hears (.halt 0x0040 []) = false
      ∧ ({ halted with saf := { halting := some haltSteps } } : State).hears (.halt 0x0040 []) = true
      ∧ (done (exec .commitEdge halted) fun t => t = halted) = true := by
  decide +kernel

theorem witness_AccessesWhileHalted :
    halted.halted = true ∧ halted.awake = false ∧ decodeAddr 0x3F00000 = none ∧ decodeAddr 0 = some (.glb, .normal, 0)
      ∧ (Instr.registerWrite .pcie .bar0 0 []).wf = true ∧ isNormal 0xFFFF = true ∧ clockless.powered = false ∧ 2 % 4 ≠ 0
      ∧ up.regAt .glb 0x10 = some (.glbMode, 0, false) ∧ up.regAt .glb 0xFFC = none ∧ State.reset.awake = true
      ∧ State.reset.committed = false ∧ State.reset.regAt .glb 0x10 = some (.glbMode, 0, false)
      ∧ alwaysOn .glb .glbMode = false := by
  decide +kernel

/-! ### Registers, views and locks -/

theorem witness_ViewsOfInterruptEnables :
    up.regAt (.plat 7) 20 = some (.platIntEn, 7, false) ∧ .platIntEn ∈ enables
      ∧ (7 : Word) &&& Word.ofNat RegId.platIntEn.rwMask ≠ 0 ∧ (8 : Word) &&& Word.ofNat RegId.platIntEn.rwMask = 0 := by
  decide +kernel

theorem witness_StagedWriteLeavesCommitted :
    up.regAt (.plat 0) 4160 = some (.platPortCtrl, 1, false) ∧ groupOf .platPortCtrl 1 = some 2049
      ∧ RegId.platPortCtrl.aocMask = 0 ∧ up.coveredGroup 2049 = false ∧ up.noPort = false
      ∧ (0x80000000 : Word) &&& Word.ofNat RegId.platPortCtrl.stored ≠ 0 ∧ (1 : Word) &&& Word.ofNat RegId.platPortCtrl.stored = 0
      ∧ up.regAt .ao 0x14 = some (.aoPwrCtrl, 0, false) ∧ up.regAt .ao 0x100 = some (.aoPlatCfg, 0, false)
      ∧ up.regAt .time 0x1E0 = some (.timeTbCfg, 7, false)
      ∧ ((groupOf .timeTbCfg 7).all fun g => !up.coveredGroup g) = true
      ∧ (1 : Word) &&& Word.ofNat RegId.aoPwrCtrl.aocMask ≠ 0 ∧ Store.wf 0 up.ao.wrote = true := by
  decide +kernel

/-- One group covered. -/
def busyOne : State := { up with commit := { busy := true, groups := [2049] } }

theorem witness_PendingCommitShutsOut :
    busyAll.commit.busy = true ∧ busyAll.commit.all = true ∧ 2049 ∈ busyOne.commit.groups
      ∧ busyOne.regAt (.plat 0) 4160 = some (.platPortCtrl, 1, false) ∧ groupOf .platPortCtrl 1 = some 2049
      ∧ busyOne.awake = true ∧ busyOne.committed = true
      ∧ busyOne.noPort = false
      ∧ (0x80000000 : Word) &&& Word.ofNat (RegId.platPortCtrl.writableBy .pcie) ≠ 0 := by
  decide +kernel

/-- The SAF block is locked. -/
def lockedSaf : State := up.setReg .blkLock (Blk.no .saf) 0x80000000

theorem witness_LockSetsAndHolds :
    (Blk.plat 7).ok = true ∧ bitW ((up.setReg .blkLock 23 0x80000000).reg .blkLock (Blk.plat 7).no) 31 = true
      ∧ (up.setReg .blkLock 23 0x80000000).awake = true ∧ (up.setReg .blkLock 23 0x80000000).committed = true
      ∧ up.regAt .saf 0x10 = some (.safCfg, 0, false) ∧ .safCfg ∈ lockables ∧ bitW (up.reg .blkLock (Blk.no .saf)) 31 = false
      ∧ lockedSaf.regAt .saf 0x10 = some (.safCfg, 0, false) ∧ bitW (lockedSaf.reg .blkLock (Blk.no .saf)) 31 = true
      ∧ lockedSaf.awake = true ∧ lockedSaf.committed = true
      ∧ (1 : Word) &&& Word.ofNat RegId.safCfg.rwlMask ≠ 0 ∧ (0 : Word) &&& Word.ofNat RegId.safCfg.rwlMask = 0
      ∧ up.regAt .boot 0x100 = some (.bootFlaCfg, 0, false) ∧ up.regAt .boot 0x10C = some (.bootUpdCfg, 0, false)
      ∧ up.regAt .perf 0x14 = some (.perfUserEn, 0, false) := by
  decide +kernel

/-- A staged MAX_FRAME of 0 on port 1 (R41). -/
def badStaged : State := up.setReg .platPortFrame 1 0

/-- A staged MAX_FRAME of 2,000 on port 1. -/
def goodStaged : State := up.setReg .platPortFrame 1 2000

theorem witness_CommitRequests :
    up.commit.busy = false ∧ groupNamed 4095 = false ∧ groupNamed 2049 = true
      ∧ badStaged.failing [2049] false = some 2049 ∧ goodStaged.failing [2049] false = none
      ∧ badStaged.failing badStaged.stagedGroups true = some 2049 ∧ goodStaged.failing goodStaged.stagedGroups true = none
      ∧ goodStaged.stagedGroups = [2049] ∧ up.timedMode = false ∧ (up.setReg .glbMode 0 0x100000).timedMode = true
      ∧ (up.targetOf 7 0).2 = true ∧ (up.targetOf 7 0x7FFFFFFF).2 = true ∧ (up.targetOf 7 0x80000000).2 = false := by
  decide +kernel

theorem witness_CommitEdgeTakesStaged :
    up.running = true ∧ busyAll.running = true ∧ busyAll.edgeDue = true ∧ up.edgeDue = false := by
  decide +kernel

/-- The counters of Platform 0 count, with CYC and counter 7 at their last value. -/
def counting : State :=
  (List.range 9).foldl
    (fun s n => (s.setReg (perfRegs 0 n).1 (perfRegs 0 n).2.2 0xFFFFFFFF).setReg (perfRegs 0 n).2.1 (perfRegs 0 n).2.2 0xFFFF)
    ((up.setReg .platPerfCtrl 0 0x80000000).setReg .platPerfEvsel 7 0x00030000)

/-- The same in a clock in which counter 7 has been written, or has counted 3 events. -/
def clocked (off : Nat) : State :=
  onPlat counting 0 { counting.plat 0 with perfClk := { at_ := counting.fs, ev := [0, 0, 0, 0, 0, 0, 0, 3], off := off } }

theorem witness_PerformanceCounters :
    counting.running = true ∧ counting.perfOn 0 = true ∧ counting.countsClocks 0 8 = true ∧ counting.countsClocks 0 7 = true
      ∧ counting.perf48 (perfRegs 0 8).1 (perfRegs 0 8).2.1 (perfRegs 0 8).2.2 = 2 ^ 48 - 1
      ∧ counting.perf48 (perfRegs 0 7).1 (perfRegs 0 7).2.1 (perfRegs 0 7).2.2 = 2 ^ 48 - 1 ∧ up.perfOn 7 = false
      ∧ counting.perfDrops 0 7 = false ∧ (clocked 128).perfDrops 0 7 = true ∧ (clocked 128).perfOn 0 = true
      ∧ (clocked 128).countsClocks 0 7 = true
      ∧ (clocked 128).perf48 (perfRegs 0 7).1 (perfRegs 0 7).2.1 (perfRegs 0 7).2.2 = 2 ^ 48 - 1
      ∧ 0 < (clocked 0).plats.length ∧ Store.wfD coldKey none (clocked 0).regs = true
      ∧ (((clocked 0).perfClock 0).ev[7]?).getD 0 = 3 ∧ (((clocked 0).perfClock 0).ev[6]?).getD 0 = 0 := by
  decide +kernel

/-- Counters one below half their range. -/
def half : State :=
  { up with cnt := [(cntKey .plat 511 52, 2 ^ 39 - 1), (cntKey .ao 7 2, 2 ^ 39 - 1)].foldl (fun m (k, v) => Store.set 0 m k v) [] }

theorem witness_HalfRangeOfPortCounters :
    bitOf (half.counter .plat 511 52) 39 ≠ bitOf ((half.counter .plat 511 52 + 1) % 2 ^ 40) 39
      ∧ bitOf (up.counter .plat 0 0) 39 = bitOf ((up.counter .plat 0 0 + 1) % 2 ^ 40) 39
      ∧ bitOf (2 ^ 40 - 1) 39 ≠ bitOf ((2 ^ 40 - 1 + 1) % 2 ^ 40) 39 := by
  decide +kernel

theorem witness_PortCounters :
    (onPlat up 7 { snapBusy := true }).awake = true ∧ (onPlat up 7 { snapBusy := true }).committed = true
      ∧ ((onPlat up 7 { snapBusy := true }).plat 7).snapBusy = true ∧ (onPlat up 7 { snapBusy := true }).running = true
      ∧ (up.plat 7).snapBusy = false ∧ half.running = true ∧ half.counter .plat 511 52 % 2 ^ 39 = 2 ^ 39 - 1
      ∧ half.counter .ao 7 2 % 2 ^ 39 = 2 ^ 39 - 1 := by
  decide +kernel

theorem witness_SpiMsixAndCopies :
    be [3, 0, 0, 0, 0] 0 1 ≠ 2 ∧ be [2, 0, 0, 0, 0] 0 1 ≠ 3 ∧ up.powered = true ∧ up.awake = true
      ∧ bitOf pends.host.pend 1 = true ∧ pends.active 1 = true ∧ pends.awake = true
      ∧ Store.wfD coldKey none up.ao.copy = true := by
  decide +kernel

/-! ### Tables and generations -/

/-- Bank 1 ready, with another generation number. -/
def ready : State := (up.setReg .clsBankGen 1 0x80000001).setReg .clsBankGen 0 0x80000000

/-- A swap pends. -/
def swapping : State := { ready with cls := { swap := true } }

/-- Bank 1 retires. -/
def retiring : State := { ready with cls := { retiring := true } }

/-- Bank 1 retires and a frame still uses it. -/
def retiringUsed : State := { ready with cls := { retiring := true, inflight := [0, 1] } }

theorem witness_ClassifierGenerations :
    up.retire.swapReason = 2 ∧ up.retire.cls.retiring = false ∧ up.retire.cls.swap = false
      ∧ up.retire.rb .clsBankGen (1 - up.retire.cls.cur) 31 = false
      ∧ ready.retire.swapReason = 0 ∧ ready.awake = true ∧ ready.committed = true
      ∧ (ready.retire.targetOf 7 0).2 = true ∧ (ready.retire.targetOf 7 0x80000000).2 = false
      ∧ swapping.retire.cls.swap = true ∧ retiringUsed.retire.cls.retiring = true
      ∧ swapping.running = true ∧ swapping.swapDue = true ∧ ready.swapDue = false
      ∧ retiring.cls.retiring = true ∧ (retiring.cls.inflight[1 - retiring.cls.cur]?).getD 0 = 0
      ∧ ready.cls.retiring = false ∧ (retiringUsed.cls.inflight[1 - retiringUsed.cls.cur]?).getD 0 ≠ 0 := by
  decide +kernel

/-- An event of address 5 in FID 1, seen on port 3 of Platform 7. -/
def ev : LearnEv := { fid := 1, sa := 5, destType := 0, dest := 451 }

/-- The event waits. -/
def learning : State := onPlat up 7 { learnQ := [ev] }

/-- The slot of its key. -/
def slot : Nat := (up.freeSlot 7 (macKey 1 5)).getD 0

/-- The table holds an entry of its key with a word 2. -/
def holds (s : State) (w : Word) : State := s.setTabs 7 slot 0 [5, Word.ofNat (at_ 1 16), w, 0]

/-- The table's bucket has no free slot left. -/
def fill : Nat → State → State
  | 0, s => s
  | n + 1, s => fill n (match s.freeSlot 7 (macKey 1 5) with | some i => s.setTabs 7 i 0 [1, 1, 0x80000000, 0] | none => s)

/-- What a learn event meets, after it is taken from the queue. -/
def met (s : State) : State := ((s.setPlat 7 { s.plat 7 with learnQ := [] }).perf 7 6 none none 1).flushOn 7

theorem witness_LearnEvents :
    learning.running = true ∧ (learning.plat 7).learnQ = [ev] ∧ (learning.plat 7).power = .run
      ∧ bitOf learning.tbl.claimed 7 = false ∧ (up.plat 0).learnQ = []
      ∧ bitOf ({ up with tbl := { claimed := 128 } } : State).tbl.claimed 7 = true
      ∧ ((onPlat up 7 { power := .doze }).plat 7).power ≠ .run
      ∧ (met (holds learning 0xC0000000)).lookup 7 (macKey 1 5) = some slot
      ∧ bitW ((met (holds learning 0xC0000000)).tab 7 slot 2) 30 = true
      ∧ fld ((met (holds learning (Word.ofNat (2 ^ 31 + 451)))).tab 7 slot 2) 17 0 = at_ ev.destType 16 + ev.dest
      ∧ bitW ((met (holds learning (Word.ofNat (2 ^ 31 + 451)))).tab 7 slot 2) 30 = false
      ∧ fld ((met (holds learning (Word.ofNat (2 ^ 31 + 450)))).tab 7 slot 2) 17 0 ≠ at_ ev.destType 16 + ev.dest
      ∧ (met learning).lookup 7 (macKey 1 5) = none ∧ (met learning).freeSlot 7 (macKey 1 5) = some slot
      ∧ (met (fill 8 learning)).lookup 7 (macKey 1 5) = none ∧ (met (fill 8 learning)).freeSlot 7 (macKey 1 5) = none := by
  decide +kernel

/-- A sweep is due. -/
def sweeping : State := { State.with_ up [(.tblAge, 0, 0x80000001)] with fs := 1000000000000000 }

/-- Every table claimed. -/
def claimed : State := { sweeping with tbl := { claimReq := 2 ^ 22 - 1, claimed := 2 ^ 22 - 1 } }

/-- A spread copy waits, to the tables of Platforms 0 and 1. -/
def spreading : State := { State.with_ up [(.tblLearnCtrl, 0, 0x0300)] with tbl := { spreadQ := [(7, slot, macKey 1 5)] } }

theorem witness_AgingAndSpreading :
    up.running = true ∧ up.sweepDue = false ∧ sweeping.running = true ∧ sweeping.sweepDue = true
      ∧ claimed.sweepDue = true ∧ claimed.plats.length = 8 ∧ (∀ p, p < 8 → claimed.tableWaits p = true)
      ∧ bitW ((holds up 0).tab 7 slot 2) 31 = false
      ∧ fld ((holds up 0x80000000).tab 7 slot 2) 26 24 + 1 < 2 ∧ bitW ((holds up 0x80000000).tab 7 slot 2) 31 = true
      ∧ 2 ≤ fld ((holds up 0x81000000).tab 7 slot 2) 26 24 + 1 ∧ bitW ((holds up 0x81000000).tab 7 slot 2) 29 = false
      ∧ up.tbl.spreadQ = [] ∧ spreading.tbl.spreadQ = [(7, slot, macKey 1 5)] ∧ spreading.running = true
      ∧ validEntry 7 (spreading.entry 7 slot) = false ∧ validEntry 7 ((holds spreading 0x80000000).entry 7 slot) = true
      ∧ ([0xC0000000, 0xA0000000, 0x80000000] : List Word).all
          (fun w => keyOfEntry 7 ((holds spreading w).entry 7 slot) == macKey 1 5) = true
      ∧ bitW (((holds spreading 0xC0000000).entry 7 slot).getD 2 0) 30 = true
      ∧ bitW (((holds spreading 0xA0000000).entry 7 slot).getD 2 0) 29 = true
      ∧ bitW (((holds spreading 0x80000000).entry 7 slot).getD 2 0) 30 = false
      ∧ bitW (((holds spreading 0x80000000).entry 7 slot).getD 2 0) 29 = false ∧ macKey 1 5 ≠ macKey 1 6 := by
  decide +kernel

/-- Places of a spread copy: a table that waits, a learned entry, and a full bucket. -/
theorem witness_SpreadPlaces :
    claimed.tableWaits 7 = true ∧ up.tableWaits 7 = false
      ∧ (holds up 0x80000000).lookup 7 (keyOfEntry 7 [5, Word.ofNat (at_ 1 16), 0, 0]) = some slot
      ∧ bitW ((holds up 0x80000000).tab 7 slot 2) 29 = false
      ∧ (fill 8 up).lookup 7 (keyOfEntry 7 [5, Word.ofNat (at_ 1 16), 0, 0]) = none
      ∧ (fill 8 up).freeSlot 7 (keyOfEntry 7 [5, Word.ofNat (at_ 1 16), 0, 0]) = none := by
  decide +kernel

/-- A flush of the Platforms of a mask is in progress. -/
def flushing (m : Nat) : State := { up with tbl := { flushBusy := true, flushPlats := m } }

theorem witness_Flushes :
    (flushing 128).tbl.flushBusy = true ∧ (flushing 128).running = true ∧ (flushing 128).tbl.flushPlats ≠ 0
      ∧ (flushing 128).awake = true ∧ (flushing 128).committed = true ∧ up.awake = true ∧ up.committed = true
      ∧ (flushing 0).retained = false ∧ (flushing 255).retained = false ∧ (flushing 0).running = true
      ∧ (flushing 255).running = true ∧ claimed.tableWaits 7 = true ∧ up.tableWaits 7 = false
      ∧ up.tbl.flushBusy = false ∧ (flushing 0).tbl.flushPlats = 0 ∧ (flushing 255).tbl.flushPlats < 256
      ∧ (∀ p, p < 8 → bitOf (flushing 255).tbl.claimed p = false)
      ∧ (∀ p, p < 8 →
          bitOf ({ up with tbl := { claimReq := 128, claimed := 128, flushBusy := true, flushPlats := 128 } } : State).tbl.flushPlats p
            = true →
          bitOf ({ up with tbl := { claimReq := 128, claimed := 128, flushBusy := true, flushPlats := 128 } } : State).tbl.claimed p
            = true) := by
  decide +kernel

/-- Table 21 is asked for. -/
def asking : State := { up with tbl := { claimReq := 2 ^ 21 } }

theorem witness_ClaimsOfTables :
    asking.running = true ∧ asking.retained = false ∧ asking.claimDue 21 = true ∧ up.claimDue 21 = false ∧ up.awake = true
      ∧ up.committed = true
      ∧ (∀ p, p < 8 → bitOf claimed.tbl.claimed p = true → bitOf claimed.tbl.claimReq p = true → bitOf 255 p = true) := by
  decide +kernel

/-- A table command is in progress. -/
def cmd (op t i : Nat) : State := { up with tbl := { cmd := some { src := .pcie, op := op, target := t, index := i } } }

/-- As `cmd`, on a table of Platform 7, with the key of `ev` in the data words. -/
def cmdKey (op : Nat) (s : State) : State :=
  { (s.setReg .tblCmdData 0 5).setReg .tblCmdData 1 0x00010000 with
    tbl := { s.tbl with cmd := some { src := .pcie, op := op, target := 7, index := 0 } } }

theorem witness_TableCommands :
    (cmd 1 0 0).tbl.cmd ≠ none ∧ up.tbl.cmd = none ∧ (cmd 1 0 0).running = true ∧ (cmd 1 0 0).retained = false
      ∧ (cmd 1 0 0xFFFFF).cmdBad ⟨.pcie, 1, 0, 0xFFFFF⟩ = true ∧ (cmd 6 0 0).cmdBad ⟨.pcie, 6, 0, 0⟩ = true
      ∧ (cmd 1 7 0).cmdBad ⟨.pcie, 1, 7, 0⟩ = false ∧ bitOf claimed.tbl.claimed 7 = true
      ∧ (cmdKey 3 up).cmdBad ⟨.pcie, 3, 7, 0⟩ = false
      ∧ (cmdKey 3 up).lookup 7 (keyOfEntry 7 ((cmdKey 3 up).cmdData 7)) = none
      ∧ (cmdKey 5 (holds up 0x80000000)).lookup 7 (keyOfEntry 7 ((cmdKey 5 (holds up 0x80000000)).cmdData 7)) = some slot
      ∧ (cmdKey 4 up).freeSlot 7 (keyOfEntry 7 ((cmdKey 4 up).cmdData 7)) = some slot
      ∧ (cmdKey 4 (fill 8 up)).lookup 7 (keyOfEntry 7 ((cmdKey 4 (fill 8 up)).cmdData 7)) = none
      ∧ (cmdKey 4 (fill 8 up)).freeSlot 7 (keyOfEntry 7 ((cmdKey 4 (fill 8 up)).cmdData 7)) = none := by
  decide +kernel

/-- The table-DMA ring is enabled, with a descriptor posted. -/
def tdOn : State := (up.setReg .hostTdCtrl 0 0x80000000).setReg .hostTxDb 16 1

/-- A descriptor: `n` entries of target `t`, read or written. -/
def desc (write : Bool) (t n : Nat) : List Word := [0, 0, 0, Word.ofNat n, Word.ofNat (at_ (b2n write) 31 + at_ t 24), 0, 0, 0]

/-- An operation in progress: `n` entries of a run of 4 have been moved. -/
def tdPart (write : Bool) (n : Nat) : State := { tdOn with host := { tdOn.host with td := some (desc write 0x19 4, n) } }

theorem witness_TableDma :
    tdOn.running = true ∧ tdOn.retained = false ∧ tdOn.host.td = none ∧ (tdPart true 3).host.td = some (desc true 0x19 4, 3)
      ∧ (tdPart false 3).running = true ∧ (tdPart false 3).retained = false ∧ bitW (dword (desc false 0x19 4) 4) 31 = false
      ∧ tdTarget (desc true 0x19 4) = 0x19 ∧ tdCount (desc true 0x19 4) = 4 ∧ Store.wf 0 tdOn.tables = true ∧ tdOn.tdAble = true
      ∧ (desc true 0 1).length = 8
      ∧ tdOn.tdBad (desc false 31 1) = true ∧ bitW (dword (desc false 31 1) 4) 31 = false
      ∧ bitW (dword (desc true 31 1) 4) 31 = true ∧ tdOn.tdBad (desc true 7 0) = false ∧ fld (dword (desc true 7 0) 3) 20 0 = 0
      ∧ tdOn.tdDenied 7 = true ∧ tdOn.tdBad (desc true 7 1) = false ∧ fld (dword (desc true 7 1) 3) 20 0 ≠ 0
      ∧ ({ tdOn with tbl := { claimReq := 128, claimed := 128 } } : State).tdDenied 7 = false
      ∧ tdOn.tdDenied 0x19 = false ∧ tdOn.tdBad (desc true 0x19 1) = false := by
  decide +kernel

/-! ### Policing, schedules and recovery functions -/

/-- A list that starts at a nanosecond of time base 0. -/
def listAt (t : Int) : GateList := { cycle := 1000, entries := [(1000, 255)], start := t }

/-- A schedule and a Timetable with a pending list. -/
def pendingLists (t : Int) : State :=
  { (onPort (onPort up 511 { tt := { pend := some (listAt t) } }) 520 { tt := { pend := some (listAt t) } }) with
    psf := { scheds := [(255, { pend := some (listAt t) })] } }

/-- A period of the sampler is over; its list holds `n` queues. -/
def sampling (n : Nat) : State :=
  { State.with_ up ((.schSmpCtrl, 0, 0x80010001) :: (List.range n).map fun i => (.schSmpList, i, 0x80000000)) with
    fs := 1000000000 }

/-- A list that ran, as it is remembered. -/
theorem test_ended :
    (up.ended 8000000 (some (listAt 0))).endFine = up.tbFine 0 8000000 ∧ (up.ended 8000000 none).list = none := by
  decide +kernel

theorem witness_SchedulesAndSampler :
    (pendingLists 0).running = true ∧ ((pendingLists 0).sched 255).pend = some (listAt 0)
      ∧ (pendingLists 0).started (listAt 0) (pendingLists 0).fs = true
      ∧ (pendingLists 1).started (listAt 1) (pendingLists 1).fs = false
      ∧ ((pendingLists 0).port 511).tt.pend = some (listAt 0) ∧ ((pendingLists 0).port 520).tt.pend = some (listAt 0)
      ∧ (up.sched 0).pend = none ∧ (up.port 0).tt.pend = none
      ∧ up.sampleDue = false ∧ (sampling 1).running = true ∧ (sampling 1).sampleDue = true ∧ (sampling 1).sampleList.length = 1
      ∧ ((sampling 64).setReg .schSmpIdx 0 (Word.ofNat (at_ 1984 16))).rf .schSmpIdx 0 27 16 + (sampling 64).sampleList.length = 2048
      ∧ ((sampling 64).setReg .schSmpIdx 0 (Word.ofNat (at_ 1985 16))).rf .schSmpIdx 0 27 16 + (sampling 64).sampleList.length
        = 2049 := by
  decide +kernel

/-- A recovery window of 1 ms may be opened. -/
def window : State := State.with_ up [(.psfWinCfg, 0, 1)]

/-- None may. -/
def noWindow : State := State.with_ up [(.psfWinCfg, 0, 0)]

/-- Windows that end at an instant. -/
def windows (t : Nat) : State := { up with psf := { startup := some t, test := some (some t), recovery := some t } }

theorem witness_PolicingWindows :
    noWindow.cfg.f .psfWinCfg 0 15 0 = 0 ∧ noWindow.awake = true ∧ noWindow.committed = true ∧ window.cfg.f .psfWinCfg 0 15 0 ≠ 0
      ∧ window.awake = true ∧ window.committed = true
      ∧ up.psf.test = none ∧ (windows 0).psf.test ≠ none ∧ (windows 0).awake = true ∧ (windows 0).running = true
      ∧ (windows 0).psf.startup = some 0 ∧ 0 ≤ (windows 0).fs ∧ (windows 0).psf.test = some (some 0)
      ∧ (windows 0).psf.recovery = some 0 ∧ (windows 1).psf.startup = some 1 ∧ (windows 1).fs < 1 := by
  decide +kernel

/-- A check is in progress. -/
def checking : State := up.setReg .schAdmStat 0 0x80000000

/-- A declaration that names no port. -/
def badDecl : State := { checking with adm := { decl := [(0, 0x80000000)] } }

theorem witness_AdmissionCheck :
    checking.rb .schAdmStat 0 31 = true ∧ up.rb .schAdmStat 0 31 = false ∧ checking.running = true ∧ checking.awake = true
      ∧ checking.committed = true ∧ (∀ l ∈ checking.admRun, l.reason = 0) ∧ badDecl.running = true
      ∧ (badDecl.admRun.find? fun l => l.reason ≠ 0).isSome = true ∧ up.awake = true ∧ up.committed = true
      ∧ Store.wf 0 badDecl.adm.rpt = true ∧ Store.wf 0 badDecl.adm.decl = true
      ∧ (∀ l ∈ badDecl.admRun, l.decl.idx < 16384 ∧ l.reason ≠ 0) ∧ badDecl.admRun.length = 1 := by
  decide +kernel

/-- Recovery function 5: VALID with RESET_MS 1, and LATENT_EN with two paths; monotonic time has come to 1 ms. -/
def recovering (flags reset : Word) : State :=
  { (((up.setTab 0x15 5 2 flags).setTab 0x15 5 3 reset).setTab 0x15 5 5 0) with fs := 1000000000000 }

/-- As `recovering`, with more frames passed than copies discarded. -/
def latent (said : Word) : State := (((recovering 0x90200000 0).setTab 0x15 5 16 2).setTab 0x15 5 18 0).setTab 0x15 5 5 said

/-- Filter 3 with its first two words; its frame. -/
def filtered (w0 w1 : Word) : State := up.setTabs 0x12 3 0 [w0, w1]

/-- Its filter names a meter that table profile 0 has not. -/
def lacking : State := (filtered 0x80800000 32768).setReg .glbMode 0 0

/-- A frame of 64 octets of stream 3. -/
def streamed : Frame := { stream := some 3, len := 64, plat := 7 }

theorem witness_Policing :
    streamed.stream = some 3 ∧ ({ stream := none } : Frame).stream = none
      ∧ ({ streamed with cpl := some { type := 2 } } : Frame).replica = true
      ∧ streamed.replica = false ∧ up.capacity 0x12 ≤ 2 ^ 30 ∧ 3 < up.capacity 0x12
      ∧ bitW (up.psfWord streamed 0x12 3 0) 31 = false
      ∧ bitW ((filtered 0xC8000000 0).psfWord streamed 0x12 3 0) 30 = true
      ∧ fld ((filtered 0xC8000000 0).psfWord streamed 0x12 3 0) 29 27 ≠ streamed.pcp
      ∧ bitW ((lacking.psfWord streamed 0x12 3 0)) 23 = true ∧ lacking.capacity 0x14 ≤ fld (lacking.psfWord streamed 0x12 3 1) 15 0
      ∧ bitW ((filtered 0x82000000 0).psfWord streamed 0x12 3 0) 25 = true
      ∧ fld ((filtered 0x8000003F 0).psfWord streamed 0x12 3 0) 13 0 = 63 ∧ 63 < streamed.len
      ∧ bitW ((filtered 0x8000003F 0).psfWord streamed 0x12 3 0) 26 = false
      ∧ fld ((filtered 0x81000000 0).psfWord streamed 0x12 3 0) 13 0 = 0
      ∧ (((filtered 0x81000000 0).countFilter 3 0).gate streamed 0).2.2 = false
      ∧ fld ((filtered 0x81000000 0).psfWord streamed 0x12 3 1) 28 16 = 0
      ∧ bitW ((filtered 0x80000000 0).psfWord streamed 0x12 3 0) 24 = false
      ∧ bitW ((filtered 0x80000000 0).psfWord streamed 0x12 3 0) 23 = false := by
  decide +kernel

/-- Meter 3 with its first word and buckets. -/
def metered (w0 c e : Word) : State := up.setTabs 0x14 3 0 [w0, 0, 0, 0, c, e, 0, 0]

theorem witness_Metering :
    bitW (((metered 0x84000000 0 0).refill streamed 3 (instantNs streamed.instant)).psfWord streamed 0x14 3 0) 26 = true
      ∧ bitW (((metered 0x80000000 16384 0).refill streamed 3 (instantNs streamed.instant)).psfWord streamed 0x14 3 0) 26 = false
      ∧ bitW (((metered 0x80000000 16384 0).refill streamed 3 (instantNs streamed.instant)).psfWord streamed 0x14 3 0) 29 = false
      ∧ streamed.len * 256 ≤ ((metered 0x80000000 16384 0).tab 0x14 3 4).toNat
      ∧ ¬ streamed.len * 256 ≤ ((metered 0x80000000 16383 16384).tab 0x14 3 4).toNat
      ∧ streamed.len * 256 ≤ ((metered 0x80000000 16383 16384).tab 0x14 3 5).toNat
      ∧ ¬ streamed.len * 256 ≤ ((metered 0x80000000 16383 16383).tab 0x14 3 5).toNat
      ∧ bitW (((metered 0xA0000000 16384 0).refill streamed 3 (instantNs streamed.instant)).psfWord streamed 0x14 3 0) 29 = true
      ∧ ({ streamed with colour := 2, blind := true } : Frame).blind = true := by
  decide +kernel

/-- Recovery function 5 with a word 2, the number last taken and a history. -/
def recovered (w2 w5 hist : Word) : State := ((up.setTab 0x15 5 2 w2).setTab 0x15 5 5 w5).setTab 0x15 5 6 hist

theorem witness_SequencesRecovered :
    (recovered 0x80000010 0x80000064 0).tb 0x15 5 5 31 = true ∧ (recovered 0x80000010 100 1).tb 0x15 5 5 31 = false
      ∧ (recovered 0x80000010 100 1).tb 0x15 5 2 30 = false ∧ (recovered 0xC0000010 100 0).tb 0x15 5 2 30 = true
      ∧ min (max ((recovered 0x80000010 100 1).tf 0x15 5 2 6 0) 2) 64 = 16
      ∧ seqDiff 116 ((recovered 0x80000010 100 1).tf 0x15 5 5 15 0) = 16
      ∧ seqDiff 84 ((recovered 0x80000010 100 1).tf 0x15 5 5 15 0) = -16
      ∧ seqDiff 100 ((recovered 0x80000010 100 1).tf 0x15 5 5 15 0) = 0 ∧ bitOf ((recovered 0x80000010 100 1).rcvHist 5) 0 = true
      ∧ seqDiff 101 ((recovered 0xC0000010 100 0).tf 0x15 5 5 15 0) = 1
      ∧ seqDiff 65535 ((recovered 0xC0000010 100 0).tf 0x15 5 5 15 0) = -101 := by
  decide +kernel

theorem witness_RecoveryFunctions :
    (recovering 0x80000000 0x00010000).running = true ∧ (recovering 0x80000000 0x00010000).rcvLive 5 = true
      ∧ (recovering 0x80000000 0x00010000).resetDue 5 = true ∧ up.resetDue 131071 = false ∧ up.rcvLive 131071 = false
      ∧ (latent 0).latentDue 5 = true ∧ (latent 0).rcvLive 5 = true ∧ (latent 0).running = true
      ∧ ms32 ((latent 0).tab 0x15 5 16).toNat ((latent 0).tab 0x15 5 11).toNat = 2
      ∧ ms32 ((latent 0).tab 0x15 5 18).toNat ((latent 0).tab 0x15 5 12).toNat = 0
      ∧ (latent 0).tf 0x15 5 2 23 20 - 1 = 1 ∧ (latent 0).tf 0x15 5 3 15 0 = 0
      ∧ (latent 0).tb 0x15 5 5 30 = false ∧ (latent 0x40000000).tb 0x15 5 5 30 = true
      ∧ (recovering 0x90200000 0).latentDue 5 = true
      ∧ ms32 ((recovering 0x90200000 0).tab 0x15 5 16).toNat ((recovering 0x90200000 0).tab 0x15 5 11).toNat = 0 := by
  decide +kernel

/-! ### The twin -/

/-- A member of a Paired pair, in Running. -/
def member : State := up.setReg .glbMode 0 0x2000

/-- Its twin state with a link. -/
def linked (r : RedSt) : State := { member with red := { r with cplLink := true } }

/-- A Coupler frame of a type with a payload of zeros. -/
def frame (type : Nat) : List Byte := cplPlain type (List.replicate 48 0)

/-- A forwarded frame from a port, whose own FCS stands. -/
def forwarded (type port : Nat) : List Byte :=
  cplFrame (beBytes 4 (at_ type 28 + at_ port 10) ++ List.replicate 12 0) (List.replicate 60 0 ++ fcsOf (List.replicate 60 0))

theorem witness_BadCouplerFrames :
    cplParse [] = none ∧ cplType [] = 0 ∧ cplParse [0x20] = none ∧ cplParse ([0x20] ++ List.replicate 19 0) = none
      ∧ cplType ([0x20] ++ List.replicate 19 0) ≠ 0 ∧ (linked {}).running = true ∧ (linked {}).pairedCfg = true
      ∧ (linked {}).red.cplLink = true ∧ (linked {}).faultDue = false := by
  decide +kernel

theorem witness_CouplerFramesTaken :
    ((cplParse (frame 0)).map fun x => x.1.type) = some 0 ∧ ((cplParse (frame 1)).map fun x => x.1.type) = some 1
      ∧ ((cplParse (frame 4)).map fun x => x.1.type) = some 4
      ∧ ((cplParse (forwarded 2 511)).map fun x => (x.1.type, x.1.origPort)) = some (2, 511)
      ∧ ((cplParse (forwarded 3 520)).map fun x => (x.1.type, x.1.origPort)) = some (3, 520)
      ∧ (linked { state := 1, stateSince := 1 }).red.stateSince ≠ (linked { state := 1, stateSince := 1 }).fs
      ∧ (linked { state := 1 }).red.stateSince = (linked { state := 1 }).fs ∧ (linked { state := 3 }).red.state ≠ 0
      ∧ ((onPlat (linked {}) 7 { power := .sleep }).plat 7).power ≠ .run
      ∧ ((onPlat (linked {}) 0 { power := .off }).plat 0).power ≠ .run := by
  decide +kernel

/-- A halted member that was last Paired with node 0 and takes up to 3 resets; `n` have been made. -/
def haltedMember (n : Nat) : State :=
  { member.setReg .safStat 0 0x80000040 with red := { count := n, pairedNode := some 0 }, saf := { resetMax := 3 } }

theorem witness_ResetRequests :
    (haltedMember 2).powered = true ∧ (haltedMember 2).faultDue = false
      ∧ ({ haltedMember 2 with saf := { resetMax := 3, halting := some haltSteps } } : State).saf.halting = some haltSteps
      ∧ haltSteps.written = false ∧ (haltedMember 2).pairedCfg = true ∧ (haltedMember 2).halted = true
      ∧ ((cplParse (frame 4)).map fun x => (be x.2 2 2, be x.2 0 2)) = some ((haltedMember 2).nodeBase, 0)
      ∧ (haltedMember 2).red.pairedNode = some 0
      ∧ (haltedMember 2).red.count < (haltedMember 2).saf.resetMax
      ∧ (haltedMember 3).acceptsReset (List.replicate 48 0) = false := by
  decide +kernel

/-- PARTNER_RESET_MS is 1. -/
def resetting (r : RedSt) (t : Nat) : State := { State.with_ (linked r) [(.redTwinCfg, 0, 1)] with fs := t }

theorem witness_TwinLinkAndResets :
    member.running = true ∧ member.red.cplLink = false ∧ member.pairedCfg = true ∧ up.pairedCfg = false
      ∧ (linked { state := 4 }).red.resetUntil = none ∧ { linked {} with fs := 1000000000 }.healthDue = true
      ∧ { linked {} with fs := 1000000000 }.running = true ∧ ({ linked {} with fs := 1000000000 }.port 520).tx = none
      ∧ (linked {}).healthDue = false
      ∧ (linked { state := 3 }).red.state = 3 ∧ (linked { state := 3 }).red.lastHealth + 4000000000 ≤ 4000000000
      ∧ (linked { state := 3 }).fs < (linked { state := 3 }).red.lastHealth + 4000000000
      ∧ (resetting { state := 4 } 1000000000000).partnerResetDue = true
      ∧ (resetting { state := 4 } 999999999999).partnerResetDue = false
      ∧ (resetting { state := 4 } 0).running = true ∧ member.red.resetUntil = none
      ∧ (resetting { resetUntil := some 1000000000 } 1000000000).red.resetUntil = some 1000000000
      ∧ (resetting { resetUntil := some 2000000000 } 1000000000).red.lastReq + 1000000000
        ≤ (resetting { resetUntil := some 2000000000 } 1000000000).fs
      ∧ (linked { state := 4 }).awake = true ∧ (linked { state := 4 }).committed = true
      ∧ (linked { state := 3 }).red.state ≠ 4 := by
  decide +kernel

/-! ### Time -/

/-- Time base 7 belongs to firmware, or to the host. -/
def owned (fw : Bool) : State := up.setReg .timeTbCfg 7 (if fw then 0x80000000 else 0)

/-- An accepted command on time base 7. -/
def timeCmd (op data : Nat) : State := { up with time := { cmd := some { op := op, tb := 7, data := data } } }

/-- A follower of a Paired pair, whose time base 7 is followed. -/
def follower : State :=
  State.with_ { (up.setReg .glbMode 0 0x3000).setReg .redTwinStat 0 0x08000000 with red := { state := 3 } }
    [(.redTwinCfg, 0, 0x80000000)]

/-- Firmware's base may be stepped, by more than 1,000 µs, with the data of a command. -/
def stepping (data : Word) : State := (up.setReg .timeTbCfg 7 0xC00003E8).setReg .timeCmdDataLo 0 data

/-- What the servo is kept from: a trim of more than 200 ppm, and a step of no more than STEP_THRESH_US. -/
theorem witness_ServoLimits :
    (stepping 1000001).servoMay 7 1 = true ∧ (stepping 1000000).servoMay 7 1 = false ∧ (stepping 1000001).servoMay 7 2 = true
      ∧ (stepping 1000000).servoMay 7 2 = false ∧ (stepping (Word.ofNat trim200ppm)).servoMay 7 3 = true
      ∧ (stepping (Word.ofNat (trim200ppm + 1))).servoMay 7 3 = false
      ∧ (owned true).rb .timeTbCfg 7 31 = true ∧ (owned true).servoMay 7 1 = false ∧ (owned true).servoMay 7 3 = true
      ∧ (stepping 1000001).rb .timeTbCfg 7 31 = true ∧ (stepping 1000001).followed 7 = false
      ∧ (stepping 1000001).time.cmd = none ∧ (stepping 1000001).awake = true := by
  decide +kernel

/-- A follower of base 7, with a health frame that names that base, and one that names none. -/
theorem witness_FollowedBasesSteered :
    follower.time.tbs.length = 8 ∧ follower.followed 7 = true ∧ follower.followed 0 = false
      ∧ bitOf (be (List.replicate 39 (0 : Byte) ++ [0x80] ++ List.replicate 36 0) 36 4) 7 = true
      ∧ bitOf (be (List.replicate 76 (0 : Byte)) 36 4) 7 = false := by
  decide +kernel

theorem witness_TimeCommands :
    (timeCmd 1 0).time.cmd ≠ none ∧ up.time.cmd = none ∧ (owned true).rb .timeTbCfg 7 31 = decide (Src.firmware = .firmware)
      ∧ ((owned true).rb .timeTbCfg 7 31 == decide (Src.pcie = .firmware)) = false
      ∧ (owned false).rb .timeTbCfg 7 31 = decide (Src.pcie = .firmware) ∧ (owned false).followed 7 = false
      ∧ follower.followed 7 = true ∧ follower.awake = true ∧ follower.committed = true ∧ follower.time.cmd = none
      ∧ (timeCmd 1 0).awake = true ∧ (timeCmd 2 0).tbNow 7 = 0 ∧ (timeCmd 2 (2 ^ 64 - 1)).tbNow 7 ≠ 2 ^ 64 - 1
      ∧ 7 < up.time.tbs.length := by
  decide +kernel

/-- Two-step records of Platform 7, of instant 0. -/
def twoStep (t : Nat) : State :=
  { onPlat up 7 { tc := [{ port := 448, domain := 0, src := 0, seq := 0, value := 0, at_ := 0 }] } with fs := t }

theorem witness_SnapshotsAndRecords :
    up.awake = true ∧ up.time.snapBusy = false ∧ ({ up with time := { snapBusy := true } } : State).time.snapBusy = true
      ∧ ({ up with time := { snapBusy := true } } : State).awake = true ∧ up.running = true ∧ (twoStep 0).running = true
      ∧ ((twoStep 1000000000000001).plat 7).tc.length = 1 := by
  decide +kernel

/-- A 1PPS output of 1 ns with a pulse of 1 ns, on time base 0; 10 ns have passed. -/
def pps (x : PpsOut) : State :=
  { State.with_ up [(.timePpsOutCfg, 3, 0x80000000), (.timePpsOutPeriod, 3, 1), (.timePpsOutWidth, 3, 1)] with
    fs := 10000000, time := { pps := [{}, {}, {}, x] } }

/-- An enabled 1PPS input with a last edge. -/
def ppsIn (last : Option Nat) : State :=
  { up.setReg .timePpsInCfg 3 0x80000000 with fs := 1000000000, time := { ppsIn := [none, none, none, last] } }

theorem witness_PpsPins :
    (pps {}).running = true ∧ (pps {}).ppsDue 3 = true ∧ ((pps {}).pps 3).pulse = none
      ∧ ((pps {}).pps 3).last ≠ some (pps {}).tickQ ∧ up.ppsDue 3 = false
      ∧ ((pps { pulse := some 10000000 }).pps 3).pulse = some 10000000 ∧ 10000000 ≤ (pps { pulse := some 10000000 }).fs
      ∧ (pps { pulse := some 10000001 }).fs < 10000001
      ∧ up.rb .timePpsInCfg 3 31 = false ∧ (ppsIn none).rb .timePpsInCfg 3 31 = true ∧ (ppsIn none).running = true
      ∧ ((ppsIn (some 1)).time.ppsIn[3]?).getD none = some 1 ∧ (ppsIn (some 1)).fs < 1 + 1000000000
      ∧ ((ppsIn (some 0)).time.ppsIn[3]?).getD none = some 0 ∧ ¬ (ppsIn (some 0)).fs < 0 + 1000000000 := by
  decide +kernel

/-! ### The capture store -/

/-- Capture is enabled, and rule 0 keeps `snap` bytes; the writer and the drain stand as given. -/
def capturing (snap : Nat) (c : RecSt) : State :=
  { State.with_ up [(.recCfg, 0, 0x800FFFFF), (.recRule, 0, Word.ofNat (2 ^ 31 + snap)), (.recRingBlocks, 0, 16)] with capt := c }

/-- A captured frame of 64 bytes. -/
def capRef : CapRef := { frame := { bytes := List.replicate 64 0, len := 64, plat := 7 } }

/-- The frame waits for the drain of Platform 7; `inj` says that a cell CRC error is to be injected there. -/
def draining (snap : Nat) (inj : Bool) : State :=
  { onPlat (capturing snap {}) 7 { capQ := [capRef] } with saf := { injCell := if inj then 128 else 0 } }

/-- A block that a window pins. -/
def pinnedWr : RecSt :=
  { ring := [(0, { bsn := 0 })], bsn := 16, wins := [{ state := 1 }, {}, {}, {}], queue := [.marker 0 0] }

theorem witness_CaptureWriting :
    (up.plat 7).capQ = [] ∧ ((draining 64 false).plat 7).capQ = [capRef] ∧ (draining 64 false).running = true
      ∧ (draining 64 false).injCell 7 = false ∧ (draining 64 true).injCell 7 = true
      ∧ 0 < min (((draining 64 true).cfgAt capRef.frame.epoch).f .recRule 0 13 0) capRef.frame.bytes.length
      ∧ min (((draining 0 true).cfgAt capRef.frame.epoch).f .recRule 0 13 0) capRef.frame.bytes.length = 0
      ∧ up.capt.queue = [] ∧ (capturing 64 { queue := [.marker 3 0], cxlErr := true }).capt.cxlErr = true
      ∧ ((capturing 64 { queue := [.marker 3 0] }).blockFor 32).2.isSome = true
      ∧ ((capturing 64 pinnedWr).blockFor 32).2 = none ∧ (capturing 64 pinnedWr).capt.cxlErr = false
      ∧ ((capturing 64 { pinnedWr with queue := [.frame capRef []] }).blockFor 39).2 = none
      ∧ ((capturing 64 { queue := [.frame capRef [0]] }).blockFor (32 + ([0] : List Byte).length + 7)).2.isSome = true
      ∧ (draining 64 false).drainDue 7 = true ∧ up.drainDue 7 = false ∧ up.capt.drainTurn < 8
      ∧ (capturing 64 { queue := [.frame capRef [0]] }).running = true
      ∧ ({ up with capt := { cur := some ({}, 0) } } : State).capt.cur = some ({}, 0)
      ∧ up.closeDue = false ∧ { capturing 64 { cur := some ({}, 0) } with fs := 2 ^ 60 }.closeDue = true
      ∧ { capturing 64 { cur := some ({}, 0) } with fs := 2 ^ 60 }.running = true := by
  decide +kernel

/-- GPIO 15 triggers on its rising edge; the windows stand as given. -/
def triggers (wins : List RecWin) : State :=
  { State.with_ up [(.recTrigCfg, 0, 0x80F00000)] with capt := { wins := wins } }

theorem witness_Triggers :
    (triggers [{}, {}, {}, { state := 1 }]).gpioFires 15 true = true ∧ (triggers [{}, {}, {}, { state := 1 }]).running = true
      ∧ (triggers [{}, {}, {}, { state := 1 }]).awake = true ∧ (triggers [{}, {}, {}, { state := 1 }]).committed = true
      ∧ (List.range 4).find? (fun w => ((triggers [{}, {}, {}, { state := 1 }]).win w).state = 1) = some 3
      ∧ (∀ v, v < 4 → ((triggers [{ state := 3 }, { state := 3 }, { state := 3 }, {}]).win v).state ≠ 1)
      ∧ (List.range 4).find? (fun w => ((triggers [{ state := 3 }, { state := 3 }, { state := 3 }, {}]).win w).state = 0) = some 3
      ∧ (∀ v, v < 4 → ((triggers (List.replicate 4 { state := 3 })).win v).state ≠ 1
          ∧ ((triggers (List.replicate 4 { state := 3 })).win v).state ≠ 0)
      ∧ (triggers []).gpioFires 15 false = false ∧ (triggers []).gpioFires 14 true = false := by
  decide +kernel

/-- Window 3 stands in a state; AUTO says that sealing starts the commit. -/
def windowIn (n : Nat) (auto : Bool) : State :=
  { State.with_ up [(.recNvmeCfg, 0, if auto then 0x80000000 else 0), (.recRingBlocks, 0, 16), (.recNvmeCount, 0, 100)] with
    capt := { wins := [{}, {}, {}, { state := n }] } }

theorem witness_CaptureWindows :
    (windowIn 1 false).running = true ∧ (windowIn 1 false).windowOver 3 = true ∧ up.windowOver 3 = false
      ∧ (up.win 3).state ≠ 2 ∧ ((windowIn 2 false).win 3).state = 2 ∧ (windowIn 2 false).sealTurn 3 = true
      ∧ ({ windowIn 2 false with capt := { wins := [{ state := 2 }, {}, {}, { state := 2, id := 1 }] } } : State).sealTurn 3 = false
      ∧ (State.with_ up [(.recNvmeCfg, 0, 0x40000000)]).cfg.b .recNvmeCfg 0 30 = true ∧ up.cfg.b .recNvmeCfg 0 30 = false
      ∧ (windowIn 2 false).upd.vault.signKey = none
      ∧ ({ windowIn 2 false with upd := { vault := { signKey := some 1 } } } : State).upd.vault.signKey = some 1
      ∧ (List.replicate 4096 (0 : Byte)).length = 4096 ∧ (windowIn 2 false).cfg.b .recNvmeCfg 0 31 = false
      ∧ (windowIn 2 true).cfg.b .recNvmeCfg 0 31 = true ∧ ((windowIn 3 false).win 3).state = 3 ∧ (windowIn 3 false).awake = true
      ∧ (windowIn 3 false).committed = true ∧ bitOf 8 3 = true ∧ ((windowIn 4 false).win 3).state = 4 ∧ (up.win 3).state ≠ 4
      ∧ (windowIn 4 false).running = true := by
  decide +kernel

/-! ### The host port -/

/-- Unit `u` has rings of 16 entries. -/
def sized (u : Nat) : State :=
  [RegId.hostQpTxSize, .hostQpRxSize, .hostQpCqSize].foldl (fun s id => s.setReg id u 16) (up.setReg .hostQpStat u 0x80000000)

/-- The unit is enabled as well, with its group's port up. -/
def unit_ (u : Nat) : State :=
  if u < 16 then (((sized u).setReg .hostQpCtrl u 0x80000000).setReg .hostQpStat u 0).portUp (528 + u) 10
  else ((sized u).setReg .hostTdCtrl 0 0x80000000).setReg .hostQpStat u 0

theorem witness_PcieAndUnits :
    up.powered = true ∧ 2 ≤ up.phase ∧ State.reset.phase < 2 ∧ up.headsDone 16 = true
      ∧ (up.setReg .hostQpTxHead 16 1).headsDone 16 = false ∧ up.awake = true ∧ up.host.d3hot = false
      ∧ ({ up with host := { d3hot := true } } : State).host.d3hot = true
      ∧ up.zeroRing 16 = true ∧ (sized 16).zeroRing 16 = false ∧ (sized 15).zeroRing 15 = false ∧ (sized 15).unitIdle 15 = true
      ∧ (sized 15).awake = true ∧ (sized 15).committed = true ∧ ((sized 16).setReg .hostQpStat 16 0).unitIdle 16 = false
      ∧ (unit_ 15).unitOn 15 = true ∧ (unit_ 16).unitOn 16 = true ∧ up.unitOn 16 = false ∧ (unit_ 16).awake = true
      ∧ (up.unit 16).inFlight = 0 ∧ (up.unit 16).waiting = [] ∧ up.host.td = none ∧ (tdPart true 3).host.td ≠ none
      ∧ (up.unit 0).inFlight = 0 ∧ (up.unit 0).waiting = [] ∧ up.headsDone 0 = true
      ∧ ((up.modUnit 16 fun x => { x with inFlight := 1 }).unit 16).inFlight ≠ 0
      ∧ ((up.modUnit 16 fun x => { x with waiting := [{ words := [] }] }).unit 16).waiting = [{ words := [] }]
      ∧ (sized 3).zeroRing 3 = false ∧ ((sized 3).setReg .hostQpStat 3 0).unitIdle 3 = false := by
  decide +kernel

/-- The user window reaches queue pair 15. -/
def userQp : State := (unit_ 15).setReg .hostUserCfg 0 0x8000

theorem witness_ProducerDoorbells :
    userQp.awake = true ∧ userQp.committed = true ∧ userQp.host.d3hot = false ∧ userQp.delegated 15 = true
      ∧ userQp.unitOn 15 = true ∧ up.unitOn 15 = false
      ∧ idxDiff 16 (userQp.rf .hostQpTxHead 15 15 0) ≤ userQp.ring .hostQpTxSize 15
      ∧ idxDiff (userQp.rf .hostTxDb 15 15 0) (userQp.rf .hostQpTxHead 15 15 0) ≤ idxDiff 16 (userQp.rf .hostQpTxHead 15 15 0)
      ∧ ¬ idxDiff 17 (userQp.rf .hostQpTxHead 15 15 0) ≤ userQp.ring .hostQpTxSize 15
      ∧ (unit_ 16).unitOn 16 = true ∧ (unit_ 16).ring .hostQpTxSize 16 = 16 := by
  decide +kernel

theorem witness_OtherDoorbells :
    idxDiff 1 ((userQp.setReg .hostQpCqHead 15 1).rf .hostCqDb 15 15 0)
        ≤ idxDiff ((userQp.setReg .hostQpCqHead 15 1).rf .hostQpCqHead 15 15 0) ((userQp.setReg .hostQpCqHead 15 1).rf .hostCqDb 15 15 0)
      ∧ idxDiff (userQp.rf .hostQpCqHead 15 15 0) (userQp.rf .hostCqDb 15 15 0) < idxDiff 1 (userQp.rf .hostCqDb 15 15 0)
      ∧ userQp.delegated 15 = true ∧ userQp.delegated 14 = false ∧ userQp.awake = true ∧ userQp.host.d3hot = false
      ∧ ({ userQp with host := { userQp.host with d3hot := true } } : State).host.d3hot = true := by
  decide +kernel

/-- Queue pair 15 has `n` transmit descriptors posted. -/
def posted (n : Nat) : State := (unit_ 15).setReg .hostTxDb 15 (Word.ofNat n)

/-- A transmit descriptor: FIRST and LAST of a frame of 64 bytes. -/
def txDesc : List Word := [0, 0, 0x00400040, 0xC0000000, 0, 0, 0, 0]

/-- FIRST alone. -/
def txFirst : List Word := [0, 0, 0x00400080, 0x80000000, 0, 0, 0, 0]

/-- A copy of a frame waits in queue 7 of host group 15, with the end of its HOLD_US timer. -/
def rxWaits (ends : Option Nat) : State :=
  let p := (unit_ 15).port 543
  onPort (unit_ 15) 543 { p with
    queues := p.queues.set 7 { copies := [{ frame := { bytes := List.replicate 64 0, len := 64 }, port := 543, cls := 7, holdEnd := ends }] } }

theorem witness_HostFrames :
    up.txTurn 15 = false ∧ (posted 1).txTurn 15 = true ∧ (posted 1).running = true ∧ (posted 1).retained = false
      ∧ (posted 1).txWalk ([List.replicate 8 0].take ((posted 1).txPosted 15)) 0 0 0 = .bad 0 1
      ∧ (posted 1).txWalk ([txFirst].take ((posted 1).txPosted 15)) 0 0 0 = .open_
      ∧ (posted 1).txWalk ([txDesc].take ((posted 1).txPosted 15)) 0 0 0 = .frame 1
      ∧ (posted 1).fixedUsed + (posted 1).ownCells + ceilDiv (max ((posted 1).txInfo 15 1 txDesc).len 60 + 4) 256 ≤ 8192
      ∧ 8192 < ({ posted 1 with fixedUsed := 8192 } : State).fixedUsed + 1
      ∧ ((up.port 543).queue 7).copies = [] ∧ (((rxWaits none).port 543).queue 7).copies.length = 1
      ∧ (rxWaits none).running = true
      ∧ ((((rxWaits (some 0)).port 543).queue 7).copies.map (·.holdEnd)) = [some 0]
      ∧ (rxWaits (some 1)).fs < 1 ∧ 0 ≤ (rxWaits (some 0)).fs := by
  decide +kernel

/-- A completion waits at unit 16, with a moderation timer of 1 µs that began at 0. -/
def waits (t : Nat) : State :=
  { ((unit_ 16).setReg .hostQpCqInt 16 1).modUnit 16 (fun x => { x with waiting := [{ words := List.replicate 8 0 }], cqSince := some 0 })
    with fs := t }

theorem witness_HostCompletions :
    (waits 0).running = true ∧ ((waits 0).unit 16).waiting = [{ words := List.replicate 8 0 }] ∧ (up.unit 16).waiting = []
      ∧ ¬ (waits 0).ring .hostQpCqSize 16 ≤ idxDiff ((waits 0).rf .hostQpCqHead 16 15 0) ((waits 0).rf .hostCqDb 16 15 0)
      ∧ ((waits 0).setReg .hostQpCqHead 16 16).ring .hostQpCqSize 16
        ≤ idxDiff (((waits 0).setReg .hostQpCqHead 16 16).rf .hostQpCqHead 16 15 0) (((waits 0).setReg .hostQpCqHead 16 16).rf .hostCqDb 16 15 0)
      ∧ ((waits 0).unit 16).cqSince = some 0 ∧ (waits 0).rf .hostQpCqInt 16 15 0 = 1
      ∧ 0 + (waits 1000000000).rf .hostQpCqInt 16 15 0 * 1000000000 ≤ (waits 1000000000).fs
      ∧ (waits 999999999).fs < 0 + (waits 999999999).rf .hostQpCqInt 16 15 0 * 1000000000
      ∧ (up.unit 16).cqSince = none
      ∧ (posted 1).txAble 15 = true ∧ (posted 1).unitOn 15 = true ∧ up.unitOn 15 = false ∧ tdOn.tdAble = true
      ∧ tdOn.host.td = none := by
  decide +kernel

/-! ### Boot and reset -/

/-- Supplies and RESET_N in a position. -/
def supplies (vao pwrgood inReset : Bool) : State :=
  { State.reset with boot := { State.reset.boot with vao := vao, pwrgood := pwrgood, inReset := inReset } }

theorem witness_ResetsAndSupplies :
    (supplies true true false).boot.vao = true ∧ (supplies true true false).boot.pwrgood = true
      ∧ (supplies true true false).powered = true ∧ (supplies false false true).boot.vao = false
      ∧ (supplies true false true).boot.pwrgood = false ∧ (supplies true false true).powered = false
      ∧ (supplies true false true).boot.inReset = true ∧ (supplies true true false).boot.inReset = false
      ∧ (supplies true true false).faultDue = false
      ∧ ({ halted with saf := { halting := some haltSteps } } : State).powered = true
      ∧ ({ halted with saf := { halting := some haltSteps } } : State).saf.halting = some haltSteps := by
  decide +kernel

/-- The boot stands in a phase. -/
def inPhase (n : Nat) (b : BootSt) : State := { State.reset.setRf .bootStat 0 31 28 n with boot := b }

/-- Bytes listed in a store from a key on. -/
def seg : Nat → List Byte → Store Byte
  | _, [] => []
  | a, b :: r => (a, b) :: seg (a + 1) r

theorem get_seg (d : Byte) (l : List Byte) (a k : Nat) (h : a ≤ k) : Store.get d (seg a l) k = l.getD (k - a) d := by
  induction l generalizing a with
  | nil => rfl
  | cons b r ih =>
    simp only [seg, Store.get]
    by_cases e : k = a
    · simp [e]
    · have : k - a = (k - (a + 1)) + 1 := by omega
      rw [if_neg e, if_neg (by omega), ih (a + 1) (by omega), this]
      rfl

/-- What a flash that holds these bytes reads. -/
theorem read_seg (s : State) (l m : List Byte) (a o : Nat) (h : s.boot.flash = seg a l) (hm : (l.drop o).take m.length = m) :
    s.flashRead (a + o) m.length = m := by
  refine List.ext_getElem (by simp [State.flashRead]) fun i hi hj => ?_
  have hb : a ≤ a + o + i := by omega
  simp only [State.flashRead, List.getElem_map, List.getElem_range, State.flashByte, h, get_seg _ _ _ _ hb]
  have : a + o + i - a = o + i := by omega
  have g : m[i]? = l[o + i]? := by
    conv => lhs; rw [← hm]
    rw [List.getElem?_take_of_lt hj, List.getElem?_drop]
  rw [this, List.getD_eq_getElem?_getD, ← g, List.getElem?_eq_getElem hj]
  rfl

theorem leNat_leBytes (n v : Nat) : leNat (leBytes n v) = v % 256 ^ n := by
  induction n generalizing v with
  | zero => simp [leBytes, leNat, Nat.mod_one]
  | succ n ih =>
    have h : (Byte.ofNat v).toNat = v % 256 := BitVec.toNat_ofNat v 8
    rw [leBytes, leNat, ih, h, Nat.pow_succ', Nat.mod_mul]

theorem beNat_beBytes (n v : Nat) : beNat (beBytes n v) = v % 256 ^ n := by
  rw [beNat, beBytes, List.foldl_reverse, ← leNat_leBytes]
  generalize leBytes n v = l
  induction l with
  | nil => rfl
  | cons b r ih => simp only [List.foldr_cons, leNat, ih]; omega

theorem leBytes_length (n v : Nat) : (leBytes n v).length = n := by
  induction n generalizing v with
  | zero => rfl
  | succ n ih => simp [leBytes, ih]

@[simp] theorem beBytes_length (n v : Nat) : (beBytes n v).length = n := by simp [beBytes, leBytes_length]

/-- Bytes of a string of which they are a part. -/
theorem slice_of (p m q : List Byte) (o n : Nat) (ho : o = p.length) (hn : n = m.length) : sliceZ (p ++ m ++ q) o n = m := by
  subst ho hn
  simp [sliceZ]

/-- What lies in the front of a string is read there. -/
theorem le_front (p q : List Byte) (o n : Nat) (h : o + n ≤ p.length) : le (p ++ q) o n = le p o n := by
  have : sliceZ (p ++ q) o n = sliceZ p o n := by
    simp only [sliceZ]
    rw [List.drop_append_of_le_length (by omega), List.take_append_of_le_length (by simp; omega)]
  rw [le, le, this]

/-- A public key, and a key of images. -/
def pub : List Byte := [1]
def imageKey : List Byte := [2]

/-- The key stream over the one section of the image, whose clear bytes are zeros, and the digest of those. -/
def stream : List Byte := ctrStream imageKey (sectionPre 1 0) 0 4
def digest : Nat := Config.sha384 [0, 0, 0, 0]

/-- A header's first bytes: generation 1, one Modes section of 4 bytes. -/
def front : List Byte :=
  leBytes 4 0x43485A31 ++ leBytes 2 1 ++ leBytes 2 1 ++ leBytes 2 0 ++ leBytes 2 1 ++ leBytes 4 4100 ++ List.replicate 112 0
    ++ leBytes 4 0x10 ++ leBytes 4 4096 ++ leBytes 4 4 ++ leBytes 4 0

/-- Its bytes before KEY_ID, with a DIGEST, and what signs them. -/
def headed (d : Nat) : List Byte := front ++ beBytes 48 d ++ List.replicate 3520 0
def signature : Nat := Config.verifiesP384 pub (Config.sha384 (headed digest)) 0

/-- The header, with a DIGEST and an SIG_S. -/
def header (d v : Nat) : List Byte := headed d ++ keyId pub ++ List.replicate 48 0 ++ beBytes 48 v ++ List.replicate 272 0

/-- A flash whose bank A holds that header and the section, under the key stream; no boot record is written. -/
def flashed (d v : Nat) : BootSt := { flash := seg 0x100000 (header d v ++ stream) }

theorem front_length : front.length = 144 := by decide +kernel
theorem headed_length (d : Nat) : (headed d).length = 3712 := by
  simp only [headed, List.length_append, beBytes_length, List.length_replicate, front_length]
theorem keyId_length (p : List Byte) : (keyId p).length = 16 := by simp [keyId]
theorem header_length (d v : Nat) : (header d v).length = 4096 := by
  simp only [header, List.length_append, beBytes_length, List.length_replicate, headed_length, keyId_length]
theorem stream_length : stream.length = 4 := by
  simp only [stream, ctrStream, show ceilDiv 4 16 = 1 from rfl, List.range_one, List.flatMap_singleton, List.length_take, sliceZ,
    List.length_append, List.length_replicate, List.length_drop]
  omega

theorem image_header (s : State) (d v : Nat) (h : s.boot.flash = (flashed d v).flash) : s.imageHeader 0 = header d v := by
  rw [State.imageHeader, State.bankBase, Nat.zero_mul]
  have := read_seg s (header d v ++ stream) (header d v) 0x100000 0 h (by simp)
  rwa [header_length] at this

theorem header_front (d v : Nat) : ∃ q, header d v = front ++ q :=
  ⟨beBytes 48 d ++ List.replicate 3520 0 ++ keyId pub ++ List.replicate 48 0 ++ beBytes 48 v ++ List.replicate 272 0, by
    simp only [header, headed, List.append_assoc]⟩

theorem header_digest (d v : Nat) : sliceZ (header d v) 144 48 = beBytes 48 d := by
  have e : header d v = front ++ beBytes 48 d ++ (List.replicate 3520 0 ++ keyId pub ++ List.replicate 48 0 ++ beBytes 48 v
      ++ List.replicate 272 0) := by
    simp only [header, headed, List.append_assoc]
  rw [e]
  exact slice_of _ _ _ 144 48 front_length.symm (by simp)

theorem header_id (d v : Nat) : sliceZ (header d v) 3712 16 = keyId pub := by
  have e : header d v = headed d ++ keyId pub ++ (List.replicate 48 0 ++ beBytes 48 v ++ List.replicate 272 0) := by
    simp only [header, List.append_assoc]
  rw [e]
  exact slice_of _ _ _ 3712 16 (headed_length d).symm (keyId_length pub).symm

theorem header_r (d v : Nat) : be (header d v) 3728 48 = 0 := by
  have e : header d v = headed d ++ keyId pub ++ List.replicate 48 0 ++ (beBytes 48 v ++ List.replicate 272 0) := by
    simp only [header, List.append_assoc]
  rw [be, e, slice_of _ _ _ 3728 48 (by simp [headed_length, keyId_length]) (by simp)]
  decide

theorem header_sig (d v : Nat) : be (header d v) 3776 48 = v % 2 ^ 384 := by
  rw [be, header, slice_of _ _ _ 3776 48 (by simp [headed_length, keyId_length]) (by simp), beNat_beBytes,
    show 256 ^ 48 = 2 ^ 384 by decide +kernel]

theorem header_take (d v : Nat) : (header d v).take 3712 = headed d := by
  simp [header, List.append_assoc, ← headed_length d]

/-- The one section of that header. -/
def modes (d : Nat) : Sect := { type := 0x10, off := 4096, len := 4, arg := 0, digest := beBytes 48 d }

theorem header_sections (d v : Nat) : sectionsOf (header d v) = [modes d] := by
  obtain ⟨q, e⟩ := header_front d v
  have at_ (o n : Nat) (h : o + n ≤ 144) : le (header d v) o n = le front o n := by
    rw [e, le_front _ _ _ _ (by rw [front_length]; exact h)]
  have a : le front 10 2 = 1 ∧ le front 128 2 = 0x10 ∧ le front 132 4 = 4096 ∧ le front 136 4 = 4 ∧ le front 140 4 = 0 := by
    decide +kernel
  simp only [sectionsOf, at_ 10 2 (by decide), at_ 128 2 (by decide), at_ 132 4 (by decide), at_ 136 4 (by decide),
    at_ 140 4 (by decide), a, List.range_one, List.map_cons, List.map_nil, Nat.mul_zero, Nat.add_zero, Nat.reduceAdd,
    header_digest, modes]

/-- Identity stands at bank A of such a flash, under a key that the vault has and none revokes. -/
def signed (v : Nat) : State :=
  { inPhase 1 (flashed digest v) with
    upd := { State.reset.upd with rootIds := [some (keyId pub), none, none, none], vault := { pubs := [pub] } } }

theorem signed_header (v : Nat) : (signed v).imageHeader 0 = header digest v := image_header _ _ _ rfl

theorem signed_signer (s : State) (v : Nat) (h : s.upd = (signed v).upd) (hr : s.rb .bootSecStat 0 0 = false) :
    s.signerOf (header digest v) = some pub := by
  simp only [State.signerOf, header_id, h]
  rw [if_pos]
  · simp [signed]
  · simp [signed, List.range_succ, hr]

/-- A retry of it, after another bank failed in Load. -/
def retried : State := { signed signature with boot := { (signed signature).boot with retry := some 0 } }

theorem signed_size : (signed signature).bootRecord.bankSize = 33030144
  ∧ retried.bootRecord.bankSize = 33030144 := by decide +kernel

theorem header_ok : headerOk (header digest signature) 33030144 = true := by decide +kernel

theorem bank_ok (s : State) (hf : s.boot.flash = (flashed digest signature).flash) (hu : s.upd = (signed signature).upd)
    (hr : s.rb .bootSecStat 0 0 = false) (hz : s.bootRecord.bankSize = 33030144) : s.bankOk 0 = true := by
  rw [State.bankOk, image_header s _ _ hf, State.signatureOk, signed_signer s _ hu hr]
  simp only [header_sig, header_take, header_r, signature, decide_true, Bool.true_and]
  exact hz ▸ header_ok

/-- A bank whose check passes; one whose signature is another, and one whose key is revoked, fail it. -/
theorem witness_SignaturesVerify :
    (signed signature).bankOk 0 = true ∧ headerOk ((signed signature).imageHeader 0) (signed signature).bootRecord.bankSize = true
      ∧ headerOk (State.reset.imageHeader 0) State.reset.bootRecord.bankSize = false
      ∧ (∃ n, n < 4 ∧ (signed signature).upd.rootIds[n]? = some (some (sliceZ ((signed signature).imageHeader 0) 3712 16))
          ∧ (signed signature).rb .bootSecStat 0 n = false)
      ∧ (signed signature).upd.vault.pubs.find? (keyId · = sliceZ ((signed signature).imageHeader 0) 3712 16) = some pub
      ∧ State.reset.upd.vault.pubs.find? (keyId · = sliceZ (State.reset.imageHeader 0) 3712 16) = none
      ∧ be ((signed (signature + 1)).imageHeader 0) 3776 48
        ≠ Config.verifiesP384 pub (Config.sha384 (((signed (signature + 1)).imageHeader 0).take 3712))
            (be ((signed (signature + 1)).imageHeader 0) 3728 48) % 2 ^ 384 := by
  have hs : (signed signature).rb .bootSecStat 0 0 = false := by decide +kernel
  refine ⟨?_, ?_, by decide +kernel, ⟨0, by decide, ?_, hs⟩, ?_, by decide +kernel, ?_⟩
  · exact bank_ok _ rfl rfl hs signed_size.1
  · rw [signed_header, signed_size.1]; exact header_ok
  · rw [signed_header, header_id]; rfl
  · rw [signed_header, header_id]; simp [signed]
  · rw [signed_header, header_sig, header_take, header_r]
    show (signature + 1) % 2 ^ 384 ≠ signature % 2 ^ 384
    omega

/-- Identity is at rest, with a bank that passes, in its own turn or for one that failed in Load. -/
theorem witness_BootIdentity_passes :
    (signed signature).chooseBank = (0, false) ∧ (signed signature).phase = 1 ∧ (signed signature).awake = true
      ∧ (signed signature).bankOk 0 = true ∧ retried.boot.retry = some 0 ∧ retried.bankOk 0 = true :=
  ⟨by decide +kernel, by decide +kernel, by decide +kernel, witness_SignaturesVerify.1, rfl,
    bank_ok retried rfl rfl (by decide +kernel) signed_size.2⟩

/-- Load stands at bank A of a flash with a DIGEST, with the image key in the vault. -/
def loading (d : Nat) : State :=
  { (inPhase 3 (flashed d 0)).setRf .bootStat 0 27 26 0 with upd := { vault := { imageKey := some imageKey } } }

theorem loading_header (d : Nat) : (loading d).imageHeader 0 = header d 0 := image_header _ _ _ rfl

theorem loading_bank (d : Nat) : (loading d).bank = 0 := (by decide +kernel : (loading 0).bank = 0)

/-- The section's clear bytes, one by one and as the model takes them. -/
theorem loading_clear (d : Nat) :
    ((List.range 4).map fun n =>
        (loading d).flashByte ((loading d).bankBase 0 + 4096 + n)
          ^^^ (Config.aes256 imageKey (beBytes 2 1 ++ beBytes 2 0 ++ List.replicate 8 0 ++ beBytes 4 (n / 16))).getD (n % 16) 0)
      = [0, 0, 0, 0] := by
  have hr : (loading d).flashRead (0x100000 + 4096) 4 = stream := by
    have := read_seg (loading d) (header d 0 ++ stream) stream 0x100000 4096 rfl (by simp [← header_length d 0])
    rwa [stream_length] at this
  have hb : (loading d).bankBase 0 = 0x100000 := by rw [State.bankBase, Nat.zero_mul]
  have hf (n : Nat) (h : n < 4) : (loading d).flashByte (0x100000 + 4096 + n) = stream.getD n 0 := by
    rw [← hr]
    simp [State.flashRead, List.getD_eq_getElem?_getD, h]
  have hs (n : Nat) (h : n < 4) : stream.getD n 0
      = (Config.aes256 imageKey (beBytes 2 1 ++ beBytes 2 0 ++ List.replicate 8 0 ++ beBytes 4 0)).getD n 0 := by
    rw [stream, ctrStream, show ceilDiv 4 16 = 1 from rfl]
    simp only [List.range_one, List.flatMap_singleton, sliceZ, List.drop_zero, sectionPre]
    generalize Config.aes256 _ _ = k
    simp only [List.getD_eq_getElem?_getD, List.getElem?_take_of_lt h]
    rw [List.getElem?_append, List.length_take]
    split
    · rw [List.getElem?_take_of_lt (by omega)]
    · rw [List.getElem?_eq_none (l := k) (by omega)]
      simp only [List.getElem?_replicate]
      split <;> rfl
  have hx (n : Nat) (h : n < 4) : (loading d).flashByte ((loading d).bankBase 0 + 4096 + n)
      ^^^ (Config.aes256 imageKey (beBytes 2 1 ++ beBytes 2 0 ++ List.replicate 8 0 ++ beBytes 4 (n / 16))).getD (n % 16) 0 = 0 := by
    have h0 : n / 16 = 0 := by omega
    have h1 : n % 16 = n := by omega
    rw [hb, hf n h, hs n h, h0, h1, BitVec.xor_self]
    rfl
  refine List.ext_getElem rfl fun n h _ => ?_
  simp only [List.length_map, List.length_range] at h
  simp only [List.getElem_map, List.getElem_range, hx n h]
  have : n = 0 ∨ n = 1 ∨ n = 2 ∨ n = 3 := by omega
  rcases this with rfl | rfl | rfl | rfl <;> rfl

/-- The section's bytes as the model decrypts them. -/
theorem loading_section (d : Nat) : (loading d).sectionBytes imageKey 0 0 (modes d) = [0, 0, 0, 0] := by
  have hr : (loading d).flashRead (0x100000 + 4096) 4 = stream := by
    have := read_seg (loading d) (header d 0 ++ stream) stream 0x100000 4096 rfl (by simp [← header_length d 0])
    rwa [stream_length] at this
  obtain ⟨q, e⟩ := header_front d 0
  have hg : le (header d 0) 6 2 = 1 := by
    rw [e, le_front _ _ _ _ (by rw [front_length]; decide)]
    decide +kernel
  have hx : stream.zipWith (· ^^^ ·) stream = [0, 0, 0, 0] := by
    rw [List.zipWith_self]
    simp [List.map_const', stream_length, List.replicate_succ]
  rw [State.sectionBytes, loading_header, hg, State.bankBase, Nat.zero_mul]
  show ctrCrypt imageKey (sectionPre 1 0) 0 ((loading d).flashRead (0x100000 + 4096) 4) = _
  rw [hr, ctrCrypt, stream_length]
  exact hx

/-- A number is not the digest next to it. -/
theorem digest_ne : beBytes 48 (Config.sha384 [0, 0, 0, 0]) ≠ beBytes 48 (digest + 1) := by
  intro h
  have h' := congrArg beNat h
  rw [beNat_beBytes, beNat_beBytes, show 256 ^ 48 = 2 ^ 384 by decide +kernel] at h'
  have : Config.sha384 [0, 0, 0, 0] = digest := rfl
  omega

/-- An image that opens to its one section, and one with another DIGEST, which does not. -/
theorem witness_ImageOpens :
    sectionsOf ((loading digest).imageHeader 0) = [modes digest] ∧ (loading digest).upd.vault.imageKey = some imageKey
      ∧ State.reset.upd.vault.imageKey = none ∧ beBytes 48 (Config.sha384 [0, 0, 0, 0]) = (modes digest).digest
      ∧ (loading digest).openImage = some [(0x10, 0, [0, 0, 0, 0])]
      ∧ sectionsOf ((loading (digest + 1)).imageHeader 0) = [modes (digest + 1)]
      ∧ beBytes 48 (Config.sha384 [0, 0, 0, 0]) ≠ (modes (digest + 1)).digest ∧ (loading (digest + 1)).openImage = none := by
  have go (d : Nat) : (loading d).openImage = (loading d).openSections imageKey 0 [modes d] 0 := by
    have hk : (loading d).upd.vault.imageKey = some imageKey := rfl
    rw [State.openImage, hk, loading_bank, loading_header, header_sections]
    rfl
  refine ⟨by rw [loading_header, header_sections], rfl, rfl, rfl, ?_, by rw [loading_header, header_sections], digest_ne, ?_⟩
  · rw [go, State.openSections, loading_section]
    exact if_pos rfl
  · rw [go, State.openSections, loading_section]
    exact if_neg digest_ne

/-- Its section loads; a malformed one, a part without its magic and an engine that fails do not. -/
theorem witness_BootLoad :
    (loading digest).phase = 3 ∧ (loading digest).awake = true ∧ (inPhase 3 {}).openImage = none
      ∧ ([(0x10, 0, [0, 0, 0, 0])] : List (Nat × Nat × List Byte)).any (sectionBad [(0x10, 0, [0, 0, 0, 0])]) = false
      ∧ sectionBad [] (0x11, 0, leBytes 4 1 ++ leBytes 4 0) = true ∧ partOk [(1, 0, [])] 1 0 [] = false
      ∧ (State.reset.applyParts none (partOrder [(0x10, 0, [0, 0, 0, 0])])).2 = false
      ∧ (State.reset.applyParts (some 1) [(1, 0, [])]).2 = true :=
  ⟨rfl, rfl, by decide +kernel⟩

/-- The boot record has bank B on trial, with three tries. -/
def trying : State := (inPhase 1 {}).writeBootRec { try_ := 2, tries := 3, bankSize := 0x100000 }

theorem witness_BootPhases :
    State.reset.awake = true ∧ State.reset.phase = 0 ∧ (inPhase 1 {}).phase = 1 ∧ (inPhase 1 {}).awake = true
      ∧ (inPhase 1 {}).boot.retry = none ∧ (inPhase 1 { retry := some 1 }).boot.retry = some 1
      ∧ (inPhase 1 { retry := some 1 }).bankOk 1 = false
      ∧ (inPhase 1 {}).chooseBank.2 = false ∧ (inPhase 1 {}).bankOk 0 = false ∧ trying.chooseBank = (1, true)
      ∧ trying.boot.retry = none ∧ trying.phase = 1
      ∧ (inPhase 2 {}).phase = 2 ∧ (inPhase 3 {}).phase = 3 ∧ (inPhase 3 {}).openImage = none
      ∧ (inPhase 4 {}).phase = 4 ∧ (inPhase 5 {}).phase = 5 ∧ (inPhase 5 {}).boot.proved = false ∧ (inPhase 5 {}).bootSrc ≠ 3
      ∧ ((inPhase 5 {}).setRf .bootStat 0 25 24 3).bootSrc = 3 ∧ (inPhase 5 { bad := 2 }).boot.bad ≠ 0
      ∧ (inPhase 5 {}).boot.bad = 0 ∧ (∀ l ∈ (inPhase 5 {}).install.admRun, l.reason = 0)
      ∧ (inPhase 5 { proved := true }).boot.proved = true
      ∧ State.failing { (inPhase 5 { proved := true }).install with
          capt := { (inPhase 5 { proved := true }).install.capt with wins := List.replicate 4 {} } }
          (inPhase 5 { proved := true }).install.stagedGroups true = none
      ∧ (inPhase 5 { proved := true }).install.ringKept = false
      ∧ (inPhase 5 { proved := true }).install.failing (inPhase 5 { proved := true }).install.stagedGroups true = none
      ∧ State.reset.boot.kept.length = 8 ∧ bitOf 1023 9 = true ∧ (inPhase 2 {}).genValid = false
      ∧ ({ inPhase 2 {} with boot := { areaGen := some (inPhase 2 {}).imageGen } } : State).genValid = true
      ∧ (State.reset.failBank 0).otherBanks 0 = [1] ∧ ((State.reset.setRf .bootStat 0 25 24 2).failBank 0).otherBanks 0 = [] := by
  decide +kernel

/-- The vault's keys before Init: its image key is wrapped under the device's own key, under another, or is not there. -/
theorem witness_KeysDerived :
    let k := Config.hkdf State.reset.upd.vault.secret labelWrap
    let held (w : Option Wrapped) : State := { State.reset with upd := { vault := { wrapImage := w, wrapSlots := [w, none] } } }
    State.reset.deriveBlocked = false ∧ (State.reset.orReg .bootSecStat 0 (2 ^ 30)).deriveBlocked = true
      ∧ (held (some { under := k, key := [] })).upd.vault.wrapImage = some { under := k, key := [] }
      ∧ (held (some { under := k, key := [] })).upd.vault.wrapSlots[0]? = some (some { under := k, key := [] })
      ∧ ({ under := 0 :: k, key := [] } : Wrapped).under ≠ k ∧ (held none).upd.vault.wrapImage = none :=
  ⟨by decide +kernel, by decide +kernel, rfl, rfl, List.cons_ne_self _ _, rfl⟩

/-- A configuration that fails a check at the boot commit. -/
theorem witness_BootCommit_fails :
    let t := (inPhase 5 { proved := true, sects := [(0x11, 0, leBytes 4 0x401004 ++ leBytes 4 0)] }).install
    t.ringKept = false ∧ (t.failing t.stagedGroups true).isSome = true := by
  decide +kernel

/-! ### Flalith -/

/-- The key of slot 1. -/
def transport : List Byte := List.replicate 32 1

/-- A request from node 9 to a node, as it comes over the Coupler: its type, SEQ and payload, under the key of slot 1. -/
def hdr (type seq dst : Nat) (p : List Byte) : FlaHdr :=
  let h : FlaHdr :=
    { port := 520, da := 1, sa := 2, vlan := none, etype := 0x88B5, ver := 1, type := type, hops := 0, slot := 1, dst := dst, src := 9
      seq := seq, len := p.length, tag := 0 }
  { h with tag := flaTag h transport (flaSeal h transport p) }

/-- A switch that holds a key in slot 1 and has heard SEQ 5 from node 9; Platform 0's station entry 15 brings address 1 to firmware,
and the Coupler is a management port. -/
def keyed : State :=
  { State.with_ up [(.platStaLo, 15, 1), (.platStaHi, 15, 0x80000000)] with
    upd := { vault := { slotKeys := [none, some transport] }, sources := [(9, 5)] }, boot := { up.boot with mgmtPorts := [520] } }

/-- What authenticates a request is its tag, not its contents. -/
theorem auth_of_key (s : State) (type seq dst : Nat) (p : List Byte) (ht : flaTypes.contains type = true)
    (hl : p.length ≤ 4112) (hk : s.slotKey 1 = some transport) : s.flaAuth (hdr type seq dst p) p = true := by
  show (_ && _ && _ && _ && match s.slotKey 1 with | some k => _ | none => false) = true
  rw [hk]
  have h : flaTag (hdr type seq dst p) transport (flaSeal (hdr type seq dst p) transport p) = (hdr type seq dst p).tag := rfl
  simp only [h, decide_true, Bool.and_true]
  have e : type ∈ flaTypes := by simpa using ht
  simp [hdr, e, hl]

theorem witness_FlalithAcceptance :
    flalithPart (.updAbort (hdr 0x15 6 0 [])) = some (hdr 0x15 6 0 [], []) ∧ (Instr.updAbort (hdr 0x15 6 0 [])).wf = true
      ∧ keyed.running = true ∧ keyed.isFlalith (hdr 0x15 6 0 []) = true
      ∧ keyed.isFlalith { hdr 0x15 6 0 [] with da := 2 } = false
      ∧ keyed.boot.mgmtPorts = [520] ∧ up.boot.mgmtPorts = []
      ∧ keyed.flaAuth (hdr 0x15 6 0 []) [] = true ∧ up.flaAuth (hdr 0x15 6 0 []) [] = false
      ∧ keyed.flaFresh (hdr 0x15 5 0 []) = false ∧ keyed.flaFresh (hdr 0x15 6 0 []) = true
      ∧ 20000 ≤ ({ keyed with upd := { keyed.upd with rate := 20000 } } : State).flaSecond.upd.rate
      ∧ ({ keyed with upd := { keyed.upd with rate := 19999 } } : State).flaSecond.upd.rate < 20000
      ∧ keyed.flaSecond.upd.rate < 20000
      ∧ (hdr 0x15 6 1 []).dst ≠ keyed.node ∧ (hdr 0x15 6 1 []).dst ≠ 0xFFFF ∧ (hdr 0x15 6 0 []).dst = keyed.node
      ∧ keyed.upd.sources.find? (·.1 = 9) = some (9, 5) ∧ up.upd.sources.find? (·.1 = 9) = none ∧ keyed.upd.sources.length ≤ 4096
      ∧ keyed.slotKey 1 = some transport :=
  ⟨rfl, by decide +kernel, by decide +kernel, by decide +kernel, by decide +kernel, rfl, rfl, auth_of_key _ _ _ _ _ rfl (by decide) rfl, by decide +kernel,
    by decide +kernel⟩

/-- Relays: to the group address with a hop left, where another management port is, and where none is. -/
theorem witness_RequestsRelayed :
    ({ hdr 0x15 6 1 [] with da := 0x0300000088B5, hops := 1 } : FlaHdr).dst ≠ keyed.node
      ∧ keyed.boot.mgmtPorts.filter (· ≠ 520) = []
      ∧ ({ keyed with boot := { keyed.boot with mgmtPorts := [3, 520] } } : State).boot.mgmtPorts.filter (· ≠ 520) = [3] := by
  decide +kernel

/-- The keyed switch with an update in a state, of a package of 8,192 bytes with the pieces of a mask. -/
def updating (n bitmap : Nat) : State :=
  { (keyed.setRf .bootUpdStat 0 31 30 n).setReg .bootUpdPkg 0 7 with upd := { keyed.upd with pkgBytes := 8192, bitmap := bitmap } }

/-- A request of a type with a payload, heard by a switch that holds the key and is in Running. -/
theorem heard_of (s : State) (c : Instr) (type : Nat) (p : List Byte) (hw : c.wf = true)
    (hp : flalithPart c = some (hdr type 6 0 p, p)) (ht : flaTypes.contains type = true) (hk : s.slotKey 1 = some transport)
    (hl : p.length ≤ 4112) (hs : s.running = true ∧ s.isFlalith (hdr type 6 0 p) = true ∧ s.flaFresh (hdr type 6 0 p) = true
      ∧ s.flaSecond.upd.rate < 20000 ∧ s.node = 0) :
    heard s c (hdr type 6 0 p) (flalithTaken s (hdr type 6 0 p) p) :=
  ⟨hw, p, hp, ⟨hs.1, hs.2.1, auth_of_key _ _ _ _ _ ht hl hk, hs.2.2.1, hs.2.2.2.1⟩, .inl hs.2.2.2.2.symm, rfl⟩

/-- A BEGIN of package 7 of 8,192 bytes, and a piece of it. -/
def begin7 : List Byte := nums [7, 8192]
def piece7 (i : Nat) : List Byte := nums [7, i] ++ List.replicate 8 0 ++ List.replicate 4096 0

theorem witness_UpdateRequests_heard :
    heard keyed (.updBegin (hdr 0x10 6 0 begin7) 7 8192) (hdr 0x10 6 0 begin7) (flalithTaken keyed (hdr 0x10 6 0 begin7) begin7)
      ∧ heard (updating 1 1) (.updPiece (hdr 0x11 6 0 (piece7 1)) 7 1 ⟨List.replicate 4096 0, true⟩) (hdr 0x11 6 0 (piece7 1))
          (flalithTaken (updating 1 1) (hdr 0x11 6 0 (piece7 1)) (piece7 1))
      ∧ heard keyed (.updStatus (hdr 0x12 6 0 (nums [0])) 0) (hdr 0x12 6 0 (nums [0]))
          (flalithTaken keyed (hdr 0x12 6 0 (nums [0])) (nums [0]))
      ∧ heard (updating 2 3) (.updArm (hdr 0x13 6 0 (nums [7] ++ beBytes 1 3)) 7 3) (hdr 0x13 6 0 (nums [7] ++ beBytes 1 3))
          (flalithTaken (updating 2 3) (hdr 0x13 6 0 (nums [7] ++ beBytes 1 3)) (nums [7] ++ beBytes 1 3))
      ∧ heard keyed (.updAbort (hdr 0x15 6 0 [])) (hdr 0x15 6 0 []) (flalithTaken keyed (hdr 0x15 6 0 []) []) :=
  ⟨heard_of _ _ _ _ (by decide +kernel) rfl rfl rfl (by decide +kernel) (by decide +kernel), heard_of _ _ _ _ (by decide +kernel) rfl rfl rfl (by decide +kernel) (by decide +kernel),
    heard_of _ _ _ _ (by decide +kernel) rfl rfl rfl (by decide +kernel) (by decide +kernel), heard_of _ _ _ _ (by decide +kernel) rfl rfl rfl (by decide +kernel) (by decide +kernel),
    heard_of _ _ _ _ (by decide +kernel) rfl rfl rfl (by decide +kernel) (by decide +kernel)⟩

/-- What the requests of an update meet, once they are taken. -/
def taken (s : State) : State := flalithTaken s (hdr 0x15 6 0 []) []

theorem witness_UpdateRequests :
    (taken keyed).bootRecord.bankSize < 2 ^ 31 ∧ 8192 ≤ (taken keyed).bootRecord.bankSize
      ∧ (taken keyed).fixedBank = false ∧ (taken keyed).updState = 0
      ∧ (taken (keyed.setRf .bootStat 0 25 24 2)).fixedBank = true
      ∧ (taken (updating 1 1)).updState = 1 ∧ (taken (updating 1 1)).pkgId = 7 ∧ (taken (updating 1 1)).upd.pkgBytes = 8192
      ∧ (taken (updating 1 1)).pieces = 2 ∧ bitOf (taken (updating 1 1)).upd.bitmap 0 = true
      ∧ bitOf (taken (updating 1 1)).upd.bitmap 1 = false ∧ (List.replicate 4096 (0 : Byte)).length = 4096
      ∧ (taken (updating 2 3)).updState = 2 ∧ (taken (updating 3 3)).updState = 3 ∧ 8 % 8 = 0 ∧ 7 % 8 ≠ 0 := by
  decide +kernel

/-- An armed package, with a reset pin or without. -/
def armed (pin paired : Bool) : State :=
  ((updating 3 3).setReg .bootUpdCfg 0 (if pin then 0x80000000 else 0)).setReg .glbMode 0 (if paired then 0x2000 else 0)

/-- The same with a reboot that waits, to be made at 0. -/
def rebooting (paired : Bool) : State :=
  { armed true paired with upd := { keyed.upd with reboot := some (0, hdr 0x14 6 0 [], false) } }

theorem witness_FlalithRequests :
    (taken (armed true true)).updState = 3 ∧ (taken (armed true true)).upd.reboot = none
      ∧ (taken (armed false true)).rb .bootUpdCfg 0 31 = false
      ∧ (taken (armed true true)).rb .bootUpdCfg 0 31 = true
      ∧ (taken (armed true true)).mayReboot false = false
      ∧ (taken (armed true true)).mayReboot true = true
      ∧ (taken (armed true false)).mayReboot false = true
      ∧ ((rebooting true).upd.reboot.map fun x => (x.1, x.2.2)) = some (0, false)
      ∧ (rebooting true).mayReboot false = false ∧ (rebooting false).mayReboot false = true
      ∧ (rebooting true).running = true ∧ (rebooting true).fs = 0
      ∧ keyed.upd.reboot = none ∧ ((taken keyed).reportItems 5).isSome = true
      ∧ (taken keyed).reportItems 7 = none ∧ (taken keyed).windowBlock 0 0 = none
      ∧ ((taken { keyed with capt := { wins := [{ state := 3 }, {}, {}, {}] } }).windowBlock 0 0).isSome = true := by
  decide +kernel

theorem witness_FlalithRequests_heard :
    heard keyed (.flalithRead (hdr 1 6 0 (nums [0])) [0]) (hdr 1 6 0 (nums [0]))
        (flalithTaken keyed (hdr 1 6 0 (nums [0])) (nums [0]))
      ∧ heard keyed (.flalithWrite (hdr 2 6 0 (nums [0, 1])) [(0, 1)]) (hdr 2 6 0 (nums [0, 1]))
          (flalithTaken keyed (hdr 2 6 0 (nums [0, 1])) (nums [0, 1]))
      ∧ heard keyed (.report (hdr 3 6 0 (nums [6, 0])) 6 0) (hdr 3 6 0 (nums [6, 0]))
          (flalithTaken keyed (hdr 3 6 0 (nums [6, 0])) (nums [6, 0]))
      ∧ heard keyed (.windowRead (hdr 4 6 0 (nums [0] ++ beBytes 8 0)) 0 0) (hdr 4 6 0 (nums [0] ++ beBytes 8 0))
          (flalithTaken keyed (hdr 4 6 0 (nums [0] ++ beBytes 8 0)) (nums [0] ++ beBytes 8 0))
      ∧ heard (armed true true) (.updReboot (hdr 0x14 6 0 (nums [9] ++ beBytes 1 1)) 9 true) (hdr 0x14 6 0 (nums [9] ++ beBytes 1 1))
          (flalithTaken (armed true true) (hdr 0x14 6 0 (nums [9] ++ beBytes 1 1)) (nums [9] ++ beBytes 1 1))
      ∧ heard keyed (.keyRoll (hdr 0x20 6 0 transport) transport) (hdr 0x20 6 0 transport)
          (flalithTaken keyed (hdr 0x20 6 0 transport) transport) :=
  ⟨heard_of _ _ _ _ (by decide +kernel) rfl rfl rfl (by decide +kernel) (by decide +kernel), heard_of _ _ _ _ (by decide +kernel) rfl rfl rfl (by decide +kernel) (by decide +kernel),
    heard_of _ _ _ _ (by decide +kernel) rfl rfl rfl (by decide +kernel) (by decide +kernel), heard_of _ _ _ _ (by decide +kernel) rfl rfl rfl (by decide +kernel) (by decide +kernel),
    heard_of _ _ _ _ (by decide +kernel) rfl rfl rfl (by decide +kernel) (by decide +kernel), heard_of _ _ _ _ (by decide +kernel) rfl rfl rfl (by decide +kernel) (by decide +kernel)⟩

/-- A vault with its wrapping key puts a key into slot 0; one without it does not. -/
theorem witness_KeySlots :
    ({ wrapKey := some [] } : Vault).wrapKey = some [] ∧ ({} : Vault).wrapKey = none
      ∧ 0 < ({ wrapKey := some [] } : Vault).slotKeys.length ∧ 1 < ({ wrapKey := some [] } : Vault).wrapSlots.length := by
  decide +kernel

/-- A switch that knows a debug authority, with challenge 3; and the authority's signature over it. -/
def challenged : State :=
  { State.reset with upd := { challenge := some 3, debugId := some (keyId [0]), vault := { pubs := [[0]] } } }
def response : DebugSig :=
  { nonce := 0, value := Config.verifiesP384 [0] (Config.sha384 (leBytes 8 Config.dieNumber ++ leBytes 32 3)) 0 }

theorem witness_DebugAndProvisioning :
    State.reset.powered = true ∧ State.reset.upd.challenge = none ∧ challenged.upd.challenge = some 3
      ∧ (∃ id pub, challenged.upd.debugId = some id ∧ challenged.upd.vault.pubs.find? (keyId · = id) = some pub
          ∧ response.value = Config.verifiesP384 pub (Config.sha384 (leBytes 8 Config.dieNumber ++ leBytes 32 3)) response.nonce)
      ∧ State.reset.upd.debugId = none
      ∧ State.reset.debugAllows 2 = true ∧ (State.reset.setRf .bootSecStat 0 25 24 3).debugAllows 2 = false
      ∧ State.reset.rb .bootSecStat 0 31 = false ∧ (State.reset.orReg .bootSecStat 0 (2 ^ 31)).rb .bootSecStat 0 31 = true
      ∧ (State.reset.orReg .bootSecStat 0 (2 ^ 31)).faultDue = false
      ∧ ({ halted.orReg .bootSecStat 0 (2 ^ 31) with saf := { halting := some haltSteps } } : State).rb .bootSecStat 0 31 = true
      ∧ State.reset.rb .bootSecStat 0 27 = false ∧ (State.reset.orReg .bootSecStat 0 (2 ^ 27)).rb .bootSecStat 0 27 = true
      ∧ (JtagItem.revoke 3).wf = true ∧ (List.replicate 16 (0 : Byte)).length = 16 ∧ (List.replicate 97 (0 : Byte)).length = 97 :=
  ⟨by decide +kernel, by decide +kernel, by decide +kernel, ⟨keyId [0], [0], rfl, by simp [challenged], rfl⟩, by decide +kernel⟩

/-! ### Power -/

/-- Platform 7 as given, under the Idle-gated policy and with sleep settings of 5 µs. -/
def powered (policy : Nat) (x : Plat) : State :=
  { onPlat (State.with_ (up.setRf .glbMode 0 17 16 policy) [(.aoPlatCfg, 7, 0x85001001)]) 7 x with fs := 1000000000000 }

theorem witness_PlatformPower :
    (powered 1 {}).running = true ∧ ((powered 1 {}).plat 7).power = .run ∧ (powered 1 {}).powerPolicy ≠ 0
      ∧ (powered 1 {}).held 7 = 0 ∧ (powered 1 {}).dozeDue 7 = true ∧ ((powered 1 {}).plat 7).lanesOff = false
      ∧ (powered 0 {}).powerPolicy = 0
      ∧ ((powered 1 { power := .doze }).plat 7).power = .doze ∧ (powered 1 { power := .doze }).held 7 = 0
      ∧ (powered 1 { power := .doze }).cfg.b .aoPlatCfg 7 31 = true
      ∧ 5 ≤ (powered 1 { power := .doze }).cfg.f .aoPlatCfg 7 30 24
      ∧ ((powered 1 { power := .doze }).plat 7).pwrSince + (powered 1 { power := .doze }).cfg.f .aoPlatCfg 7 23 12 * 1000000000
        ≤ (powered 1 { power := .doze }).fs
      ∧ ((powered 1 { power := .waking }).plat 7).power = .waking ∧ (powered 1 { power := .waking }).retained = false
      ∧ ((powered 0 { lanesOff := true }).plat 7).lanesOff = true ∧ (powered 0 { lanesOff := true }).held 7 &&& 0xFD = 0
      ∧ (powered 0 { lanesOff := true }).dozeDue 7 = true
      ∧ (powered 2 { power := .sleep }).powerPolicy = 2 ∧ ((powered 2 { power := .sleep }).plat 7).power ≠ .run
      ∧ (powered 2 { power := .sleep }).openingNow 7 = false ∧ (powered 2 { power := .sleep }).leadWake 7 = false := by
  decide +kernel

/-- A Timetable of port 511 opens a class at its end, `ns` from now; Platform 7 sleeps under the Scheduled policy. -/
def opening (ns : Nat) : State :=
  let s := powered 2 { power := .sleep }
  onPort (State.with_ s [(.aoPlatCfg, 7, 0x85001001), (.tmClassCfg, 7, 0x80000000), (.schTtWake, 511, 10)]) 511
    { link := true, tt := { run := some { cycle := 1000000, entries := [(ns, 0), (1000000 - ns, 255)], start := 1000000 } } }

theorem witness_WakeAheadOfOpenings :
    (opening 3000).powerPolicy = 2 ∧ ((opening 3000).plat 7).power ≠ .run ∧ (opening 3000).leadWake 7 = true
      ∧ (opening 900000).leadWake 7 = false ∧ (opening 3000).running = true := by
  decide +kernel

theorem witness_LastingCausesWake :
    7 < (powered 2 { power := .sleep }).plats.length ∧ (powered 2 { power := .sleep }).wakeCause 7 = false
      ∧ ((powered 2 { power := .sleep }).orReg .aoPwrCtrl 0 0x80).rb .aoPwrCtrl 0 7 = true
      ∧ ((powered 2 { power := .sleep }).plat 7).power ≠ .waking := by
  decide +kernel

theorem witness_PowerTimeCounts :
    State.reset.pending = [] ∧ State.reset.timeRuns = true ∧ State.reset.powered = true ∧ State.reset.running = false
      ∧ State.reset.saf.halting = none ∧ halted.saf.halting = none ∧ halted.awake = false ∧ halted.powered = true
      ∧ halted.running = false := by
  decide +kernel

/-- Every Platform sleeps, and nothing waits, since an instant. -/
def asleep (since : Option Nat) : State :=
  { up with plats := List.replicate 8 { power := .sleep }, fs := 10000000000, ao := { chipIdle := since } }

/-- The chip-level blocks are in retention since an instant, with their idle time since another. -/
def retainedSince (at_ : Nat) (since : Option Nat) : State :=
  { (asleep since).setReg .aoChipStat 0 0x80000000 with ao := { chipIdle := since, retainedAt := at_ } }

theorem witness_WakePinAndRetention :
    up.running = true ∧ up.awake = true ∧ halted.halted = true ∧ clockless.awake = false ∧ clockless.halted = false
      ∧ (retainedSince 0 none).chipCalled = true ∧ (retainedSince 5 (some 6)).chipCalled = true
      ∧ (retainedSince 5 (some 4)).chipCalled = false ∧ up.chipCalled = false ∧ (retainedSince 0 none).running = true
      ∧ (retainedSince 0 none).retained = true ∧ (desc true 7 1).length = 8 ∧ isWriteDesc (desc true 7 1) = true
      ∧ isWriteDesc (desc false 7 1) = false ∧ ({ up with ao := { wakeNLow := true } } : State).ao.wakeNLow = true
      ∧ up.ao.wakeNLow = false
      ∧ (asleep none).ao.chipIdle = none ∧ (asleep (some 1)).ao.chipIdle = some 1 ∧ (asleep (some 1)).fs < 1 + 10000000000
      ∧ (asleep (some 0)).chipQuiet = true ∧ (asleep (some 0)).retained = false ∧ (asleep (some 0)).running = true
      ∧ 0 + 10000000000 ≤ (asleep (some 0)).fs
      ∧ ((asleep none).setReg .aoChipStat 0 0x80000000).retained = true
      ∧ ((asleep none).setReg .aoChipStat 0 0x80000000).running = true := by
  decide +kernel

/-! ### The Signal Box -/

/-- A halt that was detected at instant 0, at another instant, in a state of its steps. -/
def stepping_ (t : Nat) (h : Halting) : State := { halted with fs := t, saf := { halting := some h } }

/-- An output pulse that a halt ends; a pin of UPD_REBOOT that is low. -/
def pulsing : State :=
  { up with time := { pps := [{}, {}, {}, { pulse := some 5, low := true }] }, upd := { rstLow := some (7, 3) } }

theorem witness_FailSilentHalt :
    isFatal 0x0060 = true ∧ State.reset.powered = true ∧ State.reset.halted = false ∧ halted.halted = true
      ∧ up.powered = true ∧ up.halted = false ∧ Store.wf {} up.ports = true ∧ Store.wfD coldKey none up.regs = true
      ∧ pulsing.halted = false ∧ (pulsing.pps 3).pulse ≠ none
      ∧ halted.saf.halting = none ∧ (stepping_ 799999 haltSteps).saf.halting = some haltSteps
      ∧ (stepping_ 799999 haltSteps).halted = true ∧ haltSteps.at_ / 800000 = (stepping_ 799999 haltSteps).fs / 800000
      ∧ haltSteps.at_ / 800000 ≠ (stepping_ 800000 haltSteps).fs / 800000 ∧ 0x0030 < haltSteps.code ∧ haltSteps.code ≤ 0x0040 := by
  decide +kernel

/-- The instants of the steps of a halt. -/
theorem witness_HaltSteps :
    haltSteps.notify = false ∧ ({ haltSteps with notify := true } : Halting).notify = true ∧ haltSteps.written = false
      ∧ ({ haltSteps with written := true } : Halting).written = true ∧ haltSteps.held = none
      ∧ (stepping_ 1799999999 haltSteps).fs < haltSteps.at_ + 1800000000
      ∧ haltSteps.at_ + 1800000000 ≤ (stepping_ 1800000000 haltSteps).fs
      ∧ (stepping_ 1999999999 haltSteps).fs < haltSteps.at_ + 2000000000
      ∧ haltSteps.at_ + 2000000000 ≤ (stepping_ 2000000000 haltSteps).fs
      ∧ (stepping_ 499999999 haltSteps).fs < haltSteps.at_ + 500000000
      ∧ haltSteps.at_ + 500000000 ≤ (stepping_ 500000000 haltSteps).fs
      ∧ ({ haltSteps with written := true, held := some .pin } : Halting).held = some .pin
      ∧ Store.wfD coldKey none halted.regs = true ∧ Store.wf [] halted.saf.log = true
      ∧ (halted.setReg .safLogIdx 0 0x21000000).rf .safLogIdx 0 31 24 = 33
      ∧ (halted.setReg .safLogIdx 0 0x02000000).rf .safLogIdx 0 31 24 = 2
      ∧ Store.wfD coldKey none (halted.setReg .safLogIdx 0 0x21000000).regs = true := by
  decide +kernel

/-- The scrubber is on, the watchdog runs for 1 ms, injection is allowed. -/
def guarded (f : SafSt) (t : Nat) : State := { up.setReg .safCfg 0 0xE17D6901 with saf := f, fs := t }

/-- The scrubber is off, and single-bit errors are corrected, or not. -/
def unscrubbed (ecc : Bool) : State := up.setReg .safCfg 0 (if ecc then 0x80000000 else 0)

/-- A frame of Platform 7 waits in each of its queues. -/
def crowded : State :=
  onPlat up 7 { intake := [{ no := 1, plat := 7 }], prio := [{ no := 2, plat := 7 }], norm := [{ no := 3, plat := 7 }] }

/-- Rail 0 has been below its limit since an instant. -/
def sagging (since t : Nat) : State := guarded { railOut := [some since, none, none, none, none, none] } t

theorem witness_ScrubberAndMonitors :
    (guarded {} 0).awake = true ∧ 1 ≤ (guarded {} 0).phase ∧ (guarded {} 0).rb .safCfg 0 30 = true
      ∧ (up.setReg .safCfg 0 0).rb .safCfg 0 30 = false ∧ (guarded {} 0).rb .aoChipStat 0 31 = false
      ∧ (guarded {} 0).saf.injDouble = false ∧ (guarded {} 0).saf.injSingle = false ∧ (guarded {} 0).saf.tableLine + 1 ≠ 1048576
      ∧ (guarded {} 0).saf.treeLine + 1 ≠ 393216 ∧ (guarded { injSingle := true } 0).saf.injSingle = true
      ∧ (guarded { injDouble := true } 0).saf.injDouble = true ∧ (guarded {} 0).rb .safCfg 0 31 = true
      ∧ (unscrubbed true).rb .safCfg 0 30 = false ∧ (unscrubbed true).rb .safCfg 0 31 = true
      ∧ (unscrubbed false).rb .safCfg 0 30 = false ∧ (unscrubbed false).rb .safCfg 0 31 = false ∧ (unscrubbed false).awake = true
      ∧ 1 ≤ (unscrubbed false).phase
      ∧ clockBad 0 950 = false ∧ clockBad 0 949 = true ∧ clockBad 0 1050 = false ∧ clockBad 0 1051 = true
      ∧ up.boot.vao = true ∧ up.awake = true ∧ clockless.powered = false ∧ clockless.boot.vao = true
      ∧ (guarded { clkBad := [1, 0, 0, 0] } 0).saf.clkBad = [1, 0, 0, 0] := by
  decide +kernel

theorem witness_CellsAndEntriesLost :
    up.reading 7 = []
      ∧ (onPort up 511 { link := true, speed := 10, tx := some { copy := some { port := 511, cells := 64 }, bytes := List.replicate 9000 0 } }).reading
          7 = [511]
      ∧ (crowded.plat 7).intake[0]? = some { no := 1, plat := 7 } ∧ (crowded.plat 7).prio[0]? = some { no := 2, plat := 7 }
      ∧ (crowded.plat 7).norm[0]? = some { no := 3, plat := 7 } ∧ (crowded.plat 7).learnQ[0]? = none := by
  decide +kernel

theorem witness_Sensors :
    (guarded {} 0).powered = true ∧ halted.powered = true ∧ hottest [10, 30, 30] 0 = some (1, 30)
      ∧ ((guarded {} 0).setReg .safTemp 0 (Word.ofNat (at_ 1 28 + unsigned 10 210))).rf .safCfg 0 15 8 = 105
      ∧ (2 * 105 : Int) ≤ 210 ∧ (209 : Int) < 2 * 105 ∧ (railLimits 5).1 ≤ 1710 ∧ 1709 < (railLimits 5).1
      ∧ (sagging 0 1000000000).saf.railOut[0]? = some (some 0) ∧ 0 + 1000000000 ≤ (sagging 0 1000000000).fs
      ∧ ¬ 0 + 1000000000 ≤ (sagging 0 999999999).fs ∧ (sagging 0 1000000000).powered = true
      ∧ ([0, 0, 0, 0, 0, 0] : List Int)[0]?.getD 0 < ((railLimits 0).1 : Int) := by
  decide +kernel

theorem witness_WatchdogAndInjection :
    (guarded {} 1000000000001).awake = true ∧ 1 ≤ (guarded {} 0).phase ∧ (guarded {} 0).committed = true
      ∧ (guarded {} 1000000000000).fs ≤ (guarded {} 0).saf.wdogAt + (guarded {} 0).rf .safCfg 0 7 0 * 1000000000000
      ∧ (guarded {} 0).saf.wdogAt + (guarded {} 0).rf .safCfg 0 7 0 * 1000000000000 < (guarded {} 1000000000001).fs
      ∧ halted.halted = true ∧ (guarded {} 0).rb .safCfg 0 29 = true ∧ up.rb .safCfg 0 29 = false ∧ up.powered = true := by
  decide +kernel

/-! ### Reception and passes -/

/-- Line port 511 with a link. -/
def linkedPort (p : PortSt) : State := onPort up 511 { p with link := true, speed := 10 }

theorem witness_FramesJudged :
    (State.with_ up [(.platStaHi, 7 * 16 + 3, 0x80110300), (.platStaLo, 7 * 16 + 3, 0x88B5)]).cfg.station 511 0x0300000088B5 = some (3, 17)
      ∧ (up.plat 7).intake.length < 64 ∧ 64 ≤ ((onPlat up 7 { intake := List.replicate 64 {} }).plat 7).intake.length
      ∧ rxError false true 1522 1522 = (0, (rxError false true 1522 1522).2) ∧ (rxError false true 1523 1522).1 = 2
      ∧ be (List.replicate 12 (0 : Byte) ++ [0x88, 0x08]) 12 2 = 0x8808 ∧ be (List.replicate 14 (0 : Byte)) 12 2 ≠ 0x8808 := by
  decide +kernel

theorem witness_MacReception :
    (linkedPort {}).running = true ∧ ((linkedPort {}).port 511).link = true ∧ (up.port 511).link = false
      ∧ ((linkedPort {}).port 511).rx = none
      ∧ (((linkedPort { rx := some { bytes := List.replicate 256 0 } }).port 511).rx.map fun x => x.bytes.length % 256) = some 0
      ∧ (((linkedPort { rx := some { bytes := List.replicate 63 0 } }).port 511).rx.map fun x => x.bytes.length) = some 63
      ∧ (((linkedPort { rx := some { bytes := List.replicate 64 0 } }).port 511).rx.map fun x => x.early) = some false
      ∧ (((linkedPort { rx := some { early := true } }).port 511).rx.map fun x => x.early) = some true := by
  decide +kernel

/-- Frames 1 and 2 wait on Platform 7. -/
def passing (x : Plat) (parity : Nat) : State := { onPlat up 7 x with saf := { injParity := parity } }

theorem witness_PipelinePasses :
    (passing {} 0).running = true ∧ ((passing {} 0).plat 7).power = .run ∧ ((passing { power := .doze } 0).plat 7).power ≠ .run
      ∧ ((passing { intake := [{ no := 1, plat := 7 }] } 128).plat 7).intake = [{ no := 1, plat := 7 }]
      ∧ (passing { intake := [{ no := 1, plat := 7 }] } 128).injParity 7 = true ∧ (passing {} 0).injParity 7 = false
      ∧ ((passing { hostQ := [{ no := 1, plat := 7 }] } 0).plat 7).hostQ = [{ no := 1, plat := 7 }]
      ∧ ((passing { prio := [{ no := 1, plat := 7 }] } 0).plat 7).prio ≠ []
      ∧ ((passing { norm := [{ no := 1, plat := 7 }] } 0).plat 7).norm ≠ []
      ∧ up.cfg.f .clsTtCtrl 7 20 16 ≠ 0 ∧ (State.with_ up [(.clsTtCtrl, 7, 0)]).cfg.f .clsTtCtrl 7 20 16 = 0
      ∧ firstCopy ((passing {} 0).pendingCopies 7) = none ∧ (passing {} 0).waitReady 7 0 = false
      ∧ (firstCopy ((onPort up 0 { queues := [{ copies := [{ frame := { plat := 7 }, port := 0, written := false }] }] }).pendingCopies 7)).isSome
        = true
      ∧ (passing { waitList := [{ frame := { plat := 7 } }] } 0).waitReady 7 0 = true
      ∧ ((passing {} 0).plat 7).copyXoff = false
      ∧ ((passing { copyXoff := true } 0).plat 7).copyXoff = true
      ∧ ((passing { copyXoff := true } 0).plat 7).copyBytes ≤ (passing { copyXoff := true } 0).cfg.f .tmReplCfg 0 9 0 * 1024 := by
  decide +kernel

/-- Tree 0 of bank 0 is walked from its root. -/
def walked (root : Word) : State := (up.setReg .clsTreeCfg 0 0x8F000000).setReg .clsTreeRoot 0 root

/-- The frame of a pass. -/
def passed : Frame := { no := 1, plat := 7, bytes := List.replicate 64 0, len := 64 }

theorem witness_RulesAndPasses :
    (∃ h, walkAll (walked 0xC0000000) 0 0 (fun _ => []) 16 0 = .ok [h]) ∧ walkAll up 0 0 (fun _ => []) 16 0 = .ok []
      ∧ (∃ e, classify (walked 0x80000000) up.cfg 0 0 (fun _ => []) false false false = .error e)
      ∧ (∃ m, classify (walked 0xC0000000) up.cfg 0 0 (fun _ => []) false false false = .ok m)
      ∧ (up.frameCfg passed).f .clsTtCtrl 7 13 12 ≠ 0
      ∧ (up.frameCfg passed).f .clsTtCtrl 7 13 12 ≤ ({ passed with pass := 3 } : Frame).pass
      ∧ bitOf (((State.with_ up [(.clsTtCtrl, 7, 0x32040)]).frameCfg passed).f .clsTtCtrl 7 7 0) 6 = true
      ∧ bitOf ((up.frameCfg passed).f .clsTtCtrl 7 7 0) 0 = false
      ∧ ((passing { prio := List.replicate 16 {} } 0).plat 7).prio.length = 16
      ∧ ((passing { norm := List.replicate 240 {} } 0).plat 7).norm.length = 240 := by
  exact ⟨⟨_, rfl⟩, rfl, ⟨_, rfl⟩, ⟨_, rfl⟩, by decide +kernel⟩

theorem witness_Dispositions :
    let h (w0 : Word) : Hit := { tree := 0, prio := 0, rec_ := 0, w0 := w0, w1 := 0, w2 := 0, w3 := 0 }
    (h 0x80000000).drop = true ∧ (h 0x00080000).turntable = true ∧ (h 0x00080000).drop = false ∧ (h 0x60000000).fwdMode = 3
      ∧ (h 0x20000000).fwdMode = 1 ∧ (h 0x40000000).fwdMode = 2 ∧ (h 0).fwdMode = 0 ∧ (h 0).turntable = false
      ∧ passed.isDirected = false ∧ passed.err = 0 ∧ passed.sta = none ∧ ({ passed with err := 1 } : Frame).err ≠ 0
      ∧ ({ passed with sta := some (0, 1) } : Frame).sta.isSome = true
      ∧ ({ passed with host := some { directed := some 3 } } : Frame).isDirected = true
      ∧ [h 0, { h 0 with tree := 1 }].Pairwise (fun a b => a.tree < b.tree) := by
  decide +kernel

/-- An entry of address 5 in FID 0 of Platform 7, with a word 2, and next hop 1. -/
def bridged (w2 nh : Word) : State :=
  (up.setTabs 7 ((up.freeSlot 7 (macKey 0 5)).getD 0) 0 [5, 0, w2, 0]).setTab 0x10 1 0 nh

theorem witness_Forwarding :
    ((bridged 0x80000000 0).macLookup 7 (fld ((bridged 0x80000000 0).tab 0x08 0 0) 11 0) 5).isSome = true
      ∧ up.macLookup 7 0 5 = none
      ∧ bitW ((bridged 0x90000000 0).tab 7 ((up.freeSlot 7 (macKey 0 5)).getD 0) 2) 28 = true
      ∧ bitW ((bridged 0x80000000 0).tab 7 ((up.freeSlot 7 (macKey 0 5)).getD 0) 2) 28 = false
      ∧ fld ((bridged 0x800001FF 0).tab 7 ((up.freeSlot 7 (macKey 0 5)).getD 0) 2) 17 0
          = at_ (up.ingressDest 511).1 16 + (up.ingressDest 511).2
      ∧ fld ((bridged 0x80020003 0).tab 7 ((up.freeSlot 7 (macKey 0 5)).getD 0) 2) 17 16 = 2
      ∧ fld ((bridged 0x80010003 0).tab 7 ((up.freeSlot 7 (macKey 0 5)).getD 0) 2) 17 16 = 1
      ∧ bitW ((up.setTab 0x08 0 0 0x18000000).tab 0x08 0 0) 27 = true
      ∧ bitW ((up.setTab 0x08 0 0 0x18000000).tab 0x08 0 0) 28 = true
      ∧ bitW ((up.setTab 0x08 0 0 0).tab 0x08 0 0) 27 = false ∧ bitW ((up.setTab 0x08 0 0 0).tab 0x08 0 0) 28 = false
      ∧ bitW ((bridged 0 0).tab 0x10 1 0) 31 = false ∧ bitW ((bridged 0 0xC0000000).tab 0x10 1 0) 30 = true
      ∧ bitW ((bridged 0 0xA0000000).tab 0x10 1 0) 29 = true ∧ bitW ((bridged 0 0x80000000).tab 0x10 1 0) 31 = true := by
  decide +kernel

/-- Port 511 is up and enabled, with room for class 7 or none: its MAX_SDU, its queue's reservation and its shift. -/
def admitting (l : List (RegId × Nat × Word)) : State :=
  onPort (State.with_ up ([(.platPortCtrl, 511, 0xC0000000)] ++ ((List.range 64).map fun i => (.platLaneMode, i, 0xD)) ++ l)) 511
    { link := true, speed := 2 }

/-- The frame to be admitted, of class 7. -/
def admitted : Frame := { passed with cls := some 7 }

theorem witness_CopiesAdmitted :
    (admitting [(.schQCfg, 511 * 8 + 7, 1)]).sduFails admitted 511 = true ∧ (admitting []).sduFails admitted 511 = false
      ∧ (admitting []).portRefuses 511 = false ∧ up.portRefuses 511 = true
      ∧ ((admitting [(.tmClassCfg, 7, 0x80000000)]).frameCfg admitted).kind 7 = 2
      ∧ (admitting []).fits admitted 511 ((admitting []).shiftOf admitted) (admitting []).sharedFree = true
      ∧ (admitting []).fits admitted 511 ((admitting []).shiftOf admitted) 0 = false := by
  decide +kernel

/-- Port 511 with pause honoured in both forms. -/
def pausing (p : PortSt) : State := onPort (State.with_ up [(.platPortCtrl, 511, 0xA0FF0000)]) 511 { p with link := true, speed := 10 }

theorem witness_PauseFrames :
    (up.port 511).rxPause = [] ∧ ((pausing { rxPause := [.pause 0xFFFF] }).port 511).rxPause = [.pause 0xFFFF]
      ∧ (pausing {}).cfg.b .platPortCtrl 511 29 = true ∧ up.cfg.b .platPortCtrl 511 29 = false
      ∧ ((pausing { rxPause := [.pfc 128 (List.replicate 8 1)] }).port 511).rxPause = [.pfc 128 (List.replicate 8 1)]
      ∧ ((onPort up 511 { pauseEnd := [0, 0, 0, 0, 0, 0, 0, 0] }).port 511).paused 7 = false
      ∧ ({ pausing { pauseEnd := [0, 0, 0, 0, 0, 0, 0, 5] } with fs := 5 }.port 511).paused 7 = true
      ∧ (({ pausing { pauseEnd := [0, 0, 0, 0, 0, 0, 0, 5] } with fs := 5 }.port 511).pauseEnd[7]?).getD 0 ≤ 5
      ∧ up.xonDue 511 7 = false ∧ (onPort up 520 { accts := List.replicate 8 { xoff := true } }).xonDue 520 7 = true
      ∧ (((pausing { accts := List.replicate 8 { xoff := true } }).port 511).acct 7).xoff = true
      ∧ (((pausing { accts := List.replicate 8 { xoff := true } }).port 511).acct 7).lastXoff
          + (pausing { accts := List.replicate 8 { xoff := true } }).halfPause 511
        ≤ ({ pausing { accts := List.replicate 8 { xoff := true } } with fs := 2 ^ 60 } : State).fs
      ∧ ((pausing { pauseTx := [(7, true)] }).port 511).pauseTx ≠ [] ∧ ((pausing { pauseTx := [(7, true)] }).port 511).tx = none
      ∧ (pausing {}).running = true := by
  decide +kernel

/-! ### Egress and links -/

/-- A copy of a frame of 64 bytes in class 7, written. -/
def waiting (e : Nat) : Copy :=
  { frame := { bytes := List.replicate 60 0 ++ fcsOf (List.replicate 60 0), len := 64 }, port := e, cls := 7, cells := 1, written := true }

/-- Port `e` with a link and the copy in its queue 7. -/
def queued (e : Nat) (p : PortSt) : State :=
  onPort up e { p with link := true, speed := 10, queues := (List.replicate 7 {}) ++ [{ copies := [waiting e] }] }

/-- Port `e` with the copy in its transmit queue 7. -/
def handed (e : Nat) (projected : Option Nat) (p : PortSt) : State :=
  onPort up e { p with
    link := true, speed := 10, cur := 2
    macQ := (List.replicate 7 none) ++ [some { copy := some (waiting e), bytes := (waiting e).frame.bytes, projected := projected }] }

theorem witness_SelectionAndStarts :
    (queued 520 {}).running = true ∧ ((queued 520 {}).port 520).link = true ∧ ((queued 520 {}).port 520).hold = none
      ∧ ((queued 520 {}).port 520).timed = false ∧ ((queued 520 { hold := some 5 }).port 520).hold ≠ none
      ∧ ((((queued 520 {}).port 520).queue 7).copies) = [waiting 520] ∧ (waiting 520).held = false ∧ (waiting 520).written = true
      ∧ (queued 520 {}).shaperAllows 520 7 ((queued 520 {}).txLen (waiting 520).frame 520) = true
      ∧ (handed 520 none {}).injCell (egressPlat 520) = false
      ∧ ((((handed 520 none {}).port 520).nextStart highFirst).map fun x => x.1) = some 7 ∧ (up.port 520).nextStart highFirst = none
      ∧ min ((handed 520 none {}).port 520).cur 1 ≤ 1 ∧ 0 < min ((handed 520 none {}).port 520).cur 1
      ∧ (handed 520 none {}).healthDue = false
      ∧ ((((handed 520 (some 0) {}).port 520).projected highFirst).map fun x => (x.1, x.2.2)) = some (7, 0)
      ∧ (up.port 520).projected highFirst = none ∧ ¬ 0 < ((handed 520 (some 0) {}).port 520).wireEnd
      ∧ ((handed 520 (some 0) {}).port 520).paused 7 = false
      ∧ ((handed 520 (some 0) { pauseTx := [(7, true)] }).port 520).pauseTx ≠ []
      ∧ ((((handed 520 (some 0) {}).port 520).projected highFirst).map fun x => x.2.1.hit) = some false := by
  decide +kernel

/-- A cell CRC error waits on the Platform of the Coupler, and a frame to start there. -/
def flawed : State := { handed 520 none {} with saf := { injCell := 255 } }

theorem witness_CellCrcAtStart :
    flawed.running = true ∧ flawed.injCell (egressPlat 520) = true ∧ Store.wf {} flawed.ports = true
      ∧ (flawed.port 520).link = true ∧ (flawed.port 520).tx = none ∧ (flawed.port 520).pauseTx = []
      ∧ flawed.healthDue = false ∧ ((flawed.port 520).nextStart highFirst).map (fun x => x.1) = some 7
      ∧ min (flawed.port 520).cur (waiting 520).cells ≤ 1
      ∧ (((flawed.port 520).nextStart highFirst).map fun (c, t) => (((flawed.startTx 520 c 0 t).port 520).tx.isSome)) = some true := by
  decide +kernel

/-- Port 511 sends a frame that began at instant 0. -/
def sending (own : Bool) (t : Nat) : State :=
  { onPort up 511 { link := true, speed := 10, tx := some { copy := if own then none else some (waiting 511), bytes := (waiting 511).frame.bytes } }
    with fs := t }

/-- Port 511, sub-port 7 of its lane (mode 0xD), enabled with LPI. -/
def lane (p : PortSt) (t : Nat) : State :=
  { onPort (State.with_ up ((.platPortCtrl, 511, 0xC0000000) :: (List.range 64).map fun l => (.platLaneMode, l, 0xD))) 511 p with fs := t }

theorem witness_WireAndLinks :
    (sending false 0).running = true ∧ ((sending false 0).port 511).tx.isSome = true
      ∧ ((sending false (2 ^ 50)).port 511).tx.map (·.bad) = some false
      ∧ ((sending false 0).port 511).tx.map (fun t => (t.cutAt 511 0).bad) = some true
      ∧ ((sending false 0).port 511).sending = true ∧ ((sending true 0).port 511).sending = false
      ∧ (sending false 0).txOver 511 = false ∧ (sending false (2 ^ 50)).txOver 511 = true ∧ (sending false 0).boot.first = false
      ∧ up.lpiDue 511 = false ∧ (lane { link := true } (2 ^ 60)).lpiDue 511 = true ∧ up.openingNear 511 = false
      ∧ (lane {} 0).cfg.enabled 511 = true ∧ (lane {} 0).cfg.present 511 = true ∧ (lane {} 0).mayLink 511 2 = true
      ∧ (lane {} 0).mayLink 511 3 = false ∧ (up.port 511).link = false
      ∧ ((lane { link := true } 0).port 511).link = true ∧ ((lane { hold := some 5 } 5).port 511).hold = some 5
      ∧ (lane { hold := some 6 } 5).fs < 6
      ∧ ((lane { cut := some (6, 2, true), cur := 3 } 5).port 511).cut = some (6, 2, true)
      ∧ ((lane { cut := some (6, 2, true), cur := 3 } 5).port 511).cur = 3 ∧ (lane { cut := some (6, 2, true), cur := 3 } 5).fs < 6
      ∧ 6 ≤ (lane { cut := some (6, 40, false), cur := 40 } 6).fs
      ∧ ((lane { cut := some (6, 40, false), cur := 40 } 5).port 511).cur ≤ 40 := by
  decide +kernel

/-! ### Commands that complete -/

/-- All ports of a state, and its registers, stand in canonical form. -/
def allCanonical (s : State) : Bool :=
  Store.wf {} s.ports && Store.wfD coldKey none s.regs && Store.wfD coldKey none (s.epochs.headD [])

/-- Frames that end, and runs out of bytes, on the Coupler as on a line port; a frame that a cell has ended. -/
def crossing (x : TxFrame) (cut : Option (Nat × Nat × Bool)) : State := onPort up 520 { link := true, speed := 10, tx := some x, cut := cut }

theorem witness_CouplerFramesEnd :
    ((crossing { copy := some (waiting 520) } none).port 520).tx = some { copy := some (waiting 520) }
      ∧ (crossing { copy := some (waiting 520) } none).running = true
      ∧ ((((crossing { copy := some (waiting 520) } none).stampDue 520 0).port 520).tx.map (·.bad)) = some false
      ∧ ((((crossing { copy := some (waiting 520), bad := true } none).stampDue 520 0).port 520).tx.map (·.bad)) = some true
      ∧ (((crossing { copy := some (waiting 520), bad := true } none).stampDue 520 0).port 520).cut = none
      ∧ (((crossing { copy := some (waiting 520), bad := true } (some (6, 2, true))).stampDue 520 0).port 520).cut ≠ none
      ∧ ((onPort up 520 { hold := some 0 }).port 520).hold = some 0 ∧ (onPort up 520 { hold := some 0 }).running = true
      ∧ 0 ≤ (onPort up 520 { hold := some 0 }).fs ∧ (up.port 520).hold = none := by
  decide +kernel

theorem witness_CommandsComplete :
    allCanonical up = true ∧ allCanonical busyAll = true ∧ busyAll.running = true ∧ busyAll.edgeDue = true
      ∧ busyAll.commit.target = none
      ∧ busyAll.editHeld = false ∧ allCanonical (queued 520 {}) = true ∧ ((queued 520 {}).port 520).macQ.length = 8
      ∧ ((queued 520 {}).port 520).macQ[7]? = some none ∧ (∀ k, k < 8 → 7 < k → (((queued 520 {}).port 520).queue k).copies = [])
      ∧ allCanonical (queued 511 {}) = true ∧ ((queued 511 {}).port 511).macQ[7]? = some none
      ∧ ((queued 511 {}).plat 7).power = .run ∧ ((queued 511 {}).port 511).timed = false ∧ ((queued 511 {}).port 511).hold = none
      ∧ (((queued 511 {}).port 511).queue 7).copies = [waiting 511]
      ∧ (queued 511 {}).shaperAllows 511 7 ((queued 511 {}).txLen (waiting 511).frame 511) = true
      ∧ ((queued 511 {}).edit (waiting 511).frame 511).bytes.length + 4 ≤ (queued 511 {}).cfg.maxFrame 511 := by
  decide +kernel

theorem witness_CommandsComplete_starts :
    (handed 520 none {}).running = true ∧ (handed 520 none {}).injCell (egressPlat 520) = false
      ∧ ((handed 520 none {}).port 520).link = true ∧ ((handed 520 none {}).port 520).tx = none
      ∧ ((handed 520 none {}).port 520).pauseTx = [] ∧ (handed 520 none {}).healthDue = false
      ∧ ((((handed 520 none {}).port 520).nextStart highFirst).map fun x => x.1) = some 7
      ∧ ((((handed 520 (some 0) {}).port 520).projected highFirst).map fun x => (x.1, x.2.2)) = some (7, 0)
      ∧ ((((handed 520 (some 0) {}).port 520).projected highFirst).map fun x => x.2.1.hit) = some false
      ∧ ((handed 520 (some 0) {}).port 520).link = true ∧ ((handed 520 (some 0) {}).port 520).tx = none
      ∧ ((handed 520 (some 0) {}).port 520).pauseTx = [] ∧ (handed 520 (some 0) {}).healthDue = false
      ∧ ((handed 520 (some 0) {}).port 520).wireEnd ≤ 0 ∧ 0 ≤ (handed 520 (some 0) {}).fs
      ∧ ((handed 520 (some 0) {}).port 520).paused 7 = false ∧ min ((handed 520 none {}).port 520).cur (waiting 520).cells ≤ 1 := by
  decide +kernel

theorem witness_CommandsComplete_others :
    up.opens .spi (.plat 7) ∧ (Blk.plat 7).ok = true ∧ up.regAt (.plat 7) 20 = some (.platIntEn, 7, false)
      ∧ .platIntEn ∈ enables ∧ up.awake = true ∧ up.powered = true ∧ isFatal 0x0040 = true ∧ bitOf pends.host.pend 1 = true
      ∧ pends.active 1 = true ∧ pends.awake = true ∧ allCanonical counting = true ∧ counting.perfOn 0 = true
      ∧ counting.countsClocks 0 8 = true ∧ counting.perfDrops 0 8 = false
      ∧ counting.perf48 (perfRegs 0 8).1 (perfRegs 0 8).2.1 (perfRegs 0 8).2.2 = 2 ^ 48 - 1
      ∧ (counting.setReg .platPerfCtrl 0 0xA0000000).rb .platPerfCtrl 0 29 = true :=
  ⟨up_opens _ _, by decide +kernel⟩

/-! ### What single commands do. The values are the manual's: worked examples of its chapters, or its rules. -/

/-- The FCS is the CRC of R38: the standard check value of the nine ASCII digits. -/
theorem test_crc32 : crc32 ((List.range 9).map fun n => BitVec.ofNat 8 (0x31 + n)) = 0xCBF43926 := by decide +kernel

/-- Worked example "one counter at Wendrow Depot": TX_UNDERRUN of port 128, and its half bit in two views. -/
theorem test_addresses :
    decodeAddr 0x508138 = some (.plat 2, .normal, 0x8138) ∧ up.regAt (.plat 2) 0x8138 = some (.platCntLo, 2 * 4096 + 39, false)
      ∧ decodeAddr 0x520804 = some (.plat 2, .clr, 0x804) ∧ up.regAt (.plat 2) 0x804 = some (.platCntHalf, 2 * 128 + 1, false) := by
  decide +kernel

/-- The half bit of the same example is set through the normal view, cleared through the CLR view and set again through the TGL
view. -/
theorem test_half_bit :
    (done (exec (.registerWrite .pcie .bar0 0x500804 [0x81, 0, 0, 0]) up) fun t =>
        t.busRead .pcie 0x500804 = 0x81 &&
          done (exec (.registerWrite .pcie .bar0 0x520804 [0x80, 0, 0, 0]) t) fun u =>
            u.busRead .pcie 0x500804 = 1 &&
              done (exec (.tglViewWrite .pcie 0x500804 0x80) u) fun v => v.busRead .pcie 0x500804 = 0x81) = true := by
  decide +kernel

/-- A lock holds until reset, and a write it shuts out is illegal with cause 1 (R355, R356, R359). -/
theorem test_lock :
    (done (exec (.lockSet .pcie 1) up) fun t =>
        done (exec (.registerWrite .pcie .bar0 (Blk.base .saf + 0x10) [1, 2, 3, 4]) t) fun u =>
          u.reg .safCfg 0 = 0xD0697364 && u.rf .blkIllegalLast 1 31 28 = 1) = true := by
  decide +kernel

/-- A commit that names no group the switch has is refused: REFUSED is set, and the write is illegal with cause 4 (R23). -/
theorem test_commit_refused :
    (done (exec (.commitGroup .pcie 0 4095) up) fun t =>
        t.rb .glbCommitStat 0 29 && !t.commit.busy && t.rf .blkIllegalLast 0 31 28 = 4) = true := by
  decide +kernel

/-- The commit edge takes a staged MAX_FRAME of 2,000; the write alone does not (R19, R24). -/
theorem test_commit_edge :
    (goodStaged.cfg.f .platPortFrame 1 13 0 = 1522) = true
      ∧ (done (exec (.commitGroup .pcie 0 2049) goodStaged) fun t =>
          t.commit.busy && done (exec .commitEdge t) fun u => !u.commit.busy && u.cfg.f .platPortFrame 1 13 0 = 2000) = true := by
  decide +kernel

/-- A frame of 60 bytes is a runt (R1, R42). -/
theorem test_runt :
    (done (exec (.cellDraw 511 true (List.replicate 60 0)) (linkedPort {})) fun t =>
        done (exec (.frameReceive 511 false) t) fun u =>
          u.counter .plat 511 11 = 1 && (u.plat 7).intake.isEmpty) = true := by
  decide +kernel

/-- A received pause of 3 quanta at 2.5 Gb/s lasts 3 times 512 bits of 0.4 ns (R47). -/
theorem test_pause :
    (done (exec (.pauseReceived 511) (onPort (pausing {}) 511 { link := true, speed := 2, rxPause := [.pause 3] })) fun t =>
        (t.port 511).pauseEnd.all (· = 614400000)) = true := by
  decide +kernel

/-- Worked example "an underrun at Wendrow Depot", after 64 bytes: the frame ends with the inverse of their FCS after 68
bytes, and CUR becomes 3 (R53). -/
theorem test_underrun :
    (done (exec (.txUnderrun 128 64)
        (onPort up 128 { link := true, speed := 10, cur := 2, tx := some { copy := some (waiting 128), bytes := List.replicate 1518 0 } })) fun t =>
      (t.port 128).cur = 3 && t.counter .plat 128 39 = 1 && t.rb .platTxstartChg 4 0 &&
        t.out.head? = some (.wire 128
          (List.replicate 64 0 ++ (fcsOf (List.replicate 64 0)).map (~~~ ·)) true)) = true := by
  decide +kernel

/-- Worked example "door-status at Cardew Halt": words W0, W1, W2 and W4 to W7 of its key in format 1 (R74, R75, R76). -/
def doorStatus : List Byte :=
  [2, 0, 0, 0, 0, 1, 2, 0, 0, 0, 0, 2, 0x81, 0, 0xC0, 0x6E, 8, 0, 0x45, 0xB8, 0, 46, 0, 0, 0x40, 0, 64, 17, 0x22, 0xCA, 10, 20, 3, 17,
    10, 20, 0, 5, 0x9C, 0x41, 0x1A, 0x2C, 0, 26, 0, 0] ++ List.replicate 18 0

theorem test_key_words :
    (let r := parse { tpids := [0x8100] } doorStatus 64 (some (0, .eth))
     let w := keyWords { port := 3 } r doorStatus 1
     (w.take 3, (w.drop 4).take 4))
      = ([0x00C00280, 0xC06E0800, 0], [0x0A140311, 0x0A140005, 0x11B84040, 0x9C411A2C]) := by
  decide +kernel

/-- Worked example "brake-pipe telemetry at Pellam Sidings": frame F7 of 1,000 bytes at 19,584 ns finds 48.9375 committed and
12.234375 excess bytes, and is red; the buckets stood as F6 left them at 16,320 ns (R163). -/
theorem test_meter :
    (let s := up.setTabs 0x14 0x12 0 [0x30000BB8, 20000, 10000, 3000, 10440, 2088, 16320, 0]
     let f : Frame := { len := 1000, instant := 19584000000 }
     let r := s.meter f 0x12
     (r.1.tab 0x14 0x12 4, r.1.tab 0x14 0x12 5, r.2)) = (12528, 3132, 2) := by
  decide +kernel

/-- A new address is written into the table of its Platform with its port (R122, R124). -/
theorem test_learn :
    (done (exec (.learnEventApply 7) learning) fun t =>
        fld (t.tab 7 slot 2) 17 0 = 451 && bitW (t.tab 7 slot 2) 31 && (t.plat 7).learnQ.isEmpty) = true := by
  decide +kernel

/-- Worked example "the offload port at Wendrow Depot": its headroom requirement is 1,130 cells (R197). -/
theorem test_headroom :
    (State.with_ up [(.platPortCtrl, 192, 0xC0000000), (.platLaneMode, 24, 0x01), (.platPortFrame, 192, 9216),
      (.tmPortFc, 192, 0x8008FFFF), (.tmPortLink, 192, Word.ofNat (at_ 40 16 + 900))]).cfg.hrReq 192 = 1130 := by
  decide +kernel

/-- The owner of a time base decides who may step it: RESULT 1 and cause 10 (R293, R359). -/
theorem test_time_owner :
    (done (exec (.timeCmdStep .pcie 7) (owned true)) fun t =>
        t.time.cmd = none && t.rf .timeCmdStat 0 30 29 = 1 && t.rf .blkIllegalLast 4 31 28 = 10) = true := by
  decide +kernel

/-- A doorbell that would post 17 descriptors into a ring of 16 is illegal with cause 6 and changes nothing (R373). -/
theorem test_doorbell :
    (done (exec (.txDb .pcie 15 17 false) (unit_ 15)) fun t =>
        t.reg .hostTxDb 15 = 0 && t.rf .blkIllegalLast 5 31 28 = 6) = true := by
  decide +kernel

/-- Enabling a queue pair whose rings have no size is illegal with cause 7 (R371). -/
theorem test_enable :
    (done (exec (.enableUnit .pcie 3) up) fun t => !t.unitOn 3 && t.rf .blkIllegalLast 5 31 28 = 7) = true := by
  decide +kernel

/-- Worked example "member B halts at Ostrey Junction": a descriptor with BUF_LEN 0 halts the switch with code 0x0030 (R389,
R470). -/
theorem test_malformed :
    (done (exec (.hostTxFetch 15 [[0, 0, 0x00400000, 0xC0000000, 0, 0, 0, 0]] []) (posted 1)) fun t =>
        t.halted && t.rf .safStat 0 15 0 = 0x30) = true := by
  decide +kernel

/-- RESET_N low clears everything but what the always-on block and MRAM keep, and the phase is 0 (R396, R398). -/
theorem test_reset : (done (exec .resetNAssert halted) fun t => !t.halted && t.boot.inReset && t.rf .bootStat 0 31 28 = 0) = true := by
  decide +kernel

/-- An empty queue lets one core clock of 0.8 ns pass (assumption 2). -/
theorem test_idle : (done (step up) fun t => t.fs = 800000) = true := by decide +kernel

/-- Worked example "door-status at Cardew Halt" of latency admission; `gate` adds the corrected image's gate. -/
def doorAdmission (gate : Bool) : State :=
  let s := State.with_ up
    [(.platPortCtrl, 3, 0x80000000), (.platPortCtrl, 64, 0x80000000), (.platLaneMode, 0, 0x0B), (.platLaneMode, 8, 0x01), (.clsTtCtrl, 0, 0x32040),
     (.platPortFrame, 3, 1522), (.platPortFrame, 64, 1522), (.tmClassCfg, 6, 0x84480000), (.schQCfg, 64 * 8 + 6, 256),
     (.tmPortResv, 64 * 4 + 3, 16), (.schTtCfg, 64, 0xFF0002), (.schTtCycle, 64, 250000), (.schTtIntv, 64 * 256, 4000),
     (.schTtGates, 64 * 256, 0x40), (.schTtIntv, 64 * 256 + 1, 246000), (.schTtGates, 64 * 256 + 1, 0xBF), (.schTtWake, 64, 10),
     (.psfSchedHdr, 3, 2), (.psfSchedCycle, 3, 250000), (.psfSchedBase, 3, 1000000000), (.psfSchedIntv, 48, 34000),
     (.psfSchedGate, 48, 0x80000000), (.psfSchedIntv, 49, 216000)]
  ((s.setTabs 0x12 0x21 0 [if gate then 0x81800100 else 0x80800100, 0]).setTabs 0x13 0 0 [0x80000003, 212000]).setTabs 0x14 0 0
    [0x90000400, 2000, 0, 0]

/-- Its check: without the gate the bound is 252,036 ns, above the 40,000 ns asked for (reason 10); with it the bound has the
gated form, 38,024 ns, and 9 cells are required. -/
theorem test_admission :
    ([false, true].map fun g =>
      ((doorAdmission g).admLines [{ cls := 6, passes := 1, handle := 0x21, ingress := 3, egress := 64, minFrame := 128, maxFrame := 128, req := 40000 }]
        false).map fun l => (l.reason, l.boundNs, l.bound.gated, if g then l.resv else 0))
      = [[(10, 252036, false, 0)], [(0, 38024, true, 9)]] := by
  decide +kernel

/-- The same as a staged image with its declaration: the reports of a check that proves (R244, R247). -/
def doorStaged : State :=
  { doorAdmission true with
    regs := (doorAdmission true).epochs.headD []
    adm := { decl := [(0, 0x86100021), (1, 0x00030040), (2, 0x00800080), (3, 40000)] } }

theorem witness_CheckReports_proves :
    doorStaged.admRun.map (fun l => (l.decl.idx, l.reason)) = [(0, 0)] ∧ Store.wf 0 doorStaged.adm.rpt = true
      ∧ Store.wf 0 doorStaged.adm.decl = true := by
  decide +kernel

/-! ### Clauses of the statements at their boundaries -/

/-- Interrupt status, GO bits and illegal sequences: the registers, and a COUNT that stands at its end. -/
theorem witness_GoAndIllegal :
    up.opens .pcie .time ∧ up.regAt .time 16 = some (.timeCmd, 0, false) ∧ .timeCmd ∈ goRegisters ∧ bitW 0x80000003 31 = true
      ∧ up.regAt (.plat 7) 3844 = some (.blkIllegal, 23, false) ∧ .blkIllegal ∈ enables ++ latches
      ∧ up.regAt .ao 0 = some (.aoIntStat, 0, false) ∧ Store.wfD coldKey none up.regs = true
      ∧ (up.setReg .blkIllegal 23 0xFFFFFFFF).reg .blkIllegal (Blk.plat 7).no = 0xFFFFFFFF ∧ up.reg .blkIllegal 23 ≠ 0xFFFFFFFF
      ∧ up.regAt (.plat 0) 12304 = some ((perfRegs 0 8).1, (perfRegs 0 8).2.2, false) :=
  ⟨up_opens _ _, by decide +kernel⟩

/-- SPI and PERST_N: a switch in PHASE 0, one past it, and the host's reset asserted or not. -/
def perst (s : State) : State := { s with ao := { s.ao with perstLow := true } }

theorem witness_HostResetHeld :
    State.reset.powered = true ∧ State.reset.phase = 0 ∧ State.reset.halted = false ∧ up.phase ≠ 0 ∧ halted.halted = true
      ∧ up.ao.perstLow = false ∧ (perst up).ao.perstLow = true ∧ (perst up).awake = true ∧ clockless.powered = false
      ∧ FnReset.linkDown ≠ FnReset.perst ∧ 2 ≤ up.phase ∧ State.reset.phase < 2 ∧ up.host.d3hot = false
      ∧ pends.ao.perstLow = false ∧ userQp.ao.perstLow = false := by
  decide +kernel

/-- A flush of all MAC addresses of Platform 7, and of one destination in one FID, over an entry with word 2. -/
def sweeps (w e : Word) : State :=
  { holds up e with tbl := { flushBusy := true, flushPlats := 128, flushWord := w, flushPos := List.replicate 8 0, flushDest := 451 } }

theorem witness_FlushSelects :
    Store.wf 0 (sweeps 0x80800000 0x80000000).tables = true ∧ (sweeps 0x80800000 0x80000000).tbl.flushPlats < 256
      ∧ bitW ((sweeps 0x80800000 0x80000000).tab 7 slot 2) 31 = true
      ∧ ((sweeps 0x80800000 0x80000000).tbl.flushPos[7]?).getD 0 ≤ slot / 4
      ∧ bitW ((sweeps 0x80800000 0x80000000).tab 7 slot 2) 30 = false ∧ bitW 0x80800000 29 = false ∧ fld 0x80800000 28 27 = 0
      ∧ bitW ((sweeps 0xA8800001 0x800001C3).tab 7 slot 2) 31 = true
      ∧ fld ((sweeps 0xA8800001 0x800001C3).tab 7 slot 1) 27 16 = fld 0xA8800001 11 0 ∧ fld 0xA8800001 28 27 ≠ 0
      ∧ fld ((sweeps 0xA8800001 0x800001C3).tab 7 slot 2) 17 0
        = (fld 0xA8800001 28 27 - 1) * 65536 + (sweeps 0xA8800001 0x800001C3).tbl.flushDest
      ∧ bitW ((sweeps 0x80800000 0xC0000000).tab 7 slot 2) 30 = true ∧ bitW 0x80800000 30 = false := by
  decide +kernel

/-- Work that waits for a table: the rest of a flush that the table fell asleep in comes first. -/
theorem witness_WorkMadeInOrder :
    (sweeps 0x80800000 0).tbl.flushBusy = true ∧ bitOf (sweeps 0x80800000 0).tbl.flushPlats 7 = true
      ∧ ((sweeps 0x80800000 0).plat 7).delPend.contains .flush = false ∧ (sweeps 0x80800000 0).tableWaits 7 = false
      ∧ (onPlat (sweeps 0x80800000 0) 7 { power := .sleep }).tableWaits 7 = true := by
  decide +kernel

/-- A run into the resident bank, which a swap made resident while it went on. -/
theorem witness_TableDmaParts :
    bitW (dword (desc true 0x18 4) 4) 31 = true ∧ tdTarget (desc true 0x18 4) = 0x18 ∧ tdOn.resident 0 = true
      ∧ tdTarget (desc true 0x19 4) - 0x18 = 1 ∧ tdOn.resident 1 = false := by
  decide +kernel

/-- Gate 4 with its words 0 and 2, on a schedule that is shut for 400 ns and then has the state `w` for 600 ns; the interval that
its octets were counted in. -/
def gated (w0 w cnt : Word) (tag : Option (Int × Nat)) : State :=
  { up.setTabs 0x13 4 0 [w0, 0, cnt] with
    psf := { scheds := [(0, { run := some { cycle := 1000, entries := [(400, 0), (600, w.toNat)], start := 0 } })], tags := [(4, tag)] } }

/-- The frame of stream 3 in the open interval, and in the other. -/
def inOpen : Frame := { streamed with instant := 500000000 }
def inShut : Frame := { streamed with instant := 100000000 }

theorem witness_StreamGates :
    bitW ((gated 0 0 0 none).psfWord inOpen 0x13 4 0) 31 = false
      ∧ bitW ((gated 0x80000000 0x84000040 0 none).psfWord inOpen 0x13 4 0) 31 = true
      ∧ bitW ((gated 0x80000000 0x84000040 0 none).psfWord inOpen 0x13 4 0) 24 = false
      ∧ bitW ((gated 0x80000000 0x84000040 0 none).psfWord inOpen 0x13 4 0) 22 = false
      ∧ ((gated 0x82000000 0x84000040 0 none).gateView inShut 4).isOpen = false
      ∧ ((gated 0x80000000 0x84000040 0 none).gateView inOpen 4).isOpen = true
      ∧ ((gated 0x80000000 0x84000040 0 none).gateView inOpen 4).entry = some (0, 1, 0x84000040) ∧ bitOf 0x84000040 26 = true
      ∧ ((gated 0x80000000 0x80000000 0 none).gateView inOpen 4).entry = some (0, 1, 0x80000000) ∧ bitOf 0x80000000 26 = false
      ∧ Store.get none (gated 0x80000000 0x84000040 0 none).psf.tags 4 ≠ some (0, 1)
      ∧ Store.get none (gated 0x80000000 0x84000040 0 (some (0, 1))).psf.tags 4 = some (0, 1)
      ∧ ((gated 0x80000000 0x84000040 0 none).tab 0x13 4 2).toNat + inOpen.len ≤ bits 0x84000040 23 0
      ∧ bits 0x84000040 23 0 < ((gated 0x80000000 0x84000040 1 none).tab 0x13 4 2).toNat + inOpen.len
      ∧ entryAt 400 [(400, 0), (600, 1)] 0 = some (1, 1) ∧ entryAt 399 [(400, 0), (600, 1)] 0 = some (0, 0) := by
  decide +kernel

/-- Filter 3, which asks for gate 4 and meter 3, with the gate open and a meter of word 0 and buckets. -/
def policed (w0 m0 c e : Word) : State :=
  (((gated 0x80000000 0xC8000000 0 none).setTabs 0x12 3 0 [w0, 0x00040003])).setTabs 0x14 3 0 [m0, 0, 0, 0x1000, c, e, 0, 0]

theorem witness_PolicingPasses :
    inOpen.stream = some 3 ∧ 3 < up.capacity 0x12 ∧ bitW ((policed 0x84000020 0 0 0).psfWord inOpen 0x12 3 0) 26 = true
      ∧ bitW ((policed 0x84000020 0 0 0).psfWord inOpen 0x12 3 0) 25 = false
      ∧ fld ((policed 0x84000020 0 0 0).psfWord inOpen 0x12 3 0) 13 0 < inOpen.len
      ∧ fld ((policed 0x84000020 0 0 0).psfWord inOpen 0x12 3 0) 13 0 ≠ 0
      ∧ (((policed 0x81800000 0x80000000 0 0).countFilter 3 0).gate inOpen 4).2.2 = true
      ∧ ((((policed 0x81800000 0 0 0).countFilter 3 0).gate inOpen 4).2.1).cls = some 1
      ∧ bitW ((policed 0x81800000 0 0 0).psfWord inOpen 0x14 3 0) 31 = false
      ∧ bitW ((policed 0x81800000 0x80000000 0 0).psfWord inOpen 0x14 3 0) 31 = true
      ∧ ((policed 0x80800000 0x80001000 0x10000 0).meter inOpen 3).2 = 0
      ∧ ((policed 0x80800000 0x90000000 0 0x10000).meter inOpen 3).2 = 1
      ∧ bitW ((policed 0x80800000 0x90000000 0 0x10000).psfWord inOpen 0x14 3 0) 28 = true
      ∧ ((policed 0x80800000 0x80000000 0 0).meter inOpen 3).2 = 2 := by
  decide +kernel

/-- A member in Hello that has heard nothing since an instant. -/
theorem witness_PartnerSilentFromHello :
    (linked { state := 2 }).red.state = 2 ∧ (linked { state := 2 }).running = true
      ∧ max (linked { state := 2 }).red.lastHealth (linked { state := 2 }).red.stateSince + 4000000000
        ≤ ({ linked { state := 2 } with fs := 4000000000 } : State).fs
      ∧ ({ linked { state := 2 } with fs := 3999999999 } : State).fs
        < max (linked { state := 2 }).red.lastHealth (linked { state := 2 }).red.stateSince + 4000000000 := by
  decide +kernel

/-- Firmware's base and a command that R295 keeps it from; an output that was asserted at this tick. -/
theorem witness_TimeAndPps :
    (owned true).rb .timeTbCfg 7 31 = decide (Src.firmware = .firmware) ∧ (owned true).servoMay 7 1 = false
      ∧ (owned true).followed 7 = false ∧ (owned true).time.cmd = none ∧ (owned true).awake = true
      ∧ ((pps { last := some (pps {}).tickQ }).pps 3).last = some (pps { last := some (pps {}).tickQ }).tickQ := by
  decide +kernel

/-- A captured frame whose second cell is bad, with 256 bytes to be kept of it, or 257. -/
def spoiltCapture (snap : Nat) : State :=
  onPlat (capturing snap {}) 7 { capQ := [{ frame := { bytes := List.replicate 520 0, len := 520, plat := 7, badCells := [1] } }] }

/-- Rising edges of GPIO 0 trigger; the chip-level blocks are in retention. -/
def edged (retained : Bool) : State :=
  (State.with_ up [(.recTrigCfg, 0, 0x80000000)]).setReg .aoChipStat 0 (if retained then 0x80000000 else 0)

theorem witness_CaptureClauses :
    (spoiltCapture 256).injCell 7 = false ∧ (spoiltCapture 256).drainDue 7 = true
      ∧ (((spoiltCapture 256).plat 7).capQ.map fun r => min ((spoiltCapture 256).cfg.f .recRule 0 13 0) r.frame.bytes.length) = [256]
      ∧ (((spoiltCapture 257).plat 7).capQ.map fun r => min ((spoiltCapture 257).cfg.f .recRule 0 13 0) r.frame.bytes.length) = [257]
      ∧ (((spoiltCapture 256).plat 7).capQ.map (·.frame.badCells)) = [[1]]
      ∧ (edged false).gpioFires 0 true = true ∧ (edged false).retained = false ∧ (edged true).retained = true
      ∧ (edged true).gpioFires 0 true = true ∧ (edged true).gpioFires 1 true = false ∧ (edged true).running = true := by
  decide +kernel

/-- A receive descriptor, and queue pair 15 with two posted and a frame of 300 bytes for it: with bad cells, and an injection. -/
def rxDesc (len : Nat) : List Word := [0, 0, Word.ofNat len, 0, 0, 0, 0, 0]

def receives (bad : List Nat) (inj : Nat) : State :=
  let s := (unit_ 15).setReg .hostRxDb 15 2
  let p := s.port 543
  let f : Frame := { bytes := List.replicate 300 0, len := 300, badCells := bad }
  let long : Copy := { frame := f, port := 543, cls := 7, written := true }
  { onPort s 543 { p with
      link := true,
      queues := List.replicate 7 {} ++ [{ copies := [long] }] } with saf := { injCell := inj } }

/-- What transmission selection chooses there. -/
def chosen (s : State) (bufs : List (List Word)) : Option Nat :=
  (s.selectFrom 543 (fun u _ x => !u.complFull 15 && rxWalk bufs 0 x.frame.bytes.length ≠ .short) highFirst).2

theorem witness_HostReceive :
    (receives [] 0).running = true ∧ (receives [] 0).retained = false ∧ ((receives [] 0).port 543).link = true
      ∧ (receives [] 0).rxPosted 15 = 2 ∧ (receives [] 0).rxMalformed 15 [rxDesc 256, rxDesc 256] = none
      ∧ chosen (receives [] 0) [rxDesc 256, rxDesc 256] = some 7 ∧ chosen (receives [] 0) [rxDesc 256] = none
      ∧ rxWalk [rxDesc 256, rxDesc 256] 0 300 = .fits 2 ∧ rxWalk [rxDesc 256, rxDesc 255] 0 300 = .bad 1
      ∧ rxWalk [rxDesc 256, rxDesc 256] 0 512 = .fits 2 ∧ rxWalk [rxDesc 256, rxDesc 256] 0 513 = .short
      ∧ (receives [] 0).rxMalformed 15 [rxDesc 256, rxDesc 255] = some 1
      ∧ (receives [] 1).injCell 0 = true ∧ (receives [1] 0).injCell 0 = false ∧ ([1] : List Nat) ≠ []
      ∧ rxBad (rxDesc 256) = false ∧ rxBad (rxDesc 320) = false ∧ rxBad (rxDesc 257) = true := by
  decide +kernel

/-- A boot whose image declares a stream that names no port. -/
def unproven : State := inPhase 5 { sects := [(0x14, 0, leBytes 4 0x80000000 ++ List.replicate 28 0)] }

theorem witness_BootAdmission_refuses :
    unproven.awake = true ∧ unproven.phase = 5 ∧ unproven.boot.proved = false ∧ unproven.bootSrc ≠ 3 ∧ unproven.boot.bad = 0
      ∧ ∃ l ∈ unproven.install.admRun, l.reason ≠ 0 := by
  have h : (unproven.install.admRun.any fun l => l.reason ≠ 0) = true := by decide +kernel
  exact ⟨by decide +kernel, by decide +kernel, rfl, by decide +kernel, rfl, by simpa using h⟩

/-- Records: the update state's or the capture state's newer slot fails, or both; a command that changes them. -/
theorem witness_RecordsAndSlots :
    Store.wfD coldKey none up.regs = true ∧ bitOf 0 11 = false ∧ bitOf 0x3800 11 = true ∧ bitOf 0x3800 12 = true
      ∧ bitOf 0x3800 13 = true ∧ bitOf 0x1800 12 = true ∧ up.phase ≠ 2
      ∧ (capturing 64 pinnedWr).captRec ≠ (capturing 64 {}).captRec ∧ (up.setReg .bootUpdPkg 0 6).updRec ≠ up.updRec := by
  decide +kernel

/-- A reset that was released while REFCLK_AO stood still, and one that it holds. -/
def clockWaits (w : Option Nat) : State :=
  { State.reset with boot := { State.reset.boot with inReset := true, refOff := true, waiting := w } }

theorem witness_ResetWithoutClock :
    clockless.boot.waiting = none ∧ (clockWaits (some 3)).boot.waiting = some 3 ∧ (clockWaits none).boot.vao = true
      ∧ (clockWaits none).boot.inReset = true ∧ (clockWaits none).boot.refOff = true ∧ (supplies true true true).boot.refOff = false
      ∧ (clockWaits (some 3)).powered = false ∧ State.reset.phase = 0 ∧ ([1000, 1000, 1000, 0] : List Nat)[3]?.getD 0 = 0
      ∧ ([1000, 1000, 1000, 1000] : List Nat)[3]?.getD 0 ≠ 0 := by
  decide +kernel

/-- The relay's port, and the reply's: a management port or none. -/
theorem witness_RepliesLeave :
    (hdr 0x14 6 0 []).port ∈ keyed.boot.mgmtPorts ∧ (hdr 0x14 6 0 []).port ∉ up.boot.mgmtPorts
      ∧ (hdr 0x14 6 0 []).port ∈ (rebooting true).boot.mgmtPorts
      ∧ (hdr 0x14 6 0 []).port ∉ ({ rebooting true with boot := up.boot } : State).boot.mgmtPorts := by
  decide +kernel

/-- GPIO triggers that came in retention, and none. -/
theorem witness_RetainedTriggers :
    ({ retainedSince 0 none with ao := { chipIdle := none, triggers := [7] } } : State).chipCalled = true
      ∧ ({ retainedSince 0 none with ao := { chipIdle := none, triggers := [7] } } : State).ao.triggers ≠ []
      ∧ (retainedSince 0 none).ao.triggers = [] := by
  decide +kernel

/-- A fault after the record of the halt is written, and before. -/
theorem witness_FurtherFaults :
    isFatal 0x0030 = true ∧ ({ haltSteps with written := true, unit := 2 } : Halting).written = true ∧ haltSteps.written = false
      ∧ haltSteps.secondary < 16 ∧ ((haltSteps.detail ++ List.replicate 8 (0 : Word)).take 8).length = 8 := by
  decide +kernel

/-- A copy of a frame of three cells. -/
def copy3 (no : Nat) (written : Bool) (bad : List Nat) : Copy :=
  { frame := { bytes := List.replicate 600 0, len := 600, no := no, badCells := bad }, port := 520, cls := 1, cells := 3, written := written }

/-- Frame 1 waits on Platform 7 with a copy of it unwritten; another is written; port 520 sends one. -/
def celled (t : Nat) : State :=
  { onPort (onPlat up 7 { intake := [{ no := 1, plat := 7, len := 600, bytes := List.replicate 600 0 }] }) 520
      { link := true, speed := 10, queues := [{}, { copies := [copy3 1 false [], copy3 2 true []] }]
        tx := some { copy := some (copy3 3 true []), bytes := List.replicate 600 0 } } with fs := t }

theorem witness_BadCells :
    Store.wf {} (celled 0).ports = true ∧ 7 < (celled 0).plats.length ∧ (CellPlace.source 7 1).wf = true
      ∧ (((celled 0).plat 7).intake.map fun f => (f.no, f.cells)) = [(1, 3)]
      ∧ ((((celled 0).port 520).queue 1).copies[0]?.map (·.written)) = some false
      ∧ ((((celled 0).port 520).queue 1).copies[1]?.map (·.written)) = some true
      ∧ 1 < ((celled 0).port 520).queues.length ∧ ((celled 0).port 520).tx.map (·.bad) = some false
      ∧ (celled 0).firstUnsent 520 { copy := some (copy3 3 true []), bytes := List.replicate 600 0 } (copy3 3 true []) ≤ 1
      ∧ 1 < (celled (2 ^ 40)).firstUnsent 520 { copy := some (copy3 3 true []), bytes := List.replicate 600 0 } (copy3 3 true [])
      ∧ isBlock 24 = true ∧ isBlock 13 = false ∧ (unscrubbed false).awake = true := by
  decide +kernel

/-- A frame of three cells stands to start on the Coupler, with bad cells. -/
def starting (bad : List Nat) : State :=
  onPort up 520 { link := true, speed := 10, cur := 2
                  macQ := List.replicate 7 none ++ [some { copy := some (copy3 1 true bad), bytes := List.replicate 600 0 }] }

theorem witness_CellCrcAtStart_bad :
    (starting [2]).cellsSound 520 = false ∧ (starting []).cellsSound 520 = true ∧ (starting [2]).injCell (egressPlat 520) = false
      ∧ (starting [2]).running = true ∧ Store.wf {} (starting [2]).ports = true
      ∧ (((starting [2]).port 520).nextStart highFirst).map (fun x => x.1) = some 7
      ∧ (((starting [2]).port 520).nextStart highFirst).map
          (fun (c, t) => (((starting [2]).startTx 520 c 0 t).port 520).tx.map fun x => x.copy.map fun y => y.frame.badCells)
        = some (some (some [2]))
      ∧ ({ starting [2] with saf := { injCell := 255 } } : State).injCell (egressPlat 520) = true
      ∧ flawed.cellsSound 520 = false ∧ (handed 520 none {}).cellsSound 520 = true
      ∧ (handed 520 (some 0) {}).cellsSound 520 = true := by
  decide +kernel

/-- LPM entries of VRF 2: a found length, seven lengths that are present, and none; the VRF's defaults. -/
def prefixed : State :=
  [(24, 0x0A000100), (23, 0), (22, 0), (21, 0), (20, 0), (19, 0), (18, 0)].foldl
    (fun s (l, a) =>
      match s.freeSlot 0x0D (lpmKey false 2 l a) with
      | some i => s.setTabs 0x0D i 0 [Word.ofNat (2 ^ 31 + 2 * 256 + l), Word.ofNat a, 7]
      | none => s) up

theorem witness_LongestPrefix :
    prefixed.lpmProbe false 2 0x0A0001FF 32 6 = .found 7 ∧ prefixed.lpmProbe false 2 0x0B000000 32 6 = .cont 18
      ∧ prefixed.lpmProbe false 2 0x0B000000 18 6 = .miss ∧ up.lpmProbe true 2 5 128 6 = .miss
      ∧ passed.pass < (up.frameCfg passed).f .clsTtCtrl passed.plat 13 12
      ∧ ¬ ({ passed with pass := 3 } : Frame).pass < (up.frameCfg passed).f .clsTtCtrl passed.plat 13 12
      ∧ bitW ((up.setTab 0x0F 2 0 0x80000000).tab 0x0F 2 0) 31 = true
      ∧ bitW ((up.setTab 0x0F 2 0 0x40000000).tab 0x0F 2 0) 30 = true
      ∧ bitW ((up.setTab 0x0F 2 0 0x20000000).tab 0x0F 2 0) 29 = true ∧ bitW (up.tab 0x0F 2 0) 29 = false := by
  decide +kernel

/-- Stage 10: an IPv4 packet after a tag, routed and overwritten, on a port of the untagged set of VLAN 5 or not. -/
def edited (untag : Bool) : State :=
  ((up.setTab 0x08 5 2 7).setTab 0x0B 7 0 (if untag then 8 else 0)).setTab 0x15 3 0 0x83000000

theorem witness_Edits :
    14 ≤ doorStatus.length ∧ (parse { tpids := [0x8100] } doorStatus 64 (some (0, .eth))).ip = some 18
      ∧ 18 + 12 ≤ doorStatus.length ∧ be doorStatus (18 + 8) 1 ≠ 0
      ∧ (edited true).inPortSet ((edited true).tf 0x08 5 2 12 0) 3 = true
      ∧ (edited false).inPortSet ((edited false).tf 0x08 5 2 12 0) 3 = false
      ∧ ({ passed with vid := 5, hasVlan := true, route := some 1, overEntry := some 2 } : Frame).route = some 1
      ∧ 12 + 4 ≤ doorStatus.length
      ∧ (edited true).encodeKind { passed with seq := some 65535, stream := some 3 } 3 = 3
      ∧ ((edited true).setTab 0x15 3 0 0x81000000).encodeKind { passed with seq := some 1, stream := some 3 } 3 = 1
      ∧ ((edited true).setTab 0x15 3 0 0x82000000).encodeKind { passed with seq := some 1, stream := some 3 } 3 = 2
      ∧ (edited true).encodeKind { passed with seq := none, stream := some 3 } 3 = 0
      ∧ up.cfg.b .redPortCfg 3 29 = false ∧ (State.with_ up [(.redPortCfg, 3, 0x20000000)]).cfg.b .redPortCfg 3 29 = true := by
  decide +kernel

/-- XOFF stands and half its pause time is not over; a port that is down, enabled or not. -/
theorem witness_RefreshAndFaults :
    (pausing { accts := List.replicate 8 { xoff := true } }).fs
        < (((pausing { accts := List.replicate 8 { xoff := true } }).port 511).acct 7).lastXoff
          + (pausing { accts := List.replicate 8 { xoff := true } }).halfPause 511
      ∧ (((pausing { accts := List.replicate 8 { xoff := true } }).port 511).acct 7).xoff = true
      ∧ (up.port 511).link = false ∧ up.cfg.enabled 511 = false ∧ (lane {} 0).cfg.enabled 511 = true
      ∧ (lane {} 0).cfg.present 511 = true ∧ ((lane {} 0).port 511).link = false := by
  decide +kernel

end Sys2Proof.Tests
end

/-! PROOFS. Writes while a commit is pending (R26): every GO write, and every write to a setting of a covered group, is ignored
and counted as an illegal sequence. -/

namespace Sys2Proof.Machine

/-! ### GO writes -/

/-- A number of 32 bits with the top one set is a word with GO. -/
theorem bitW_go {n : Nat} (hlo : 2 ^ 31 ≤ n) (hhi : n < 2 ^ 32) : bitW (Word.ofNat n) 31 = true := by
  have hbit : n.testBit 31 = true := Nat.testBit_of_two_pow_le_and_two_pow_add_one_gt hlo hhi
  simp [bitW, Word.ofNat, BitVec.getLsbD_ofNat, hbit]

/-- A request while a commit is pending is refused and counted with CAUSE 2. -/
theorem State.requestCommit_busy {s : State} (hb : s.commit.busy = true) (src : Src) (all : Bool) (tb group : Nat) :
    s.requestCommit src all tb group = s.illegal .glb 0x100 src 2 := by
  rw [State.requestCommit, if_pos hb]

/-- A GO write while a commit is pending comes to that refusal. -/
theorem Access.commit_busy {x : Access} {s : State} (hgo : bitW x.new 31 = true) (hb : s.commit.busy = true) :
    x.commit s = s.illegal .glb 0x100 x.src 2 := by
  rw [Access.commit, if_pos hgo, State.requestCommit_busy hb]

/-- A normal write names every bit that the agent may write. -/
theorem State.access_normal_mask (s : State) (src : Src) (b : Blk) (off : Nat) (id : RegId) (i : Nat) (v : Word) :
    (s.access src b off .normal id i v).mask = Word.ofNat (id.writableBy src) :=
  BitVec.allOnes_and

/-- A command that writes GLB_COMMIT with GO completes with the refusal. -/
theorem completes_go_busy {c : Instr} {s : State} {src : Src} {n : Nat}
    (he : exec c s = Machine.access c s (s.put src .glb .normal 0x100 n)) (hw : c.wf = true) (hs : s.takes src)
    (hb : s.commit.busy = true) (hlo : 2 ^ 31 ≤ n) (hhi : n < 2 ^ 32) :
    completes c s (s.illegal .glb 0x100 src 2) := by
  have hmask : Word.ofNat 0xFFFFFFFF &&& Word.ofNat (RegId.glbCommit.writableBy src) ≠ 0 := by cases src <;> decide
  have hput := completes_put (id := .glbCommit) (i := 0) he hw hs rfl (by decide) (by decide) rfl rfl rfl (.inl hmask)
  have hact : (s.access src .glb 0x100 .normal .glbCommit 0 (Word.ofNat n)).act s = s.illegal .glb 0x100 src 2 :=
    Access.commit_busy (bitW_go hlo hhi) hb
  rwa [hact] at hput

/-! ### Settings of covered groups -/

/-- BLK_LOCK locks no register of a commit group. -/
theorem rwlMask_of_groupOf {id : RegId} {i g : Nat} (h : groupOf id i = some g) : id.rwlMask = 0 := by
  unfold RegId.rwlMask
  split
  case h_5 => rfl
  all_goals cases h

/-- Every agent may write some bit of a register of a commit group. -/
theorem writableBy_of_groupOf {id : RegId} {i g : Nat} (h : groupOf id i = some g) (src : Src) :
    Word.ofNat (id.writableBy src) ≠ 0 := by
  have hid : id ≠ .timeTbStat := by rintro rfl; cases h
  rw [RegId.writableBy, if_neg fun hp => hid hp.1]
  unfold groupOf at h
  split at h
  any_goals decide
  cases h

/-- A pending commit covers the groups it names, and with ALL every group. -/
theorem State.coveredGroup_of {s : State} {g : Nat} (hb : s.commit.busy = true)
    (hc : s.commit.all = true ∨ g ∈ s.commit.groups) : s.coveredGroup g = true := by
  simpa [State.coveredGroup, hb] using hc

/-- An access that names a writable bit of a setting in a covered group is counted with CAUSE 3 and does nothing else. -/
theorem Access.run_covered {x : Access} {s : State} {g : Nat} (hg : groupOf x.id x.i = some g) (hm : x.mask ≠ 0)
    (hc : s.coveredGroup g = true) : x.run s = x.bad s 3 := by
  have hu : x.unlocked s s = (x, s) := by
    simp [Access.unlocked, rwlMask_of_groupOf hg, Word.ofNat]
  simp only [Access.run, hu, hg]
  rw [if_neg fun h => hm h.1, Access.grouped, if_pos hc]

/-- Settles O11: both writes come to one register access, which the pending commit refuses: a GO write in State.requestCommit, a
write to a covered setting in Access.grouped. -/
theorem pendingCommitShutsOut : Obligations.PendingCommitShutsOut := by
  unfold Obligations.PendingCommitShutsOut
  intro s src hs hb
  refine ⟨fun tb g htb hg => ?_, fun tb htb => ?_, ?_⟩
  · have hat : at_ tb 12 = tb * 2 ^ 12 := Nat.shiftLeft_eq tb 12
    exact completes_go_busy rfl (by simp [Instr.wf, htb, hg]) hs hb (by omega) (by omega)
  · have hat : at_ tb 12 = tb * 2 ^ 12 := Nat.shiftLeft_eq tb 12
    exact completes_go_busy rfl (by simp [Instr.wf, htb]) hs hb (by omega) (by omega)
  · intro b off id i win g v hok ho h4 hr hn hg hcov
    have hopen : s.opens src b := ⟨hs.1, hs.2.1.elim .inl fun h => .inr (.inl h), hs.2.2⟩
    have hc := State.coveredGroup_of hb hcov
    have hrun (w : View) (hm : (s.access src b off w id i v).mask ≠ 0) :
        (s.access src b off w id i v).run s = s.illegal b off src 3 := Access.run_covered hg hm hc
    refine ⟨?_, fun hv => ⟨?_, ?_, ?_⟩⟩
    · rw [← hrun .normal (by rw [State.access_normal_mask]; exact writableBy_of_groupOf hg src)]
      exact completes_regWrite v hok ho h4 hr hn hopen
    · rw [← hrun .set hv]
      exact completes_setView v hok ho h4 hr hn hopen
    · rw [← hrun .clr hv]
      exact completes_clrView v hok ho h4 hr hn hopen
    · rw [← hrun .tgl hv]
      exact completes_tglView v hok ho h4 hr hn hopen

end Sys2Proof.Machine

/-! PROOFS. The half-range bits of the counters (R62): a write of a counter sets its bit when bit 39 changes, and else writes the
counter alone. -/

namespace Sys2Proof.Machine

/-- A write that leaves bit 39 as it was stores the value modulo 2^40 and touches no register. -/
theorem State.setCounter_of_bit_eq {s : State} {b : CntBank} {u i v : Nat}
    (h : bitOf (s.counter b u i) 39 = bitOf (v % 2 ^ 40) 39) :
    s.setCounter b u i v = { s with cnt := Store.set 0 s.cnt (cntKey b u i) (v % 2 ^ 40) } :=
  if_pos h

/-- A write that changes bit 39 also sets the half-range bit of a counter that has one. -/
theorem State.setCounter_of_bit_ne {s : State} {b : CntBank} {u i v j bit : Nat} {id : RegId}
    (hb : halfBit b u i = some (id, j, bit)) (h : bitOf (s.counter b u i) 39 ≠ bitOf (v % 2 ^ 40) 39) :
    s.setCounter b u i v
      = { s with cnt := Store.set 0 s.cnt (cntKey b u i) (v % 2 ^ 40) }.orReg id j (2 ^ bit) := by
  rw [State.setCounter, if_neg h, hb]

/-- Settles O16: counting is a write of the old value plus n, and every counter of a line port has a half-range bit. -/
theorem halfRangeOfPortCounters : Obligations.HalfRangeOfPortCounters := by
  unfold Obligations.HalfRangeOfPortCounters
  intro s e k n old new_ t
  have hhalf : halfBit .plat e k = some (.platCntHalf, e * 2 + k / 32, k % 32) := rfl
  exact ⟨State.setCounter_of_bit_ne hhalf, State.setCounter_of_bit_eq⟩

end Sys2Proof.Machine

/-! PROOFS. The block as a whole: every command answers and leaves the queue alone, an idle step is one core clock, the state after
reset, and what becomes of the invariant of pending bits (R352). -/

namespace Sys2Proof.Machine

/-! ### Small numbers -/

theorem eq_of_lt_four {n : Nat} (h : n < 4) : n = 0 ∨ n = 1 ∨ n = 2 ∨ n = 3 := by omega

theorem eq_of_lt_eight {n : Nat} (h : n < 8) : n = 0 ∨ n = 1 ∨ n = 2 ∨ n = 3 ∨ n = 4 ∨ n = 5 ∨ n = 6 ∨ n = 7 := by omega

theorem eq_of_lt_seventeen {n : Nat} (h : n < 17) : n = 0 ∨ n = 1 ∨ n = 2 ∨ n = 3 ∨ n = 4 ∨ n = 5 ∨ n = 6 ∨ n = 7 ∨ n = 8 ∨ n = 9
    ∨ n = 10 ∨ n = 11 ∨ n = 12 ∨ n = 13 ∨ n = 14 ∨ n = 15 ∨ n = 16 := by omega

/-- Folds of steps that agree on a list's members. -/
theorem foldl_congr_mem {α β : Type} {f g : α → β → α} {l : List β} (h : ∀ a, ∀ b ∈ l, f a b = g a b) :
    ∀ a, l.foldl f a = l.foldl g a := by
  induction l with
  | nil => exact fun _ => rfl
  | cons b l ih =>
    intro a
    rw [List.foldl_cons, List.foldl_cons, h a b List.mem_cons_self]
    exact ih (fun a c hc => h a c (List.mem_cons_of_mem _ hc)) _

/-! ### Commands and the queue -/

/-- Every command answers a next state, and one with ill-formed operands the present one. -/
theorem exec_answers (c : Instr) (s : State) : (∃ t, exec c s = .next t) ∧ (c.wf = false → exec c s = .next s) := by
  obtain ⟨can, u, h⟩ := exec_answer c s
  rw [h]
  exact ⟨⟨_, rfl⟩, fun hw => by simp [answerFrom, hw]⟩

/-- A command leaves the queue as it is. -/
theorem exec_pending {c : Instr} {s t : State} (h : exec c s = .next t) : t.pending = s.pending := by
  obtain ⟨can, u, he⟩ := exec_answer c s
  rcases answerFrom_next (he.symm.trans h) with ⟨-, -, rfl⟩ | ⟨-, rfl⟩ <;> rfl

/-- Settles O3: every meaning is an answer for the command itself, which puts the queue back. -/
theorem commandsAnswer : Obligations.CommandsAnswer :=
  ⟨exec_answers, fun _ _ _ => exec_pending⟩

/-- Settles O1, by the definition of a step. -/
theorem stepRunsFrontCommand : Obligations.StepRunsFrontCommand := by
  unfold Obligations.StepRunsFrontCommand
  intro c rest s h
  rw [step, h]

/-! ### What a core clock can change -/

/-- A state without what counts and wakes at a core clock: free values used, Platforms, counters, registers, the always-on block. -/
def State.still (s : State) : State := { s with free := 0, plats := [], cnt := [], regs := [], ao := {} }

/-- Nothing changes from `s` to `t` but what counts and wakes. -/
structure State.Ticked (s t : State) : Prop where
  still : t.still = s.still

theorem State.Ticked.refl (s : State) : State.Ticked s s := ⟨rfl⟩

theorem State.Ticked.trans {s t u : State} (h : s.Ticked t) (g : t.Ticked u) : s.Ticked u := ⟨g.still.trans h.still⟩

theorem State.Ticked.foldl {β : Type} {f : State → β → State} (h : ∀ s b, State.Ticked s (f s b)) (l : List β) (s : State) :
    s.Ticked (l.foldl f s) := by
  induction l generalizing s with
  | nil => exact .refl s
  | cons b l ih => exact (h s b).trans (ih _)

theorem State.Ticked.ite {s t u : State} {c : Prop} [Decidable c] (ht : s.Ticked t) (hu : s.Ticked u) :
    s.Ticked (if c then t else u) := by
  split
  · exact ht
  · exact hu

theorem State.ticked_setReg (s : State) (id : RegId) (i : Nat) (w : Word) : s.Ticked (s.setReg id i w) := ⟨rfl⟩

theorem State.ticked_modPlat (s : State) (p : Nat) (f : Plat → Plat) : s.Ticked (s.modPlat p f) := ⟨rfl⟩

theorem State.ticked_fresh (s : State) : s.Ticked s.fresh.2 := ⟨rfl⟩

theorem State.ticked_countN (s : State) (b : CntBank) (u i n : Nat) : s.Ticked (s.countN b u i n) := by
  obtain ⟨m, r, h⟩ := s.setCounter_shape b u i (s.counter b u i + n)
  rw [State.countN, h]
  exact ⟨rfl⟩

theorem State.ticked_setPerf48 (s : State) (lo hi : RegId) (i v : Nat) : s.Ticked (s.setPerf48 lo hi i v) :=
  (s.ticked_setReg lo i _).trans (State.ticked_setReg _ hi i _)

theorem State.ticked_notePerf (s : State) (p k n : Nat) (w : Bool) : s.Ticked (s.notePerf p k n w) := ⟨rfl⟩

theorem State.ticked_perfBump (s : State) (p k n : Nat) : s.Ticked (s.perfBump p k n) := by
  have counts (b : Bool) (lo hi : RegId) (i v : Nat) : s.Ticked ((s.notePerf p k n b).setPerf48 lo hi i v) :=
    (s.ticked_notePerf p k n b).trans (State.ticked_setPerf48 _ lo hi i v)
  have freezes (t : State) :
      t.Ticked (if ¬ t.rb .platPerfCtrl p 29 then t
        else if t.rb .platPerfCtrl p 30 then t
        else (t.orReg .platPerfCtrl p (2 ^ 30)).modPlat p fun x => { x with frozeAt := some t.fs }) :=
    .ite (.refl t) (.ite (.refl t) ⟨rfl⟩)
  unfold State.perfBump
  split
  · exact .refl s
  · dsimp only
    split
    · exact counts _ _ _ _ _
    · exact (counts _ _ _ _ _).trans ((State.ticked_setReg _ .platPerfOvf p _).trans (freezes _))

theorem State.ticked_perf (s : State) (p ev : Nat) (port cls : Option Nat) (n : Nat) : s.Ticked (s.perf p ev port cls n) :=
  .ite (.refl s) (.foldl (fun t k => .ite (t.ticked_perfBump p k n) (.refl t)) _ s)

theorem State.ticked_agg (s : State) (i n : Nat) : s.Ticked (s.agg i n) :=
  .ite (s.ticked_setPerf48 _ _ i _) (.refl s)

theorem State.ticked_aggClock (s : State) : s.Ticked s.aggClock :=
  .ite ((s.ticked_agg 0 1).trans (State.ticked_agg _ 6 1)) (s.ticked_agg 0 1)

theorem State.ticked_countPower (s : State) (n : Nat) : s.Ticked (s.countPower n) :=
  .foldl (fun t p => t.ticked_countN .ao p _ n) _ s

theorem State.ticked_countStuck (s : State) (p : Nat) : s.Ticked (s.countStuck p) :=
  .ite (.refl s) (s.ticked_fresh.trans (.foldl (fun t k => .ite (t.ticked_perfBump p k 1) (.refl t)) _ _))

theorem State.ticked_clockPlat (s : State) (p : Nat) : s.Ticked (s.clockPlat p) := by
  have cycle (t : State) : t.Ticked (if t.perfOn p then t.perfBump p 8 1 else t) := .ite (t.ticked_perfBump p 8 1) (.refl t)
  have waits (t : State) (c : Bool) : t.Ticked (if c then t.perf p 3 none none 1 else t) :=
    .ite (t.ticked_perf p 3 none none 1) (.refl t)
  have took (t : State) (c : Bool) :
      t.Ticked (if c then t.modPlat p fun x => { x with took := false } else t.perf p 4 none none 1) :=
    .ite (t.ticked_modPlat p _) (t.ticked_perf p 4 none none 1)
  exact (cycle s).trans ((waits _ _).trans ((took _ _).trans (State.ticked_countStuck _ p)))

theorem State.ticked_countFec (s : State) (e : Nat) : s.Ticked (s.countFec e) :=
  .ite ((State.ticked_fresh _).trans ((State.ticked_fresh _).trans
    ((State.ticked_countN _ .plat e 26 _).trans (State.ticked_countN _ .plat e 27 _)))) (.refl s)

theorem State.ticked_countClock (s : State) : s.Ticked s.countClock := by
  have fec (t : State) (x : Nat × PortSt) : t.Ticked (if x.1 < 512 then t.countFec x.1 else t) :=
    .ite (t.ticked_countFec x.1) (.refl t)
  exact s.ticked_aggClock.trans ((State.Ticked.foldl fec _ _).trans (.foldl (fun t p => t.ticked_clockPlat p) _ _))

theorem State.ticked_countUs (s : State) (n e : Nat) : s.Ticked (s.countUs n e) := by
  have counts (t : State) (c : Bool) (k : Nat) : t.Ticked (if c then t.countN .plat e k n else t) :=
    .ite (t.ticked_countN .plat e k n) (.refl t)
  exact (counts s _ 25).trans ((counts _ _ 51).trans (counts _ _ 52))

theorem State.ticked_passUs (s : State) (n : Nat) : s.Ticked (s.passUs n) :=
  .ite (.refl s) ((s.ticked_countPower n).trans (.foldl (fun t (x : Nat × PortSt) => .ite (t.ticked_countUs n x.1) (.refl t)) _ _))

theorem State.ticked_wakes (s : State) : s.Ticked s.wakes := by
  obtain ⟨ps, m, r, a, h⟩ := s.wakes_shape
  rw [h]
  exact ⟨rfl⟩

/-- Without a halt in its steps a clock takes none of them. -/
theorem State.haltStep_none {s : State} (h : s.saf.halting = none) : s.haltStep = s := by
  rw [State.haltStep, h]

/-- The pulse on RST_GPIO touches the update block and the outputs alone. -/
theorem State.endRst_shape (s : State) : ∃ u o, s.endRst = { s with upd := u, out := o } := by
  unfold State.endRst
  split
  · split
    · exact ⟨_, _, rfl⟩
    · exact ⟨s.upd, s.out, rfl⟩
  · exact ⟨s.upd, s.out, rfl⟩

/-- Where time does not run, nothing changes. -/
theorem State.tick_of_not_timeRuns {s : State} (h : s.timeRuns = false) : s.tick = s := by
  rw [State.tick, if_pos (by simp [h])]

/-- A core clock that is no step of a halt changes time, the pulse, and what counts and wakes. -/
theorem State.tick_bare {s : State} (h : s.timeRuns = true) (hh : s.saf.halting = none) :
    ∃ t, ({ s with fs := s.fs + clockFs }.endRst).Ticked t ∧ s.tick.bare = t.bare ∧ s.tick.pending = s.pending := by
  obtain ⟨hsaf, hq⟩ : ({ s with fs := s.fs + clockFs }.endRst).saf = s.saf
      ∧ ({ s with fs := s.fs + clockFs }.endRst).pending = s.pending := by
    obtain ⟨u, o, hu⟩ := State.endRst_shape { s with fs := s.fs + clockFs }
    simp [hu]
  rw [State.tick, if_neg (by simp [h])]
  generalize { s with fs := s.fs + clockFs }.endRst = t at hsaf hq
  dsimp only
  split
  · exact ⟨_, t.ticked_wakes.trans ((State.ticked_countClock _).trans (State.ticked_passUs _ _)), State.bare_fin s _, rfl⟩
  · split
    · have counts : t.Ticked ((if s.awake then t.aggClock else t).countPower (t.fs / 1000000000 - s.fs / 1000000000)) :=
        (State.Ticked.ite t.ticked_aggClock (.refl t)).trans (State.ticked_countPower _ _)
      have hsaf' := (congrArg State.saf counts.still :).trans hsaf
      have hq' := (congrArg State.pending counts.still :).trans hq
      refine ⟨_, counts, ?_⟩
      rw [State.haltStep_none (hsaf' ▸ hh)]
      exact ⟨rfl, hq'⟩
    · exact ⟨t, .refl t, rfl, hq⟩

/-- Settles O2: the clock counts and wakes, and touches nothing that the statement names but the time. -/
theorem idleStepIsOneClock : Obligations.IdleStepIsOneClock := by
  unfold Obligations.IdleStepIsOneClock
  intro s hp
  have hstep : step s = .next s.tick := by rw [step, hp]
  refine ⟨fun ht hh => ⟨s.tick, hstep, ?_⟩, fun ht => ?_, by simp [State.timeRuns]⟩
  · obtain ⟨t, hticked, hb, hq⟩ := State.tick_bare ht hh
    obtain ⟨u, o, hu⟩ := State.endRst_shape { s with fs := s.fs + clockFs }
    rw [hu] at hticked
    exact ⟨(State.bare_fs hb).trans (congrArg State.fs hticked.still :), hq.trans hp,
      (State.bare_ports hb).trans (congrArg State.ports hticked.still :), (State.bare_tables hb).trans (congrArg State.tables hticked.still :),
      (State.bare_tree hb).trans (congrArg State.tree hticked.still :), (State.bare_epochs hb).trans (congrArg State.epochs hticked.still :),
      (State.bare_time hb).trans (congrArg State.time hticked.still :), (State.bare_boot hb).trans (congrArg State.boot hticked.still :)⟩
  · rw [hstep, State.tick_of_not_timeRuns ht]

/-! ### Reset -/

/-- Settles O5: no vector pends in the state after reset. -/
theorem resetHasNoPending : Obligations.ResetHasNoPending := by
  unfold Obligations.ResetHasNoPending
  refine ⟨fun v _ hv => ?_, rfl⟩
  have hz : bitOf State.reset.host.pend v = false := Nat.zero_testBit v
  simp [hz] at hv

/-- No source is active where the register that enables it is all zero. -/
theorem State.active_of_enable_zero {s : State} {v : Nat} (h : ∀ st en i, vectorRegs v = some (st, en, i) → s.fullReg en i = 0) :
    s.active v = false := by
  unfold State.active
  split
  · rfl
  · next st en i hv => simp [h st en i hv]

/-- After reset every register that enables an interrupt is zero. -/
theorem State.reset_enable_zero {v i : Nat} {st en : RegId} (h : vectorRegs v = some (st, en, i)) :
    State.reset.fullReg en i = 0 := by
  have zero : ((0 : Word) ||| Word.ofNat 0) &&& ~~~Word.ofNat 0 = 0 := by decide
  unfold vectorRegs at h
  split at h
  case h_15 =>
    split at h
    · cases h; exact zero
    · split at h
      · cases h; exact zero
      · split at h <;> cases h
        exact zero
  all_goals
    cases h
    exact zero

/-- Settles O8: every register reads its cold value, and everything else is empty. -/
theorem resetState : Obligations.ResetState := by
  unfold Obligations.ResetState
  refine ⟨rfl, rfl, rfl, rfl, rfl, rfl, rfl, rfl, fun _ => ⟨rfl, rfl⟩, fun _ _ _ => rfl, fun n hn => ⟨?_, rfl, rfl, ?_⟩,
    fun v => State.active_of_enable_zero fun _ _ _ => State.reset_enable_zero⟩
  · rw [Cfg.maxFrame, if_pos hn]
    rfl
  · rw [Cfg.enabled, if_pos hn]
    exact (by decide : bitW 0 31 = false)

/-! ### Pending bits -/

/-- A boot in its first phase with vector 0 active and pending, and a halt whose record falls due. Its registers are not in canonical
form: the word of SAF_STAT, which has HALTED set, stands behind that of SAF_LOG_IDX, which has a higher key, and is not found. -/
def unsorted : State :=
  { fs := 1800000000
    regs := [(regKey .glbIllegalSum 0, 1), (regKey .glbIllegalEn 0, 1), (regKey .safLogIdx 0, 0x21220000),
      (regKey .safStat 0, 0x80000000)]
    host := { pend := 1 }
    saf := { halting := some { code := 0, detail := [], injected := false, at_ := 0, mono := 0, tb0 := 0, notify := false } } }

/-- The record's write brings SAF_LOG_IDX to its cold value, which takes its word out of the store and shows SAF_STAT's. -/
theorem unsorted_tick : unsorted.active 0 = true ∧ unsorted.tick.active 0 = false ∧ unsorted.tick.host.pend = 1 := by
  decide +kernel

/-- Refutes O4: the statement admits states whose registers are not in canonical form. From the one above, in which vector 0 is
active and alone pends, a step of the clock makes its source inactive and leaves the bit. -/
theorem not_pendingOnlyWhileActive : ¬ Obligations.PendingOnlyWhileActive := by
  unfold Obligations.PendingOnlyWhileActive
  intro h
  obtain ⟨hactive, hafter, hpend⟩ := unsorted_tick
  have hbefore : pendingActive unsorted := by
    intro v _ hv
    have hv0 : v = 0 := Nat.testBit_one_eq_true_iff_self_eq_zero.mp hv
    rwa [hv0]
  have := h unsorted unsorted.tick hbefore rfl 0 (by decide) (by rw [hpend]; decide)
  simp [hafter] at this

end Sys2Proof.Machine

/-! PROOFS. Register accesses before the boot's commit edge (R347, R400, R497). -/

namespace Sys2Proof.Machine

/-- A boot in its first phase whose PCIe function HP_PERST_N holds in reset (R497). -/
def perstHeld : State := { ao := { perstLow := true } }

/-- SAF_CFG, at 0x40010, has a cold value other than 0; the host, whom HP_PERST_N shuts out, reads 0 there. -/
theorem perstHeld_reads :
    decodeAddr 0x40010 = some (.saf, .normal, 0x10) ∧ perstHeld.regAt .saf 0x10 = some (.safCfg, 0, false)
      ∧ perstHeld.awake = true ∧ perstHeld.committed = false ∧ alwaysOn .saf .safCfg = false
      ∧ perstHeld.busRead .pcie 0x40010 = 0 ∧ coldWord .safCfg 0 &&& ~~~(Word.ofNat RegId.safCfg.woMask) ≠ 0 := by
  decide +kernel

/-- Refutes O7: its last rule gives every agent a cold value before the commit edge, and the host reads 0 while HP_PERST_N is low. -/
theorem not_accessesWhileHalted : ¬ Obligations.AccessesWhileHalted := by
  unfold Obligations.AccessesWhileHalted
  rintro ⟨-, -, h⟩
  obtain ⟨hdecode, hreg, hawake, hcommitted, hao, hread, hcold⟩ := perstHeld_reads
  obtain ⟨-, -, -, hcolds⟩ := h perstHeld .pcie 0x40010
  have := (hcolds _ _ _ _ _ _ hdecode).2 (by decide) hawake hcommitted (by decide) hao hreg
  exact hcold (this.symm.trans hread)

end Sys2Proof.Machine

/-! PROOFS. Registers in canonical form: a read after a write, and every write keeps the form. -/

namespace Sys2Proof.Machine

/-! ### Stores whose default depends on the key -/

section
variable {α : Type}

/-- A store with each value listed as such: no key reads as a default. -/
def Store.listed (m : Store α) : Store (Option α) := m.map fun e => (e.1, some e.2)

theorem Store.get_listed (d : α) (m : Store α) (k : Nat) : (Store.get none m.listed k).getD d = Store.get d m k := by
  induction m with
  | nil => rfl
  | cons e r ih =>
    obtain ⟨j, u⟩ := e
    simp only [Store.listed, List.map_cons, Store.get] at ih ⊢
    split
    · rfl
    · split
      · rfl
      · exact ih

theorem Store.listed_del (m : Store α) (k : Nat) : (m.del k).listed = m.listed.del k := by
  induction m with
  | nil => rfl
  | cons e r ih =>
    obtain ⟨j, u⟩ := e
    simp only [Store.listed, List.map_cons, Store.del] at ih ⊢
    split
    · rfl
    · split
      · rfl
      · rw [List.map_cons, ih]

variable [DecidableEq α]

/-- The canonical form of a store that lists something. -/
theorem Store.wfD_cons {d : Nat → α} {lo : Option Nat} {k : Nat} {v : α} {r : Store α} :
    Store.wfD d lo ((k, v) :: r) = true ↔ (∀ l, lo = some l → l < k) ∧ v ≠ d k ∧ Store.wfD d (some k) r = true := by
  cases lo <;> simp [Store.wfD, and_assoc]

theorem Store.wfFrom_listed {d : Nat → α} {m : Store α} {lo : Option Nat} (h : Store.wfD d lo m = true) :
    Store.wfFrom none lo m.listed = true := by
  induction m generalizing lo with
  | nil => rfl
  | cons e r ih =>
    obtain ⟨j, u⟩ := e
    simp only [Store.wfD, Bool.and_eq_true] at h
    simp only [Store.listed, List.map_cons, Store.wfFrom, Bool.and_eq_true]
    exact ⟨⟨h.1.1, by simp⟩, ih h.2⟩

/-- A read after a write to the same key of a canonical store gives the value written, whatever the key's default. -/
theorem Store.get_set_self_wfD {d : Nat → α} {m : Store α} (h : Store.wfD d none m = true) (c : α) (k : Nat) (v : α) :
    Store.get c (Store.set c m k v) k = v := by
  simp only [Store.set]
  split
  · next hv =>
    rw [← Store.get_listed, Store.listed_del, Store.get_del_self none _ k (Store.wfFrom_listed h), hv]
    rfl
  · exact Store.get_put_self c m k v

/-- A write to a canonical store leaves every other key alone, whatever the defaults. -/
theorem Store.get_set_ne_wfD {d : Nat → α} {m : Store α} (h : Store.wfD d none m = true) (c c' : α) {k k' : Nat} (v : α)
    (hk : k' ≠ k) : Store.get c' (Store.set c m k v) k' = Store.get c' m k' := by
  simp only [Store.set]
  split
  · rw [← Store.get_listed, Store.listed_del, Store.get_del_ne none _ hk (Store.wfFrom_listed h), Store.get_listed]
  · exact Store.get_put_ne c' m v hk

/-- A lower bound of the keys may be lowered. -/
theorem Store.wfD_of_lower {d : Nat → α} {m : Store α} {l : Nat} {lo : Option Nat} (h : Store.wfD d (some l) m = true)
    (hl : ∀ l', lo = some l' → l' ≤ l) : Store.wfD d lo m = true := by
  cases m with
  | nil => rfl
  | cons e r =>
    obtain ⟨j, u⟩ := e
    obtain ⟨hlo, hu, hr⟩ := Store.wfD_cons.mp h
    exact Store.wfD_cons.mpr ⟨fun l' hl' => Nat.lt_of_le_of_lt (hl l' hl') (hlo l rfl), hu, hr⟩

/-- A put of a value other than its key's default keeps the canonical form. -/
theorem Store.wfD_put {d : Nat → α} {m : Store α} {lo : Option Nat} {k : Nat} {v : α} (hv : v ≠ d k)
    (h : Store.wfD d lo m = true) (hk : ∀ l, lo = some l → l < k) : Store.wfD d lo (m.put k v) = true := by
  induction m generalizing lo with
  | nil => exact Store.wfD_cons.mpr ⟨hk, hv, rfl⟩
  | cons e r ih =>
    obtain ⟨j, u⟩ := e
    obtain ⟨hlo, hu, hr⟩ := Store.wfD_cons.mp h
    simp only [Store.put]
    split
    · next hj => exact Store.wfD_cons.mpr ⟨hk, hv, hj ▸ hr⟩
    · split
      · next hlt => exact Store.wfD_cons.mpr ⟨hk, hv, Store.wfD_cons.mpr ⟨by rintro l ⟨⟩; exact hlt, hu, hr⟩⟩
      · next hne hlt => exact Store.wfD_cons.mpr ⟨hlo, hu, ih hr (by rintro l ⟨⟩; omega)⟩

/-- A deletion keeps the canonical form. -/
theorem Store.wfD_del {d : Nat → α} {m : Store α} {lo : Option Nat} (k : Nat) (h : Store.wfD d lo m = true) :
    Store.wfD d lo (m.del k) = true := by
  induction m generalizing lo with
  | nil => rfl
  | cons e r ih =>
    obtain ⟨j, u⟩ := e
    obtain ⟨hlo, hu, hr⟩ := Store.wfD_cons.mp h
    simp only [Store.del]
    split
    · exact Store.wfD_of_lower hr fun l hl => Nat.le_of_lt (hlo l hl)
    · split
      · exact h
      · exact Store.wfD_cons.mpr ⟨hlo, hu, ih hr⟩

end

/-! ### Register words -/

theorem RegId.ctorIdx_lt (id : RegId) : id.ctorIdx < 1024 := by cases id <;> decide

/-- Two register words stand at different keys. -/
theorem regKey_ne {id id' : RegId} {i i' : Nat} (h : id' ≠ id ∨ i' ≠ i) : regKey id' i' ≠ regKey id i := by
  have h1 := id.ctorIdx_lt
  have h2 := id'.ctorIdx_lt
  unfold regKey
  rcases h with h | h
  · have : id'.ctorIdx ≠ id.ctorIdx := fun e => h (by rw [← RegId.ofNat_ctorIdx id', e, RegId.ofNat_ctorIdx])
    omega
  · omega

/-- A register's key gives its cold word. -/
theorem coldKey_regKey (id : RegId) (i : Nat) : coldKey (regKey id i) = coldWord id i := by
  have h := id.ctorIdx_lt
  have hmod : regKey id i % 1024 = id.ctorIdx := by unfold regKey; omega
  have hdiv : regKey id i / 1024 = i := by unfold regKey; omega
  rw [coldKey, hmod, hdiv, RegId.ofNat_ctorIdx]

section
variable {m : Store Word} (h : regsCanonical m)
include h

theorem regOf_setRegOf_self (id : RegId) (i : Nat) (w : Word) : regOf (setRegOf m id i w) id i = w :=
  Store.get_set_self_wfD h _ _ _

theorem regOf_setRegOf_ne {id id' : RegId} {i i' : Nat} (w : Word) (hne : id' ≠ id ∨ i' ≠ i) :
    regOf (setRegOf m id i w) id' i' = regOf m id' i' :=
  Store.get_set_ne_wfD h _ _ w (regKey_ne hne)

theorem regsCanonical_setRegOf (id : RegId) (i : Nat) (w : Word) : regsCanonical (setRegOf m id i w) := by
  unfold regsCanonical setRegOf Store.set
  split
  · exact Store.wfD_del _ h
  · next hw => exact Store.wfD_put (by rwa [coldKey_regKey]) h nofun

end

section
variable {s : State} (h : regsCanonical s.regs)
include h

/-- A read of the register word just written. -/
theorem State.reg_setReg_self (id : RegId) (i : Nat) (w : Word) : (s.setReg id i w).reg id i = w :=
  regOf_setRegOf_self h id i w

/-- A write leaves every other register word alone. -/
theorem State.reg_setReg_ne {id id' : RegId} {i i' : Nat} (w : Word) (hne : id' ≠ id ∨ i' ≠ i) :
    (s.setReg id i w).reg id' i' = s.reg id' i' :=
  regOf_setRegOf_ne h w hne

/-- A write of a register word keeps the canonical form. -/
theorem State.regsCanonical_setReg (id : RegId) (i : Nat) (w : Word) : regsCanonical (s.setReg id i w).regs :=
  regsCanonical_setRegOf h id i w

end

end Sys2Proof.Machine

/-! PROOFS. What a register write makes of the bits it names (R4, R5): the interrupt registers, GO bits and illegal sequences (R354,
R358), the staged settings of the commit groups (R19), the always-on registers (R8) and the locks (R356). -/

namespace Sys2Proof.Machine

/-! ### Views -/

/-- What a write of `v` through a view makes of a word whose bits `m` it may change. -/
def View.onBits (w : View) (old v m : Word) : Word :=
  match w with
  | .normal => (old &&& ~~~m) ||| (v &&& m)
  | .set => old ||| (v &&& m)
  | .clr => old &&& ~~~(v &&& m)
  | .tgl => old ^^^ (v &&& m)

theorem View.touched_normal (v m : Word) : View.normal.touched v &&& m = m := BitVec.allOnes_and

@[simp] theorem View.touched_set (v : Word) : View.set.touched v = v := rfl
@[simp] theorem View.touched_clr (v : Word) : View.clr.touched v = v := rfl
@[simp] theorem View.touched_tgl (v : Word) : View.tgl.touched v = v := rfl

/-- The bits that a view names, replaced by what the view makes of the value, are what the view makes of them; `full` is what the
register shows, which agrees with what it stores in those bits. -/
theorem View.onBits_eq (w : View) {old full v m : Word} (h : full &&& m = old &&& m) :
    (old &&& ~~~(w.touched v &&& m)) ||| (w.apply full v &&& (w.touched v &&& m)) = w.onBits old v m := by
  cases w with
  | normal => rw [View.touched_normal]; rfl
  | set =>
    simp only [View.touched, View.apply, View.onBits]
    ext j hj
    simp only [BitVec.getElem_or, BitVec.getElem_and, BitVec.getElem_not]
    cases old[j] <;> cases v[j] <;> cases m[j] <;> simp
  | clr =>
    simp only [View.touched, View.apply, View.onBits]
    ext j hj
    simp only [BitVec.getElem_or, BitVec.getElem_and, BitVec.getElem_not]
    cases old[j] <;> cases v[j] <;> cases m[j] <;> simp
  | tgl =>
    simp only [View.touched, View.apply, View.onBits]
    ext j hj
    have hj' := congrArg (fun x : Word => x[j]) h
    simp only [BitVec.getElem_and] at hj'
    simp only [BitVec.getElem_or, BitVec.getElem_and, BitVec.getElem_not, BitVec.getElem_xor]
    cases hm : m[j]
    · simp
    · simp only [hm, Bool.and_true] at hj'
      rw [hj']
      cases old[j] <;> cases v[j] <;> simp

/-- An access that names no writable bit changes nothing. -/
theorem Access.run_unnamed {x : Access} (hm : x.mask = 0) (hid : x.id ≠ .safWdog) (s : State) : x.run s = s := by
  have hu : x.unlocked s s = (x, s) := by simp [Access.unlocked, hm]
  simp only [Access.run, hu]
  rw [if_pos ⟨hm, hid⟩]

/-- A register whose writable bits are those it stores, which show as they are stored. -/
structure State.Plain (s : State) (src : Src) (id : RegId) (i : Nat) (m : Word) : Prop where
  writable : Word.ofNat (id.writableBy src) = m
  stored : Word.ofNat id.stored = m
  shown : s.fullReg id i &&& m = s.reg id i &&& m

section
variable {s : State} {src : Src} {b : Blk} {off : Nat} {id : RegId} {i : Nat} {m : Word} (v : Word)

/-- An access that names a stored bit of such a register stores what its view makes of the word. -/
theorem State.Plain.store (h : s.Plain src id i m) {w : View} (hm : w.touched v &&& m ≠ 0) :
    (s.access src b off w id i v).store s = s.setReg id i (w.onBits (s.reg id i) v m) := by
  have hand : (w.touched v &&& m) &&& m = w.touched v &&& m := by rw [BitVec.and_assoc, BitVec.and_self]
  simp only [Access.store, Access.value, State.access, h.writable, h.stored, hand, if_neg hm]
  rw [View.onBits_eq w h.shown]

/-- An access that names no bit of it changes nothing. -/
theorem State.Plain.run_unnamed (h : s.Plain src id i m) {w : View} (hm : w.touched v &&& m = 0) (hid : id ≠ .safWdog) :
    (s.access src b off w id i v).run s = s :=
  Access.run_unnamed (by rw [State.access, h.writable, hm]) hid s

end

/-- What the four views of one register come to: `f` gives the state for the register's new word where bits are named, and nothing
changes where a view names none. -/
theorem completes_views {s : State} {src : Src} {b : Blk} {off : Nat} {id : RegId} {i : Nat} {win : Bool} {v m : Word}
    {f : Word → State} (hb : b.ok = true) (ho : off < 0x10000) (h4 : off % 4 = 0) (hr : s.regAt b off = some (id, i, win))
    (hn : win = true → s.noPort = false) (hs : s.opens src b) (hm : m ≠ 0)
    (hrun : ∀ w : View, w.touched v &&& m ≠ 0 → (s.access src b off w id i v).run s = f (w.onBits (s.reg id i) v m))
    (hskip : ∀ w : View, w.touched v &&& m = 0 → (s.access src b off w id i v).run s = s) :
    let old := s.reg id i
    let a := regAddr b .normal off
    completes (.registerWrite src .bar0 a (leBytes 4 v.toNat)) s (f ((old &&& ~~~m) ||| (v &&& m)))
      ∧ (v &&& m ≠ 0 →
          completes (.setViewWrite src a v) s (f (old ||| (v &&& m)))
            ∧ completes (.clrViewWrite src a v) s (f (old &&& ~~~(v &&& m)))
            ∧ completes (.tglViewWrite src a v) s (f (old ^^^ (v &&& m))))
      ∧ (v &&& m = 0 →
          completes (.setViewWrite src a v) s s ∧ completes (.clrViewWrite src a v) s s ∧ completes (.tglViewWrite src a v) s s) := by
  have normal := completes_regWrite v hb ho h4 hr hn hs
  have set := completes_setView v hb ho h4 hr hn hs
  have clr := completes_clrView v hb ho h4 hr hn hs
  have tgl := completes_tglView v hb ho h4 hr hn hs
  refine ⟨?_, fun hv => ⟨?_, ?_, ?_⟩, fun hv => ⟨?_, ?_, ?_⟩⟩
  · rw [hrun .normal (by rwa [View.touched_normal])] at normal
    exact normal
  · rw [hrun .set (by simpa using hv)] at set
    exact set
  · rw [hrun .clr (by simpa using hv)] at clr
    exact clr
  · rw [hrun .tgl (by simpa using hv)] at tgl
    exact tgl
  · rw [hskip .set (by simpa using hv)] at set
    exact set
  · rw [hskip .clr (by simpa using hv)] at clr
    exact clr
  · rw [hskip .tgl (by simpa using hv)] at tgl
    exact tgl

/-! ### Interrupt registers -/

/-- A mask of numbers below `n` is a number of `n` bits. -/
theorem maskOf_lt (n : Nat) (f : Nat → Bool) : maskOf n f < 2 ^ n := by
  have below : ∀ n, ((List.range n).filter f).foldl (fun a i => a + 2 ^ i) 0 < 2 ^ n := by
    intro n
    induction n with
    | zero => simp
    | succ n ih =>
      rw [List.range_succ, List.filter_append, List.foldl_append, Nat.pow_succ]
      cases h : f n <;> simp [h] <;> omega
  exact below n

/-- A register shows what it stores in bits that follow nothing and are not write-only. -/
theorem State.shown_of_disjoint {s : State} {id : RegId} {i : Nat} {m : Word} (hc : s.counterReg id i = none)
    (hw : id.woMask = 0) (h : Word.ofNat (s.statusBits id i) &&& m = 0) : s.fullReg id i &&& m = s.reg id i &&& m := by
  have hwo : ~~~Word.ofNat 0 = BitVec.allOnes 32 := by decide
  rw [State.fullReg, hc, hw, hwo, BitVec.and_allOnes]
  ext j hj
  have := congrArg (fun x : Word => x[j]) h
  simp only [BitVec.getElem_and, BitVec.getElem_or] at this ⊢
  cases hm : m[j]
  · simp
  · simp only [hm, Bool.and_true] at this ⊢
    rw [this]
    simp

/-- Numbers without a common bit give words without one. -/
theorem word_disjoint {n m : Nat} (h : ∀ j < 32, m.testBit j = true → n.testBit j = false) :
    Word.ofNat n &&& Word.ofNat m = 0 := by
  apply BitVec.eq_of_getLsbD_eq
  intro j hj
  simp only [Word.ofNat, BitVec.getLsbD_and, BitVec.getLsbD_ofNat, hj, decide_true, Bool.true_and]
  cases hm : m.testBit j
  · simp
  · simp [h j hj hm]

/-- TIME_INT_STAT follows the state outside bits 29 to 16. -/
theorem timeIntStat_disjoint {a m n : Nat} (hm : m < 2 ^ 8) (hn : n < 2 ^ 8) :
    Word.ofNat (at_ a 30 + at_ m 8 + n) &&& Word.ofNat RegId.timeIntStat.rwMask = 0 := by
  have middle : ∀ j < 32, RegId.timeIntStat.rwMask.testBit j = true → 16 ≤ j ∧ j < 30 := by decide
  refine word_disjoint fun j hj hb => ?_
  obtain ⟨h16, h30⟩ := middle j hj hb
  have hsum : at_ a 30 + at_ m 8 + n = 2 ^ 30 * a + (m * 2 ^ 8 + n) := by
    simp only [at_, Nat.shiftLeft_eq]
    omega
  have hr : m * 2 ^ 8 + n < 2 ^ 16 := by omega
  rw [hsum, Nat.testBit_two_pow_mul_add a (by omega), if_pos h30]
  exact Nat.testBit_lt_two_pow (Nat.lt_of_lt_of_le hr (Nat.pow_le_pow_right (by omega) h16))

/-- The bits of an interrupt register that follow the state are not those that software writes. -/
theorem State.statusBits_disjoint (s : State) {id : RegId} (i : Nat) (h : id ∈ enables ++ latches) :
    Word.ofNat (s.statusBits id i) &&& Word.ofNat id.rwMask = 0 := by
  rcases List.mem_append.mp h with h | h
  · have hz : s.statusBits id i = 0 := by
      simp only [enables, List.mem_cons, List.not_mem_nil, or_false] at h
      rcases h with rfl | rfl | rfl | rfl | rfl | rfl | rfl | rfl | rfl | rfl | rfl | rfl | rfl | rfl | rfl <;> rfl
    rw [hz]
    exact BitVec.zero_and
  · simp only [latches, List.mem_cons, List.not_mem_nil, or_false] at h
    rcases h with rfl | rfl | rfl | rfl | rfl | rfl | rfl | rfl | rfl | rfl | rfl | rfl | rfl
    · exact BitVec.zero_and
    · exact BitVec.zero_and
    · exact (by decide : ∀ x, Word.ofNat (at_ (b2n x) 4) &&& Word.ofNat 0xF = 0) _
    · exact BitVec.zero_and
    · exact timeIntStat_disjoint (maskOf_lt 8 _) (maskOf_lt 8 _)
    · exact BitVec.zero_and
    · exact (by decide : ∀ x, Word.ofNat (at_ (b2n x) 4) &&& Word.ofNat 0xF = 0) _
    · exact (by decide : ∀ x, Word.ofNat (at_ (b2n x) 4) &&& Word.ofNat 0xF = 0) _
    · exact (by decide : ∀ x y, Word.ofNat (at_ (b2n x) 4 + at_ (b2n y) 3) &&& Word.ofNat 0x7 = 0) _ _
    · exact (by decide : ∀ x y, Word.ofNat (at_ (b2n x) 4 + at_ (b2n y) 3) &&& Word.ofNat 0x7 = 0) _ _
    · exact (by decide : ∀ x, Word.ofNat (at_ (b2n x) 3) &&& Word.ofNat 0x7 = 0) _
    · exact (by decide : ∀ x y z, Word.ofNat (at_ (b2n x) 4 + at_ (b2n y) 3 + b2n z) &&& Word.ofNat 0x6 = 0) _ _ _
    · exact (by decide : ∀ x, Word.ofNat (at_ (b2n x) 6) &&& Word.ofNat 0x3F = 0) _

/-- The interrupt registers store what software writes there, whoever writes it, under no lock. -/
theorem interrupt_masks {id : RegId} (h : id ∈ enables ++ latches) :
    id.writable = id.rwMask ∧ id.stored = id.rwMask ∧ id.woMask = 0 ∧ id.rwlMask = 0 ∧ Word.ofNat id.rwMask ≠ 0
      ∧ id ≠ .timeTbStat ∧ id ≠ .safWdog := by
  have all : ∀ id ∈ enables ++ latches, id.writable = id.rwMask ∧ id.stored = id.rwMask ∧ id.woMask = 0 ∧ id.rwlMask = 0
      ∧ Word.ofNat id.rwMask ≠ 0 ∧ id ≠ .timeTbStat ∧ id ≠ .safWdog := by decide
  exact all id h

/-- They belong to no commit group and hold no counter. -/
theorem interrupt_ungrouped {id : RegId} (h : id ∈ enables ++ latches) (s : State) (i : Nat) :
    groupOf id i = none ∧ s.counterReg id i = none := by
  simp only [enables, latches, List.cons_append, List.nil_append, List.mem_cons, List.not_mem_nil, or_false] at h
  rcases h with rfl | rfl | rfl | rfl | rfl | rfl | rfl | rfl | rfl | rfl | rfl | rfl | rfl | rfl | rfl | rfl | rfl | rfl | rfl
    | rfl | rfl | rfl | rfl | rfl | rfl | rfl | rfl | rfl <;> exact ⟨rfl, rfl⟩

/-- An access to one stores its value and does nothing else. -/
theorem Access.act_interrupt {x : Access} (h : x.id ∈ enables ++ latches) (s : State) : x.act s = x.store s := by
  obtain ⟨src, b, off, w, id, i, m, v⟩ := x
  simp only [enables, latches, List.cons_append, List.nil_append, List.mem_cons, List.not_mem_nil, or_false] at h
  rcases h with rfl | rfl | rfl | rfl | rfl | rfl | rfl | rfl | rfl | rfl | rfl | rfl | rfl | rfl | rfl | rfl | rfl | rfl | rfl
    | rfl | rfl | rfl | rfl | rfl | rfl | rfl | rfl | rfl <;> rfl

theorem State.plain_interrupt (s : State) (src : Src) {id : RegId} (i : Nat) (h : id ∈ enables ++ latches) :
    s.Plain src id i (Word.ofNat id.rwMask) := by
  obtain ⟨hw, hst, hwo, -, -, hid, -⟩ := interrupt_masks h
  exact ⟨by rw [RegId.writableBy, if_neg fun hp => hid hp.1, hw], by rw [hst],
    State.shown_of_disjoint (interrupt_ungrouped h s i).2 hwo (s.statusBits_disjoint i h)⟩

/-- R4, R6, R358: the interrupt registers through the four views. -/
theorem viewsOfInterrupts : Rules.ViewsOfInterrupts := by
  intro s src b off id i v hb ho h4 hr hid hs
  have hp := s.plain_interrupt src i hid
  obtain ⟨-, -, -, hrwl, hm, -, hwd⟩ := interrupt_masks hid
  refine completes_views hb ho h4 hr nofun hs hm (fun w hw => ?_) fun w hw => hp.run_unnamed v hw hwd
  rw [Access.run_act _ s hrwl (interrupt_ungrouped hid s i).1 (.inl (by rwa [State.access, hp.writable])),
    Access.act_interrupt hid, hp.store v hw]

/-! ### GO bits -/

/-- Fields of words that agree there are equal. -/
theorem fld_congr {u w : Word} {hi lo : Nat} (h : ∀ j, lo ≤ j → j ≤ hi → u.getLsbD j = w.getLsbD j) :
    fld u hi lo = fld w hi lo := by
  apply Nat.eq_of_testBit_eq
  intro j
  simp only [fld, bits, Nat.testBit_mod_two_pow, Nat.testBit_shiftRight, BitVec.testBit_toNat]
  by_cases hj : j < hi + 1 - lo
  · rw [h (lo + j) (by omega) (by omega)]
  · simp [hj]

/-- What an access to a GO register does depends on its agent and on the WO bits of its value. -/
theorem Access.act_go_congr {x y : Access} (hid : x.id ∈ goRegisters) (hxy : y.id = x.id) (hsrc : y.src = x.src)
    (h : ∀ j, x.id.woMask.testBit j = true → y.new.getLsbD j = x.new.getLsbD j) (s : State) : y.act s = x.act s := by
  obtain ⟨src, b, off, w, id, i, m, v⟩ := x
  obtain ⟨src', b', off', w', id', i', m', v'⟩ := y
  dsimp only at hxy hsrc h hid
  subst hxy hsrc
  have go (h31 : id'.woMask.testBit 31 = true) : bitW v' 31 = bitW v 31 := h 31 h31
  have field (hi lo : Nat) (hm : ∀ j < hi + 1, lo ≤ j → id'.woMask.testBit j = true) : fld v' hi lo = fld v hi lo :=
    fld_congr fun j h1 h2 => h j (hm j (by omega) h1)
  simp only [goRegisters, List.mem_cons, List.not_mem_nil, or_false] at hid
  rcases hid with rfl | rfl | rfl | rfl | rfl | rfl | rfl | rfl
  · simp only [Access.act, go (by decide), field 30 28 (by decide), field 26 24 (by decide)]
  · simp only [Access.act, go (by decide)]
  · simp only [Access.act, go (by decide), field 30 28 (by decide), field 24 20 (by decide), field 19 0 (by decide)]
  · have h30 : bitW v' 30 = bitW v 30 := h 30 (by decide)
    simp only [Access.act, go (by decide), h30, field 14 12 (by decide)]
  · simp only [Access.act, go (by decide)]
  · simp only [Access.act, go (by decide)]
  · simp only [Access.act, go (by decide)]
  · simp only [Access.act, go (by decide), field 30 27 (by decide), field 2 0 (by decide)]

/-- Without GO such an access does nothing. -/
theorem Access.act_no_go {x : Access} (hid : x.id ∈ goRegisters) (h : bitW x.new 31 = false) (s : State) : x.act s = s := by
  obtain ⟨src, b, off, w, id, i, m, v⟩ := x
  simp only [goRegisters, List.mem_cons, List.not_mem_nil, or_false] at hid h
  rcases hid with rfl | rfl | rfl | rfl | rfl | rfl | rfl | rfl <;> simp [Access.act, h]

/-- The GO registers are under no lock, have no copy, and software may write bit 31. -/
theorem go_masks {id : RegId} (h : id ∈ goRegisters) :
    id.rwlMask = 0 ∧ id.aocMask = 0 ∧ (Word.ofNat id.writable).getLsbD 31 = true ∧ id.woMask.testBit 31 = true
      ∧ id ≠ .timeTbStat ∧ id ≠ .safWdog := by
  have all : ∀ id ∈ goRegisters, id.rwlMask = 0 ∧ id.aocMask = 0 ∧ (Word.ofNat id.writable).getLsbD 31 = true
      ∧ id.woMask.testBit 31 = true ∧ id ≠ .timeTbStat ∧ id ≠ .safWdog := by decide
  exact all id h

theorem go_ungrouped {id : RegId} (h : id ∈ goRegisters) (s : State) (i : Nat) :
    groupOf id i = none ∧ s.counterReg id i = none := by
  simp only [goRegisters, List.mem_cons, List.not_mem_nil, or_false] at h
  rcases h with rfl | rfl | rfl | rfl | rfl | rfl | rfl | rfl <;> exact ⟨rfl, rfl⟩

/-- WO bits show as 0. -/
theorem State.fullReg_wo {s : State} {id : RegId} {i j : Nat} (hc : s.counterReg id i = none) (hj : id.woMask.testBit j = true) :
    (s.fullReg id i).getLsbD j = false := by
  rw [State.fullReg, hc]
  simp only [BitVec.getLsbD_and, BitVec.getLsbD_not, Word.ofNat, BitVec.getLsbD_ofNat, hj, Bool.and_true]
  cases decide (j < 32) <;> simp

/-- R354: GO bits through the views. -/
theorem goThroughViews : Rules.GoThroughViews := by
  intro s src b off id i v hb ho h4 hr hid hs
  obtain ⟨hrwl, haoc, hw31, hwo31, hne, hwd⟩ := go_masks hid
  obtain ⟨hg, hc⟩ := go_ungrouped hid s i
  have hz (j : Nat) (hj : id.woMask.testBit j = true) := State.fullReg_wo (i := i) hc hj
  have hwb : id.writableBy src = id.writable := by rw [RegId.writableBy, if_neg fun hp => hne hp.1]
  have named {w : View} (h : (w.touched v).getLsbD 31 = true) : (s.access src b off w id i v).mask ≠ 0 := by
    intro hm
    have := congrArg (fun x : Word => x.getLsbD 31) hm
    simp only [State.access, hwb, BitVec.getLsbD_and, h, hw31] at this
    exact absurd this (by decide)
  have acts {w : View} (h : (w.touched v).getLsbD 31 = true)
      (hn : ∀ j, id.woMask.testBit j = true → (w.apply (s.fullReg id i) v).getLsbD j = v.getLsbD j) :
      (s.access src b off w id i v).run s = (s.access src b off .normal id i v).act s := by
    rw [Access.run_act _ s hrwl hg (.inl (named h))]
    exact Access.act_go_congr (x := s.access src b off .normal id i v) (y := s.access src b off w id i v) hid rfl rfl hn s
  refine ⟨?_, fun hgo => ⟨(s.access src b off .normal id i v).act s, ?_, ?_, ?_⟩, ?_⟩
  · rw [State.readReg, if_pos (.inl haoc)]
    apply BitVec.eq_of_getLsbD_eq
    intro j hj
    simp only [BitVec.getLsbD_and, Word.ofNat, BitVec.getLsbD_ofNat, hj, decide_true, Bool.true_and]
    cases hb : id.woMask.testBit j
    · simp
    · simp [hz j hb]
  · have := completes_regWrite v hb ho h4 hr nofun hs
    rw [acts (w := .normal) (by decide : (Word.ofNat 0xFFFFFFFF).getLsbD 31 = true) fun _ _ => rfl] at this
    exact this
  · have := completes_setView v hb ho h4 hr nofun hs
    rw [acts (w := .set) hgo fun j hj => by simp only [View.apply, BitVec.getLsbD_or, hz j hj, Bool.false_or]] at this
    exact this
  · have := completes_tglView v hb ho h4 hr nofun hs
    rw [acts (w := .tgl) hgo fun j hj => by simp only [View.apply, BitVec.getLsbD_xor, hz j hj, Bool.false_xor]] at this
    exact this
  · have := completes_clrView v hb ho h4 hr nofun hs
    have hrun : (s.access src b off .clr id i v).run s = s := by
      by_cases hm : (s.access src b off .clr id i v).mask = 0
      · exact Access.run_unnamed hm hwd s
      · rw [Access.run_act _ s hrwl hg (.inl hm)]
        refine Access.act_no_go hid ?_ s
        change (s.fullReg id i &&& ~~~v).getLsbD 31 = false
        rw [BitVec.getLsbD_and, hz 31 hwo31, Bool.false_and]
    rw [hrun] at this
    exact this

/-! ### Illegal sequences -/

theorem bits_eq (n hi lo : Nat) : bits n hi lo = n / 2 ^ lo % 2 ^ (hi + 1 - lo) := by rw [bits, Nat.shiftRight_eq_div_pow]

/-- A field of the word of a number of 32 bits. -/
theorem fld_ofNat {n : Nat} (h : n < 2 ^ 32) (hi lo : Nat) : fld (Word.ofNat n) hi lo = n / 2 ^ lo % 2 ^ (hi + 1 - lo) := by
  rw [fld, Word.ofNat, BitVec.toNat_ofNat, Nat.mod_eq_of_lt h, bits_eq]

/-- The fields of BLK_ILLEGAL_LAST. -/
theorem illegalLast_fields {cause src off : Nat} (hc : cause < 16) (hs : src < 4) (ho : off < 65536) :
    let w := Word.ofNat (at_ cause 28 + at_ src 26 + off % 65536)
    fld w 31 28 = cause ∧ fld w 27 26 = src ∧ fld w 15 0 = off := by
  have hn : at_ cause 28 + at_ src 26 + off % 65536 = cause * 2 ^ 28 + src * 2 ^ 26 + off := by
    simp only [at_, Nat.shiftLeft_eq, Nat.mod_eq_of_lt ho]
  have hlt : cause * 2 ^ 28 + src * 2 ^ 26 + off < 2 ^ 32 := by omega
  rw [hn]
  refine ⟨?_, ?_, ?_⟩ <;> rw [fld_ofNat hlt] <;> omega

/-- A count of 32 bits that saturates. -/
theorem word_saturating (n : Word) :
    Word.ofNat (if n.toNat = 0xFFFFFFFF then n.toNat else n.toNat + 1) = if n = 0xFFFFFFFF then n else n + 1 := by
  have hiff : n.toNat = 0xFFFFFFFF ↔ n = 0xFFFFFFFF := by
    rw [← BitVec.toNat_inj]
    rfl
  by_cases h : n = 0xFFFFFFFF
  · rw [if_pos h, if_pos (hiff.mpr h), Word.ofNat, BitVec.ofNat_toNat, BitVec.setWidth_eq]
  · rw [if_neg h, if_neg (mt hiff.mp h)]
    apply BitVec.eq_of_toNat_eq
    simp [Word.ofNat, BitVec.toNat_add]

/-- R358, R359: an illegal sequence. -/
theorem illegalSequences : Rules.IllegalSequences := by
  intro s b off src cause hc _ ho hcause
  have hsrc : srcNo src < 4 := by cases src <;> decide
  obtain ⟨h1, h2, h3⟩ := illegalLast_fields hcause hsrc ho
  have c1 := State.regsCanonical_setReg hc .blkIllegal b.no
  have c2 (w u : Word) := State.regsCanonical_setReg (c1 w) .blkIllegalLast b.no u
  have last : (s.illegal b off src cause).reg .blkIllegalLast b.no
      = Word.ofNat (at_ cause 28 + at_ (srcNo src) 26 + off % 65536) := by
    rw [State.illegal, State.orReg, State.reg_setReg_ne (c2 _ _) _ (.inl (by decide)), State.reg_setReg_self (c1 _)]
  refine ⟨?_, by rw [last, h1], by rw [last, h2], by rw [last, h3], ?_, fun id i hb hg => ?_,
    by simp only [State.illegal, State.orReg, State.setReg]⟩
  · rw [State.illegal, State.orReg, State.reg_setReg_ne (c2 _ _) _ (.inl (by decide)),
      State.reg_setReg_ne (c1 _) _ (.inl (by decide)), State.reg_setReg_self hc]
    exact word_saturating _
  · rw [State.illegal, State.orReg, State.reg_setReg_self (c2 _ _), State.reg_setReg_ne (c1 _) _ (.inl (by decide)),
      State.reg_setReg_ne hc _ (.inl (by decide))]
  · have ne1 : id ≠ .blkIllegal ∨ i ≠ b.no := by
      by_cases h : id = .blkIllegal
      · exact .inr (hb (.inl h))
      · exact .inl h
    have ne2 : id ≠ .blkIllegalLast ∨ i ≠ b.no := by
      by_cases h : id = .blkIllegalLast
      · exact .inr (hb (.inr h))
      · exact .inl h
    have ne3 : id ≠ .glbIllegalSum ∨ i ≠ 0 := by
      by_cases h : id = .glbIllegalSum
      · exact .inr (hg h)
      · exact .inl h
    rw [State.illegal, State.orReg, State.reg_setReg_ne (c2 _ _) _ ne3, State.reg_setReg_ne (c1 _) _ ne2,
      State.reg_setReg_ne hc _ ne1]

/-- Settles O9, by its three rules. -/
theorem viewsOfInterruptEnables : Obligations.ViewsOfInterruptEnables :=
  ⟨viewsOfInterrupts, goThroughViews, illegalSequences⟩

end Sys2Proof.Machine

/-! PROOFS. Writes to staged settings (R19), to the always-on registers (R8) and to locked fields (R356). -/

namespace Sys2Proof.Machine

/-! ### Settings of the commit groups -/

/-- A setting of a commit group is stored as written: its writable bits are the stored ones, none of them write-only. -/
theorem grouped_masks {id : RegId} {i g : Nat} (h : groupOf id i = some g) :
    id.stored = id.writable ∧ id.woMask = 0 ∧ Word.ofNat id.stored ≠ 0 ∧ id ≠ .timeTbStat ∧ id ≠ .safWdog := by
  unfold groupOf at h
  split at h
  case h_74 => cases h
  all_goals decide

/-- No setting but PLAT_PORT_TXSTART shows anything else than what it stores. -/
theorem State.statusBits_grouped (s : State) {id : RegId} {i g : Nat} (h : groupOf id i = some g) (ha : id.aocMask = 0)
    (hid : id ≠ .platPortTxstart) : s.statusBits id i = 0 := by
  unfold groupOf at h
  split at h
  case h_37 | h_46 => exact absurd ha (by decide)
  case h_49 => exact absurd rfl hid
  case h_74 => cases h
  all_goals rfl

/-- No setting is a counter. -/
theorem State.counterReg_grouped (s : State) {id : RegId} {i g : Nat} (h : groupOf id i = some g) : s.counterReg id i = none := by
  unfold groupOf at h
  split at h
  case h_74 => cases h
  all_goals rfl

/-- An access to a setting outside the always-on domain stores its value and does nothing else. -/
theorem Access.act_grouped {x : Access} {g : Nat} (h : groupOf x.id x.i = some g) (ha : x.id.aocMask = 0) (s : State) :
    x.act s = x.store s := by
  obtain ⟨src, b, off, w, id, i, m, v⟩ := x
  dsimp only at h ha
  unfold groupOf at h
  split at h
  case h_37 | h_46 => exact absurd ha (by decide)
  case h_74 => cases h
  all_goals rfl

theorem State.plain_grouped (s : State) (src : Src) {id : RegId} {i g : Nat} (h : groupOf id i = some g) (ha : id.aocMask = 0) :
    s.Plain src id i (Word.ofNat id.stored) := by
  obtain ⟨hst, hwo, -, hne, -⟩ := grouped_masks h
  refine ⟨by rw [RegId.writableBy, if_neg fun hp => hne hp.1, hst], rfl,
    State.shown_of_disjoint (s.counterReg_grouped h) hwo ?_⟩
  by_cases hid : id = .platPortTxstart
  · subst hid
    have low : ∀ j < 32, RegId.platPortTxstart.stored.testBit j = true → j < 16 := by decide
    refine word_disjoint fun j hj hb => ?_
    change (at_ (s.port i).cur 16).testBit j = false
    rw [at_, Nat.testBit_shiftLeft, decide_eq_false (by have := low j hj hb; omega), Bool.false_and]
  · rw [s.statusBits_grouped h ha hid]
    exact BitVec.zero_and

/-- An access that names a writable bit of a setting that no pending commit covers acts; where admission binds the group before or
after it, PROVED clears. -/
theorem Access.run_uncovered {x : Access} {s : State} {g : Nat} (hg : groupOf x.id x.i = some g) (hm : x.mask ≠ 0)
    (hc : s.coveredGroup g = false) :
    x.run s = if s.admBound g ∨ (x.act s).admBound g then (x.act s).admTouched else x.act s := by
  have hu : x.unlocked s s = (x, s) := by
    simp [Access.unlocked, rwlMask_of_groupOf hg, Word.ofNat]
  simp only [Access.run, hu, hg]
  rw [if_neg fun h => hm h.1, Access.grouped, if_neg (by simp [hc])]

/-- R4, R19: writes to staged settings. -/
theorem stagedWrites : Rules.StagedWrites := by
  intro s src b off id i win g v hb ho h4 hr hn hg ha hc hs
  have hp := s.plain_grouped src hg ha
  obtain ⟨-, -, hm, -, hwd⟩ := grouped_masks hg
  let f (w : Word) : State :=
    if s.admBound g ∨ (s.setReg id i w).admBound g then (s.setReg id i w).admTouched else s.setReg id i w
  have hrun (w : View) (hw : w.touched v &&& Word.ofNat id.stored ≠ 0) :
      (s.access src b off w id i v).run s = f (w.onBits (s.reg id i) v (Word.ofNat id.stored)) := by
    rw [Access.run_uncovered (g := g) hg (by rwa [State.access, hp.writable]) hc, Access.act_grouped (g := g) hg ha,
      hp.store v hw]
  obtain ⟨normal, named, unnamed⟩ := completes_views (f := f) hb ho h4 hr hn hs hm hrun fun w hw => hp.run_unnamed v hw hwd
  refine ⟨⟨normal, rfl⟩, fun hv => ?_, unnamed⟩
  obtain ⟨set, clr, tgl⟩ := named hv
  exact ⟨⟨set, rfl⟩, ⟨clr, rfl⟩, tgl, rfl⟩

/-! ### The always-on registers -/

/-- The row that an offset lies in is one of the block's, and gives the member. -/
theorem rowAt_mem {off j : Nat} {rows : List MapRow} {r : MapRow} (h : rowAt off rows = some (r, j)) :
    r ∈ rows ∧ r.index off = some j := by
  induction rows with
  | nil => cases h
  | cons q qs ih =>
    unfold rowAt at h
    split at h
    · next hq =>
      cases h
      exact ⟨List.mem_cons_self, hq⟩
    · exact ⟨List.mem_cons_of_mem _ (ih h).1, (ih h).2⟩

/-- A member's index lies in its row. -/
theorem MapRow.index_lt {r : MapRow} {off j : Nat} (h : r.index off = some j) : j < r.add + r.n1 * r.n2 := by
  simp only [MapRow.index, Option.ite_none_left_eq_some, Option.ite_none_right_eq_some, Option.some.injEq] at h
  obtain ⟨-, ⟨-, hi, hj⟩, rfl⟩ := h
  have := Nat.mul_le_mul_right r.n2 (Nat.succ_le_of_lt hi)
  rw [Nat.succ_mul] at this
  omega

/-- No two blocks share the name AO_PLAT_CFG, and its row counts 8 Platforms from 0. -/
theorem row_aoPlatCfg {b : Blk} {r : MapRow} (h : r ∈ b.rows) (hid : r.id = .aoPlatCfg) :
    b = .ao ∧ r = ⟨.aoPlatCfg, 0x100, 8, 0x10, 1, 0x0, 0, false⟩ := by
  have ao : ∀ r ∈ rowsAo, r.id = .aoPlatCfg → r = ⟨.aoPlatCfg, 0x100, 8, 0x10, 1, 0x0, 0, false⟩ := by decide
  have plat : ∀ r ∈ rowsPlat, r.id ≠ .aoPlatCfg := by decide
  have chip : ∀ b ∈ [Blk.glb, .saf, .boot, .time, .host, .tbl, .cls, .psf, .red, .tm, .sch, .capt, .perf],
      ∀ r ∈ b.rows, r.id ≠ .aoPlatCfg := by decide
  cases b
  case ao => exact ⟨rfl, ao r h hid⟩
  case plat p => exact absurd hid (plat r h)
  all_goals exact absurd hid (chip _ (by decide) r h)

/-- AO_PLAT_CFG has a member for each of the 8 Platforms. -/
theorem State.regAt_aoPlatCfg {s : State} {b : Blk} {off i : Nat} {win : Bool} (h : s.regAt b off = some (.aoPlatCfg, i, win)) :
    i < 8 := by
  unfold State.regAt at h
  split at h
  · next id j hc =>
    unfold commonAt at hc
    split at hc
    · cases hc; cases h
    · split at hc
      · cases hc; cases h
      · split at hc <;> cases hc
        cases h
  · cases hrow : rowAt off b.rows with
    | none => simp [hrow] at h
    | some rj =>
      obtain ⟨r, j⟩ := rj
      simp only [hrow, Option.map_some, Option.some.injEq, Prod.mk.injEq] at h
      obtain ⟨hid, hi, -⟩ := h
      obtain ⟨hmem, hidx⟩ := rowAt_mem hrow
      obtain ⟨rfl, rfl⟩ := row_aoPlatCfg hmem hid
      have hj : j < 0 + 8 * 1 := MapRow.index_lt hidx
      have hu : 0 * 8 + j = i := hi
      omega

/-- Admission binds neither the groups of AO_PLAT_CFG nor that of AO_WAKE_CFG (R242). -/
theorem State.admBound_aoPlatCfg (s : State) {p : Nat} (hp : p < 8) : s.admBound (platGroup p 3) = false := by
  have h1 : ¬ 0x800 ≤ platGroup p 3 := by unfold platGroup; omega
  have h2 : 0x400 ≤ platGroup p 3 := by unfold platGroup; omega
  have h3 : (platGroup p 3 - 0x400) % 128 ≠ 1 := by unfold platGroup; omega
  simp [State.admBound, h1, h2, h3]

theorem State.admBound_aoWakeCfg (s : State) : s.admBound 0x0A0 = false := by simp [State.admBound]

/-- The registers of the always-on domain that software writes, with the groups that some belong to. -/
theorem alwaysOn_group {id : RegId} {i g : Nat} (hid : id ∈ [RegId.aoPwrCtrl, .aoWakeCfg, .aoPlatCfg, .timeTbCfg, .aoIntStat])
    (hg : groupOf id i = some g) : (id = .aoWakeCfg ∧ g = 0x0A0) ∨ (id = .aoPlatCfg ∧ g = platGroup i 3) := by
  simp only [List.mem_cons, List.not_mem_nil, or_false] at hid
  rcases hid with rfl | rfl | rfl | rfl | rfl <;> cases hg
  · exact .inl ⟨rfl, rfl⟩
  · exact .inr ⟨rfl, rfl⟩

theorem alwaysOn_masks {id : RegId} (hid : id ∈ [RegId.aoPwrCtrl, .aoWakeCfg, .aoPlatCfg, .timeTbCfg, .aoIntStat]) :
    id.writable = id.aocMask ∧ id.stored = id.aocMask ∧ id.woMask = 0 ∧ id.rwlMask = 0 ∧ Word.ofNat id.aocMask ≠ 0
      ∧ id ≠ .timeTbStat ∧ id ≠ .safWdog ∧ id.aocMask ≠ 0 := by
  have all : ∀ id ∈ [RegId.aoPwrCtrl, .aoWakeCfg, .aoPlatCfg, .timeTbCfg, .aoIntStat],
      id.writable = id.aocMask ∧ id.stored = id.aocMask ∧ id.woMask = 0 ∧ id.rwlMask = 0 ∧ Word.ofNat id.aocMask ≠ 0
        ∧ id ≠ .timeTbStat ∧ id ≠ .safWdog ∧ id.aocMask ≠ 0 := by decide
  exact all id hid

/-- Of these AO_INT_STAT alone shows a bit that follows the state, and software does not write that one. -/
theorem State.plain_alwaysOn (s : State) (src : Src) {id : RegId} (i : Nat)
    (hid : id ∈ [RegId.aoPwrCtrl, .aoWakeCfg, .aoPlatCfg, .timeTbCfg, .aoIntStat]) :
    s.Plain src id i (Word.ofNat id.aocMask) := by
  obtain ⟨hw, hst, hwo, -, -, hne, -, -⟩ := alwaysOn_masks hid
  refine ⟨by rw [RegId.writableBy, if_neg fun hp => hne hp.1, hw], by rw [hst], ?_⟩
  simp only [List.mem_cons, List.not_mem_nil, or_false] at hid
  rcases hid with rfl | rfl | rfl | rfl | rfl
  case inr.inr.inr.inr =>
    exact State.shown_of_disjoint rfl hwo
      ((by decide : ∀ x, Word.ofNat (at_ (b2n x) 2) &&& Word.ofNat 0x3 = 0) (s.anyOf .aoCntHalf))
  all_goals exact State.shown_of_disjoint rfl hwo BitVec.zero_and

/-- An access to one acts on the original and notes who wrote it. -/
theorem Access.act_alwaysOn {x : Access} (hid : x.id ∈ [RegId.aoPwrCtrl, .aoWakeCfg, .aoPlatCfg, .timeTbCfg, .aoIntStat])
    (s : State) : x.act s = x.alwaysOn s := by
  obtain ⟨src, b, off, w, id, i, m, v⟩ := x
  simp only [List.mem_cons, List.not_mem_nil, or_false] at hid
  rcases hid with rfl | rfl | rfl | rfl | rfl <;> rfl

/-- What an agent has written since the refresh, it reads back. -/
theorem State.readReg_wrote {s : State} {src : Src} {id : RegId} {i : Nat}
    (h : bitOf (Store.get 0 s.ao.wrote (regKey id i)) (srcNo src) = true) : s.readReg src id i = s.fullReg id i := by
  rw [State.readReg, if_pos (.inr h)]

/-- R8, R357: writes to the always-on registers. -/
theorem alwaysOnWrites : Rules.AlwaysOnWrites := by
  intro s src b off id i v hb ho h4 hr hid hc hs
  have hp := s.plain_alwaysOn src i hid
  obtain ⟨-, -, -, hrwl, hm, -, hwd, -⟩ := alwaysOn_masks hid
  let f (w : Word) : State :=
    { s.setReg id i w with ao := { s.ao with
        wrote := Store.set 0 s.ao.wrote (regKey id i) (Store.get 0 s.ao.wrote (regKey id i) ||| 2 ^ srcNo src) } }
  have hact (w : View) (hw : w.touched v &&& Word.ofNat id.aocMask ≠ 0) :
      (s.access src b off w id i v).act s = f (w.onBits (s.reg id i) v (Word.ofNat id.aocMask)) := by
    rw [Access.act_alwaysOn hid, Access.alwaysOn, hp.store v hw]
    rfl
  have hrun (w : View) (hw : w.touched v &&& Word.ofNat id.aocMask ≠ 0) :
      (s.access src b off w id i v).run s = f (w.onBits (s.reg id i) v (Word.ofNat id.aocMask)) := by
    have hmask : (s.access src b off w id i v).mask ≠ 0 := by rwa [State.access, hp.writable]
    cases hg : groupOf id i with
    | none => rw [Access.run_act _ s hrwl hg (.inl hmask), hact w hw]
    | some g =>
      have unbound (t : State) : t.admBound g = false := by
        rcases alwaysOn_group hid hg with ⟨-, rfl⟩ | ⟨rfl, rfl⟩
        · exact t.admBound_aoWakeCfg
        · exact t.admBound_aoPlatCfg (State.regAt_aoPlatCfg hr)
      rw [Access.run_uncovered (g := g) hg hmask (hc g hg), if_neg (by simp [unbound]), hact w hw]
  obtain ⟨normal, named, -⟩ := completes_views (f := f) hb ho h4 hr nofun hs hm hrun fun w hw => hp.run_unnamed v hw hwd
  refine ⟨normal, named, fun hwf w => State.readReg_wrote ?_⟩
  dsimp only
  rw [Store.get_set_self _ _ _ _ hwf, bitOf, Nat.testBit_or, Nat.testBit_two_pow_self, Bool.or_true]

/-- Settles O10, by its two rules. -/
theorem stagedWriteLeavesCommitted : Obligations.StagedWriteLeavesCommitted := ⟨stagedWrites, alwaysOnWrites⟩

end Sys2Proof.Machine

/-! PROOFS. Locks (R8, R356): the LOCK bit of a block, and the fields that it locks. -/

namespace Sys2Proof.Machine

/-! ### The LOCK bit -/

theorem State.regAt_blkLock (s : State) (b : Blk) : s.regAt b 0xF00 = some (.blkLock, b.no, false) := rfl

theorem State.plain_blkLock (s : State) (src : Src) (b : Blk) : s.Plain src .blkLock b.no 0x80000000 :=
  ⟨by cases src <;> decide, by decide, State.shown_of_disjoint (m := 0x80000000) rfl rfl BitVec.zero_and⟩

theorem Blk.ofNo_no {b : Blk} (hb : b.ok = true) : Blk.ofNo b.no = some b := by
  cases b
  case plat p =>
    have hp : p < 8 := by simpa [Blk.ok] using hb
    rcases eq_of_lt_eight hp with rfl | rfl | rfl | rfl | rfl | rfl | rfl | rfl <;> rfl
  all_goals rfl

theorem isBlock_no {b : Blk} (hb : b.ok = true) : isBlock b.no = true := by
  cases b
  case plat p =>
    have hp : p < 8 := by simpa [Blk.ok] using hb
    rcases eq_of_lt_eight hp with rfl | rfl | rfl | rfl | rfl | rfl | rfl | rfl <;> rfl
  all_goals rfl

/-- A word with its top bit replaced by 1. -/
theorem word_set_top (w : Word) : (w &&& ~~~(0x80000000 : Word)) ||| (0x80000000 &&& 0x80000000) = w ||| 0x80000000 := by
  ext j hj
  simp only [BitVec.getElem_or, BitVec.getElem_and, BitVec.getElem_not, Bool.and_self]
  cases w[j] <;> cases (0x80000000 : Word)[j] <;> rfl

section
variable {s : State} {src : Src} {b : Blk}

/-- A write to BLK_LOCK that names the bit does what R356 says. -/
theorem State.run_lock {w : View} {v : Word} (hm : w.touched v &&& 0x80000000 ≠ 0) :
    (s.access src b 0xF00 w .blkLock b.no v).run s = (s.access src b 0xF00 w .blkLock b.no v).lock s s :=
  Access.run_act _ s rfl rfl (.inl (by rwa [State.access, (s.plain_blkLock src b).writable]))

/-- A write that would clear a set LOCK bit is counted and changes nothing. -/
theorem State.run_lock_held {w : View} {v : Word} (hm : w.touched v &&& 0x80000000 ≠ 0)
    (hl : bitW (s.reg .blkLock b.no) 31 = true) (hv : bitW (w.apply (s.fullReg .blkLock b.no) v) 31 = false) :
    (s.access src b 0xF00 w .blkLock b.no v).run s = s.illegal b 0xF00 src 1 := by
  rw [State.run_lock hm, Access.lock, if_pos ⟨hl, by simp [State.access, hv]⟩]
  rfl

/-- R356: the LOCK bit. -/
theorem lockBit : Rules.LockBit := by
  intro s src b hb hs
  have hr := s.regAt_blkLock b
  have full : bitW (s.fullReg .blkLock b.no) 31 = bitW (s.reg .blkLock b.no) 31 := by
    simpa [bitW] using congrArg (fun w : Word => w.getLsbD 31) (s.plain_blkLock src b).shown
  refine ⟨?_, fun hl => ⟨?_, ?_, ?_⟩⟩
  · have hput : (s.put src b .normal 0xF00 (2 ^ 31)).bare = (s.setReg .blkLock b.no (s.reg .blkLock b.no ||| 0x80000000)).bare := by
      rw [State.put_run (2 ^ 31) hb (by decide) (by decide) hr nofun hs, State.run_lock (by decide), Access.lock,
        if_neg (fun h => h.2 (by decide : bitW (Word.ofNat (2 ^ 31)) 31 = true)),
        (s.plain_blkLock src b).store _ (by decide)]
      exact congrArg (fun w => (s.setReg .blkLock b.no w).bare) (word_set_top _)
    refine completes_of_bare (completes_access (isBlock_no hb) rfl) ?_
    rw [Blk.ofNo_no hb]
    exact hput
  · have := completes_regWrite 0 hb (by decide) (by decide) hr nofun hs
    rw [State.run_lock_held (w := .normal) (by decide) hl (by decide : bitW 0 31 = false)] at this
    exact this
  · have := completes_clrView 0x80000000 hb (by decide) (by decide) hr nofun hs
    rw [State.run_lock_held (w := .clr) (by decide) hl (by simp [View.apply, bitW])] at this
    exact this
  · have := completes_tglView 0x80000000 hb (by decide) (by decide) hr nofun hs
    rw [State.run_lock_held (w := .tgl) (by decide) hl (by simpa [View.apply, bitW] using full.trans hl)] at this
    exact this

end

/-! ### Locked fields -/

theorem lockable_masks {id : RegId} (h : id ∈ lockables) :
    id.writable = id.rwlMask ∧ id.stored = id.rwlMask ∧ id.woMask = 0 ∧ Word.ofNat id.rwlMask ≠ 0 ∧ id ≠ .timeTbStat
      ∧ id ≠ .safWdog := by
  have all : ∀ id ∈ lockables, id.writable = id.rwlMask ∧ id.stored = id.rwlMask ∧ id.woMask = 0 ∧ Word.ofNat id.rwlMask ≠ 0
      ∧ id ≠ .timeTbStat ∧ id ≠ .safWdog := by decide
  exact all id h

/-- The lockable registers belong to no commit group, hold no counter and show nothing else than what they store. -/
theorem State.lockable_shown (s : State) {id : RegId} (i : Nat) (h : id ∈ lockables) :
    groupOf id i = none ∧ s.counterReg id i = none ∧ s.statusBits id i = 0 := by
  simp only [lockables, List.mem_cons, List.not_mem_nil, or_false] at h
  rcases h with rfl | rfl | rfl | rfl <;> exact ⟨rfl, rfl, rfl⟩

theorem Access.act_lockable {x : Access} (h : x.id ∈ lockables) (s : State) : x.act s = x.store s := by
  obtain ⟨src, b, off, w, id, i, m, v⟩ := x
  simp only [lockables, List.mem_cons, List.not_mem_nil, or_false] at h
  rcases h with rfl | rfl | rfl | rfl <;> rfl

theorem State.plain_lockable (s : State) (src : Src) {id : RegId} (i : Nat) (h : id ∈ lockables) :
    s.Plain src id i (Word.ofNat id.rwlMask) := by
  obtain ⟨hw, hst, hwo, -, hne, -⟩ := lockable_masks h
  obtain ⟨-, hc, hz⟩ := s.lockable_shown i h
  exact ⟨by rw [RegId.writableBy, if_neg fun hp => hne hp.1, hw], by rw [hst],
    State.shown_of_disjoint hc hwo (by rw [hz]; exact BitVec.zero_and)⟩

/-- The locked bits that an access names are all that it names: it is counted and changes nothing. -/
theorem Access.run_locked {x : Access} {s : State} (hl : bitW (s.reg .blkLock x.blk.no) 31 = true)
    (hm : x.mask &&& Word.ofNat x.id.rwlMask = x.mask) (hne : x.mask ≠ 0) (hid : x.id ≠ .safWdog) : x.run s = x.bad s 1 := by
  have hu : x.unlocked s s = ({ x with mask := 0 }, x.bad s 1) := by
    rw [Access.unlocked, hm, if_pos ⟨hl, hne⟩, BitVec.and_not_self]
  simp only [Access.run, hu]
  exact if_pos ⟨trivial, hid⟩

/-- Without the lock the locked bits are as any others. -/
theorem Access.run_open {x : Access} {s : State} (hl : bitW (s.reg .blkLock x.blk.no) 31 = false) (hg : groupOf x.id x.i = none)
    (hm : x.mask ≠ 0) : x.run s = x.act s := by
  have hu : x.unlocked s s = (x, s) := by rw [Access.unlocked, if_neg (by simp [hl])]
  simp only [Access.run, hu, hg]
  rw [if_neg fun h => hm h.1]

/-- R8, R356: locked fields. -/
theorem lockedFields : Rules.LockedFields := by
  intro s src b off id i v hb ho h4 hr hid hs
  have hp := s.plain_lockable src i hid
  obtain ⟨-, -, -, hm, -, hwd⟩ := lockable_masks hid
  have hskip (w : View) (hw : w.touched v &&& Word.ofNat id.rwlMask = 0) := hp.run_unnamed (b := b) (off := off) v hw hwd
  have mask (w : View) : (s.access src b off w id i v).mask = w.touched v &&& Word.ofNat id.rwlMask := by
    rw [State.access, hp.writable]
  have held (hl : bitW (s.reg .blkLock b.no) 31 = true) (w : View) (hw : w.touched v &&& Word.ofNat id.rwlMask ≠ 0) :
      (s.access src b off w id i v).run s = s.illegal b off src 1 :=
    Access.run_locked hl (by rw [mask, State.access, BitVec.and_assoc, BitVec.and_self]) (by rwa [mask]) hwd
  have free (hl : bitW (s.reg .blkLock b.no) 31 = false) (w : View) (hw : w.touched v &&& Word.ofNat id.rwlMask ≠ 0) :
      (s.access src b off w id i v).run s = s.setReg id i (w.onBits (s.reg id i) v (Word.ofNat id.rwlMask)) := by
    rw [Access.run_open (x := s.access src b off w id i v) hl (s.lockable_shown i hid).1 (by rw [mask]; exact hw),
      Access.act_lockable hid, hp.store v hw]
  refine ⟨fun hl => ?_, fun hl => ?_, ?_⟩
  · obtain ⟨normal, named, -⟩ := completes_views (f := fun _ => s.illegal b off src 1) hb ho h4 hr nofun hs hm (held hl) hskip
    exact ⟨normal, named⟩
  · obtain ⟨normal, named, -⟩ := completes_views (f := s.setReg id i) hb ho h4 hr nofun hs hm (free hl) hskip
    exact ⟨normal, named⟩
  · cases hl : bitW (s.reg .blkLock b.no) 31
    · exact (completes_views (f := s.setReg id i) hb ho h4 hr nofun hs hm (free hl) hskip).2.2
    · exact (completes_views (f := fun _ => s.illegal b off src 1) hb ho h4 hr nofun hs hm (held hl) hskip).2.2

/-- Settles O12, by its two rules. -/
theorem lockSetsAndHolds : Obligations.LockSetsAndHolds := ⟨lockBit, lockedFields⟩

end Sys2Proof.Machine

/-! PROOFS. Commits: their acceptance and refusal (R21 to R25). -/

namespace Sys2Proof.Machine

/-! ### The lowest failing group -/

theorem mem_insertNat {n x : Nat} {l : List Nat} : x ∈ insertNat n l ↔ x = n ∨ x ∈ l := by
  induction l with
  | nil => simp [insertNat]
  | cons m l ih =>
    unfold insertNat
    split
    · simp
    · simp only [List.mem_cons, ih]
      exact or_left_comm

theorem pairwise_insertNat {n : Nat} {l : List Nat} (h : l.Pairwise (· ≤ ·)) : (insertNat n l).Pairwise (· ≤ ·) := by
  induction l with
  | nil => simp [insertNat]
  | cons m l ih =>
    obtain ⟨hm, hl⟩ := List.pairwise_cons.mp h
    unfold insertNat
    split
    · next hle =>
      refine List.pairwise_cons.mpr ⟨fun x hx => ?_, h⟩
      rcases List.mem_cons.mp hx with rfl | hx
      · exact hle
      · exact Nat.le_trans hle (hm x hx)
    · next hlt =>
      refine List.pairwise_cons.mpr ⟨fun x hx => ?_, ih hl⟩
      rcases mem_insertNat.mp hx with rfl | hx
      · omega
      · exact hm x hx

theorem pairwise_sortNat (l : List Nat) : (sortNat l).Pairwise (· ≤ ·) := by
  induction l with
  | nil => exact .nil
  | cons n l ih => exact pairwise_insertNat ih

/-- The first of a rising list that a test picks is the lowest that it picks. -/
theorem find?_lowest {p : Nat → Bool} {l : List Nat} {g : Nat} (hl : l.Pairwise (· ≤ ·)) (h : l.find? p = some g) :
    g ∈ l ∧ p g = true ∧ ∀ x ∈ l, x < g → p x = false := by
  obtain ⟨hp, as, bs, rfl, has⟩ := List.find?_eq_some_iff_append.mp h
  refine ⟨by simp, hp, fun x hx hlt => ?_⟩
  rcases List.mem_append.mp hx with hx | hx
  · simpa using has x hx
  · have := (List.pairwise_append.mp hl).2.1
    rcases List.mem_cons.mp hx with rfl | hx
    · omega
    · have := (List.pairwise_cons.mp this).1 x hx
      omega

/-- R22: the group reported is the lowest covered one that fails. -/
theorem lowestFailingGroup : Rules.LowestFailingGroup := by
  intro s g
  refine ⟨fun h => ?_, fun h x hx => ?_⟩
  · obtain ⟨hmem, hfails, hlower⟩ := find?_lowest (pairwise_sortNat _) h
    exact ⟨hmem, by simpa only [Bool.not_eq_true'] using hfails, fun x hx hlt => by
      simpa only [Bool.not_eq_false', Bool.not_eq_false] using hlower x hx hlt⟩
  · have := List.find?_eq_none.mp h x hx
    simpa using this

/-! ### Requests -/

/-- A group that a rule names has a number below 4096. -/
theorem groupNamed_lt {g : Nat} (h : groupNamed g = true) : g < 4096 := by
  simp only [groupNamed, Bool.or_eq_true, Bool.and_eq_true, decide_eq_true_eq] at h
  omega

/-- A request to commit one group, or all. -/
theorem completes_commit {c : Instr} {s : State} {src : Src} {n tb g : Nat} {all : Bool}
    (he : exec c s = Machine.access c s (s.put src .glb .normal 0x100 n)) (hw : c.wf = true) (hs : s.takes src)
    (hn : n = 2 ^ 31 + b2n all * 2 ^ 30 + tb * 2 ^ 12 + g) (htb : tb < 8) (hg : g < 4096) :
    completes c s (s.requestCommit src all tb g) := by
  have hmask : Word.ofNat 0xFFFFFFFF &&& Word.ofNat (RegId.glbCommit.writableBy src) ≠ 0 := by cases src <;> decide
  have hall : b2n all < 2 := by cases all <;> decide
  have hlt : n < 2 ^ 32 := by omega
  have hput := completes_put (id := .glbCommit) (i := 0) he hw hs rfl (by decide) (by decide) rfl rfl rfl (.inl hmask)
  have h30 : bitW (Word.ofNat n) 30 = all := by
    have hbit : n.testBit 30 = all := by
      rw [Nat.testBit_eq_decide_div_mod_eq]
      cases all with
      | false => exact decide_eq_false (by simp [b2n] at hn; omega)
      | true => exact decide_eq_true (by simp [b2n] at hn; omega)
    simp only [bitW, Word.ofNat, BitVec.getLsbD_ofNat, hbit]
    exact Bool.true_and all
  have hact : (s.access src .glb 0x100 .normal .glbCommit 0 (Word.ofNat n)).act s = s.requestCommit src all tb g := by
    have hcommit : (s.access src .glb 0x100 .normal .glbCommit 0 (Word.ofNat n)).commit s
        = s.requestCommit src (bitW (Word.ofNat n) 30) (fld (Word.ofNat n) 14 12) (fld (Word.ofNat n) 11 0) :=
      if_pos (bitW_go (by omega) hlt)
    have h14 : fld (Word.ofNat n) 14 12 = tb := by rw [fld_ofNat hlt]; omega
    have h11 : fld (Word.ofNat n) 11 0 = g := by rw [fld_ofNat hlt]; omega
    rw [h30, h14, h11] at hcommit
    exact hcommit
  rwa [hact] at hput

section
variable {s : State} {src : Src} {tb g : Nat} (hb : s.commit.busy = false)
include hb

theorem State.requestCommit_unnamed (hn : groupNamed g = false) : s.requestCommit src false tb g = s.refuseCommit src g := by
  simp [State.requestCommit, hb, hn]

theorem State.requestCommit_one_failing {h : Nat} (hn : groupNamed g = true) (hf : s.failing [g] false = some h) :
    s.requestCommit src false tb g = s.refuseCommit src h := by
  simp [State.requestCommit, hb, hn, hf]

theorem State.requestCommit_one_passing (hn : groupNamed g = true) (hf : s.failing [g] false = none) :
    s.requestCommit src false tb g = s.acceptCommit [g] false tb := by
  simp [State.requestCommit, hb, hn, hf]

theorem State.requestCommit_all_failing {h : Nat} (hf : s.failing s.stagedGroups true = some h) :
    s.requestCommit src true tb g = s.refuseCommit src h := by
  simp [State.requestCommit, hb, hf]

theorem State.requestCommit_all_passing (hf : s.failing s.stagedGroups true = none) :
    s.requestCommit src true tb g = s.acceptCommit s.stagedGroups true tb := by
  simp [State.requestCommit, hb, hf]

end

/-- The acceptance of a commit, in each mode. -/
theorem State.acceptCommit_eq (s : State) (gs : List Nat) (all : Bool) (tb : Nat) (c : CommitSt)
    (hc : c = { busy := true, groups := gs, all := all, proved := all && s.rb .schAdmStat 0 30, tb := tb }) :
    s.acceptCommit gs all tb =
      if s.timedMode = false then { s with commit := c }
      else if (s.targetOf tb (s.reg .glbCommitAt 0).toNat).2 = true then
        { s with commit := { c with target := some (s.targetOf tb (s.reg .glbCommitAt 0).toNat).1 } }
      else { s.orReg .glbCommitStat 0 (2 ^ 28) with commit := c } := by
  subst hc
  unfold State.acceptCommit
  cases s.timedMode <;> simp

/-- R21 to R25: requests for a commit with none pending. -/
theorem commitRequest : Rules.CommitRequest := by
  intro s src tb hs hb htb
  have one (g : Nat) (hg : g < 4096) : completes (.commitGroup src tb g) s (s.requestCommit src false tb g) := by
    refine completes_commit (all := false) rfl (by simp [Instr.wf, htb, hg]) hs ?_ htb hg
    simp [at_, Nat.shiftLeft_eq, b2n]
  have all : completes (.commitAll src tb) s (s.requestCommit src true tb 0) := by
    refine completes_commit (all := true) rfl (by simp [Instr.wf, htb]) hs ?_ htb (by omega)
    simp [at_, Nat.shiftLeft_eq, b2n]
  refine ⟨fun g hg hn => ?_, fun g hn => ⟨fun hf => ?_, fun hf => ?_⟩, fun g hf => ?_, fun hf => ?_⟩
  · have := one g hg
    rw [State.requestCommit_unnamed hb hn] at this
    exact this
  · have := one g (groupNamed_lt hn)
    rw [State.requestCommit_one_failing hb hn hf] at this
    exact this
  · have := one g (groupNamed_lt hn)
    rw [State.requestCommit_one_passing hb hn hf,
      State.acceptCommit_eq s [g] false tb { busy := true, groups := [g], tb := tb } rfl] at this
    exact this
  · rw [State.requestCommit_all_failing hb hf] at all
    exact all
  · rw [State.requestCommit_all_passing hb hf, State.acceptCommit_eq s _ true tb
      { busy := true, groups := s.stagedGroups, all := true, proved := s.rb .schAdmStat 0 30, tb := tb } rfl] at all
    exact all

/-- Settles O13, by its two rules. -/
theorem commitRequests : Obligations.CommitRequests := ⟨commitRequest, lowestFailingGroup⟩

end Sys2Proof.Machine

/-! PROOFS. Counters that software reads and writes: the performance counters of a Platform (R363 to R368), the snapshots of a port's
counters (R63) and the duration counters (R61, R62). -/

namespace Sys2Proof.Machine

/-! ### The words of a performance counter -/

theorem perfRegs_lo (p n : Nat) : (perfRegs p n).1 = .platPerfCycLo ∨ (perfRegs p n).1 = .platPerfCntLo := by
  unfold perfRegs
  split
  · exact .inl rfl
  · exact .inr rfl

theorem perfRegs_hi (p n : Nat) : (perfRegs p n).2.1 = .platPerfCycHi ∨ (perfRegs p n).2.1 = .platPerfCntHi := by
  unfold perfRegs
  split
  · exact .inl rfl
  · exact .inr rfl

theorem perfRegs_index {p n : Nat} (h8 : n ≠ 8) : perfRegs p n = (.platPerfCntLo, .platPerfCntHi, p * 8 + n) := if_neg h8

/-- The lower word of a counter lies under no lock, in no commit group, and stores all its bits. -/
theorem perfLo_masks (p n : Nat) (src : Src) (s : State) (i : Nat) :
    let lo := (perfRegs p n).1
    lo.rwlMask = 0 ∧ groupOf lo i = none ∧ Word.ofNat (lo.writableBy src) = BitVec.allOnes 32
      ∧ Word.ofNat lo.stored = BitVec.allOnes 32 ∧ s.fullReg lo i = s.reg lo i := by
  have full {id : RegId} (hc : s.counterReg id i = none) (hb : s.statusBits id i = 0) (hw : id.woMask = 0) :
      s.fullReg id i = s.reg id i := by
    rw [State.fullReg, hc, hb, hw]
    have h0 : Word.ofNat 0 = 0#32 := rfl
    simp only [h0, BitVec.or_zero, BitVec.not_zero, BitVec.and_allOnes]
  rcases perfRegs_lo p n with h | h <;>
    (rw [h]; exact ⟨rfl, rfl, by cases src <;> decide, by decide, full rfl rfl rfl⟩)

/-- The upper word likewise, of 16 bits. -/
theorem perfHi_masks (p n : Nat) (src : Src) (i : Nat) :
    let hi := (perfRegs p n).2.1
    hi.rwlMask = 0 ∧ groupOf hi i = none ∧ Word.ofNat (hi.writableBy src) = 0xFFFF ∧ Word.ofNat hi.stored = 0xFFFF := by
  rcases perfRegs_hi p n with h | h <;> (rw [h]; exact ⟨rfl, rfl, by cases src <;> decide, by decide⟩)

/-- A write of a counter's word first takes back what the clock counted. -/
theorem Access.act_perf {p n : Nat} (hn : n ≤ 8) {x : Access} (h : x.id = (perfRegs p n).1 ∨ x.id = (perfRegs p n).2.1)
    (hi : x.i = (perfRegs p n).2.2) (s : State) : x.act s = x.perfWord s p n := by
  obtain ⟨src, b, off, w, id, i, m, v⟩ := x
  dsimp only at h hi
  by_cases h8 : n = 8
  · subst h8 hi
    rcases h with rfl | rfl <;> rfl
  · rw [perfRegs_index h8] at h hi
    subst hi
    have hd : (p * 8 + n) / 8 = p := by omega
    have hm : (p * 8 + n) % 8 = n := by omega
    rcases h with rfl | rfl <;> simp only [Access.act, hd, hm]

theorem perfCounter_at (s : State) (p : Nat) {n : Nat} (hn : n ≤ 8) (hi : Bool) :
    s.regAt (.plat p) (perfOffset n hi)
      = some (if hi then (perfRegs p n).2.1 else (perfRegs p n).1, (perfRegs p n).2.2, false) := by
  by_cases h8 : n = 8
  · subst h8
    have row (id : RegId) : some (id, p * 1 + 0, false) = some (id, p, false) := by simp
    cases hi
    · exact row .platPerfCycLo
    · exact row .platPerfCycHi
  · have hn : n < 8 := by omega
    rcases eq_of_lt_eight hn with rfl | rfl | rfl | rfl | rfl | rfl | rfl | rfl <;> cases hi <;> rfl

theorem perfOffset_ok {n : Nat} (hn : n ≤ 8) (hi : Bool) : perfOffset n hi < 0x10000 ∧ perfOffset n hi % 4 = 0 :=
  (by decide : ∀ n < 9, ∀ hi, perfOffset n hi < 0x10000 ∧ perfOffset n hi % 4 = 0) n (Nat.lt_succ_of_le hn) hi

/-! ### Writes -/

/-- The events of the clock in which a counter is written are taken back, whatever the access stores. -/
theorem Access.perfWord_eq (x : Access) (s : State) (p n : Nat) {m : Word} (hm : x.mask &&& Word.ofNat x.id.stored = m) (hne : m ≠ 0) :
    let u := s.perfUndo p n
    x.perfWord s p n = u.setReg x.id x.i
      ((u.reg x.id x.i &&& ~~~m) ||| ((if x.view = View.tgl then u.fullReg x.id x.i ^^^ x.mask else x.new) &&& m)) := by
  subst hm
  simp only [Access.perfWord, Access.store, Access.value, if_neg hne]

section
variable {s : State} {src : Src} {p n : Nat} (v : Word) (hp : p < 8) (hn : n ≤ 8) (hs : s.takes src)
include hp hn hs

/-- A write of one of a counter's words. -/
theorem completes_perfWrite {hi : Bool} {id : RegId} {m : Word} (hid : id = if hi then (perfRegs p n).2.1 else (perfRegs p n).1)
    (hl : id.rwlMask = 0) (hg : groupOf id (perfRegs p n).2.2 = none) (hw : Word.ofNat (id.writableBy src) = m)
    (hst : Word.ofNat id.stored = m) (hm : View.normal.touched v &&& m ≠ 0) :
    let u := s.perfUndo p n
    completes (.perfCounterWrite src p n hi v) s
      (u.setReg id (perfRegs p n).2.2 ((u.reg id (perfRegs p n).2.2 &&& ~~~m) ||| (v &&& m))) := by
  have hv : Word.ofNat v.toNat = v := by rw [Word.ofNat, BitVec.ofNat_toNat, BitVec.setWidth_eq]
  have he : exec (.perfCounterWrite src p n hi v) s = Machine.access (.perfCounterWrite src p n hi v) s
      (s.put src (.plat p) .normal (perfOffset n hi) v.toNat) := by rw [State.put, hv]; rfl
  have hr : s.regAt (.plat p) (perfOffset n hi) = some (id, (perfRegs p n).2.2, false) := by rw [perfCounter_at s p hn hi, hid]
  obtain ⟨ho, h4⟩ := perfOffset_ok hn hi
  have hput := completes_put he (by simp [Instr.wf, hp, hn]) hs (by simp [Blk.ok, hp]) ho h4 hr hl hg
    (.inl (by rw [hw, hv]; exact hm))
  have hmask : View.normal.touched v &&& m &&& m = m := by rw [View.touched_normal, BitVec.and_self]
  rw [Access.act_perf hn (by cases hi <;> simp_all [State.access]) rfl,
    Access.perfWord_eq _ s p n (m := m) (by simpa only [State.access, hw, hst, hv] using hmask)
      (by rwa [View.touched_normal] at hm)] at hput
  simp only [hv] at hput
  exact hput

omit hp in
/-- A write of the lower word through the TGL view. -/
theorem completes_perfToggle {b : Blk} {off : Nat} (hb : b.ok = true) (ho : off < 0x10000) (h4 : off % 4 = 0) (hv : v ≠ 0)
    (hr : s.regAt b off = some ((perfRegs p n).1, (perfRegs p n).2.2, false)) :
    let u := s.perfUndo p n
    completes (.tglViewWrite src (regAddr b .normal off) v) s
      (u.setReg (perfRegs p n).1 (perfRegs p n).2.2 (u.reg (perfRegs p n).1 (perfRegs p n).2.2 ^^^ v)) := by
  obtain ⟨hl, hg, hw, hst, -⟩ := perfLo_masks p n src s (perfRegs p n).2.2
  have htgl := completes_tglView v hb ho h4 hr nofun ⟨hs.1, hs.2.1.elim .inl fun h => .inr (.inl h), hs.2.2⟩
  have hmask : (s.access src b off .tgl (perfRegs p n).1 (perfRegs p n).2.2 v).mask = v := by
    rw [State.access, hw, View.touched_tgl, BitVec.and_allOnes]
  rw [Access.run_act _ s hl hg (.inl (by rwa [hmask])), Access.act_perf hn (.inl rfl) rfl,
    Access.perfWord_eq _ s p n (m := v) (by rw [hmask]; simp only [State.access, hst, BitVec.and_allOnes]) hv, hmask] at htgl
  obtain ⟨-, -, -, -, hfull⟩ := perfLo_masks p n src (s.perfUndo p n) (perfRegs p n).2.2
  have hword (w : Word) : (w &&& ~~~v) ||| ((w ^^^ v) &&& v) = w ^^^ v := by
    ext j hj
    simp only [BitVec.getElem_or, BitVec.getElem_and, BitVec.getElem_not, BitVec.getElem_xor]
    cases w[j] <;> cases v[j] <;> rfl
  simp only [State.access, if_pos, hfull, hword] at htgl
  exact htgl

end

/-! ### Wraps -/

/-- A wrapped counter: its words, its overflow bit, and FREEZE where FRZ_OVF asks for it. -/
theorem State.perfBump_wraps {s : State} {p n : Nat} (hd : s.perfDrops p n = false)
    (hv : s.perf48 (perfRegs p n).1 (perfRegs p n).2.1 (perfRegs p n).2.2 = 2 ^ 48 - 1) :
    let t := (((s.notePerf p n 1 true).setReg (perfRegs p n).1 (perfRegs p n).2.2 0).setReg (perfRegs p n).2.1 (perfRegs p n).2.2
      0).orReg .platPerfOvf p (2 ^ n)
    s.perfBump p n 1 =
      if t.rb .platPerfCtrl p 29 = true ∧ t.rb .platPerfCtrl p 30 = false then
        (t.orReg .platPerfCtrl p (2 ^ 30)).modPlat p fun x => { x with frozeAt := some s.fs }
      else t := by
  have hw : decide (2 ^ 48 ≤ (2 ^ 48 - 1 + 1 : Nat)) = true := by decide
  have hz : (2 ^ 48 - 1 + 1) % 2 ^ 48 = 0 := by decide
  have hlt : ¬ (2 ^ 48 - 1 + 1 < 2 ^ 48) := by decide
  have hset (u : State) (lo hi : RegId) (i : Nat) : u.setPerf48 lo hi i 0 = (u.setReg lo i 0).setReg hi i 0 := rfl
  simp only [State.perfBump, hd, hv, hw, hz, hset, if_neg hlt, Bool.false_eq_true, if_false]
  generalize ht : (((s.notePerf p n 1 true).setReg (perfRegs p n).1 (perfRegs p n).2.2 0).setReg (perfRegs p n).2.1
    (perfRegs p n).2.2 0).orReg .platPerfOvf p (2 ^ n) = t
  have hfs : t.fs = s.fs := by rw [← ht]; simp [State.notePerf, State.setPerfClock]
  rw [hfs]
  cases t.rb .platPerfCtrl p 29 <;> cases t.rb .platPerfCtrl p 30 <;> simp

/-- R364: counter writes and wraps. -/
theorem counterWritesAndWraps : Rules.CounterWritesAndWraps := by
  intro s src p n v hp hn lo hi i
  refine ⟨fun hs => ⟨?_, ?_, fun b off hb ho h4 hv hr => completes_perfToggle v hn hs hb ho h4 hv hr⟩, fun hrun => ?_⟩
  · obtain ⟨hl, hg, hw, hst, -⟩ := perfLo_masks p n src s i
    have := completes_perfWrite v hp hn hs (hi := false) (id := lo) (m := BitVec.allOnes 32) rfl hl hg hw hst
      (by rw [View.touched_normal]; decide)
    simp only [BitVec.not_allOnes, BitVec.and_zero, BitVec.zero_or, BitVec.and_allOnes] at this
    exact this
  · obtain ⟨hl, hg, hw, hst⟩ := perfHi_masks p n src i
    have hnot : ~~~(0xFFFF : Word) = 0xFFFF0000 := by decide
    have := completes_perfWrite v hp hn hs (hi := true) (id := hi) (m := 0xFFFF) rfl hl hg hw hst
      (by rw [View.touched_normal]; decide)
    rw [hnot] at this
    exact this
  · have hwf : (Instr.perfCounterWrap p n).wf = true := by simp [Instr.wf, hp, hn]
    have he : exec (.perfCounterWrap p n) s
      = event (.perfCounterWrap p n) (s.perfOn p && s.countsClocks p n && decide (s.perf48 lo hi i = 2 ^ 48 - 1)) s
          (s.perfBump p n 1) := rfl
    have wraps (h1 : s.perfOn p = true) (h2 : s.countsClocks p n = true) (h3 : s.perf48 lo hi i = 2 ^ 48 - 1) :
        completes (.perfCounterWrap p n) s (s.perfBump p n 1) :=
      completes_event he hwf hrun (by rw [h1, h2, decide_eq_true h3]; rfl)
    refine ⟨fun h1 h2 h3 hd => ?_, fun h1 h2 h3 hd => ?_, fun h1 => completes_not_event he hwf (by rw [h1]; rfl)⟩
    · have := wraps h1 h2 h3
      rw [State.perfBump, if_pos hd] at this
      exact this
    · have := wraps h1 h2 h3
      rw [State.perfBump_wraps hd h3] at this
      exact this

/-! ### The clock of a write -/

theorem State.plat_setPlat {s : State} {p : Nat} {x : Plat} (hp : p < s.plats.length) : (s.setPlat p x).plat p = x := by
  simp only [State.plat, State.setPlat, List.getElem?_set_self hp, Option.getD_some]

/-- A counter's record of the clock in which it is written: it counted nothing, and counts nothing more. -/
def PerfClock.drop (c : PerfClock) (k : Nat) : PerfClock :=
  { c with ev := c.ev.set k 0, off := c.off ||| 2 ^ k, wrapped := c.wrapped - (c.wrapped &&& 2 ^ k), ovf := c.ovf - (c.ovf &&& 2 ^ k) }

/-- The overflow bit that the clock set, taken back. -/
def State.unsetOvf (s : State) (p k : Nat) (c : PerfClock) : State := if bitOf c.ovf k then s.setRf .platPerfOvf p k k 0 else s

/-- FREEZE, where only this counter's wrap in the clock set it, taken back. -/
def State.unfreeze (s : State) (p k : Nat) (c : PerfClock) : State :=
  if c.wrapped = 2 ^ k ∧ (s.plat p).frozeAt = some s.fs then
    (s.setRf .platPerfCtrl p 30 30 0).modPlat p fun x => { x with frozeAt := none }
  else s

/-- The events of counter `k` noted in the present clock. -/
def State.noted (s : State) (p k : Nat) : Nat := ((s.perfClock p).ev[k]?).getD 0

/-- The state with the counter marked as written. -/
def State.dropped (s : State) (p k : Nat) : State := s.setPerfClock p ((s.perfClock p).drop k)

/-- What a counter of value `v` held before `m` events. -/
def before48 (v m : Nat) : Nat := (v + 2 ^ 48 - m % 2 ^ 48) % 2 ^ 48

theorem State.perfUndo_none {s : State} {p k : Nat} (h : s.noted p k = 0) : s.perfUndo p k = s.dropped p k := if_pos h

theorem State.perfUndo_some {s : State} {p k : Nat} (h : s.noted p k ≠ 0) :
    s.perfUndo p k
      = (((s.dropped p k).setPerf48 (perfRegs p k).1 (perfRegs p k).2.1 (perfRegs p k).2.2
          (before48 ((s.dropped p k).perf48 (perfRegs p k).1 (perfRegs p k).2.1 (perfRegs p k).2.2) (s.noted p k))).unsetOvf p k
            (s.perfClock p)).unfreeze p k (s.perfClock p) := if_neg h

section
variable {s : State} {p k : Nat} {c : PerfClock}

theorem State.setPerf48_plat (lo hi : RegId) (i v : Nat) : (s.setPerf48 lo hi i v).plat p = s.plat p := rfl

theorem State.unsetOvf_fs : (s.unsetOvf p k c).fs = s.fs := by
  unfold State.unsetOvf
  split <;> rfl

theorem State.unsetOvf_plat : (s.unsetOvf p k c).plat p = s.plat p := by
  unfold State.unsetOvf
  split <;> rfl

theorem State.unfreeze_fs : (s.unfreeze p k c).fs = s.fs := by
  unfold State.unfreeze
  split
  · rw [State.modPlat_fs, State.setRf, State.setReg_fs]
  · rfl

theorem State.unfreeze_perfClk : ((s.unfreeze p k c).plat p).perfClk = (s.plat p).perfClk := by
  unfold State.unfreeze
  split
  · by_cases hp : p < s.plats.length
    · rw [State.modPlat, State.plat_setPlat (by exact hp)]
      rfl
    · rw [State.modPlat, State.setPlat, List.set_eq_of_length_le (by exact Nat.le_of_not_lt hp)]
      rfl
  · rfl

variable (hc : regsCanonical s.regs)
include hc

theorem State.regsCanonical_unsetOvf : regsCanonical (s.unsetOvf p k c).regs := by
  unfold State.unsetOvf
  split
  · exact State.regsCanonical_setReg hc _ _ _
  · exact hc

theorem State.unsetOvf_reg {id : RegId} (h : id ≠ .platPerfOvf) (i : Nat) : (s.unsetOvf p k c).reg id i = s.reg id i := by
  unfold State.unsetOvf
  split
  · exact State.reg_setReg_ne hc _ (.inl h)
  · rfl

theorem State.unfreeze_reg {id : RegId} (h : id ≠ .platPerfCtrl) (i : Nat) : (s.unfreeze p k c).reg id i = s.reg id i := by
  unfold State.unfreeze
  split
  · rw [State.reg, State.modPlat_regs]
    exact State.reg_setReg_ne hc _ (.inl h)
  · rfl

end

/-- A 48-bit value written to a counter is what its words hold. -/
theorem State.perf48_setPerf48 {s : State} (hc : regsCanonical s.regs) {lo hi : RegId} (hne : lo ≠ hi) (i : Nat) {v : Nat} (hv : v < 2 ^ 48) :
    (s.setPerf48 lo hi i v).perf48 lo hi i = v := by
  have hc' := State.regsCanonical_setReg hc lo i (Word.ofNat v)
  have hlo : (s.setPerf48 lo hi i v).reg lo i = Word.ofNat v := by
    rw [State.setPerf48, State.reg_setReg_ne hc' _ (.inl hne), State.reg_setReg_self hc]
  have hhi : (s.setPerf48 lo hi i v).reg hi i = Word.ofNat (v / 2 ^ 32 % 2 ^ 16) := by
    rw [State.setPerf48, State.reg_setReg_self hc']
  have hlow : (Word.ofNat v).toNat = v % 2 ^ 32 := BitVec.toNat_ofNat ..
  rw [State.perf48, State.rf, hlo, hhi, hlow, fld_ofNat (by omega)]
  omega

/-- The counter's record after the write, and the instant. -/
theorem State.perfUndo_clock {s : State} {p : Nat} (hp : p < s.plats.length) (k : Nat) :
    (s.perfUndo p k).fs = s.fs ∧ ((s.perfUndo p k).plat p).perfClk = (s.perfClock p).drop k := by
  have hclk : ((s.dropped p k).plat p).perfClk = (s.perfClock p).drop k := by
    rw [State.dropped, State.setPerfClock, State.modPlat, State.plat_setPlat hp]
  by_cases h : s.noted p k = 0
  · rw [State.perfUndo_none h]
    exact ⟨rfl, hclk⟩
  · rw [State.perfUndo_some h, State.unfreeze_fs, State.unfreeze_perfClk, State.unsetOvf_fs, State.unsetOvf_plat,
      State.setPerf48_fs, State.setPerf48_plat]
    exact ⟨rfl, hclk⟩

/-- The value that the write finds. -/
theorem State.perfUndo_perf48 {s : State} (hc : regsCanonical s.regs) {p k : Nat} (h : s.noted p k ≠ 0) :
    (s.perfUndo p k).perf48 (perfRegs p k).1 (perfRegs p k).2.1 (perfRegs p k).2.2
      = before48 (s.perf48 (perfRegs p k).1 (perfRegs p k).2.1 (perfRegs p k).2.2) (s.noted p k) := by
  have hlo : (perfRegs p k).1 ≠ .platPerfOvf ∧ (perfRegs p k).1 ≠ .platPerfCtrl := by
    rcases perfRegs_lo p k with h | h <;> simp [h]
  have hhi : (perfRegs p k).2.1 ≠ .platPerfOvf ∧ (perfRegs p k).2.1 ≠ .platPerfCtrl := by
    rcases perfRegs_hi p k with h | h <;> simp [h]
  have hne : (perfRegs p k).1 ≠ (perfRegs p k).2.1 := by
    rcases perfRegs_lo p k with h | h <;> rcases perfRegs_hi p k with h' | h' <;> simp [h, h']
  have hv : before48 ((s.dropped p k).perf48 (perfRegs p k).1 (perfRegs p k).2.1 (perfRegs p k).2.2) (s.noted p k) < 2 ^ 48 :=
    Nat.mod_lt _ (by decide)
  have hset := State.perf48_setPerf48 (s := s.dropped p k) hc hne (perfRegs p k).2.2 hv
  have hc' (v : Nat) : regsCanonical ((s.dropped p k).setPerf48 (perfRegs p k).1 (perfRegs p k).2.1 (perfRegs p k).2.2 v).regs :=
    State.regsCanonical_setReg (State.regsCanonical_setReg hc _ _ _) _ _ _
  have hcu (v : Nat) := State.regsCanonical_unsetOvf (p := p) (k := k) (c := s.perfClock p) (hc' v)
  rw [State.perfUndo_some h, State.perf48, State.rf, State.unfreeze_reg (hcu _) hlo.2, State.unfreeze_reg (hcu _) hhi.2,
    State.unsetOvf_reg (hc' _) hlo.1, State.unsetOvf_reg (hc' _) hhi.1, ← State.rf, ← State.perf48, hset]
  rfl

/-- R364, R368: the clock of a write. -/
theorem writtenCounterDropsItsClock : Rules.WrittenCounterDropsItsClock := by
  intro s p n hp hn hc lo hi i m
  refine ⟨fun k => ?_, fun hm => ?_, fun hm hlt => ?_⟩
  · obtain ⟨hfs, hclk⟩ := State.perfUndo_clock hp n
    have hat : ((s.perfClock p).drop n).at_ = s.fs := by
      change (s.perfClock p).at_ = s.fs
      by_cases h : (s.plat p).perfClk.at_ = s.fs <;> simp [State.perfClock, h]
    have hd : (s.perfUndo p n).perfDrops p n = true := by
      rw [State.perfDrops, State.perfClock, hclk, hfs, if_pos hat]
      simp [PerfClock.drop, bitOf]
    rw [State.perfBump, if_pos hd]
  · rw [State.perfUndo_none hm]
    rfl
  · have hmod : s.noted p n % 2 ^ 48 = m := Nat.mod_eq_of_lt hlt
    have := State.perfUndo_perf48 hc (k := n) (Nat.ne_of_gt hm)
    rw [before48, hmod] at this
    exact this

/-- Settles O15, by its two rules. -/
theorem performanceCounters : Obligations.PerformanceCounters := ⟨counterWritesAndWraps, writtenCounterDropsItsClock⟩

/-! ### Snapshots and durations -/

theorem State.snap_foldl (s : State) (ks : List Nat) (a e : Nat) :
    ks.foldl (fun (s : State) k => { s with snap := Store.set 0 s.snap (a + k) (s.counter .plat e k) }) s
      = { s with snap := ks.foldl (fun m k => Store.set 0 m (a + k) (s.counter .plat e k)) s.snap } := by
  induction ks generalizing s with
  | nil => rfl
  | cons k ks ih => exact ih _

theorem platCntSnap_at (s : State) (p : Nat) : s.regAt (.plat p) 0x40 = some (.platCntSnap, p, false) := by
  have h : some (RegId.platCntSnap, p * 1 + 0, false) = some (.platCntSnap, p, false) := by simp
  exact h

theorem testBit_fld (w : Word) (hi lo j : Nat) : (fld w hi lo).testBit j = (decide (j < hi + 1 - lo) && w.getLsbD (lo + j)) := by
  simp only [fld, bits, Nat.testBit_mod_two_pow, Nat.testBit_shiftRight, BitVec.testBit_toNat]

theorem getLsbD_setFld (w : Word) (hi lo v : Nat) {j : Nat} (hj : j < 32) :
    (setFld w hi lo v).getLsbD j = if lo ≤ j ∧ j ≤ hi then v.testBit (j - lo) else w.getLsbD j := by
  simp only [setFld, BitVec.getLsbD_or, BitVec.getLsbD_and, BitVec.getLsbD_not, Word.ofNat, BitVec.getLsbD_ofNat,
    Nat.testBit_shiftLeft, Nat.testBit_two_pow_sub_one, Nat.testBit_mod_two_pow, hj, decide_true, Bool.true_and]
  by_cases h1 : lo ≤ j
  · by_cases h2 : j ≤ hi
    · have h3 : j - lo < hi + 1 - lo := by omega
      simp [h1, h2, h3]
    · have h3 : ¬ j - lo < hi + 1 - lo := by omega
      simp [h2, h3]
  · simp [h1]

theorem fld_setFld (w : Word) {hi lo v : Nat} (hh : hi < 32) (hv : v < 2 ^ (hi + 1 - lo)) : fld (setFld w hi lo v) hi lo = v := by
  apply Nat.eq_of_testBit_eq
  intro j
  rw [testBit_fld]
  by_cases hj : j < hi + 1 - lo
  · rw [getLsbD_setFld w hi lo v (by omega), if_pos ⟨by omega, by omega⟩]
    simp [hj]
  · rw [Nat.testBit_lt_two_pow (Nat.lt_of_lt_of_le hv (Nat.pow_le_pow_right (by omega) (by omega)))]
    simp [hj]

/-- The six bits of PORT are those that PLAT_CNT_SNAP stores. -/
theorem cntSnap_word {n : Nat} (hn : n < 64) (w : Word) :
    (w &&& ~~~(0x3F : Word)) ||| (Word.ofNat (2 ^ 31 + n) &&& 0x3F) = setFld w 5 0 n := by
  have hlow : Word.ofNat (2 ^ 31 + n) &&& 0x3F = Word.ofNat n :=
    (by decide : ∀ n < 64, Word.ofNat (2 ^ 31 + n) &&& 0x3F = Word.ofNat n) n hn
  rw [hlow, setFld, Nat.mod_eq_of_lt (by exact hn)]
  rfl

theorem Access.cntSnap_busy {x : Access} {s : State} (hgo : bitW x.new 31 = true) (hb : (s.plat x.i).snapBusy = true) :
    x.cntSnap s = x.bad s 2 := by
  rw [Access.cntSnap, if_neg (by simpa using hgo), if_pos hb]

theorem Access.cntSnap_free {x : Access} {s : State} (hgo : bitW x.new 31 = true) (hb : (s.plat x.i).snapBusy = false) :
    x.cntSnap s =
      { (x.store s).modPlat x.i fun p => { p with snapPort := fld (x.value s) 5 0, snapBusy := true } with
        snap := (List.range 64).foldl (fun m k => Store.set 0 m (x.i * 64 + k) ((x.store s).counter .plat
          (x.i * 64 + fld (x.value s) 5 0) k)) (x.store s).snap } := by
  rw [Access.cntSnap, if_neg (by simpa using hgo), if_neg (by simpa using hb)]
  simp only [State.snap_foldl]
  rfl

/-- R63: a snapshot. -/
theorem counterSnapshot : Rules.CounterSnapshot := by
  intro s src p n hp hn
  let x := s.access src (.plat p) 0x40 .normal .platCntSnap p (Word.ofNat (2 ^ 31 + n))
  have hx : x = s.access src (.plat p) 0x40 .normal .platCntSnap p (Word.ofNat (2 ^ 31 + n)) := rfl
  have hw : Word.ofNat (RegId.platCntSnap.writableBy src) = 0x8000003F := by cases src <;> decide
  have hmask : x.mask = 0x8000003F := (View.touched_normal (Word.ofNat (2 ^ 31 + n)) _).trans hw
  have hact (hs : s.takes src) : completes (.cntSnap src p n) s (x.cntSnap s) := 
    completes_put rfl (by simp [Instr.wf, hp, hn]) hs (by simp [Blk.ok, hp])
      (by decide) (by decide) (platCntSnap_at s p) rfl rfl (.inl (by rw [hw, View.touched_normal]; decide))
  have hgo : bitW x.new 31 = true := bitW_go (by omega) (by omega)
  refine ⟨fun hs hb => ?_, fun hs hb => ?_, fun hr hb => completes_event rfl (by simp [Instr.wf, hp]) hr hb⟩
  · have := hact hs
    rw [Access.cntSnap_busy hgo hb] at this
    exact this
  · have := hact hs
    have hm : x.mask &&& Word.ofNat x.id.stored = 0x3F := by
      rw [hmask]
      exact (by decide : (0x8000003F : Word) &&& Word.ofNat RegId.platCntSnap.stored = 0x3F)
    have hv : x.value s = setFld (s.reg .platCntSnap p) 5 0 n := by
      rw [Access.value, hm]
      exact cntSnap_word hn _
    have hstore : x.store s = s.setRf .platCntSnap p 5 0 n := by
      rw [Access.store, hm, if_neg (by decide), hv]
      rfl
    rw [Access.cntSnap_free hgo hb, hstore, hv, fld_setFld _ (by decide) hn] at this
    exact this

/-- A counter of microseconds that stands one below half its range, or below all of it, passes that at the next. -/
theorem State.count_half {s : State} {b : CntBank} {u i : Nat} {id : RegId} {j k : Nat} (hb : halfBit b u i = some (id, j, k))
    (h : s.counter b u i % 2 ^ 39 = 2 ^ 39 - 1) :
    s.count b u i = { s with cnt := Store.set 0 s.cnt (cntKey b u i) ((s.counter b u i + 1) % 2 ^ 40) }.orReg id j (2 ^ k) := by
  have hbit : ¬ bitOf (s.counter b u i) 39 = bitOf ((s.counter b u i + 1) % 2 ^ 40) 39 := by
    simp only [bitOf, Nat.testBit_eq_decide_div_mod_eq]
    intro heq
    have := decide_eq_decide.mp heq
    omega
  rw [State.count, State.countN, State.setCounter, if_neg hbit, hb]

/-- R61, R62: duration counters at half their range. -/
theorem durationCounterHalf : Rules.DurationCounterHalf := by
  intro s e k hr
  refine ⟨fun he hk h => ?_, fun he hk h => ?_⟩
  · rw [← State.count_half (b := .plat) rfl h]
    exact completes_event rfl (by rcases hk with rfl | rfl | rfl <;> simp [Instr.wf, isLine, he]) hr (decide_eq_true h)
  · rw [← State.count_half (b := .ao) rfl h]
    exact completes_event rfl (by simp [Instr.wf, he, hk]) hr (decide_eq_true h)

/-- Settles O17, by its two rules. -/
theorem portCounters : Obligations.PortCounters := ⟨counterSnapshot, durationCounterHalf⟩

end Sys2Proof.Machine

/-! PROOFS. The SPI target (R349), the masks of the interrupt vectors (R352) and the copies of the always-on registers (R8, R357). -/

namespace Sys2Proof.Machine

/-! ### Messages -/

/-- A change that takes no message back. -/
def State.Says (s t : State) : Prop := s.out <:+ t.out

theorem State.Says.mem {s t : State} (h : s.Says t) {o : Out} (ho : o ∈ s.out) : o ∈ t.out := List.IsSuffix.mem ho h

theorem State.says_refl (s : State) : s.Says s := List.suffix_refl _

theorem State.Says.trans {s t u : State} (h : s.Says t) (h' : t.Says u) : s.Says u := List.IsSuffix.trans h h'

theorem State.says_emit (s : State) (o : Out) : s.Says (s.emit o) := List.suffix_cons o s.out

theorem State.says_foldl {β : Type} {f : State → β → State} (h : ∀ (s : State) b, s.Says (f s b)) (l : List β) (s : State) :
    s.Says (l.foldl f s) := by
  induction l generalizing s with
  | nil => exact s.says_refl
  | cons b l ih => exact (h s b).trans (ih _)

theorem State.says_sendVector (s : State) (v : Nat) : s.Says (s.sendVector v) := by
  unfold State.sendVector
  split
  · exact s.says_emit _
  · exact s.says_refl

theorem State.says_dropPending (s : State) (v : Nat) : s.Says (s.dropPending v) := by
  unfold State.dropPending
  split <;> exact s.says_refl

theorem State.says_vectors (s s0 : State) : s.Says (s.vectors s0) := by
  refine State.says_foldl (fun t v => ?_) _ s
  split
  · split
    · exact t.says_refl
    · exact t.says_sendVector v
  · exact t.says_dropPending v

theorem State.says_pinChange (s : State) (n : String) (a b : Bool) : s.Says (s.pinChange n a b) := by
  unfold State.pinChange
  split
  · exact s.says_refl
  · exact s.says_emit _

theorem State.out_watchPlat (s : State) (p : Nat) : (s.watchPlat p).out = s.out := by
  unfold State.watchPlat
  extract_lets x since
  split <;> rfl

theorem State.out_watchQuiet (s : State) : s.watchQuiet.out = s.out := by
  have plats (l : List Nat) : ∀ t : State, (l.foldl (fun t p => t.watchPlat p) t).out = t.out := by
    induction l with
    | nil => exact fun t => rfl
    | cons p l ih => exact fun t => (ih _).trans (t.out_watchPlat p)
  have chip (t : State) : t.watchChip.out = t.out := by
    unfold State.watchChip
    extract_lets since
    split <;> rfl
  exact (chip _).trans (plats _ s)

/-- The end of a command adds messages and takes none back. -/
theorem State.says_fin (s0 s : State) : s.Says (s0.fin s) := by
  have kept : s.Says (if s0.phase = 2 then s else s0.keepOlder s).watchQuiet := by
    unfold State.Says
    rw [State.out_watchQuiet]
    split <;> exact List.suffix_refl _
  exact (((kept.trans (State.says_vectors _ s0)).trans (State.says_pinChange ..)).trans (State.says_pinChange ..)).trans
    (State.says_pinChange ..)

/-! ### The SPI target -/

theorem spi_header (a0 a1 a2 a3 : Byte) (k : Byte) (data : List Byte) :
    be (k :: a0 :: a1 :: a2 :: a3 :: data) 0 1 = k.toNat ∧ be (k :: a0 :: a1 :: a2 :: a3 :: data) 1 4 = beNat [a0, a1, a2, a3] := by
  simp [be, sliceZ, beNat]

/-- R349: SPI transactions. -/
theorem spiTransactions : Rules.SpiTransactions := by
  intro s a0 a1 a2 a3 bytes v n a
  have write (bs : List Byte) : completes (.spiWrite bs) s (s.spiWrite bs).2 := completes_writes rfl rfl
  have read (bs : List Byte) : completes (.spiRead bs n) s (s.spiRead bs n) := completes_access rfl rfl
  have words (data : List Byte) : s.spiWrite (2 :: a0 :: a1 :: a2 :: a3 :: data) = s.spiWords a data := by
    obtain ⟨h1, h2⟩ := spi_header a0 a1 a2 a3 2 data
    rw [State.spiWrite, h1, h2, if_pos ⟨rfl, by simp⟩]
    rfl
  have hread (hd : s.returnsDriven = false) : s.spiRead [3, a0, a1, a2, a3] n = s := by
    rw [State.spiRead, if_neg (by simp [hd])]
  refine ⟨?_, ?_, fun h => ?_, fun h => ?_, fun hp h0 hh => ?_, fun hp h => ?_⟩
  · have hw : wordsOf (leBytes 4 v.toNat) ((leBytes 4 v.toNat).length / 4) = [v] := by
      have := requestWords_word 0 v rfl
      unfold requestWords at this
      split at this
      · exact Option.some.inj this
      · exact absurd this nofun
    have := write ([2, a0, a1, a2, a3] ++ leBytes 4 v.toNat)
    rw [List.cons_append, List.cons_append, List.cons_append, List.cons_append, List.cons_append, List.nil_append, words,
      State.spiWords, hw] at this
    exact completes_of_bare this (State.bare_again ..)
  · have := write [2, a0, a1, a2, a3]
    rw [words] at this
    exact this
  · have := write bytes
    rw [State.spiWrite, if_neg fun hc => h hc.1] at this
    exact this
  · have := read bytes
    rw [State.spiRead, if_neg fun hc => h hc.1] at this
    exact this
  · have := read [3, a0, a1, a2, a3]
    rw [hread (by simp [State.returnsDriven, hp, h0, hh])] at this
    exact this
  · obtain ⟨h1, h2⟩ := spi_header a0 a1 a2 a3 3 []
    have hd : s.returnsDriven = true := by simpa [State.returnsDriven, hp] using h
    refine ⟨_, exec_out rfl rfl rfl, ?_, ?_⟩
    · rw [State.bare_pending, State.bare_fin, State.spiRead]
      split <;> simp
    · refine (State.says_fin s _).mem ?_
      rw [State.spiRead, h1, h2, if_pos ⟨rfl, by simp, hd⟩]
      exact List.mem_cons_self

/-! ### Masks of vectors -/

/-- A vector's mask cleared. -/
def State.unmasked (s : State) (v : Nat) : State :=
  { s with host := { s.host with msix := Store.set 1 s.host.msix (v * 4 + 3) 0 } }

/-- Its pending bit cleared as well. -/
def State.cleared (s : State) (v : Nat) : State :=
  { s.unmasked v with host := { (s.unmasked v).host with pend := s.host.pend ^^^ 2 ^ v } }

/-- A write of 0 to word `k` of the MSI-X table, `k` being a vector's control word. -/
theorem State.msixWrite_control (s : State) {a k : Nat} (ha : 0x3F00000 ≤ a ∧ a < 0x3F00400) (hk : (a - 0x3F00000) / 4 = k)
    (h3 : k % 4 = 3) :
    let t : State := { s with host := { s.host with msix := Store.set 1 s.host.msix k 0 } }
    let u : State := { t with host := { t.host with pend := t.host.pend ^^^ 2 ^ (k / 4) } }
    s.msixWrite a 0 = if bitOf s.host.pend (k / 4) then (if u.active (k / 4) then u.emit (.msix (k / 4)) else u) else t := by
  have h0 : (0 : Word) &&& 1 = 0 := by decide
  unfold State.msixWrite
  rw [if_pos ha, hk]
  clear ha hk
  simp only [h3, h0, if_true, true_and]
  rfl

section
variable (s : State) {a v : Nat} (haddr : a = 0x3F00000 + 16 * v + 12) (hv : v < 64)
include haddr hv

theorem State.msixWrite_unmask :
    s.msixWrite a 0
      = if bitOf s.host.pend v then (if (s.cleared v).active v then (s.cleared v).emit (.msix v) else s.cleared v)
        else s.unmasked v := by
  have hkv : (v * 4 + 3) / 4 = v := by omega
  have := s.msixWrite_control (a := a) (k := v * 4 + 3) ⟨by omega, by omega⟩ (by omega) (by omega)
  rw [hkv] at this
  exact this

/-- The write of a vector's control word. -/
theorem State.bus_unmask (ha : s.awake = true) (hl : s.ao.perstLow = false) : s.bus .pcie a 0 = s.msixWrite a 0 := by
  have hnone : decodeAddr a = none := by rw [decodeAddr, if_neg (by omega), if_neg (by omega), if_neg (by omega)]
  have hno : ¬ (a % 4 ≠ 0 ∨ ¬ s.awake = true ∨ ¬ s.reaches .pcie = true) := by
    simp only [ha, State.reaches, hl]
    simp only [ne_eq, not_true_eq_false, decide_false, Bool.not_false, Bool.false_or, or_false, Decidable.not_not]
    omega
  have hagain (t : State) : s.again t a = t := by
    rw [State.again, hnone]
  rw [State.bus, hagain, State.busWrite, if_neg hno]
  simp only [hnone, if_true]

end

/-- A change of one bit leaves the others. -/
theorem testBit_xor_ne {n v v' : Nat} (h : v' ≠ v) : (n ^^^ 2 ^ v').testBit v = n.testBit v := by
  simp [Nat.testBit_xor, h]

theorem State.sendVector_pend (s : State) {v v' : Nat} (h : v' ≠ v) :
    (s.sendVector v').host.pend.testBit v = s.host.pend.testBit v := by
  unfold State.sendVector
  split
  · rfl
  · simp [Nat.testBit_or, h]

theorem State.dropPending_pend (s : State) {v v' : Nat} (h : v' ≠ v) :
    (s.dropPending v').host.pend.testBit v = s.host.pend.testBit v := by
  unfold State.dropPending
  split
  · exact testBit_xor_ne h
  · rfl

/-- The end of a command neither sets nor clears the pending bit of a source that stays active. -/
theorem State.vectors_pend {s s0 : State} {v : Nat} (h : s.active v = true) (h0 : s0.active v = true) :
    (s.vectors s0).host.pend.testBit v = s.host.pend.testBit v := by
  have fold (l : List Nat) : ∀ t : State,
      (l.foldl (fun t v => if s.active v then (if s0.active v then t else t.sendVector v) else t.dropPending v) t).host.pend.testBit v
        = t.host.pend.testBit v := by
    induction l with
    | nil => exact fun t => rfl
    | cons v' l ih =>
      intro t
      rw [List.foldl_cons, ih]
      by_cases hv : v' = v
      · rw [hv, if_pos h, if_pos h0]
      · split
        · split
          · rfl
          · exact t.sendVector_pend hv
        · exact t.dropPending_pend hv
  exact fold _ s

theorem State.pinChange_host (s : State) (n : String) (a b : Bool) : (s.pinChange n a b).host = s.host := by
  unfold State.pinChange
  split <;> rfl

theorem State.watchQuiet_host (s : State) : s.watchQuiet.host = s.host := by
  have plat (t : State) (p : Nat) : (t.watchPlat p).host = t.host := by
    unfold State.watchPlat
    extract_lets x since
    split <;> rfl
  have plats (l : List Nat) : ∀ t : State, (l.foldl (fun t p => t.watchPlat p) t).host = t.host := by
    induction l with
    | nil => exact fun t => rfl
    | cons p l ih => exact fun t => (ih _).trans (plat t p)
  have chip (t : State) : t.watchChip.host = t.host := by
    unfold State.watchChip
    extract_lets since
    split <;> rfl
  exact (chip _).trans (plats _ s)

theorem State.fin_pend {s s0 : State} {v : Nat} (h : s.active v = true) (h0 : s0.active v = true) :
    (s0.fin s).host.pend.testBit v = s.host.pend.testBit v := by
  have hk : (if s0.phase = 2 then s else s0.keepOlder s).host = s.host := by split <;> rfl
  have ha : (if s0.phase = 2 then s else s0.keepOlder s).watchQuiet.active v = true := by
    rw [← h]
    refine State.active_bare ((State.bare_watchQuiet _).trans ?_) v
    split <;> simp
  unfold State.fin
  simp only [State.pinChange_host]
  rw [State.vectors_pend ha h0, State.watchQuiet_host, hk]

theorem State.active_cleared (s : State) (v : Nat) : (s.cleared v).active v = s.active v :=
  State.active_congr (s := s.cleared v) (t := s) rfl rfl v

/-- R352: the unmasking of a vector. -/
theorem unmaskSendsPending : Rules.UnmaskSendsPending := by
  intro s v hv ha hl t
  obtain ⟨a, haddr⟩ : ∃ a, a = 0x3F00000 + 16 * v + 12 := ⟨_, rfl⟩
  have hw : (Instr.msixUnmask v).wf = true := decide_eq_true hv
  have he : exec (.msixUnmask v) s = Machine.access (.msixUnmask v) s (s.bus .pcie a 0) := by
    rw [haddr]
    rfl
  have hbus := (s.bus_unmask haddr hv ha hl).trans (s.msixWrite_unmask haddr hv)
  have hactive := s.active_cleared v
  rw [hbus] at he
  have hbare : (s.cleared v).bare = (s.unmasked v).bare := by
    simp only [State.bare, State.cleared, State.unmasked]
  refine ⟨completes_of_bare (completes_access hw he) (t' := s.unmasked v) ?_, fun hp hact => ?_⟩
  · split
    · split
      · exact (State.bare_emit ..).trans hbare
      · exact hbare
    · rfl
  · rw [if_pos hp, hactive, if_pos hact] at he
    refine ⟨_, exec_out he hw rfl, (State.says_fin s _).mem List.mem_cons_self, ?_⟩
    refine (State.fin_pend (s := (s.cleared v).emit (.msix v)) (hactive.trans hact) hact).trans ?_
    have hbit : s.host.pend.testBit v = true := hp
    simp only [State.emit, State.cleared]
    simp [hbit]

/-! ### Copies of the always-on registers -/

/-- The copy of one register brought up to its original. -/
def State.refreshOne (s : State) (r : RegId × Nat) : State :=
  { s with ao := { s.ao with copy := setRegOf s.ao.copy r.1 r.2 (s.fullReg r.1 r.2 &&& Word.ofNat r.1.aocMask) } }

/-- The registers of the always-on domain that have copies, in the order in which a refresh brings them up. -/
def aocCopies : List (RegId × Nat) :=
  [(.aoIntStat, 0), (.aoWakeCfg, 0), (.aoPwrCtrl, 0), (.aoChipStat, 0)]
    ++ (List.range 8).flatMap fun p => [(.aoPlatCfg, p), (.aoPlatStat, p), (.timeTbCfg, p)]

/-- The trims shown are those of the time bases. -/
def State.showTrims (s : State) : State :=
  (List.range 8).foldl (fun s k => s.setReg .timeTbTrim k (Word.ofNat (unsigned 32 (s.tbTrim k)))) s

theorem State.refreshAoc_eq (s : State) :
    s.refreshAoc = { (aocCopies.foldl State.refreshOne s).showTrims with
      ao := { (aocCopies.foldl State.refreshOne s).showTrims.ao with wrote := [] } } := by
  rw [aocCopies, List.foldl_append, List.foldl_flatMap]
  rfl

theorem State.showTrims_ao (s : State) : s.showTrims.ao = s.ao := by
  have fold (l : List Nat) : ∀ t : State,
      (l.foldl (fun s k => s.setReg .timeTbTrim k (Word.ofNat (unsigned 32 (s.tbTrim k)))) t).ao = t.ao := by
    induction l with
    | nil => exact fun t => rfl
    | cons k l ih => exact fun t => ih _
  exact fold _ s

/-- A register that does not read the copies shows the same through a refresh, and its copy shows that in the end. -/
theorem State.refresh_shows {id : RegId} {i : Nat} (hid : ∀ (s : State) r, (s.refreshOne r).fullReg id i = s.fullReg id i)
    (l : List (RegId × Nat)) : ∀ s : State, regsCanonical s.ao.copy →
      ((id, i) ∈ l ∨ regOf s.ao.copy id i = s.fullReg id i &&& Word.ofNat id.aocMask) →
      regOf (l.foldl State.refreshOne s).ao.copy id i = s.fullReg id i &&& Word.ofNat id.aocMask := by
  induction l with
  | nil => exact fun s hc h => h.resolve_left nofun
  | cons r l ih =>
    intro s hc h
    have hc' : regsCanonical (s.refreshOne r).ao.copy := regsCanonical_setRegOf hc _ _ _
    rw [List.foldl_cons, ← hid s r]
    refine ih _ hc' ?_
    by_cases hr : r = (id, i)
    · subst hr
      right
      rw [hid]
      exact regOf_setRegOf_self hc _ _ _
    · rcases h with h | h
      · exact .inl ((List.mem_cons.mp h).resolve_left fun e => hr e.symm)
      · right
        have hne : id ≠ r.1 ∨ i ≠ r.2 := by
          by_cases h : id = r.1
          · exact .inr fun h' => hr (Prod.ext h.symm h'.symm)
          · exact .inl h
        rw [hid, ← h]
        exact regOf_setRegOf_ne hc _ hne

/-- R8, R357: a refresh. -/
theorem alwaysOnCopies : Rules.AlwaysOnCopies := by
  intro s hp
  have hao : s.refreshAoc.ao = { (aocCopies.foldl State.refreshOne s).ao with wrote := [] } := by
    rw [State.refreshAoc_eq, State.showTrims_ao]
  refine ⟨completes_answer rfl rfl hp, by rw [hao], fun hc => ?_⟩
  have shows {id : RegId} {i : Nat} (hid : ∀ (s : State) r, (s.refreshOne r).fullReg id i = s.fullReg id i)
      (hm : (id, i) ∈ aocCopies) :
      Store.get (coldWord id i) s.refreshAoc.ao.copy (regKey id i) = s.fullReg id i &&& Word.ofNat id.aocMask := by
    rw [hao]
    exact State.refresh_shows hid aocCopies s hc (.inl hm)
  refine ⟨shows (fun s r => rfl) (by decide), shows (fun s r => rfl) (by decide), fun p hp => ⟨?_, ?_⟩⟩
  · exact shows (fun s r => rfl) ((by decide : ∀ p < 8, (RegId.aoPlatCfg, p) ∈ aocCopies) p hp)
  · exact shows (fun s r => rfl) ((by decide : ∀ p < 8, (RegId.aoPlatStat, p) ∈ aocCopies) p hp)

/-- Settles O51, by its three rules. -/
theorem spiMsixAndCopies : Obligations.SpiMsixAndCopies := ⟨spiTransactions, unmaskSendsPending, alwaysOnCopies⟩

end Sys2Proof.Machine

/-! PROOFS. Generations of the classifier (R106 to R108, R111). -/

namespace Sys2Proof.Machine

theorem State.requestSwap_refused {s : State} {src : Src} {timed : Bool} {tb : Nat} (h : s.retire.swapReason ≠ 0) :
    s.requestSwap src timed tb
      = ((s.retire.orReg .clsGenStat 0 (2 ^ 30)).setRf .clsGenStat 0 26 24 s.retire.swapReason).illegal .cls 0x10 src 5 := by
  unfold State.requestSwap
  extract_lets r
  split
  · next h0 => exact absurd h0 h
  · rfl

theorem State.requestSwap_granted {s : State} {src : Src} {timed : Bool} {tb : Nat} (h : s.retire.swapReason = 0) :
    let r := s.retire
    let c : ClsSt := { r.cls with swap := true, swapTb := tb, swapTarget := none }
    let at_ := r.targetOf tb (r.reg .clsGenSwapAt 0).toNat
    s.requestSwap src timed tb =
      if timed = true then
        if at_.2 = true then { r with cls := { c with swapTarget := some at_.1 } }
        else { r.orReg .clsGenStat 0 (2 ^ 29) with cls := c }
      else { r with cls := c } := by
  simp only [State.requestSwap, h]

/-- A request for a swap. -/
theorem completes_swap {s : State} {src : Src} (timed : Bool) {tb : Nat} (hs : s.takes src) (htb : tb < 8) :
    completes (.swap src timed tb) s (s.requestSwap src timed tb) := by
  let n := 2 ^ 31 + at_ (b2n timed) 30 + at_ tb 12
  have hn : n = 2 ^ 31 + at_ (b2n timed) 30 + at_ tb 12 := rfl
  have hmask : Word.ofNat 0xFFFFFFFF &&& Word.ofNat (RegId.clsGenCtrl.writableBy src) ≠ 0 := by cases src <;> decide
  have hput := completes_put (c := .swap src timed tb) (id := .clsGenCtrl) (i := 0) (v := n) rfl (decide_eq_true htb) hs rfl
    (by decide) (by decide) rfl rfl rfl (.inl hmask)
  have hsum : n = 2 ^ 31 + b2n timed * 2 ^ 30 + tb * 2 ^ 12 := by rw [hn]; simp only [at_, Nat.shiftLeft_eq]
  have hb : b2n timed < 2 := by cases timed <;> decide
  have hlt : n < 2 ^ 32 := by omega
  have h30 : bitW (Word.ofNat n) 30 = timed := by
    have hbit : n.testBit 30 = timed := by
      rw [Nat.testBit_eq_decide_div_mod_eq]
      cases timed with
      | false => exact decide_eq_false (by simp [b2n] at hsum; omega)
      | true => exact decide_eq_true (by simp [b2n] at hsum; omega)
    simp only [bitW, Word.ofNat, BitVec.getLsbD_ofNat, hbit]
    exact Bool.true_and timed
  have h14 : fld (Word.ofNat n) 14 12 = tb := by rw [fld_ofNat hlt]; omega
  have hact : (s.access src .cls 0x10 .normal .clsGenCtrl 0 (Word.ofNat n)).act s
      = if bitW (Word.ofNat n) 31 then s.requestSwap src (bitW (Word.ofNat n) 30) (fld (Word.ofNat n) 14 12) else s := rfl
  rw [if_pos (bitW_go (by omega) hlt), h30, h14] at hact
  rw [hact] at hput
  exact hput

/-- R106, R107, R111: a swap request. -/
theorem swapRequest : Rules.SwapRequest := by
  intro s src timed tb hs htb r c at_
  have hswap (timed : Bool) := completes_swap timed hs htb
  refine ⟨fun h => ?_, fun h => ⟨fun ht => ?_, fun ht hf => ?_, fun ht hf => ?_⟩, fun h => if_pos h, fun h1 h2 h3 => ?_⟩
  · rw [← State.requestSwap_refused h]
    exact hswap timed
  · have := hswap timed
    rw [State.requestSwap_granted h, if_neg (by simp [ht])] at this
    exact this
  · have := hswap timed
    rw [State.requestSwap_granted h, if_pos ht, if_pos hf] at this
    exact this
  · have := hswap timed
    rw [State.requestSwap_granted h, if_pos ht, if_neg (by simpa using hf)] at this
    exact this
  · rw [State.swapReason]
    simp [h1, h2, h3]

/-- R107, R108: the swap edge, and retirement. -/
theorem swapEdgeAndRetirement : Rules.SwapEdgeAndRetirement := by
  intro s hr
  refine ⟨fun h => completes_event rfl rfl hr h, fun h => completes_not_event rfl rfl h, fun h1 h2 => ?_, fun h => ?_⟩
  · have := completes_event (c := .genRetired) (s := s) rfl rfl hr rfl
    rw [State.retire, if_pos ⟨h1, h2⟩] at this
    exact this
  · have := completes_event (c := .genRetired) (s := s) rfl rfl hr rfl
    rw [State.retire, if_neg fun hc => h.elim (fun h => by simp [h] at hc) fun h => h hc.2] at this
    exact this

/-- Settles O18, by its two rules. -/
theorem classifierGenerations : Obligations.ClassifierGenerations := ⟨swapRequest, swapEdgeAndRetirement⟩

end Sys2Proof.Machine

/-! PROOFS. The tables: learn events (R123), claims (R142, R143) and the command register (R146). -/

namespace Sys2Proof.Machine

/-! ### Learn events -/

theorem State.learnNext_idle {s : State} {p : Nat} (h : bitOf s.tbl.claimed p = true ∨ (s.plat p).power ≠ .run ∨ (s.plat p).learnQ = []) :
    s.learnNext p = s := by
  rw [State.learnNext]
  dsimp only
  split
  · rfl
  · next hc =>
    rcases h with h | h | h
    · exact absurd (.inl h) hc
    · exact absurd (.inr h) hc
    · rw [h]

/-- The state in which the learn engine finds the table: the event taken, and a flush in progress gone on. -/
def State.learning (s : State) (p : Nat) (rest : List LearnEv) : State :=
  ((s.setPlat p { s.plat p with learnQ := rest }).perf p 6 none none 1).flushOn p

/-- The entry that the learn engine wrote or moved is spread. -/
def State.spreadLearned (u : State × Option Nat) (p : Nat) : State :=
  match u with
  | (s, some i) => s.askSpread p i
  | (s, none) => s

theorem State.learnNext_event {s : State} {p : Nat} {ev : LearnEv} {rest : List LearnEv} (hc : bitOf s.tbl.claimed p = false)
    (hp : (s.plat p).power = .run) (hq : (s.plat p).learnQ = ev :: rest) :
    s.learnNext p = State.spreadLearned ((s.learning p rest).learnApply p ev) p := by
  rw [State.learnNext]
  dsimp only
  rw [if_neg (by simp [hc, hp]), hq]
  rfl

section
variable {q : State} {p : Nat} {ev : LearnEv}

theorem State.learnApply_static {i : Nat} (h : q.lookup p (macKey ev.fid ev.sa) = some i) (hs : bitW (q.tab p i 2) 30 = true) :
    q.learnApply p ev = (q, none) := by
  simp only [State.learnApply, h, hs, if_true]

theorem State.learnApply_refreshed {i : Nat} (h : q.lookup p (macKey ev.fid ev.sa) = some i) (hs : bitW (q.tab p i 2) 30 = false)
    (hd : fld (q.tab p i 2) 17 0 = at_ ev.destType 16 + ev.dest) :
    q.learnApply p ev = (q.setTab p i 2 (setBitW (setFld (q.tab p i 2) 26 24 0) 29 false), none) := by
  simp [State.learnApply, h, hs, hd, State.countIf]

theorem State.learnApply_moved {i : Nat} (h : q.lookup p (macKey ev.fid ev.sa) = some i) (hs : bitW (q.tab p i 2) 30 = false)
    (hd : fld (q.tab p i 2) 17 0 ≠ at_ ev.destType 16 + ev.dest) :
    q.learnApply p ev = ((q.setTab p i 2 (setBitW (setFld (setFld (q.tab p i 2) 17 0 (at_ ev.destType 16 + ev.dest)) 26 24 0) 29
      false)).count .tbl p 1, some i) := by
  simp [State.learnApply, h, hs, hd, State.countIf]

theorem State.learnApply_placed {i : Nat} (h : q.lookup p (macKey ev.fid ev.sa) = none)
    (hf : q.freeSlot p (macKey ev.fid ev.sa) = some i) :
    q.learnApply p ev = ((q.setTabs p i 0 [Word.ofNat ev.sa, Word.ofNat (at_ ev.fid 16 + ev.sa / 2 ^ 32),
      Word.ofNat (2 ^ 31 + (at_ ev.destType 16 + ev.dest)), 0]).count .tbl p 0, some i) := by
  simp only [State.learnApply, h, hf]

theorem State.learnApply_full (h : q.lookup p (macKey ev.fid ev.sa) = none) (hf : q.freeSlot p (macKey ev.fid ev.sa) = none) :
    q.learnApply p ev = ((q.count .tbl p 3).orReg .tblIntStat 0 8, none) := by
  simp only [State.learnApply, h, hf]

end

/-- Settles O19, by what each lookup of the address finds. -/
theorem learnEvents : Obligations.LearnEvents := by
  intro s p hp hr
  have hnext : completes (.learnEventApply p) s (s.learnNext p) := completes_event rfl (decide_eq_true hp) hr rfl
  refine ⟨fun h => ?_, fun ev rest hc hrun hq => ?_⟩
  · rw [State.learnNext_idle h] at hnext
    exact hnext
  · rw [State.learnNext_event hc hrun hq] at hnext
    refine ⟨fun i h => ⟨fun hs => ?_, fun hs hd => ?_, fun hs hd => ?_⟩, fun h => ⟨fun i hf => ?_, fun hf => ?_⟩⟩
    · rw [State.learnApply_static (q := s.learning p rest) h hs] at hnext
      exact hnext
    · rw [State.learnApply_refreshed (q := s.learning p rest) h hs hd] at hnext
      exact hnext
    · rw [State.learnApply_moved (q := s.learning p rest) h hs hd] at hnext
      exact hnext
    · rw [State.learnApply_placed (q := s.learning p rest) h hf] at hnext
      exact hnext
    · rw [State.learnApply_full (q := s.learning p rest) h hf] at hnext
      exact hnext

/-! ### Claims -/

/-- The claim words of a table engine's state, which work on the tables leaves alone. -/
def State.SameClaims (s t : State) : Prop := t.tbl.claimed = s.tbl.claimed ∧ t.tbl.claimReq = s.tbl.claimReq

theorem State.sameClaims_of_tbl {s t : State} (h : t.tbl = s.tbl) : s.SameClaims t := by
  rw [State.SameClaims, h]
  exact ⟨rfl, rfl⟩

theorem State.SameClaims.trans {s t u : State} (h : s.SameClaims t) (h' : t.SameClaims u) : s.SameClaims u :=
  ⟨h'.1.trans h.1, h'.2.trans h.2⟩

/-- A fold of changes that leave the table engine alone leaves it alone. -/
theorem State.tbl_foldl {β : Type} {f : State → β → State} (h : ∀ (s : State) b, (f s b).tbl = s.tbl) (l : List β) (s : State) :
    (l.foldl f s).tbl = s.tbl := by
  induction l generalizing s with
  | nil => rfl
  | cons b l ih => rw [List.foldl_cons, ih, h]

theorem State.deleteEntry_tbl (s : State) (t i : Nat) : (s.deleteEntry t i).tbl = s.tbl := by simp only [State.deleteEntry, State.setTab_tbl]

theorem State.setTabs_tbl (t i : Nat) (vs : List Word) : ∀ (s : State) w, (s.setTabs t i w vs).tbl = s.tbl := by
  induction vs with
  | nil => exact fun s w => rfl
  | cons v vs ih => exact fun s w => (ih _ _).trans (s.setTab_tbl t i w v)

theorem State.unspread_tbl (s : State) (origin : Nat) (key : List Nat) (p : Nat) : (s.unspread origin key p).tbl = s.tbl := by
  unfold State.unspread
  split
  · split
    · exact s.deleteEntry_tbl _ _
    · rfl
  · rfl

theorem State.dropCopies_tbl (origin : Nat) (key : List Nat) (ps : List Nat) :
    ∀ s : State, (s.dropCopies origin key ps).tbl = s.tbl := by
  induction ps with
  | nil => exact fun s => rfl
  | cons p ps ih =>
    intro s
    refine (ih _).trans ?_
    split
    · rfl
    · split
      · exact s.modPlat_tbl p _
      · exact s.unspread_tbl origin key p

theorem State.placeCopy_tbl (s : State) (origin : Nat) (ws : List Word) (p : Nat) : (s.placeCopy origin ws p).tbl = s.tbl := by
  unfold State.placeCopy
  extract_lets key w2 copy
  split
  · split
    · exact State.setTabs_tbl _ _ _ _ _
    · rfl
  · split
    · exact State.setTabs_tbl _ _ _ _ _
    · rw [State.orReg_tbl, State.count_tbl]

theorem State.ageEntry_tbl (s : State) (p n m i : Nat) : (s.ageEntry p n m i).tbl = s.tbl := by
  unfold State.ageEntry
  extract_lets w a key
  split
  · split
    · rw [State.count_tbl, State.dropCopies_tbl, State.deleteEntry_tbl]
    · exact s.setTab_tbl _ _ _ _
  · rfl

theorem State.sweep_tbl (s : State) (p n : Nat) : (s.sweep p n).tbl = s.tbl :=
  State.tbl_foldl (fun s i => s.ageEntry_tbl p n _ i) _ s

theorem State.deleteWhere_tbl (s : State) (p : Nat) (sel : Nat → Bool) : (s.deleteWhere p sel).1.tbl = s.tbl :=
  State.tbl_foldl (fun s i => (State.count_tbl ..).trans (s.deleteEntry_tbl p i)) _ s

theorem State.deleteAll_tbl (s : State) (ps : List Nat) (sel : State → Nat → Nat → Bool) : (s.deleteAll ps sel).tbl = s.tbl := by
  have tables (ps : List Nat) : ∀ (s : State) (l : List (Nat × List Nat)),
      (ps.foldl (fun (u : State × List (Nat × List Nat)) p =>
        ((u.1.deleteWhere p (sel u.1 p)).1, u.2 ++ (u.1.deleteWhere p (sel u.1 p)).2)) (s, l)).1.tbl = s.tbl := by
    induction ps with
    | nil => exact fun s l => rfl
    | cons p ps ih => exact fun s l => (ih _ _).trans (s.deleteWhere_tbl p _)
  exact (State.tbl_foldl (fun s (o : Nat × List Nat) => State.dropCopies_tbl o.1 o.2 _ s) _ _).trans (tables ps s [])

theorem State.sameClaims_doWork (s : State) (p : Nat) (w : TableWork) : s.SameClaims (s.doWork p w) := by
  cases w with
  | flush =>
    have h := s.deleteAll_tbl [p] fun s p i => s.flushes p i
    have h1 : (s.doWork p .flush).tbl.claimed = (s.deleteAll [p] fun s p i => s.flushes p i).tbl.claimed := rfl
    have h2 : (s.doWork p .flush).tbl.claimReq = (s.deleteAll [p] fun s p i => s.flushes p i).tbl.claimReq := rfl
    exact ⟨by rw [h1, h], by rw [h2, h]⟩
  | dest ty d => exact State.sameClaims_of_tbl (s.deleteAll_tbl _ _)
  | unspread origin key => exact State.sameClaims_of_tbl (s.unspread_tbl origin key p)
  | spread origin ws => exact State.sameClaims_of_tbl (s.placeCopy_tbl origin ws p)

theorem State.sameClaims_catchUpTable (s : State) (p : Nat) : s.SameClaims (s.catchUpTable p) := by
  have works (l : List TableWork) : ∀ s : State, s.SameClaims (l.foldl (fun s w => s.doWork p w) s) := by
    induction l with
    | nil => exact fun s => ⟨rfl, rfl⟩
    | cons w l ih => exact fun s => (s.sameClaims_doWork p w).trans (ih _)
  unfold State.catchUpTable
  split
  · exact ⟨rfl, rfl⟩
  · refine State.SameClaims.trans (State.sameClaims_of_tbl ?_) (works _ _)
    split
    · exact s.modPlat_tbl p _
    · exact (State.sweep_tbl _ p _).trans (s.modPlat_tbl p _)

/-- The tables that a write of the claim bits releases. -/
def State.released (s : State) (req : Nat) : Nat := s.tbl.claimed &&& ((s.tbl.claimReq ||| req) ^^^ req)

/-- The claim words after the write. -/
def State.claimWords (s : State) (req : Nat) : State :=
  { s.stir with tbl := { s.tbl with claimReq := req, claimed := s.tbl.claimed ^^^ s.released req } }

theorem State.testBit_released (s : State) (req t : Nat) :
    bitOf (s.released req) t = (bitOf s.tbl.claimed t && (bitOf s.tbl.claimReq t && !bitOf req t)) := by
  simp only [State.released, bitOf, Nat.testBit_and, Nat.testBit_xor, Nat.testBit_or]
  cases s.tbl.claimReq.testBit t <;> cases req.testBit t <;> simp

theorem State.sameClaims_setClaims (s : State) (req : Nat) : (s.claimWords req).SameClaims (s.setClaims req) := by
  have fold (l : List Nat) : ∀ u : State,
      u.SameClaims (l.foldl (fun s' p => if bitOf (s.released req) p then s'.catchUpTable p else s') u) := by
    induction l with
    | nil => exact fun u => ⟨rfl, rfl⟩
    | cons p l ih =>
      intro u
      refine State.SameClaims.trans ?_ (ih _)
      dsimp only
      split
      · exact u.sameClaims_catchUpTable p
      · exact ⟨rfl, rfl⟩
  exact fold _ _

theorem State.bare_stir (s : State) : s.stir.bare = s.bare := by
  unfold State.stir
  split <;> rfl

/-- R142, R143: a write of the claim bits. -/
theorem claimBits : Rules.ClaimBits := by
  intro s req t
  obtain ⟨hclaimed, hreq⟩ := s.sameClaims_setClaims req
  refine ⟨hreq, ?_, fun h => ?_⟩
  · rw [hclaimed]
    have : (s.claimWords req).tbl.claimed = s.tbl.claimed ^^^ s.released req := rfl
    rw [this, bitOf, Nat.testBit_xor]
    have hr := s.testBit_released req t
    simp only [bitOf] at hr ⊢
    rw [hr]
    cases s.tbl.claimed.testBit t <;> simp
  · have hnone (p : Nat) (hp : p < 8) : bitOf (s.released req) p = false := by
      rw [State.testBit_released]
      cases h1 : bitOf s.tbl.claimed p
      · rfl
      · cases h2 : bitOf s.tbl.claimReq p
        · rfl
        · simp [h p hp h1 h2]
    have fold (l : List Nat) (hl : ∀ p ∈ l, p < 8) (u : State) :
        l.foldl (fun s' p => if bitOf (s.released req) p then s'.catchUpTable p else s') u = u := by
      induction l generalizing u with
      | nil => rfl
      | cons p l ih =>
        rw [List.foldl_cons, if_neg (by simp [hnone p (hl p List.mem_cons_self)])]
        exact ih (fun p' hp' => hl p' (List.mem_cons_of_mem _ hp')) u
    have heq : s.setClaims req = s.claimWords req := fold _ (fun p hp => List.mem_range.mp hp) _
    rw [heq]
    have : (s.claimWords req).bare = ({ s with tbl := (s.claimWords req).tbl } : State).bare := by
      unfold State.claimWords State.stir
      split <;> rfl
    exact this

/-- The claim bits that a write through SET or CLR asks for. -/
theorem claim_asked {w : Word} {t : Nat} (ht : t < 22) :
    fld (w ||| Word.ofNat (2 ^ t)) 21 0 = (fld w 21 0 ||| 2 ^ t)
      ∧ fld (w &&& ~~~Word.ofNat (2 ^ t)) 21 0 = (fld w 21 0 &&& (2 ^ 22 - 1 - 2 ^ t)) := by
  have hlt : 2 ^ t < 2 ^ 22 := Nat.pow_lt_pow_right (by omega) ht
  have hsub : 2 ^ 22 - 1 - 2 ^ t = 2 ^ 22 - (2 ^ t + 1) := by omega
  constructor
  · apply Nat.eq_of_testBit_eq
    intro j
    simp only [testBit_fld, Nat.testBit_or, BitVec.getLsbD_or, Word.ofNat, BitVec.getLsbD_ofNat, Nat.testBit_two_pow, Nat.zero_add]
    by_cases hj : j < 22
    · simp [hj, show j < 32 by omega]
    · simp [hj, show t ≠ j by omega]
  · apply Nat.eq_of_testBit_eq
    intro j
    rw [hsub]
    simp only [testBit_fld, Nat.testBit_and, Nat.testBit_two_pow_sub_succ hlt, BitVec.getLsbD_and, BitVec.getLsbD_not, Word.ofNat,
      BitVec.getLsbD_ofNat, Nat.testBit_two_pow, Nat.zero_add]
    by_cases hj : j < 22
    · simp [hj, show j < 32 by omega]
    · simp [hj]

/-- R142, R143: claims. -/
theorem claims : Rules.Claims := by
  intro s src t ht asked
  have hw (id : Instr) (h : id = .claim src t ∨ id = .claimRelease src t ∨ id = .claimGranted t) : id.wf = true := by
    rcases h with rfl | rfl | rfl <;> exact decide_eq_true ht
  have hmask : Word.ofNat (2 ^ t) &&& Word.ofNat (RegId.tblClaim.writableBy src) ≠ 0 := by
    rw [show RegId.tblClaim.writableBy src = RegId.tblClaim.writable by cases src <;> decide]
    exact (by decide : ∀ t < 22, Word.ofNat (2 ^ t) &&& Word.ofNat RegId.tblClaim.writable ≠ 0) t ht
  obtain ⟨hset, hclr⟩ := claim_asked (w := s.fullReg .tblClaim 0) ht
  refine ⟨fun hs => ?_, fun hs => ?_, fun hr hret hd => ?_, fun hr hd => ?_⟩
  · have := completes_put (c := .claim src t) (id := .tblClaim) (i := 0) rfl (hw _ (.inl rfl)) hs rfl (by decide) (by decide) rfl rfl
      rfl (.inl hmask)
    rw [← hset]
    exact this
  · have := completes_put (c := .claimRelease src t) (id := .tblClaim) (i := 0) rfl (hw _ (.inr (.inl rfl))) hs rfl (by decide)
      (by decide) rfl rfl rfl (.inl hmask)
    rw [← hclr]
    exact this
  · have := completes_event (c := .claimGranted t) (t := s.grantClaim t) rfl (hw _ (.inr (.inr rfl))) hr (by rw [hret, hd]; rfl)
    rw [State.grantClaim, if_pos hd] at this
    exact this
  · exact completes_not_event (c := .claimGranted t) rfl (hw _ (.inr (.inr rfl))) (by rw [hd, Bool.and_false])

/-- Settles O22, by its two rules. -/
theorem claimsOfTables : Obligations.ClaimsOfTables := ⟨claims, claimBits⟩

end Sys2Proof.Machine

/-! PROOFS. The command register of the tables (R146). -/

namespace Sys2Proof.Machine

/-! ### Commands taken -/

/-- A GO write of TBL_CMD. -/
theorem completes_tblCmd {c : Instr} {s : State} {src : Src} {op t i : Nat} (hop : op < 8)
    (he : exec c s = Machine.access c s (s.putTblCmd src op t i)) (hw : c.wf = true) (hs : s.takes src) (ht : t < 32)
    (hi : i < 1048576) : completes c s (s.startTblCmd src op t i) := by
  let n := 2 ^ 31 + at_ op 28 + at_ t 20 + i
  have hn : n = 2 ^ 31 + at_ op 28 + at_ t 20 + i := rfl
  have hmask : Word.ofNat 0xFFFFFFFF &&& Word.ofNat (RegId.tblCmd.writableBy src) ≠ 0 := by cases src <;> decide
  have hput := completes_put (id := .tblCmd) (i := 0) (v := n) he hw hs rfl (by decide) (by decide) rfl rfl rfl (.inl hmask)
  have hsum : n = 2 ^ 31 + op * 2 ^ 28 + t * 2 ^ 20 + i := by rw [hn]; simp only [at_, Nat.shiftLeft_eq]
  have hlt : n < 2 ^ 32 := by omega
  have h30 : fld (Word.ofNat n) 30 28 = op := by rw [fld_ofNat hlt]; omega
  have h24 : fld (Word.ofNat n) 24 20 = t := by rw [fld_ofNat hlt]; omega
  have h19 : fld (Word.ofNat n) 19 0 = i := by rw [fld_ofNat hlt]; omega
  have hact : (s.access src .tbl 0x20 .normal .tblCmd 0 (Word.ofNat n)).act s
      = if bitW (Word.ofNat n) 31 then s.startTblCmd src (fld (Word.ofNat n) 30 28) (fld (Word.ofNat n) 24 20)
          (fld (Word.ofNat n) 19 0) else s := rfl
  rw [if_pos (bitW_go (by omega) hlt), h30, h24, h19] at hact
  rw [hact] at hput
  exact hput

theorem State.startTblCmd_busy {s : State} (src : Src) (op t i : Nat) (h : s.tbl.cmd ≠ none) :
    s.startTblCmd src op t i = s.illegal .tbl 0x20 src 2 := if_pos (Option.isSome_iff_ne_none.mpr h)

theorem State.startTblCmd_free {s : State} (src : Src) (op t i : Nat) (h : s.tbl.cmd = none) :
    (s.startTblCmd src op t i).bare
      = ({ s with tbl := { s.tbl with cmd := some { src := src, op := op, target := t, index := i } } } : State).bare := by
  have hs : s.startTblCmd src op t i
      = { s.stir with tbl := { s.tbl with cmd := some { src := src, op := op, target := t, index := i } } } := by
    rw [State.startTblCmd, if_neg (by rw [h]; exact Bool.false_ne_true)]
  rw [hs]
  unfold State.stir
  split <;> rfl

/-- R146: commands taken as they are written. -/
theorem tableCommandStarts : Rules.TableCommandStarts := by
  intro s src t i hs ht hi busy go
  have hw : (decide (t < 32) && decide (i < 1048576)) = true := by simp [ht, hi]
  have read := completes_tblCmd (c := .tblCmdRead src t i) (op := 1) (by decide) rfl hw hs ht hi
  have write := completes_tblCmd (c := .tblCmdWrite src t i) (op := 2) (by decide) rfl hw hs ht hi
  have look := completes_tblCmd (c := .tblCmdLookup src t i) (op := 3) (by decide) rfl hw hs ht hi
  have insert_ := completes_tblCmd (c := .tblCmdInsert src t i) (op := 4) (by decide) rfl hw hs ht hi
  have delete := completes_tblCmd (c := .tblCmdDelete src t i) (op := 5) (by decide) rfl hw hs ht hi
  refine ⟨fun h => ?_, fun h => ?_⟩
  · rw [State.startTblCmd_busy _ _ _ _ h] at read write look insert_ delete
    exact ⟨read, write, look, insert_, delete⟩
  · exact ⟨completes_of_bare read (State.startTblCmd_free _ _ _ _ h), completes_of_bare write (State.startTblCmd_free _ _ _ _ h),
      completes_of_bare look (State.startTblCmd_free _ _ _ _ h), completes_of_bare insert_ (State.startTblCmd_free _ _ _ _ h),
      completes_of_bare delete (State.startTblCmd_free _ _ _ _ h)⟩

/-! ### Commands completed -/

theorem State.showEntry_tbl (s : State) (t i : Nat) : (s.showEntry t i).tbl = s.tbl :=
  State.tbl_foldl (fun s _ => s.setReg_tbl _ _ _) _ s

theorem State.writeWords_tbl (t i : Nat) (vs : List Word) : ∀ (s : State) w, (s.writeWords t i w vs).tbl = s.tbl := by
  induction vs with
  | nil => exact fun s w => rfl
  | cons v vs ih => exact fun s w => (ih _ _).trans (s.setTab_tbl t i w _)

theorem State.resetEntry_tbl (s : State) (t i : Nat) : (s.resetEntry t i).tbl = s.tbl := by
  unfold State.resetEntry
  split
  · simp only [State.setTab_tbl]
  · split
    · simp only [State.setTab_tbl]
    · split
      · simp only [State.setTab_tbl]
      · split
        · simp only [State.setTab_tbl]
        · rfl

theorem State.writeEntry_tbl (s : State) (t i : Nat) (ws : List Word) : (s.writeEntry t i ws).tbl = s.tbl := by
  unfold State.writeEntry
  extract_lets old u
  have hu : u.tbl = s.tbl := State.writeWords_tbl t i ws s 0
  split
  · exact (State.resetEntry_tbl _ t i).trans hu
  · exact hu

/-- The end of a table command: RESULT, INDEX where one is given, and CMD_DONE. -/
def State.cmdEnds (u : State × Nat × Option Nat) : State :=
  { u.1 with tbl := { u.1.tbl with
      cmd := none, cmdResult := u.2.1, cmdIndex := match u.2.2 with | some i => i | none => u.1.tbl.cmdIndex } }.orReg .tblIntStat 0 2

section
variable {s : State} {c : TblCmd} (hcmd : s.tbl.cmd = some c)
include hcmd

theorem State.finishTblCmd_bad (hb : s.cmdBad c = true) :
    s.finishTblCmd = State.cmdEnds (s.illegal .tbl 0x20 c.src 11, 4, none) := by
  simp only [State.finishTblCmd, hcmd, hb, if_true]
  rfl

theorem State.finishTblCmd_claimed (hb : s.cmdBad c = false) (hc : bitOf s.tbl.claimed c.target = true) :
    s.finishTblCmd = State.cmdEnds (s.illegal .tbl 0x20 c.src 9, 3, none) := by
  simp only [State.finishTblCmd, hcmd, hb, hc, if_true, Bool.false_eq_true, if_false]
  rfl

theorem State.finishTblCmd_runs (hb : s.cmdBad c = false) (hc : bitOf s.tbl.claimed c.target = false) :
    s.finishTblCmd = State.cmdEnds (s.runCmd c) := by
  simp only [State.finishTblCmd, hcmd, hb, hc, Bool.false_eq_true, if_false]
  rfl

end

/-- A key that the table holds: LOOKUP shows the entry, INSERT overwrites it, DELETE makes it invalid. -/
theorem State.runCmd_found {s : State} {c : TblCmd} {i : Nat} (h : c.op = 3 ∨ c.op = 4 ∨ c.op = 5)
    (hl : s.lookup c.target (keyOfEntry c.target (s.cmdData c.target)) = some i) :
    s.runCmd c = (if c.op = 3 then s.showEntry c.target i
      else if c.op = 4 then s.writeEntry c.target i (s.cmdData c.target) else s.deleteEntry c.target i, 0, some i) := by
  have h1 : c.op ≠ 1 := by omega
  have h2 : c.op ≠ 2 := by omega
  simp only [State.runCmd, h1, h2, if_false, hl]
  split
  · rfl
  · split <;> rfl

section
variable {s : State} {c : TblCmd} (hl : s.lookup c.target (keyOfEntry c.target (s.cmdData c.target)) = none)
include hl

/-- A key that it does not hold. -/
theorem State.runCmd_missing (h : c.op = 3 ∨ c.op = 5) : s.runCmd c = (s, 1, none) := by
  have h1 : c.op ≠ 1 := by omega
  have h2 : c.op ≠ 2 := by omega
  have h4 : c.op ≠ 4 := by omega
  simp only [State.runCmd, h1, h2, h4, if_false, hl]

/-- INSERT places an entry where its buckets have room. -/
theorem State.runCmd_placed {i : Nat} (h : c.op = 4)
    (hf : s.freeSlot c.target (keyOfEntry c.target (s.cmdData c.target)) = some i) :
    s.runCmd c = (s.writeEntry c.target i (s.cmdData c.target), 0, some i) := by
  simp [State.runCmd, h, hl, hf]

theorem State.runCmd_full (h : c.op = 4) (hf : s.freeSlot c.target (keyOfEntry c.target (s.cmdData c.target)) = none) :
    s.runCmd c = (s, 2, none) := by
  simp [State.runCmd, h, hl, hf]

end

/-- R146, R143: what a table command answers. -/
theorem tableCommandCompletes : Rules.TableCommandCompletes := by
  intro s c hr hret hcmd ends d key
  have hdone : completes .cmdDone s s.finishTblCmd := completes_event rfl rfl hr (by rw [hret, hcmd]; rfl)
  have stays {t : State} (res : Nat) (ht : t.tbl = s.tbl) : State.cmdEnds (t, res, none) = ends t res s.tbl.cmdIndex := by
    simp only [State.cmdEnds, ends, ht]
  refine ⟨fun hb => ?_, fun hb hc => ?_, fun hb hc => ?_⟩
  · rw [State.finishTblCmd_bad hcmd hb, stays 4 (State.illegal_tbl ..)] at hdone
    exact hdone
  · rw [State.finishTblCmd_claimed hcmd hb hc, stays 3 (State.illegal_tbl ..)] at hdone
    exact hdone
  · rw [State.finishTblCmd_runs hcmd hb hc] at hdone
    have runs {u : State × Nat × Option Nat} (h : s.runCmd c = u) : completes .cmdDone s (State.cmdEnds u) := by
      rw [h] at hdone
      exact hdone
    refine ⟨fun h => ?_, fun h => ?_, fun h hl => ?_, fun i hl => ⟨fun h => ?_, fun h => ?_, fun h => ?_⟩,
      fun h hl => ⟨fun i hf => ?_, fun hf => ?_⟩⟩
    · rw [← stays 0 (State.showEntry_tbl ..)]
      exact runs (by simp only [State.runCmd, h, if_true])
    · have h1 : c.op ≠ 1 := by omega
      rw [← stays 0 (State.writeEntry_tbl ..)]
      exact runs ((if_neg h1).trans (if_pos h))
    · rw [← stays 1 rfl]
      exact runs (State.runCmd_missing hl h)
    · have hrun := State.runCmd_found (.inl h) hl
      rw [if_pos h] at hrun
      exact runs hrun
    · have hrun := State.runCmd_found (.inr (.inl h)) hl
      rw [if_neg (by omega), if_pos h] at hrun
      exact runs hrun
    · have hrun := State.runCmd_found (.inr (.inr h)) hl
      rw [if_neg (by omega), if_neg (by omega)] at hrun
      exact runs hrun
    · exact runs (State.runCmd_placed hl h hf)
    · rw [← stays 2 rfl]
      exact runs (State.runCmd_full hl h hf)

/-- Settles O23, by its two rules. -/
theorem tableCommands : Obligations.TableCommands := ⟨tableCommandStarts, tableCommandCompletes⟩

end Sys2Proof.Machine

/-! PROOFS. Flushes and the work that waits for a table (R128, R143). -/

namespace Sys2Proof.Machine

/-! ### Words of the tables -/

theorem getLsbD_setBitW (w : Word) (i : Nat) (b : Bool) {j : Nat} (hj : j < 32) :
    (setBitW w i b).getLsbD j = if j = i then b else w.getLsbD j := by
  rw [setBitW, getLsbD_setFld w i i _ hj]
  by_cases h : j = i
  · subst h
    cases b <;> simp
  · rw [if_neg (by omega), if_neg h]

theorem Store.mem_of_get_ne {α : Type} {d : α} {m : Store α} {k : Nat} (h : Store.get d m k ≠ d) : (k, Store.get d m k) ∈ m := by
  induction m with
  | nil => exact absurd rfl h
  | cons e r ih =>
    obtain ⟨j, u⟩ := e
    simp only [Store.get] at h ⊢
    split
    · next hj => simp [hj]
    · next hj =>
      rw [if_neg hj] at h
      split at h
      · exact absurd rfl h
      · next hlt =>
        rw [if_neg hlt]
        exact List.mem_cons_of_mem _ (ih h)

theorem tabKey_parts {t i w : Nat} (ht : t < 32) (hw : w < 32) :
    tabKey t i w % 32 = t ∧ tabKey t i w / 32 % 32 = w ∧ tabKey t i w / 1024 = i := by
  unfold tabKey
  omega

theorem tabKey_ne {t t' i i' w w' : Nat} (ht : t < 32) (ht' : t' < 32) (hw : w < 32) (hw' : w' < 32)
    (h : t' ≠ t ∨ i' ≠ i ∨ w' ≠ w) : tabKey t' i' w' ≠ tabKey t i w := by
  intro he
  obtain ⟨h1, h2, h3⟩ := tabKey_parts (i := i) ht hw
  obtain ⟨h1', h2', h3'⟩ := tabKey_parts (i := i') ht' hw'
  rw [he] at h1' h2' h3'
  omega

section
variable {s : State} (h : Store.wf 0 s.tables = true)
include h

theorem State.tables_wf_setTab (t i w : Nat) (v : Word) : Store.wf 0 (s.setTab t i w v).tables = true :=
  Store.wf_set 0 _ _ _ h

theorem State.tab_setTab_self (t i w : Nat) (v : Word) : (s.setTab t i w v).tab t i w = v := Store.get_set_self 0 _ _ _ h

theorem State.tab_setTab_ne {t t' i i' w w' : Nat} (v : Word) (ht : t < 32) (ht' : t' < 32) (hw : w < 32) (hw' : w' < 32)
    (hne : t' ≠ t ∨ i' ≠ i ∨ w' ≠ w) : (s.setTab t i w v).tab t' i' w' = s.tab t' i' w' :=
  Store.get_set_ne 0 _ _ (tabKey_ne ht ht' hw hw' hne) h

end

/-- A change that keeps the canonical form of the tables and leaves table `p` alone. -/
structure State.Spares (p : Nat) (s t : State) : Prop where
  wf : Store.wf 0 s.tables = true → Store.wf 0 t.tables = true
  tab : Store.wf 0 s.tables = true → ∀ i k, k < 32 → t.tab p i k = s.tab p i k

theorem State.Spares.refl (p : Nat) (s : State) : s.Spares p s := ⟨id, fun _ _ _ _ => rfl⟩

theorem State.Spares.trans {p : Nat} {s t u : State} (h : State.Spares p s t) (h' : State.Spares p t u) : State.Spares p s u :=
  ⟨fun hw => h'.wf (h.wf hw), fun hw i k hk => (h'.tab (h.wf hw) i k hk).trans (h.tab hw i k hk)⟩

theorem State.spares_of_tables {p : Nat} {s t : State} (h : t.tables = s.tables) : State.Spares p s t :=
  ⟨fun hw => by rw [h]; exact hw, fun _ i k _ => by rw [State.tab, State.tab, h]⟩

theorem State.spares_foldl {β : Type} {p : Nat} {f : State → β → State} (l : List β) (h : ∀ (s : State), ∀ b ∈ l, State.Spares p s (f s b))
    (s : State) : State.Spares p s (l.foldl f s) := by
  induction l generalizing s with
  | nil => exact .refl p s
  | cons b l ih => exact (h s b List.mem_cons_self).trans (ih (fun s b' hb' => h s b' (List.mem_cons_of_mem _ hb')) _)

theorem State.spares_deleteEntry {p q i : Nat} (hp : p < 8) (hq : q < 8) (hne : p ≠ q) (s : State) :
    State.Spares p s (s.deleteEntry q i) := by
  rw [State.deleteEntry, if_pos hq]
  exact ⟨fun hw => State.tables_wf_setTab hw _ _ _ _,
    fun hw i k hk => State.tab_setTab_ne hw _ (by omega) (by omega) (by decide) hk (.inl hne)⟩

theorem State.spares_unspread {p q : Nat} (hp : p < 8) (hq : q < 8) (hne : p ≠ q) (origin : Nat) (key : List Nat) (s : State) :
    State.Spares p s (s.unspread origin key q) := by
  unfold State.unspread
  split
  · split
    · exact State.spares_deleteEntry hp hq hne s
    · exact .refl p s
  · exact .refl p s

/-- The removal of copies leaves the table of their origin alone. -/
theorem State.spares_dropCopies {p : Nat} (hp : p < 8) (key : List Nat) (ps : List Nat) (hps : ∀ q ∈ ps, q < 8) :
    ∀ s : State, State.Spares p s (s.dropCopies p key ps) := by
  induction ps with
  | nil => exact fun s => .refl p s
  | cons q ps ih =>
    intro s
    refine State.Spares.trans ?_ (ih (fun q hq => hps q (List.mem_cons_of_mem _ hq)) _)
    split
    · exact .refl p s
    · next hne =>
      split
      · exact State.spares_of_tables rfl
      · exact State.spares_unspread hp (hps q List.mem_cons_self) (fun e => hne e.symm) p key s

/-! ### Deletions from one table -/

/-- Entries of a table made invalid, each counted. -/
def State.deleteEach (s : State) (p : Nat) (l : List Nat) : State := l.foldl (fun s i => (s.deleteEntry p i).count .tbl p 5) s

theorem State.tables_deleteEach {p : Nat} (hp : p < 8) (l : List Nat) : ∀ s : State, Store.wf 0 s.tables = true →
    Store.wf 0 (s.deleteEach p l).tables = true
      ∧ ∀ i k, k < 32 → (s.deleteEach p l).tab p i k = if k = 2 ∧ i ∈ l then setBitW (s.tab p i 2) 31 false else s.tab p i k := by
  induction l with
  | nil => exact fun s hw => ⟨hw, fun i k _ => (if_neg (by simp)).symm⟩
  | cons j l ih =>
    intro s hw
    let t := (s.deleteEntry p j).count .tbl p 5
    have ht : t = (s.deleteEntry p j).count .tbl p 5 := rfl
    have htables : t.tables = (s.setTab p j 2 (setBitW (s.tab p j 2) 31 false)).tables := by
      rw [ht, State.count_tables, State.deleteEntry, if_pos hp]
    have htw : Store.wf 0 t.tables = true := by
      rw [htables]
      exact State.tables_wf_setTab hw _ _ _ _
    have htab (i k : Nat) (hk : k < 32) : t.tab p i k = if k = 2 ∧ i = j then setBitW (s.tab p i 2) 31 false else s.tab p i k := by
      have heq : t.tab p i k = (s.setTab p j 2 (setBitW (s.tab p j 2) 31 false)).tab p i k := by
        rw [State.tab, State.tab, htables]
      rw [heq]
      split
      · next he =>
        obtain ⟨rfl, rfl⟩ := he
        exact State.tab_setTab_self hw _ _ _ _
      · next he => exact State.tab_setTab_ne hw _ (by omega) (by omega) (by decide) hk (.inr (Decidable.not_and_iff_not_or_not.mp he).symm)
    obtain ⟨hwf, hall⟩ := ih t htw
    refine ⟨hwf, fun i k hk => (hall i k hk).trans ?_⟩
    have hidem (w : Word) : setBitW (setBitW w 31 false) 31 false = setBitW w 31 false := by
      apply BitVec.eq_of_getLsbD_eq
      intro j hj
      simp only [getLsbD_setBitW _ _ _ hj]
      split <;> rfl
    rw [htab i k hk, htab i 2 (by decide)]
    by_cases hk2 : k = 2
    · subst hk2
      by_cases hij : i = j
      · subst hij
        simp [hidem]
      · simp [hij]
    · simp [hk2]

/-- The entries of a table that a selection takes. -/
def State.taken (s : State) (p : Nat) (sel : Nat → Bool) : List Nat := (s.macIndices p).filter fun i => s.tb p i 2 31 && sel i

theorem State.mem_macIndices {s : State} {p i : Nat} (hp : p < 8) (h : s.tab p i 2 ≠ 0) : i ∈ s.macIndices p := by
  obtain ⟨h1, h2, h3⟩ := tabKey_parts (t := p) (i := i) (w := 2) (by omega) (by decide)
  refine List.mem_map.mpr ⟨(tabKey p i 2, s.tab p i 2), List.mem_filter.mpr ⟨Store.mem_of_get_ne h, ?_⟩, h3⟩
  simp [h1, h2]

theorem State.mem_taken {s : State} {p i : Nat} (hp : p < 8) (sel : Nat → Bool) :
    i ∈ s.taken p sel ↔ bitW (s.tab p i 2) 31 = true ∧ sel i = true := by
  rw [State.taken, List.mem_filter, Bool.and_eq_true]
  refine ⟨fun h => h.2, fun h => ⟨State.mem_macIndices hp fun h0 => ?_, h⟩⟩
  rw [h0] at h
  exact absurd h.1 (by decide)

/-- A deletion from one table takes VALID from the entries selected and leaves the table's other words alone. -/
theorem State.tab_deleteAll {s : State} {p : Nat} (hp : p < 8) (hw : Store.wf 0 s.tables = true) (sel : State → Nat → Nat → Bool)
    {i k : Nat} (hk : k < 32) :
    (s.deleteAll [p] sel).tab p i k =
      if k = 2 ∧ bitW (s.tab p i 2) 31 = true ∧ sel s p i = true then setBitW (s.tab p i 2) 31 false else s.tab p i k := by
  have heq : s.deleteAll [p] sel = (s.deleteWhere p (sel s p)).2.foldl (fun s o => s.dropCopies o.1 o.2 (List.range 8))
      (s.deleteEach p (s.taken p (sel s p))) := rfl
  have horigin : ∀ o ∈ (s.deleteWhere p (sel s p)).2, o.1 = p := by
    intro o ho
    obtain ⟨i, -, rfl⟩ := List.mem_map.mp ho
    rfl
  obtain ⟨hwf, hall⟩ := State.tables_deleteEach hp (s.taken p (sel s p)) s hw
  have hspares := State.spares_foldl (p := p) (s.deleteWhere p (sel s p)).2
    (f := fun s o => s.dropCopies o.1 o.2 (List.range 8)) (fun s o ho => by
      rw [horigin o ho]
      exact State.spares_dropCopies hp o.2 _ (fun q hq => List.mem_range.mp hq) s) (s.deleteEach p (s.taken p (sel s p)))
  rw [heq, hspares.tab hwf i k hk, hall i k hk]
  simp only [State.mem_taken hp]

/-! ### Sweeps -/

theorem testBit_maskOf (n : Nat) (f : Nat → Bool) (j : Nat) : (maskOf n f).testBit j = (decide (j < n) && f j) := by
  induction n with
  | zero => simp [maskOf]
  | succ n ih =>
    have hstep : maskOf (n + 1) f = if f n then 2 ^ n + maskOf n f else maskOf n f := by
      simp only [maskOf, List.range_succ, List.filter_append, List.foldl_append]
      cases h : f n <;> simp [h, Nat.add_comm]
    have hlt := maskOf_lt n f
    rw [hstep]
    rcases Nat.lt_trichotomy j n with hj | rfl | hj
    · split
      · rw [Nat.testBit_two_pow_add_gt hj, ih]
        simp [hj, Nat.lt_succ_of_lt hj]
      · rw [ih]
        simp [hj, Nat.lt_succ_of_lt hj]
    · split
      · next h =>
        rw [Nat.testBit_two_pow_add_eq, Nat.testBit_lt_two_pow hlt]
        simp [h]
      · next h =>
        rw [Nat.testBit_lt_two_pow hlt]
        simp [h]
    · have hbig : n + 1 ≤ j := hj
      have hz : (if f n then 2 ^ n + maskOf n f else maskOf n f) < 2 ^ j := by
        have := Nat.pow_le_pow_right (n := 2) (by omega) hbig
        split <;> omega
      rw [Nat.testBit_lt_two_pow hz]
      simp [show ¬ j < n + 1 by omega]

/-- R128: the sweep of a table. -/
theorem flushSelects : Rules.FlushSelects := by
  intro s p hp hw hlt w selected t
  have htab (i k : Nat) (hk : k < 32) : t.tab p i k
      = if k = 2 ∧ bitW (s.tab p i 2) 31 = true ∧ s.flushes p i = true then setBitW (s.tab p i 2) 31 false else s.tab p i k :=
    State.tab_deleteAll hp hw (fun s p i => s.flushes p i) hk
  have hsel (i : Nat) : selected i ↔ bitW (s.tab p i 2) 31 = true ∧ s.flushes p i = true := by
    simp only [selected, State.flushes, w, Bool.and_eq_true, Bool.or_eq_true, decide_eq_true_eq, Bool.not_eq_true']
    simp only [State.flushAt, State.tf, at_, Nat.shiftLeft_eq]
    have himp (a b : Bool) : (a = true → b = true) ↔ b = true ∨ a = false := by cases a <;> cases b <;> simp
    have hfid (a : Bool) (q : Prop) : (a = true → q) ↔ a = false ∨ q := by cases a <;> simp
    have h16 : (2 : Nat) ^ 16 = 65536 := by decide
    have hne (n : Nat) (q : Prop) : (n ≠ 0 → q) ↔ n = 0 ∨ q :=
      ⟨fun h => (Decidable.em (n = 0)).imp_right h, fun h hn => h.resolve_left hn⟩
    rw [himp, hfid, hne, h16, and_assoc, and_assoc]
  refine ⟨?_, fun i => ⟨fun hs => ?_, fun k hk hn => ?_⟩⟩
  · have hplats : t.tbl.flushPlats = s.tbl.flushPlats ^^^ (s.tbl.flushPlats &&& maskOf 8 fun q => [p].contains q) := by
      have h := s.deleteAll_tbl [p] fun s p i => s.flushes p i
      have hflush : t.tbl.flushPlats = (s.deleteAll [p] fun s p i => s.flushes p i).tbl.flushPlats
          ^^^ ((s.deleteAll [p] fun s p i => s.flushes p i).tbl.flushPlats &&& maskOf 8 fun q => [p].contains q) := rfl
      rw [hflush, h]
    rw [hplats, bitOf, Nat.testBit_xor, Nat.testBit_and, testBit_maskOf]
    simp [hp]
  · rw [htab i 2 (by decide), if_pos ⟨rfl, (hsel i).mp hs⟩]
  · rw [htab i k hk, if_neg fun hc => hn hc.1 ((hsel i).mpr hc.2)]

/-- R143: the work that waited for a table. -/
theorem workMadeInOrder : Rules.WorkMadeInOrder := by
  intro s p
  refine ⟨fun h => if_pos h, fun h => ?_⟩
  have hwork : s.tableWork p = (if s.tbl.flushBusy && bitOf s.tbl.flushPlats p && !(s.plat p).delPend.contains .flush then [.flush] else [])
      ++ (s.plat p).delPend := by
    unfold State.tableWork State.flushOwes
    dsimp only
    split <;> rfl
  rw [State.catchUpTable, if_neg (by simp [h]), hwork]
  rfl

/-! ### The flush -/

/-- Work added to several Platforms' tables changes their Platforms alone. -/
def holdFlush (ps : List Plat) (p : Nat) : List Plat := ps.set p { (ps[p]?).getD {} with delPend := ((ps[p]?).getD {}).delPend ++ [.flush] }

theorem State.hold_foldl (l : List Nat) : ∀ s : State,
    l.foldl (fun s p => s.workLater p .flush) s = { s with plats := l.foldl holdFlush s.plats } := by
  induction l with
  | nil => exact fun s => rfl
  | cons p l ih => exact fun s => ih _

theorem State.stir_chipIdle (s : State) : ∃ c, s.stir = { s with ao := { s.ao with chipIdle := c } } := by
  unfold State.stir
  split
  · exact ⟨none, rfl⟩
  · exact ⟨s.ao.chipIdle, rfl⟩

theorem State.regs_startFlush (s : State) (w : Word) : (s.startFlush w).regs = s.regs := by
  obtain ⟨c, hc⟩ := s.stir_chipIdle
  rw [State.startFlush, State.hold_foldl, hc]

/-- A write of TBL_FLUSH with GO set stores the criteria that it names. -/
theorem completes_flush {s : State} {src : Src} (v : Word) (hs : s.takes src) :
    let w := (s.reg .tblFlush 0 &&& ~~~(0x78FF0FFF : Word)) ||| (v &&& 0x78FF0FFF)
    (s.tbl.flushBusy = true → completes (.flush src v) s (s.illegal .tbl 0x90 src 2))
      ∧ (s.tbl.flushBusy = false → completes (.flush src v) s ((s.startFlush w).setReg .tblFlush 0 w)) := by
  intro w
  have hv : Word.ofNat (setBitW v 31 true).toNat = setBitW v 31 true := by rw [Word.ofNat, BitVec.ofNat_toNat, BitVec.setWidth_eq]
  have he : exec (.flush src v) s = Machine.access (.flush src v) s (s.put src .tbl .normal 0x90 (setBitW v 31 true).toNat) := by
    rw [State.put, hv]
    rfl
  have hwr : Word.ofNat (RegId.tblFlush.writableBy src) = 0xF8FF0FFF := by cases src <;> decide
  have hput := completes_put (id := .tblFlush) (i := 0) he rfl hs rfl (by decide) (by decide) rfl rfl rfl
    (.inl (by rw [hwr, View.touched_normal]; decide))
  rw [hv] at hput
  let x := s.access src .tbl 0x90 .normal .tblFlush 0 (setBitW v 31 true)
  have hx : x = s.access src .tbl 0x90 .normal .tblFlush 0 (setBitW v 31 true) := rfl
  have hm : x.mask &&& Word.ofNat x.id.stored = 0x78FF0FFF := by
    have hmask : x.mask = 0xF8FF0FFF := (View.touched_normal (setBitW v 31 true) _).trans hwr
    rw [hmask]
    exact (by decide : (0xF8FF0FFF : Word) &&& Word.ofNat RegId.tblFlush.stored = 0x78FF0FFF)
  have hgo : bitW x.new 31 = true := by
    change (setBitW v 31 true).getLsbD 31 = true
    rw [getLsbD_setBitW _ _ _ (by decide), if_pos rfl]
  have hnew : x.new &&& 0x78FF0FFF = v &&& 0x78FF0FFF := by
    change setBitW v 31 true &&& 0x78FF0FFF = v &&& 0x78FF0FFF
    apply BitVec.eq_of_getLsbD_eq
    intro j hj
    rw [BitVec.getLsbD_and, BitVec.getLsbD_and, getLsbD_setBitW _ _ _ hj]
    split
    · next h =>
      subst h
      simp
    · rfl
  have hval (u : State) (hu : u.regs = s.regs) : x.value u = w := by
    rw [Access.value, hm, hnew, State.reg, hu]
    rfl
  have hact : x.act s = x.flush s := rfl
  refine ⟨fun hb => ?_, fun hb => ?_⟩
  · rw [hact, Access.flush, if_pos hgo, if_pos hb] at hput
    exact hput
  · have hregs : (s.startFlush w).regs = s.regs := State.regs_startFlush s w
    rw [hact, Access.flush, if_pos hgo, if_neg (by simp [hb]), hval s rfl, Access.store, hm, if_neg (by decide), hval _ hregs] at hput
    exact hput

/-- FLUSH_DONE: the tables that it can sweep now are swept, and the flush ends when none is left. -/
theorem State.flushStep_eq {s : State} (h : s.tbl.flushBusy = true) :
    let u := s.flushTables ((List.range 8).filter s.flushing)
    s.flushStep = if u.tbl.flushPlats = 0 then { u with tbl := { u.tbl with flushBusy := false } }.orReg .tblIntStat 0 4
      else { u with tbl := { u.tbl with flushBusy := true } } := by
  unfold State.flushStep
  rw [if_neg (by simp [h])]
  intro u
  by_cases hz : u.tbl.flushPlats = 0
  · rw [if_pos hz]
    simp [u, hz]
  · rw [if_neg hz]
    simp [u, hz]

/-- Tables that a flush sweeps. -/
theorem State.flushTables_tbl (s : State) (ps : List Nat) :
    (s.flushTables ps).tbl
      = { s.tbl with flushPlats := s.tbl.flushPlats ^^^ (s.tbl.flushPlats &&& maskOf 8 fun p => ps.contains p) } := by
  have h := s.deleteAll_tbl ps fun s p i => s.flushes p i
  unfold State.flushTables
  simp only [h]

theorem State.flushTables_nil (s : State) : s.flushTables [] = s := by
  have h0 : (maskOf 8 fun p => ([] : List Nat).contains p) = 0 := by decide
  unfold State.flushTables
  simp only [h0, Nat.and_zero, Nat.xor_zero]
  rfl

/-- R128, R143: the course of a flush. -/
theorem flushRuns : Rules.FlushRuns := by
  intro s src v w
  have wf : Instr.flushDone.wf = true := rfl
  have idle (hd : ∀ p, p < 8 → bitOf s.tbl.flushPlats p = true → s.tableWaits p = true) : (List.range 8).filter s.flushing = [] := by
    rw [List.filter_eq_nil_iff]
    intro p hp hf
    simp only [State.flushing, State.flushOwes, Bool.and_eq_true, Bool.not_eq_true'] at hf
    obtain ⟨⟨-, hbit⟩, hw⟩ := hf
    rw [hd p (List.mem_range.mp hp) hbit] at hw
    exact absurd hw (by decide)
  have done (hr : s.running = true) (hret : s.retained = false) (hb : s.tbl.flushBusy = true) : completes .flushDone s s.flushStep :=
    completes_event rfl rfl hr (by rw [hret, hb]; rfl)
  refine ⟨fun hs hb => (completes_flush v hs).1 hb, fun hs hb => ?_, fun hr hb hne hd => ?_, fun hr hret hb hz => ?_,
    fun hr hret hb hlt hd => ?_⟩
  · refine completes_of_bare ((completes_flush v hs).2 hb) ?_
    have hw : fld w 23 16 = fld v 23 16 := by
      refine fld_congr fun j h1 h2 => ?_
      have bits : ∀ j < 24, 16 ≤ j → (0x78FF0FFF : Word).getLsbD j = true := by decide
      simp only [w, BitVec.getLsbD_or, BitVec.getLsbD_and, BitVec.getLsbD_not, bits j (Nat.lt_succ_of_le h2) h1]
      simp
    obtain ⟨c, hc⟩ := s.stir_chipIdle
    rw [State.startFlush, State.hold_foldl, hc, State.flushHeld, hw]
    have hfold (u : State) := State.hold_foldl ((List.range 8).filter fun p => bitOf (fld v 23 16) p && s.tableWaits p) u
    have hwork : (fun (s : State) (p : Nat) => s.setPlat p { s.plat p with delPend := (s.plat p).delPend ++ [.flush] })
        = fun s p => s.workLater p .flush := rfl
    rw [hwork, hfold]
    rfl
  · cases hret : s.retained
    · have := done hr hret hb
      rw [State.flushStep_eq hb, idle hd, State.flushTables_nil, if_neg hne, ← hb] at this
      exact this
    · exact completes_not_event rfl rfl (by rw [hret]; rfl)
  · have := done hr hret hb
    rw [State.flushStep_eq hb, idle (fun p _ h => by simp [hz, bitOf] at h), State.flushTables_nil, if_pos hz] at this
    exact this
  · obtain ⟨t, ht, hbare, -⟩ := done hr hret hb
    refine ⟨t, ht, (State.bare_tbl hbare).trans ?_⟩
    have hz : s.tbl.flushPlats ^^^ (s.tbl.flushPlats &&& maskOf 8 fun p => ((List.range 8).filter s.flushing).contains p) = 0 := by
      apply Nat.eq_of_testBit_eq
      intro j
      rw [Nat.testBit_xor, Nat.testBit_and, testBit_maskOf, Nat.zero_testBit]
      cases hj : s.tbl.flushPlats.testBit j
      · rfl
      · have hj8 : j < 8 := by
          refine Nat.lt_of_not_le fun hge => ?_
          have h8 : 2 ^ 8 ≤ 2 ^ j := Nat.pow_le_pow_right (by omega) (by omega)
          rw [Nat.testBit_lt_two_pow (Nat.lt_of_lt_of_le hlt h8)] at hj
          exact absurd hj (by decide)
        have hf : s.flushing j = true := by
          simp only [State.flushing, State.flushOwes, hb, bitOf, hj, hd j hj8 hj]
          rfl
        simp [hj8, hf]
    have htbl := s.flushTables_tbl ((List.range 8).filter s.flushing)
    rw [hz] at htbl
    rw [State.flushStep_eq hb, if_pos (by rw [htbl]), State.orReg_tbl, htbl]

/-- Settles O21, by its three rules. -/
theorem flushes : Obligations.Flushes := ⟨flushRuns, flushSelects, workMadeInOrder⟩

end Sys2Proof.Machine

/-! PROOFS. The windows of the policing unit (R165, R166), gate schedules and Timetables (R158, R218), and the sampler (R228). -/

namespace Sys2Proof.Machine

/-! ### Policing windows -/

/-- PSF_WIN_CTRL stores its LIMIT alone. -/
theorem winCtrl_bits (src : Src) :
    Word.ofNat (RegId.psfWinCtrl.writableBy src) = 0xC000FFFF ∧ Word.ofNat RegId.psfWinCtrl.stored = 0xFFFF := by
  cases src <;> decide

/-- A write of PSF_WIN_CTRL that names one of its upper bits alone. -/
theorem completes_winCtrl {c : Instr} {s : State} {src : Src} {w : View} {k : Nat} (hk : k = 30 ∨ k = 31)
    (hw : w.touched (Word.ofNat (2 ^ k)) = Word.ofNat (2 ^ k))
    (he : exec c s = Machine.access c s (s.put src .psf w 0x44 (2 ^ k))) (hwf : c.wf = true) (hs : s.takes src) :
    completes c s
      (if bitW (w.apply (s.fullReg .psfWinCtrl 0) (Word.ofNat (2 ^ k))) 31 = true then
        (if k = 30 then s.setTest (bitW (w.apply (s.fullReg .psfWinCtrl 0) (Word.ofNat (2 ^ k))) 30) else s).openRecovery
      else if k = 30 then s.setTest (bitW (w.apply (s.fullReg .psfWinCtrl 0) (Word.ofNat (2 ^ k))) 30) else s) := by
  obtain ⟨hwr, hst⟩ := winCtrl_bits src
  have hne : Word.ofNat (2 ^ k) &&& 0xC000FFFF ≠ 0 := by rcases hk with rfl | rfl <;> decide
  have hnone : Word.ofNat (2 ^ k) &&& 0xC000FFFF &&& 0xFFFF = 0 := by rcases hk with rfl | rfl <;> decide
  have h30 : bitW (Word.ofNat (2 ^ k) &&& 0xC000FFFF) 30 = decide (k = 30) := by rcases hk with rfl | rfl <;> decide
  have hput := completes_put (id := .psfWinCtrl) (i := 0) he hwf hs rfl (by decide) (by decide) rfl rfl rfl
    (.inl (by rw [hwr, hw]; exact hne))
  let x := s.access src .psf 0x44 w .psfWinCtrl 0 (Word.ofNat (2 ^ k))
  have hx : x = s.access src .psf 0x44 w .psfWinCtrl 0 (Word.ofNat (2 ^ k)) := rfl
  have hmask : x.mask = Word.ofNat (2 ^ k) &&& 0xC000FFFF := by rw [hx, State.access, hwr, hw]
  have hstore : x.store s = s := by
    rw [Access.store, hmask]
    exact if_pos (by rw [← hnone]; exact congrArg (_ &&& ·) hst)
  have hact : x.act s = x.windows s := rfl
  rw [hact, Access.windows, hstore] at hput
  simp only [Access.names, hmask, h30, decide_eq_true_eq] at hput
  exact hput

theorem winCtrl_shows (s : State) : (s.fullReg .psfWinCtrl 0).getLsbD 31 = false := State.fullReg_wo rfl (by decide)

/-- Settles O25, by the writes of PSF_WIN_CTRL and the windows' instants. -/
theorem policingWindows : Obligations.PolicingWindows := by
  intro s src ms limit
  have hshow := winCtrl_shows s
  have recover (hs : s.takes src) : completes (.recoverGo src) s s.openRecovery := by
    have := completes_winCtrl (c := .recoverGo src) (w := .set) (k := 31) (.inr rfl) rfl rfl rfl hs
    have h31 : bitW (View.set.apply (s.fullReg .psfWinCtrl 0) (Word.ofNat (2 ^ 31))) 31 = true := by
      simp only [View.apply, bitW, BitVec.getLsbD_or, hshow]
      decide
    rw [if_pos h31] at this
    exact this
  have test (on : Bool) (hs : s.takes src) : completes (.testWindowSet src on) s (s.setTest on) := by
    have := completes_winCtrl (c := .testWindowSet src on) (w := if on then .set else .clr) (k := 30) (.inl rfl)
      (by cases on <;> rfl) rfl rfl hs
    have h30 : bitW ((if on then View.set else View.clr).apply (s.fullReg .psfWinCtrl 0) (Word.ofNat (2 ^ 30))) 30 = on := by
      cases on
      · simp only [Bool.false_eq_true, if_false, View.apply, bitW, BitVec.getLsbD_and, BitVec.getLsbD_not]
        rw [show (Word.ofNat (2 ^ 30)).getLsbD 30 = true by decide]
        simp
      · simp only [if_true, View.apply, bitW, BitVec.getLsbD_or]
        rw [show (Word.ofNat (2 ^ 30)).getLsbD 30 = true by decide, Bool.or_true]
    have h31 : bitW ((if on then View.set else View.clr).apply (s.fullReg .psfWinCtrl 0) (Word.ofNat (2 ^ 30))) 31 = false := by
      cases on
      · simp only [Bool.false_eq_true, if_false, View.apply, bitW, BitVec.getLsbD_and, hshow, Bool.false_and]
      · simp only [if_true, View.apply, bitW, BitVec.getLsbD_or, hshow]
        decide
    rw [if_neg (by rw [h31]; exact Bool.false_ne_true), if_pos rfl, h30] at this
    exact this
  have closes (t : Nat) (c : Instr) (u : State) (o : Option Nat) (ho : o = some t) (hr : s.running = true)
      (he : exec c s = event c (s.reached o) s u) (hw : c.wf = true) :
      (t ≤ s.fs → completes c s u) ∧ (s.fs < t → completes c s s) := by
    subst ho
    exact ⟨fun h => completes_event he hw hr (decide_eq_true h),
      fun h => completes_not_event he hw (decide_eq_false (Nat.not_le.mpr h))⟩
  refine ⟨fun hs h => ?_, fun hs h => ?_, fun hs h => ?_, fun hs h => ?_, fun hs => test false hs, fun hr => ⟨?_, ?_, ?_⟩⟩
  · have := recover hs
    rw [State.openRecovery, if_pos h] at this
    exact this
  · have := recover hs
    rw [State.openRecovery, if_neg h] at this
    exact this
  · have := test true hs
    rw [State.setTest, if_pos rfl, if_neg (by simp [h])] at this
    exact this
  · have := test true hs
    rw [State.setTest, if_pos rfl, if_pos (Option.isSome_iff_ne_none.mpr h)] at this
    exact this
  · exact fun t ht => closes t _ _ _ ht hr rfl rfl
  · exact fun t ht => closes t _ _ _ (by rw [ht]; rfl) hr rfl rfl
  · exact fun t ht => closes t _ _ _ ht hr rfl rfl

/-! ### Gate schedules and Timetables -/

section
variable {s : State} {g : GateSeq}

theorem State.startSeq_due {l : GateList} (hp : g.pend = some l) (h : s.started l s.fs = true) :
    s.startSeq g = some { g with run := some l, pend := none, past := s.ended (s.tbWhen l.tb l.start) g.run :: g.past } := by
  simp only [State.startSeq, hp, h, if_true]

theorem State.startSeq_waits {l : GateList} (hp : g.pend = some l) (h : s.started l s.fs = false) : s.startSeq g = none := by
  simp only [State.startSeq, hp, h, Bool.false_eq_true, if_false]

theorem State.startSeq_none (hp : g.pend = none) : s.startSeq g = none := by simp only [State.startSeq, hp]

end

/-- R158, R218: the start of a pending list. -/
theorem listsStart : Rules.ListsStart := by
  intro s n hr runs
  refine ⟨fun hn => ?_, fun hn => ?_⟩
  · have start : completes (.gateScheduleStart n) s (s.schedStart n) := completes_event rfl (decide_eq_true hn) hr rfl
    refine ⟨fun l hp => ⟨fun h => ?_, fun h => ?_⟩, fun hp => ?_⟩
    · rw [State.schedStart, State.startSeq_due hp h] at start
      exact start
    · rw [State.schedStart, State.startSeq_waits hp h] at start
      exact start
    · rw [State.schedStart, State.startSeq_none hp] at start
      exact start
  · have start : completes (.timetableStart n) s (s.ttStart n) :=
      completes_event rfl (by simpa [Instr.wf, isMac] using hn) hr rfl
    refine ⟨fun l hp => ⟨fun h => ?_, fun h => ?_⟩, fun hp => ?_⟩
    · rw [State.ttStart, State.startSeq_due hp h] at start
      exact start
    · rw [State.ttStart, State.startSeq_waits hp h] at start
      exact start
    · rw [State.ttStart, State.startSeq_none hp] at start
      exact start

/-- R217, R219: the record of a list that ran. -/
theorem listsRemembered : Rules.ListsRemembered := by
  intro s fs
  exact ⟨by rw [State.ended], fun l => by rw [State.ended]⟩

/-! ### The sampler -/

theorem State.putSample_epochs (i : Nat) (l : List Word) : ∀ (s : State) w, (s.putSample i w l).epochs = s.epochs := by
  induction l with
  | nil => exact fun s w => rfl
  | cons v l ih => exact fun s w => (ih _ _).trans (s.setReg_epochs _ _ _)

theorem State.setQueue_epochs (s : State) (e c : Nat) (q : Queue) : (s.setQueue e c q).epochs = s.epochs := s.modPort_epochs e _

theorem State.putSamples_epochs (l : List (Nat × Nat)) : ∀ (s : State) wr, (s.putSamples wr l).epochs = s.epochs := by
  induction l with
  | nil => exact fun s wr => rfl
  | cons x l ih =>
    obtain ⟨e, c⟩ := x
    intro s wr
    unfold State.putSamples
    generalize s.sampleWords e c = ws
    refine (ih _ _).trans ((State.setQueue_epochs ..).trans ?_)
    exact State.putSample_epochs _ ws s 0

/-- R228, R229: a sampling period's end. -/
theorem samplePeriods : Rules.SamplePeriods := by
  intro s hr next l wr held kept
  have sample (hd : s.sampleDue = true) : completes .samplePeriod s s.sample := completes_event rfl rfl hr hd
  refine ⟨fun hd => completes_not_event rfl rfl hd, fun hd h => ?_, fun hd h => ?_⟩
  · have hs : s.sample = (next.orReg .schSmpIdx 0 (2 ^ 31)).count .sch 0 6 := if_pos h
    rw [← hs]
    exact sample hd
  · have hs : s.sample = if kept.cfg.f .schSmpCtrl 0 27 16 ≤ held + l.length then kept.orReg .schIntStat 0 4 else kept :=
      if_neg (Nat.not_lt.mpr h)
    have hcfg : kept.cfg = s.cfg := by
      have : kept.epochs = s.epochs := (State.setRf_epochs ..).trans (State.putSamples_epochs l next wr)
      rw [State.cfg, State.cfg, this]
    rw [hcfg] at hs
    rw [← hs]
    exact sample hd

/-- Settles O26, by its three rules. -/
theorem schedulesAndSampler : Obligations.SchedulesAndSampler := ⟨listsStart, listsRemembered, samplePeriods⟩

end Sys2Proof.Machine

/-! PROOFS. The latency admission check (R244, R247, R249). -/

namespace Sys2Proof.Machine

/-! ### Stores: filters and lists of writes -/

section
variable {α : Type} [DecidableEq α] {d : α}

theorem Store.wfFrom_cons {lo : Option Nat} {k : Nat} {v : α} {r : Store α} :
    Store.wfFrom d lo ((k, v) :: r) = true ↔ (∀ l, lo = some l → l < k) ∧ v ≠ d ∧ Store.wfFrom d (some k) r = true := by
  cases lo <;> simp [Store.wfFrom, and_assoc]

theorem Store.wfFrom_lower {m : Store α} {l : Nat} {lo : Option Nat} (h : Store.wfFrom d (some l) m = true)
    (hl : ∀ l', lo = some l' → l' ≤ l) : Store.wfFrom d lo m = true := by
  cases m with
  | nil => rfl
  | cons e r =>
    obtain ⟨j, u⟩ := e
    obtain ⟨hlo, hu, hr⟩ := Store.wfFrom_cons.mp h
    exact Store.wfFrom_cons.mpr ⟨fun l' hl' => Nat.lt_of_le_of_lt (hl l' hl') (hlo l rfl), hu, hr⟩

theorem Store.wfFrom_filter {m : Store α} {lo : Option Nat} (f : Nat × α → Bool) (h : Store.wfFrom d lo m = true) :
    Store.wfFrom d lo (m.filter f) = true := by
  induction m generalizing lo with
  | nil => rfl
  | cons e r ih =>
    obtain ⟨j, u⟩ := e
    obtain ⟨hlo, hu, hr⟩ := Store.wfFrom_cons.mp h
    rw [List.filter_cons]
    split
    · exact Store.wfFrom_cons.mpr ⟨hlo, hu, ih hr⟩
    · exact Store.wfFrom_lower (ih hr) fun l' hl' => Nat.le_of_lt (hlo l' hl')

/-- Keys that a filter by key lets pass read the same. -/
theorem Store.get_filter {m : Store α} {lo : Option Nat} (p : Nat → Bool) {k : Nat} (hk : p k = true) (h : Store.wfFrom d lo m = true) :
    Store.get d (m.filter fun e => p e.1) k = Store.get d m k := by
  induction m generalizing lo with
  | nil => rfl
  | cons e r ih =>
    obtain ⟨j, u⟩ := e
    obtain ⟨hlo, hu, hr⟩ := Store.wfFrom_cons.mp h
    rw [List.filter_cons]
    split
    · simp only [Store.get, ih hr]
    · next hp =>
      have hne : k ≠ j := by
        rintro rfl
        exact hp hk
      rw [ih hr, Store.get, if_neg hne]
      split
      · next hlt => exact Store.get_of_wfFrom hr (Nat.le_of_lt hlt)
      · rfl

/-- A list of writes. -/
def Store.setAll (d : α) (m : Store α) (l : List (Nat × α)) : Store α := l.foldl (fun m e => Store.set d m e.1 e.2) m

theorem Store.wf_setAll {m : Store α} (h : m.wf d = true) (l : List (Nat × α)) : (Store.setAll d m l).wf d = true := by
  induction l generalizing m with
  | nil => exact h
  | cons e l ih => exact ih (Store.wf_set d m e.1 e.2 h)

theorem Store.get_setAll_ne {m : Store α} (h : m.wf d = true) {k : Nat} {l : List (Nat × α)} (hk : ∀ e ∈ l, e.1 ≠ k) :
    Store.get d (Store.setAll d m l) k = Store.get d m k := by
  induction l generalizing m with
  | nil => rfl
  | cons e l ih =>
    exact (ih (Store.wf_set d m e.1 e.2 h) fun e' he' => hk e' (List.mem_cons_of_mem _ he')).trans
      (Store.get_set_ne d m e.2 (hk e List.mem_cons_self).symm h)

/-- A key reads as what is written there, where every write to it writes the same. -/
theorem Store.get_setAll {m : Store α} (h : m.wf d = true) {k : Nat} {v : α} {l : List (Nat × α)} (hm : (k, v) ∈ l)
    (hk : ∀ e ∈ l, e.1 = k → e.2 = v) : Store.get d (Store.setAll d m l) k = v := by
  induction l generalizing m with
  | nil => exact absurd hm nofun
  | cons e l ih =>
    have hw := Store.wf_set d m e.1 e.2 h
    by_cases hl : ∃ e' ∈ l, e'.1 = k
    · obtain ⟨e', he', hke⟩ := hl
      have hv := hk e' (List.mem_cons_of_mem _ he') hke
      refine ih hw ?_ fun e hx => hk e (List.mem_cons_of_mem _ hx)
      rw [← hke, ← hv]
      exact he'
    · have hne : ∀ e' ∈ l, e'.1 ≠ k := fun e' he' hc => hl ⟨e', he', hc⟩
      have he : e = (k, v) := by
        rcases List.mem_cons.mp hm with rfl | hm
        · rfl
        · exact absurd rfl (hne _ hm)
      refine (Store.get_setAll_ne hw hne).trans ?_
      rw [he]
      exact Store.get_set_self d m k v h

end

/-! ### Lines of a check -/

theorem State.earlyReason_le (v : State) (ds : List Decl) (d : Decl) : v.earlyReason ds d ≤ 7 := by
  unfold State.earlyReason
  extract_lets
  repeat' split
  all_goals decide

theorem State.queueTimed_reason_le (v : State) (ds : List Decl) (e c : Nat) : (v.queueTimed ds e c).reason ≤ 9 := by
  have fold {f : Bound → Nat → Bound} (hf : ∀ b j, b.reason ≤ 9 → (f b j).reason ≤ 9) (l : List Nat) :
      ∀ b : Bound, b.reason ≤ 9 → (l.foldl f b).reason ≤ 9 := by
    induction l with
    | nil => exact fun b h => h
    | cons j l ih => exact fun b h => ih _ (hf b j h)
  unfold State.queueTimed
  extract_lets
  split
  · decide
  · refine fold (fun b j hb => ?_) _ _ (Nat.zero_le 9)
    split
    · exact hb
    · split
      · exact Nat.le_refl 9
      · exact Nat.zero_le 9

theorem State.queueUntimed_reason_le (v : State) (ds : List Decl) (e c : Nat) : (v.queueUntimed ds e c).reason ≤ 9 := by
  unfold State.queueUntimed
  extract_lets
  split
  · decide
  · exact Nat.zero_le 9

theorem State.gatedBound_reason_le (v : State) (rs : List RunTerms) (ms : List (Decl × List (Nat × Rat × Rat))) (d : Decl) :
    (v.gatedBound rs ms d).reason ≤ 9 := by
  unfold State.gatedBound
  extract_lets
  split
  · decide
  · exact Nat.zero_le 9

theorem State.boundOf_reason_le (v : State) (ds : List Decl) (d : Decl) : (v.boundOf ds d).reason ≤ 9 := by
  unfold State.boundOf
  extract_lets
  split
  · split
    · exact v.gatedBound_reason_le _ _ d
    · exact v.queueTimed_reason_le ds _ _
  · exact v.queueUntimed_reason_le ds _ _

theorem ite_le {p : Prop} [Decidable p] {a b n : Nat} (ha : a ≤ n) (hb : b ≤ n) : (if p then a else b) ≤ n := by
  split
  · exact ha
  · exact hb

/-- The lines of a check, each made from its declaration: its reason is one of R234. -/
theorem State.admLines_eq (v : State) (ds : List Decl) (poolsOver : Bool) :
    ∃ F : Decl → AdmLine, v.admLines ds poolsOver = ds.map F ∧ ∀ d, (F d).decl = d ∧ (F d).reason ≤ 14 := by
  refine ⟨_, List.map_map, fun d => ⟨rfl, ?_⟩⟩
  have hb : (if v.earlyReason ds d ≠ 0 then { reason := v.earlyReason ds d } else v.boundOf ds d : Bound).reason ≤ 9 := by
    split
    · exact Nat.le_trans (v.earlyReason_le ds d) (by decide)
    · exact v.boundOf_reason_le ds d
  exact ite_le (Nat.le_trans hb (by decide)) (ite_le (by decide) (ite_le (by decide) (ite_le (by decide) (ite_le (by decide)
    (ite_le (by decide) (by decide))))))

/-- The declarations judged are those staged, and a line depends on its declaration alone. -/
theorem State.admRun_eq (s : State) : ∃ F : Decl → AdmLine, s.admRun = (declList s.adm.decl).map F ∧ ∀ d, (F d).decl = d ∧ (F d).reason ≤ 14 :=
  State.admLines_eq _ _ _

theorem declList_declOf {m : Store Word} {d : Decl} (h : d ∈ declList m) : d = declOf m d.idx := by
  obtain ⟨e, -, rfl⟩ := List.mem_map.mp h
  rfl

/-- Lines of one index are one line. -/
theorem State.admRun_inj {s : State} {l l' : AdmLine} (h : l ∈ s.admRun) (h' : l' ∈ s.admRun) (hi : l'.decl.idx = l.decl.idx) : l' = l := by
  obtain ⟨F, hF, hdecl⟩ := s.admRun_eq
  rw [hF] at h h'
  obtain ⟨d, hd, rfl⟩ := List.mem_map.mp h
  obtain ⟨d', hd', rfl⟩ := List.mem_map.mp h'
  rw [(hdecl d).1, (hdecl d').1] at hi
  rw [declList_declOf hd', hi, ← declList_declOf hd]

/-- The verdict of a report's first word. -/
theorem State.admRun_verdict {s : State} (v : State) {l : AdmLine} (h : l ∈ s.admRun) :
    fld (((l.words v)[0]?).getD 0) 31 30 = if l.reason = 0 then 1 else 2 := by
  obtain ⟨F, hF, hdecl⟩ := s.admRun_eq
  rw [hF] at h
  obtain ⟨d, hd, rfl⟩ := List.mem_map.mp h
  have hr := (hdecl d).2
  have hh : (F d).decl.handle < 2 ^ 17 := by
    rw [(hdecl d).1, declList_declOf hd]
    exact Nat.mod_lt _ (by decide)
  have hg : b2n (F d).bound.gated < 2 := by cases (F d).bound.gated <;> decide
  change fld (Word.ofNat (at_ (if (F d).reason = 0 then 1 else 2) 30 + at_ (F d).reason 24 + at_ (b2n (F d).bound.gated) 23
    + (F d).decl.handle)) 31 30 = _
  simp only [at_, Nat.shiftLeft_eq]
  split
  · rw [fld_ofNat (by omega)]
    omega
  · rw [fld_ofNat (by omega)]
    omega

/-! ### Reports -/

/-- The words of a report set. -/
def reportWords (set : Nat) (v : State) (ls : List AdmLine) : List (Nat × Word) :=
  ls.flatMap fun l => (List.range 8).map fun w => ((set * 16384 + l.decl.idx) * 8 + w, ((l.words v)[w]?).getD 0)

/-- The other report set, kept. -/
def keptReport (set : Nat) (m : Store Word) : Store Word := m.filter fun e => decide (e.1 / 131072 ≠ set)

theorem State.setReport_eq (s : State) (set : Nat) (v : State) (ls : List AdmLine) :
    s.setReport set v ls
      = { s with adm := { s.adm with rpt := Store.setAll 0 (keptReport set s.adm.rpt) (reportWords set v ls) } } := by
  rw [Store.setAll, reportWords, List.foldl_flatMap]
  simp only [List.foldl_map]
  rfl

theorem keptReport_wf {m : Store Word} (set : Nat) (h : m.wf 0 = true) : (keptReport set m).wf 0 = true := Store.wfFrom_filter _ h

theorem mem_reportWords {set : Nat} {v : State} {ls : List AdmLine} {e : Nat × Word} :
    e ∈ reportWords set v ls ↔ ∃ l ∈ ls, ∃ w, w < 8 ∧ e = ((set * 16384 + l.decl.idx) * 8 + w, ((l.words v)[w]?).getD 0) := by
  simp only [reportWords, List.mem_flatMap, List.mem_map, List.mem_range]
  constructor
  · rintro ⟨l, hl, w, hw, rfl⟩
    exact ⟨l, hl, w, hw, rfl⟩
  · rintro ⟨l, hl, w, hw, rfl⟩
    exact ⟨l, hl, w, hw, rfl⟩

section
variable {s : State} {m : Store Word} (hw : m.wf 0 = true) (v : State) {set : Nat}
include hw

/-- A report set holds its lines. -/
theorem report_line (hidx : ∀ l ∈ s.admRun, l.decl.idx < 16384) {l : AdmLine} (hl : l ∈ s.admRun) {w : Nat} (hw8 : w < 8) :
    Store.get 0 (Store.setAll 0 (keptReport set m) (reportWords set v s.admRun)) ((set * 16384 + l.decl.idx) * 8 + w)
      = ((l.words v)[w]?).getD 0 := by
  refine Store.get_setAll (keptReport_wf set hw) (mem_reportWords.mpr ⟨l, hl, w, hw8, rfl⟩) fun e he hk => ?_
  obtain ⟨l', hl', w', hw', rfl⟩ := mem_reportWords.mp he
  dsimp only at hk ⊢
  have := hidx l hl
  have := hidx l' hl'
  rw [State.admRun_inj hl hl' (by omega), show w' = w by omega]

/-- The other set stays. -/
theorem report_other (hidx : ∀ l ∈ s.admRun, l.decl.idx < 16384) {other idx w : Nat} (hne : other ≠ set) (hi : idx < 16384) (hw8 : w < 8) :
    Store.get 0 (Store.setAll 0 (keptReport set m) (reportWords set v s.admRun)) ((other * 16384 + idx) * 8 + w)
      = Store.get 0 m ((other * 16384 + idx) * 8 + w) := by
  refine (Store.get_setAll_ne (keptReport_wf set hw) fun e he => ?_).trans ?_
  · obtain ⟨l, hl, w', hw', rfl⟩ := mem_reportWords.mp he
    have := hidx l hl
    dsimp only
    omega
  · exact Store.get_filter (fun k => decide (k / 131072 ≠ set)) (decide_eq_true (by omega)) hw

end

/-- The reports that a check leaves. -/
def State.reports (s : State) : Store Word :=
  let one := Store.setAll 0 (keptReport 1 s.adm.rpt) (reportWords 1 s.asStaged s.admRun)
  if (s.admRun.find? fun l => l.reason ≠ 0).isNone then
    Store.setAll 0 (keptReport 0 one) (reportWords 0 s.asStaged s.admRun)
  else one

/-- RESULT, REASON and FIRST. -/
def State.showResult (s : State) (res reason idx : Nat) : State :=
  ((s.setRf .schAdmStat 0 27 26 res).setRf .schAdmStat 0 19 16 reason).setRf .schAdmStat 0 13 0 idx

/-- PROVED, and the end of BUSY. -/
def State.endCheck (s : State) (ok : Bool) : State := (s.setRf .schAdmStat 0 30 30 (b2n ok)).setRf .schAdmStat 0 31 31 0

/-- The state with its new reports. -/
def State.reported (s : State) : State := { s with adm := { s.adm with rpt := s.reports } }

theorem State.admFinish_fails {s : State} {l : AdmLine} (h : s.admRun.find? (fun l => l.reason ≠ 0) = some l) :
    s.admFinish = (s.reported.showResult 2 l.reason l.decl.idx).endCheck false := by
  unfold State.admFinish
  simp only [h, State.setReport_eq]
  simp only [State.reported, State.reports, h]
  rfl

theorem State.admFinish_proves {s : State} (h : s.admRun.find? (fun l => l.reason ≠ 0) = none) :
    s.admFinish = (s.reported.showResult 1 0 0).endCheck s.adm.clean := by
  unfold State.admFinish
  simp only [h, State.setReport_eq]
  simp only [State.reported, State.reports, h]
  rfl

/-- R244, R247: the reports. -/
theorem checkReports : Rules.CheckReports := by
  intro s hrpt hdecl hidx word
  have hone := Store.wf_setAll (keptReport_wf 1 hrpt) (reportWords 1 s.asStaged s.admRun)
  have fails {l : AdmLine} (hl : l ∈ s.admRun) (hr : l.reason ≠ 0) : (s.admRun.find? fun l => l.reason ≠ 0).isNone = false := by
    rw [Option.isNone_eq_false_iff, List.find?_isSome]
    exact ⟨l, hl, decide_eq_true hr⟩
  have proves (h : ∀ x ∈ s.admRun, x.reason = 0) : (s.admRun.find? fun l => l.reason ≠ 0).isNone = true := by
    rw [Option.isNone_iff_eq_none, List.find?_eq_none]
    exact fun x hx => by simp [h x hx]
  have hfinish : s.admFinish.adm.rpt = s.reports := by
    cases h : s.admRun.find? fun l => l.reason ≠ 0 with
    | none => rw [State.admFinish_proves h]; rfl
    | some l => rw [State.admFinish_fails h]; rfl
  have hword (set idx w : Nat) : word set idx w = Store.get 0 s.reports ((set * 16384 + idx) * 8 + w) := by
    simp only [word, hfinish]
  refine ⟨fun l hl w hw => ⟨?_, fun h => ?_⟩, fun l hl hr idx w hi hw => ?_, fun l hl => State.admRun_verdict _ hl, ?_⟩
  · rw [hword, State.reports]
    split
    · rw [report_other hone s.asStaged hidx (by decide) (hidx l hl) hw]
      exact report_line hrpt s.asStaged hidx hl hw
    · exact report_line hrpt s.asStaged hidx hl hw
  · rw [hword, State.reports, if_pos (proves h)]
    exact report_line hone s.asStaged hidx hl hw
  · rw [hword, State.reports, fails hl hr]
    have := report_other hrpt s.asStaged (set := 1) (other := 0) hidx (by decide) hi hw
    rw [Nat.zero_mul, Nat.zero_add] at this ⊢
    exact this
  · obtain ⟨F, hF, hd⟩ := s.admRun_eq
    rw [hF, List.map_map]
    exact (List.map_congr_left fun d _ => (hd d).1).trans (List.map_id _)

/-- A write with GO set to a register whose access then makes `f`. -/
theorem completes_go {c : Instr} {s f : State} {src : Src} {b : Blk} {off v : Nat} {id : RegId} {i : Nat}
    (he : exec c s = Machine.access c s (s.put src b .normal off v)) (hw : c.wf = true) (hs : s.takes src) (hb : b.ok = true)
    (ho : off < 0x10000) (h4 : off % 4 = 0) (hr : s.regAt b off = some (id, i, false)) (hl : id.rwlMask = 0)
    (hg : groupOf id i = none) (hm : (Word.ofNat (id.writableBy src)).getLsbD 31 = true) (hgo : bitW (Word.ofNat v) 31 = true)
    (hact : (s.access src b off .normal id i (Word.ofNat v)).act s = if bitW (Word.ofNat v) 31 then f else s) : completes c s f := by
  have hmask : View.normal.touched (Word.ofNat v) &&& Word.ofNat (id.writableBy src) ≠ 0 := by
    rw [View.touched_normal]
    intro h
    rw [h] at hm
    exact absurd hm (by decide)
  have hput := completes_put he hw hs hb ho h4 hr hl hg (.inl hmask)
  rw [hact, if_pos hgo] at hput
  exact hput

/-- R244, R249: the course of a check. -/
theorem checkRuns : Rules.CheckRuns := by
  intro s src
  have start (hs : s.takes src) : completes (.check src) s (s.admStart src) :=
    completes_go (id := .schAdmCtrl) (i := 0) rfl rfl hs rfl (by decide) (by decide) rfl rfl rfl (by cases src <;> decide) (by decide) rfl
  have done (hr : s.running = true) (hb : s.rb .schAdmStat 0 31 = true) : completes .checkDone s s.admFinish :=
    completes_event rfl rfl hr hb
  refine ⟨fun hs hb => ?_, fun hs hb => ?_, fun hr hb => completes_not_event rfl rfl hb, fun hr hb => ?_⟩
  · have := start hs
    rw [State.admStart, if_pos hb] at this
    exact this
  · have := start hs
    rw [State.admStart, if_neg (by simp [hb])] at this
    exact this
  · have hreport {u : State} (h : s.admFinish = u) (hu : u.adm.rpt = s.reports) :
        ({ s with adm := { s.adm with rpt := s.admFinish.adm.rpt } } : State) = s.reported := by
      rw [h, hu]
      rfl
    refine ⟨fun l hl => ?_, fun h => ?_⟩
    · have hf := State.admFinish_fails hl
      dsimp only
      rw [hreport hf rfl]
      have := done hr hb
      rw [hf] at this
      exact this
    · have hnone : s.admRun.find? (fun l => l.reason ≠ 0) = none := List.find?_eq_none.mpr fun x hx => by simp [h x hx]
      have hf := State.admFinish_proves hnone
      dsimp only
      rw [hreport hf rfl]
      have := done hr hb
      rw [hf] at this
      exact this

/-- Settles O27, by its two rules. -/
theorem admissionCheck : Obligations.AdmissionCheck := ⟨checkRuns, checkReports⟩

end Sys2Proof.Machine

/-! PROOFS. Policing (R149 to R169), sequence recovery (R258 to R260) and the timers of the recovery functions (R261, R262). -/

namespace Sys2Proof.Machine

/-- An outcome of policing, by its flag. -/
theorem outcome_eq {α β γ : Type} {x : α × β × γ} {b : γ} (h : x.2.2 = b) : x = (x.1, x.2.1, b) := by
  subst h
  rfl

/-! ### Filters -/

section
variable {s t : State} {f g : Frame} {h m : Nat}

/-- A filter's meter that is not VALID passes every frame green. -/
theorem State.policeMeter_invalid (hv : bitW (s.psfWord f 0x14 m 0) 31 = false) :
    s.policeMeter f h m = (s, { f with colour := 0, metered := false }, true) := by
  simp [State.policeMeter, hv]

/-- A valid meter's colour decides. -/
theorem State.policeMeter_valid {c : Nat} (hv : bitW (s.psfWord f 0x14 m 0) 31 = true) (hx : s.meter f m = (t, c)) :
    s.policeMeter f h m =
      if c = 2 then ((t.countFilter h 2).count .psf f.plat 9, f, false)
      else if c = 1 ∧ bitW (t.psfWord f 0x14 m 0) 28 = true then ((t.countFilter h 2).count .psf f.plat 10, f, false)
      else (t, { f with colour := c, metered := true }, true) := by
  unfold State.policeMeter
  rw [if_neg (by rw [hv]; decide), hx]

/-- What an open gate lets through: the meter, where the filter names one. -/
def State.policeOpen (s : State) (f : Frame) (h : Nat) (w0 w1 : Word) : State × Frame × Bool :=
  if bitW w0 23 = true then
    ((s.policeMeter f h (fld w1 15 0)).1.countIf (s.policeMeter f h (fld w1 15 0)).2.2 .psf
      (s.policeMeter f h (fld w1 15 0)).2.1.plat 0, (s.policeMeter f h (fld w1 15 0)).2.1,
      (s.policeMeter f h (fld w1 15 0)).2.2)
  else (s.count .psf f.plat 0, f, true)

theorem State.policeOpen_unmetered {w0 w1 : Word} (h23 : bitW w0 23 = false) :
    s.policeOpen f h w0 w1 = (s.count .psf f.plat 0, f, true) := by
  simp [State.policeOpen, h23]

theorem State.policeOpen_metered {w0 w1 : Word} {ok : Bool} (h23 : bitW w0 23 = true)
    (hm : s.policeMeter f h (fld w1 15 0) = (t, g, ok)) : s.policeOpen f h w0 w1 = (t.countIf ok .psf g.plat 0, g, ok) := by
  simp only [State.policeOpen, h23, if_true, hm]

theorem State.policeOpen_dropped {w0 w1 : Word} (h23 : bitW w0 23 = true)
    (hm : s.policeMeter f h (fld w1 15 0) = (t, g, false)) : s.policeOpen f h w0 w1 = (t, g, false) := by
  rw [State.policeOpen_metered h23 hm, State.countIf, if_neg (by decide)]

theorem State.policeOpen_passed {w0 w1 : Word} (h23 : bitW w0 23 = true)
    (hm : s.policeMeter f h (fld w1 15 0) = (t, g, true)) : s.policeOpen f h w0 w1 = (t.count .psf g.plat 0, g, true) := by
  rw [State.policeOpen_metered h23 hm, State.countIf, if_pos rfl]

theorem State.policeMatched_blocked (hb : bitW (s.psfWord f 0x12 h 0) 25 = true) :
    s.policeMatched f h = (((s.countFilter h 0).countFilter h 1).count .psf f.plat 3, f, false) := by
  unfold State.policeMatched
  extract_lets w0 w1 c
  rw [if_pos hb]

theorem State.policeMatched_long (hb : bitW (s.psfWord f 0x12 h 0) 25 = false)
    (hl : fld (s.psfWord f 0x12 h 0) 13 0 ≠ 0 ∧ fld (s.psfWord f 0x12 h 0) 13 0 < f.len) :
    s.policeMatched f h =
      (((if bitW (s.psfWord f 0x12 h 0) 26 then (s.countFilter h 0).setLatch 0x12 h 0 25 else s.countFilter h 0).countFilter
        h 1).count .psf f.plat 4, f, false) := by
  unfold State.policeMatched
  extract_lets w0 w1 c
  rw [if_neg (by rw [hb]; decide), if_pos hl]

/-- The gate's judgement of a frame that its filter matched; a filter without a gate leaves it open. -/
def State.filterGate (s : State) (f : Frame) (h : Nat) : State × Frame × Bool :=
  if bitW (s.psfWord f 0x12 h 0) 24 then (s.countFilter h 0).gate f (fld (s.psfWord f 0x12 h 1) 28 16)
  else (s.countFilter h 0, f, true)

theorem State.filterGate_gated (h24 : bitW (s.psfWord f 0x12 h 0) 24 = true) :
    s.filterGate f h = (s.countFilter h 0).gate f (fld (s.psfWord f 0x12 h 1) 28 16) := by
  rw [State.filterGate, if_pos h24]

theorem State.filterGate_ungated (h24 : bitW (s.psfWord f 0x12 h 0) 24 = false) :
    s.filterGate f h = (s.countFilter h 0, f, true) := by
  rw [State.filterGate, if_neg (by rw [h24]; decide)]

theorem State.policeMatched_closed (hb : bitW (s.psfWord f 0x12 h 0) 25 = false)
    (hl : ¬ (fld (s.psfWord f 0x12 h 0) 13 0 ≠ 0 ∧ fld (s.psfWord f 0x12 h 0) 13 0 < f.len))
    (hg : s.filterGate f h = (t, g, false)) : s.policeMatched f h = (t.countFilter h 1, g, false) := by
  unfold State.filterGate at hg
  unfold State.policeMatched
  extract_lets w0 w1 c
  rw [if_neg (by rw [hb]; decide), if_neg hl, hg]
  exact if_pos (by decide)

theorem State.policeMatched_open (hb : bitW (s.psfWord f 0x12 h 0) 25 = false)
    (hl : ¬ (fld (s.psfWord f 0x12 h 0) 13 0 ≠ 0 ∧ fld (s.psfWord f 0x12 h 0) 13 0 < f.len))
    (hg : s.filterGate f h = (t, g, true)) :
    s.policeMatched f h = t.policeOpen g h (s.psfWord f 0x12 h 0) (s.psfWord f 0x12 h 1) := by
  unfold State.filterGate at hg
  unfold State.policeMatched
  extract_lets w0 w1 c
  rw [if_neg (by rw [hb]; decide), if_neg hl, hg]
  dsimp only
  rw [if_neg (by decide)]
  by_cases h23 : bitW w0 23 = true
  · rw [if_pos h23]
    exact (State.policeOpen_metered h23 rfl).symm
  · rw [if_neg h23]
    exact (State.policeOpen_unmetered (by simpa using h23)).symm

theorem State.filterGate_of_flag {b : Bool} (h24 : bitW (s.psfWord f 0x12 h 0) 24 = true)
    (hg : ((s.countFilter h 0).gate f (fld (s.psfWord f 0x12 h 1) 28 16)).2.2 = b) :
    s.filterGate f h = (((s.countFilter h 0).gate f (fld (s.psfWord f 0x12 h 1) 28 16)).1,
      ((s.countFilter h 0).gate f (fld (s.psfWord f 0x12 h 1) 28 16)).2.1, b) :=
  (State.filterGate_gated h24).trans (outcome_eq hg)

end

/-- R153: what passes the filter and its gate, judged by the meter. -/
theorem State.policeOpen_judged (g : State) (y : Frame) (h : Nat) (w0 w1 : Word) :
    let m := fld w1 15 0
    let x := g.meter y m
    let drop (t : State) (slot : Nat) : State := (t.countFilter h 2).count .psf y.plat slot
    (bitW w0 23 = false → g.policeOpen y h w0 w1 = (g.count .psf y.plat 0, y, true))
      ∧ (bitW w0 23 = true → bitW (g.psfWord y 0x14 m 0) 31 = false →
        g.policeOpen y h w0 w1 = (g.count .psf y.plat 0, { y with colour := 0, metered := false }, true))
      ∧ (bitW w0 23 = true → bitW (g.psfWord y 0x14 m 0) 31 = true →
        (x.2 = 2 → g.policeOpen y h w0 w1 = (drop x.1 9, y, false))
          ∧ (x.2 = 1 → bitW (x.1.psfWord y 0x14 m 0) 28 = true → g.policeOpen y h w0 w1 = (drop x.1 10, y, false))
          ∧ (x.2 ≠ 2 → (x.2 = 1 → bitW (x.1.psfWord y 0x14 m 0) 28 = false) →
            g.policeOpen y h w0 w1 = (x.1.count .psf y.plat 0, { y with colour := x.2, metered := true }, true))) := by
  intro m x drop
  rcases hx : g.meter y m with ⟨t, c⟩
  have hxe : x = (t, c) := hx
  clear_value x
  subst hxe
  refine ⟨State.policeOpen_unmetered, fun h23 hv => State.policeOpen_passed h23 (State.policeMeter_invalid hv),
    fun h23 hv => ?_⟩
  have judged := State.policeMeter_valid (h := h) hv hx
  dsimp only
  refine ⟨fun hc => ?_, fun hc h28 => ?_, fun hc hy => ?_⟩
  · rw [if_pos hc] at judged
    exact State.policeOpen_dropped h23 judged
  · rw [if_neg (by rw [hc]; decide), if_pos ⟨hc, h28⟩] at judged
    exact State.policeOpen_dropped h23 judged
  · rw [if_neg hc, if_neg (fun ⟨h1, h2⟩ => by simp [hy h1] at h2)] at judged
    exact State.policeOpen_passed h23 judged

theorem State.policeMatched_judged {s g : State} {f y : Frame} {h : Nat} (hb : bitW (s.psfWord f 0x12 h 0) 25 = false)
    (hl : ¬ (fld (s.psfWord f 0x12 h 0) 13 0 ≠ 0 ∧ fld (s.psfWord f 0x12 h 0) 13 0 < f.len))
    (hg : s.filterGate f h = (g, y, true)) :
    let w0 := s.psfWord f 0x12 h 0
    let m := fld (s.psfWord f 0x12 h 1) 15 0
    let x := g.meter y m
    let drop (t : State) (slot : Nat) : State := (t.countFilter h 2).count .psf y.plat slot
    (bitW w0 23 = false → s.policeMatched f h = (g.count .psf y.plat 0, y, true))
      ∧ (bitW w0 23 = true → bitW (g.psfWord y 0x14 m 0) 31 = false →
        s.policeMatched f h = (g.count .psf y.plat 0, { y with colour := 0, metered := false }, true))
      ∧ (bitW w0 23 = true → bitW (g.psfWord y 0x14 m 0) 31 = true →
        (x.2 = 2 → s.policeMatched f h = (drop x.1 9, y, false))
          ∧ (x.2 = 1 → bitW (x.1.psfWord y 0x14 m 0) 28 = true → s.policeMatched f h = (drop x.1 10, y, false))
          ∧ (x.2 ≠ 2 → (x.2 = 1 → bitW (x.1.psfWord y 0x14 m 0) 28 = false) →
            s.policeMatched f h = (x.1.count .psf y.plat 0, { y with colour := x.2, metered := true }, true))) := by
  rw [State.policeMatched_open hb hl hg]
  exact State.policeOpen_judged g y h _ _

/-- R150, R151: what a filter decides before it matches. -/
theorem State.police_found {s : State} {f : Frame} {h : Nat} (hs : f.stream = some h) (hr : f.replica = false) :
    s.police f =
      if s.capacity 0x12 ≤ h then (s.count .psf f.plat 2, f, false)
      else if ¬ bitW (s.psfWord f 0x12 h 0) 31 = true
          ∨ (bitW (s.psfWord f 0x12 h 0) 30 = true ∧ fld (s.psfWord f 0x12 h 0) 29 27 ≠ f.pcp) then
        (s.count .psf f.plat 1, f, true)
      else if (bitW (s.psfWord f 0x12 h 0) 24 = true ∧ s.capacity 0x13 ≤ fld (s.psfWord f 0x12 h 1) 28 16)
          ∨ (bitW (s.psfWord f 0x12 h 0) 23 = true ∧ s.capacity 0x14 ≤ fld (s.psfWord f 0x12 h 1) 15 0) then
        (s.count .psf f.plat 2, f, false)
      else s.policeMatched f h := by
  unfold State.police
  rw [hs]
  dsimp only
  rw [if_neg (by rw [hr]; decide)]

/-- R149 to R153, R169: policing. -/
theorem policing : Rules.Policing := by
  intro s f
  refine ⟨fun h => by simp only [State.police, h], fun h hstream => ?_⟩
  intro w0 w1 inert absent c long
  refine ⟨fun hr => by simp only [State.police, hstream, hr, if_true],
    fun hr hcap => (State.police_found hstream hr).trans (if_pos hcap), fun hr hcap => ?_⟩
  have hq := (State.police_found hstream hr).trans (if_neg (Nat.not_le.mpr hcap))
  simp only [Bool.not_eq_true] at hq
  refine ⟨fun hi => hq.trans (if_pos hi), fun hi ha => hq.trans ((if_neg hi).trans (if_pos ha)), fun hi ha => ?_⟩
  rw [hq.trans ((if_neg hi).trans (if_neg ha))]
  refine ⟨State.policeMatched_blocked, fun hb hl h26 => ?_, fun hb hl h26 => ?_,
    fun hb hl h24 hg => State.policeMatched_closed hb hl (State.filterGate_of_flag h24 hg),
    fun hb hl h24 h23 => ?_, fun hb hl hg => ?_⟩
  · rw [State.policeMatched_long hb hl, if_neg (by rw [h26]; decide)]
  · rw [State.policeMatched_long hb hl, if_pos h26]
  · rw [State.policeMatched_open hb hl (State.filterGate_ungated h24)]
    exact State.policeOpen_unmetered h23
  · have gated := State.filterGate_gated (s := s) (f := f) (h := h)
    generalize hx : c.gate f (fld w1 28 16) = x at hg ⊢
    obtain ⟨g, y, b⟩ := x
    intro open_
    rcases Bool.eq_false_or_eq_true (bitW w0 24) with h24 | h24
    · obtain rfl : b = true := hg h24
      rw [if_pos h24]
      exact State.policeMatched_judged hb hl ((gated h24).trans hx)
    · rw [if_neg (by rw [h24]; decide)]
      exact State.policeMatched_judged hb hl (State.filterGate_ungated h24)

/-! ### Gates -/

section
variable {s : State} {f : Frame} {g : Nat}

/-- A gate that is not VALID or is latched closed drops the frame. -/
theorem State.gate_dead (h : ¬ (bitW (s.psfWord f 0x13 g 0) 31 = true ∧ bitW (s.psfWord f 0x13 g 0) 24 = false
      ∧ bitW (s.psfWord f 0x13 g 0) 22 = false)) : s.gate f g = (s.count .psf f.plat 5, f, false) := by
  unfold State.gate
  extract_lets w0
  refine if_pos ?_
  cases h31 : bitW w0 31 <;> cases h24 : bitW w0 24 <;> cases h22 : bitW w0 22 <;> simp_all [w0]

/-- A gate that works and stands closed drops the frame, and latches where it is to. -/
theorem State.gate_shut (h : bitW (s.psfWord f 0x13 g 0) 31 = true ∧ bitW (s.psfWord f 0x13 g 0) 24 = false
      ∧ bitW (s.psfWord f 0x13 g 0) 22 = false) (hv : (s.gateView f g).isOpen = false) :
    s.gate f g
      = ((if bitW (s.psfWord f 0x13 g 0) 25 then s.setLatch 0x13 g 0 24 else s).count .psf f.plat 5, f, false) := by
  obtain ⟨h31, h24, h22⟩ := h
  unfold State.gate
  rw [if_neg (by rw [h31, h24, h22]; decide), if_pos (by rw [hv]; decide)]

/-- The class that an open gate gives a frame. -/
def GateView.classed (v : GateView) (f : Frame) : Frame := match v.ipv with | some c => { f with cls := some c } | none => f

/-- What an open gate's octet limit answers; an interval without one lets every frame through. -/
def State.gateLimit (s : State) (f : Frame) (g : Nat) (v : GateView) : State × Bool :=
  match v.entry with
  | some (cyc, i, w) => if bitOf w 26 then s.gateOctets f g (cyc, i) (bits w 23 0) else (s, true)
  | none => (s, true)

theorem State.gateLimit_none {v : GateView} (hn : ∀ cyc i w, v.entry = some (cyc, i, w) → bitOf w 26 = false) :
    s.gateLimit f g v = (s, true) := by
  rcases he : v.entry with _ | ⟨cyc, i, w⟩
  · rw [State.gateLimit, he]
  · rw [State.gateLimit, he]
    exact if_neg (by rw [hn cyc i w he]; decide)

theorem State.gateLimit_some {v : GateView} {cyc : Int} {i w : Nat} (he : v.entry = some (cyc, i, w))
    (hl : bitOf w 26 = true) : s.gateLimit f g v = s.gateOctets f g (cyc, i) (bits w 23 0) := by
  rw [State.gateLimit, he]
  exact if_pos hl

/-- A gate that works and stands open does what its octet limit answers. -/
theorem State.gate_open (h : bitW (s.psfWord f 0x13 g 0) 31 = true ∧ bitW (s.psfWord f 0x13 g 0) 24 = false
      ∧ bitW (s.psfWord f 0x13 g 0) 22 = false) (ho : (s.gateView f g).isOpen = true) {t : State} {ok : Bool}
    (hc : s.gateLimit f g (s.gateView f g) = (t, ok)) :
    s.gate f g = (t, if ok then (s.gateView f g).classed f else f, ok) := by
  obtain ⟨h31, h24, h22⟩ := h
  unfold State.gate
  rw [if_neg (by rw [h31, h24, h22]; decide), if_neg (by rw [ho]; decide)]
  change (match s.gateLimit f g (s.gateView f g) with
    | (t, ok) => (t, if ok then (s.gateView f g).classed f else f, ok)) = _
  rw [hc]

/-- The octet count with the tag of the present interval. -/
def State.tagged (s : State) (g : Nat) (iv : Int × Nat) : State :=
  if Store.get none s.psf.tags g = some iv then s
  else
    { s.setTab 0x13 g 2 0 with psf := { (s.setTab 0x13 g 2 0).psf with
        tags := Store.set none (s.setTab 0x13 g 2 0).psf.tags g (some iv) } }

theorem State.gateOctets_fits {u : State} {iv : Int × Nat} {most : Nat} (hu : s.tagged g iv = u)
    (hn : (u.tab 0x13 g 2).toNat + f.len ≤ most) :
    s.gateOctets f g iv most = (u.setTab 0x13 g 2 (Word.ofNat ((u.tab 0x13 g 2).toNat + f.len)), true) := by
  unfold State.tagged at hu
  unfold State.gateOctets
  rw [hu]
  exact if_neg (Nat.not_lt.mpr hn)

theorem State.gateOctets_over {u : State} {iv : Int × Nat} {most : Nat} (hu : s.tagged g iv = u)
    (hn : most < (u.tab 0x13 g 2).toNat + f.len) :
    s.gateOctets f g iv most
      = ((if bitW (u.psfWord f 0x13 g 0) 23 then u.setLatch 0x13 g 0 22 else u).count .psf f.plat 6, false) := by
  unfold State.tagged at hu
  unfold State.gateOctets
  rw [hu]
  exact if_pos hn

end

/-- The place in a cycle: the interval whose span holds it. -/
theorem entryAt_iff (entries : List (Nat × Nat)) : ∀ (pos k i w : Nat),
    entryAt pos entries k = some (i, w) ↔
      k ≤ i ∧ ∃ n, entries[i - k]? = some (n, w) ∧ ((entries.take (i - k)).map Prod.fst).sum ≤ pos
        ∧ pos < ((entries.take (i - k + 1)).map Prod.fst).sum := by
  induction entries with
  | nil => simp [entryAt]
  | cons e es ih =>
    intro pos k i w
    obtain ⟨n, x⟩ := e
    rw [entryAt]
    by_cases hp : pos < n
    · rw [if_pos hp]
      constructor
      · rintro ⟨⟩
        simp [hp]
      · rintro ⟨hk, m, hm, hs, -⟩
        rcases Nat.eq_zero_or_pos (i - k) with h0 | h0
        · rw [h0] at hm
          cases hm
          rw [show i = k by omega]
        · obtain ⟨j, hj⟩ : ∃ j, i - k = j + 1 := ⟨i - k - 1, by omega⟩
          simp only [hj, List.take_succ_cons, List.map_cons, List.sum_cons] at hs
          omega
    · rw [if_neg hp, ih]
      constructor
      · rintro ⟨hk, m, hm, hs, hu⟩
        obtain ⟨j, hj⟩ : ∃ j, i = k + 1 + j := ⟨i - (k + 1), by omega⟩
        subst hj
        rw [show k + 1 + j - (k + 1) = j by omega] at hm hs hu
        rw [show k + 1 + j - k = j + 1 by omega]
        refine ⟨by omega, m, hm, ?_, ?_⟩ <;>
          simp only [List.take_succ_cons, List.map_cons, List.sum_cons] <;> omega
      · rintro ⟨hk, m, hm, hs, hu⟩
        rcases Nat.eq_zero_or_pos (i - k) with h0 | h0
        · simp [h0] at hu
          omega
        · obtain ⟨j, hj⟩ : ∃ j, i = k + 1 + j := ⟨i - (k + 1), by omega⟩
          subst hj
          rw [show k + 1 + j - k = j + 1 by omega] at hm hs hu
          rw [show k + 1 + j - (k + 1) = j by omega]
          simp only [List.take_succ_cons, List.map_cons, List.sum_cons] at hs hu
          exact ⟨by omega, m, hm, by omega, by omega⟩

/-- R157, R161, R162, R168: a stream gate. -/
theorem streamGates : Rules.StreamGates := by
  refine ⟨fun s f g => ?_, fun entries pos i w => by simpa using entryAt_iff entries pos 0 i w⟩
  intro w0 v refused classed works
  refine ⟨State.gate_dead, State.gate_shut,
    fun hw ho => ⟨fun hn => State.gate_open hw ho (State.gateLimit_none hn), fun cyc i w he hl => ?_⟩⟩
  intro fresh z u n
  have hu : s.tagged g (cyc, i) = u := by
    simp only [State.tagged, u, fresh, z, decide_eq_true_eq]
    by_cases hf : Store.get none s.psf.tags g = some (cyc, i)
    · rw [if_pos hf, if_neg (not_not_intro hf)]
    · rw [if_neg hf, if_pos hf]
  exact ⟨fun hn => State.gate_open hw ho ((State.gateLimit_some he hl).trans (State.gateOctets_fits hu hn)),
    fun hn => State.gate_open hw ho ((State.gateLimit_some he hl).trans (State.gateOctets_over hu hn))⟩

/-! ### Meters -/

section
variable {s t u : State} {f : Frame} {m : Nat}

theorem State.meter_latched (ht : s.refill f m (instantNs f.instant) = t) (h26 : bitW (t.psfWord f 0x14 m 0) 26 = true) :
    s.meter f m = (t.count .psf f.plat 11, 2) := by
  unfold State.meter
  rw [ht]
  exact if_pos h26

/-- R163: a meter that is not latched judges a frame by what it makes of its colour and by its buckets. -/
theorem State.meter_judged {colour : Nat} (ht : s.refill f m (instantNs f.instant) = t)
    (h26 : bitW (t.psfWord f 0x14 m 0) 26 = false)
    (hu : t.countIf (bitW (t.psfWord f 0x14 m 0) 29 && f.blind) .psf f.plat 12 = u)
    (hc : (if bitW (t.psfWord f 0x14 m 0) 29 && !f.blind then f.colour else 0) = colour) :
    s.meter f m =
      if colour = 0 ∧ f.len * 256 ≤ (u.tab 0x14 m 4).toNat then
        ((u.setTab 0x14 m 4 (Word.ofNat ((u.tab 0x14 m 4).toNat - f.len * 256))).count .psf f.plat 7, 0)
      else if colour ≠ 2 ∧ f.len * 256 ≤ (u.tab 0x14 m 5).toNat then
        ((u.setTab 0x14 m 5 (Word.ofNat ((u.tab 0x14 m 5).toNat - f.len * 256))).count .psf f.plat 8, 1)
      else (if bitW (t.psfWord f 0x14 m 0) 27 then u.setLatch 0x14 m 0 26 else u, 2) := by
  unfold State.meter
  rw [ht, if_neg (by rw [h26]; decide)]
  dsimp only
  rw [hu, hc]

end

/-- R163: a meter's judgement. -/
theorem metering : Rules.Metering := by
  intro s f m t w0 aware u colour need green yellow
  have hu : t.countIf (aware && f.blind) .psf f.plat 12 = u := by
    simp only [State.countIf, u, Bool.and_eq_true]
  have hc : (if aware && !f.blind then f.colour else 0) = colour := by
    simp only [colour, Bool.and_eq_true, Bool.not_eq_true']
  clear_value u colour
  refine ⟨State.meter_latched rfl, fun h26 => ?_⟩
  have judged := State.meter_judged (s := s) rfl h26 hu hc
  exact ⟨fun hg => judged.trans (if_pos hg), fun hg hy => judged.trans ((if_neg hg).trans (if_pos hy)),
    fun hg hy => judged.trans ((if_neg hg).trans (if_neg hy))⟩

/-! ### Sequence recovery -/

section
variable {s : State} {p fn n : Nat} {d : Int} {h : Nat}

/-- R258: a frame without a sequence number. -/
theorem State.recover_none (s : State) (p fn : Nat) : (s.recover p fn none).2 = (s.countRcv fn 5 1).tb 0x15 fn 2 29 := by
  rw [State.recover]
  by_cases ht : (s.countRcv fn 5 1).tb 0x15 fn 2 29 = true
  · rw [if_pos ht, ht]
  · rw [if_neg ht, Bool.of_not_eq_true ht]

theorem State.rcvVector_any (ha : s.tb 0x15 fn 5 31 = true) :
    s.rcvVector p fn n = (((s.setRecSeq fn n).setRcvHist fn 1).rcvAccept p fn, true) := by
  unfold State.rcvVector
  exact if_pos ha

variable (ha : s.tb 0x15 fn 5 31 = false) (hd : seqDiff n (s.tf 0x15 fn 5 15 0) = d)
  (hh : min (max (s.tf 0x15 fn 2 6 0) 2) 64 = h)
include ha hd hh

theorem State.rcvVector_outside (ho : (h : Int) ≤ d ∨ d ≤ -(h : Int)) :
    s.rcvVector p fn n = ((s.countRcv fn 3 1).count .red p 4, false) := by
  unfold State.rcvVector
  rw [if_neg (by rw [ha]; decide), hd, hh]
  exact if_pos ho

theorem State.rcvVector_seen (ho : ¬ ((h : Int) ≤ d ∨ d ≤ -(h : Int))) (h0 : d ≤ 0)
    (hb : bitOf (s.rcvHist fn) (-d).toNat = true) :
    s.rcvVector p fn n = ((s.countRcv fn 1 1).count .red p 3, false) := by
  unfold State.rcvVector
  rw [if_neg (by rw [ha]; decide), hd, hh]
  exact (if_neg ho).trans ((if_pos h0).trans (if_pos hb))

theorem State.rcvVector_new (ho : ¬ ((h : Int) ≤ d ∨ d ≤ -(h : Int)))
    (hb : ¬ (d ≤ 0 ∧ bitOf (s.rcvHist fn) (-d).toNat = true)) : (s.rcvVector p fn n).2 = true := by
  unfold State.rcvVector
  rw [if_neg (by rw [ha]; decide), hd, hh]
  dsimp only
  rw [if_neg ho]
  by_cases h0 : d ≤ 0
  · rw [if_pos h0, if_neg fun h => hb ⟨h0, h⟩]
  · rw [if_neg h0]

end

section
variable {s : State} {p fn n : Nat}

theorem State.rcvMatch_any (ha : s.tb 0x15 fn 5 31 = true) :
    s.rcvMatch p fn n = ((s.setRecSeq fn n).rcvAccept p fn, true) := by
  unfold State.rcvMatch
  exact if_pos ha

variable {d : Int} (ha : s.tb 0x15 fn 5 31 = false) (hd : seqDiff n (s.tf 0x15 fn 5 15 0) = d)
include ha hd

theorem State.rcvMatch_same (h0 : d = 0) : s.rcvMatch p fn n = ((s.countRcv fn 1 1).count .red p 3, false) := by
  unfold State.rcvMatch
  rw [if_neg (by rw [ha]; decide), hd]
  exact if_pos h0

theorem State.rcvMatch_other (h0 : d ≠ 0) :
    s.rcvMatch p fn n = (((if d = 1 then s else s.countRcv fn 2 1).setRecSeq fn n).rcvAccept p fn, true) := by
  unfold State.rcvMatch
  rw [if_neg (by rw [ha]; decide), hd]
  exact if_neg h0

end

/-- R258, R259, R260: what a recovery function lets pass. -/
theorem sequencesRecovered : Rules.SequencesRecovered := by
  intro s p fn n _ len any d seen outside vector
  refine ⟨State.recover_none s p fn, fun h30 => ?_, fun h30 => ?_⟩
  · have hv : vector = s.rcvVector p fn n := if_neg (by rw [h30]; decide)
    clear_value vector
    subst hv
    have gone (ha : any = false) (ho : outside) := State.rcvVector_outside (p := p) ha rfl rfl ho
    have old (ha : any = false) (ho : ¬ outside) (hs : seen) := State.rcvVector_seen (p := p) ha rfl rfl ho hs.1 hs.2
    refine ⟨fun ha => congrArg Prod.snd (State.rcvVector_any ha), fun ha => ⟨fun h2 => ⟨fun ho => ?_, fun hs => ?_⟩,
      fun ⟨ho, hs⟩ => State.rcvVector_new ha rfl rfl ho hs⟩, fun ha ho => congrArg Prod.fst (gone ha ho),
      fun ha ho hs => congrArg Prod.fst (old ha ho hs), fun ha => congrArg Prod.fst (State.rcvVector_any ha)⟩
    · rw [gone ha ho] at h2
      cases h2
    · by_cases ho : outside
      · rw [gone ha ho] at h2
        cases h2
      · rw [old ha ho hs] at h2
        cases h2
  · have hv : vector = s.rcvMatch p fn n := if_pos h30
    clear_value vector
    subst hv
    have same (ha : any = false) (h0 : d = 0) := State.rcvMatch_same (p := p) ha rfl h0
    have other (ha : any = false) (h0 : d ≠ 0) := State.rcvMatch_other (p := p) ha rfl h0
    refine ⟨⟨fun h2 => ?_, fun h => ?_⟩, fun ha h0 => congrArg Prod.fst (same ha h0), fun h => ?_, fun ha h0 h1 => ?_⟩
    · rcases Bool.eq_false_or_eq_true any with ha | ha
      · exact .inl ha
      · refine .inr fun h0 => ?_
        rw [same ha h0] at h2
        cases h2
    · rcases Bool.eq_false_or_eq_true any with ha | ha
      · rw [State.rcvMatch_any ha]
      · rw [other ha (h.resolve_left (by rw [ha]; decide))]
    · rcases Bool.eq_false_or_eq_true any with ha | ha
      · rw [State.rcvMatch_any ha]
      · have h1 : d = 1 := h.resolve_left (by rw [ha]; decide)
        rw [other ha (by rw [h1]; decide), if_pos h1]
    · rw [other ha h0, if_neg h1]

/-! ### Timers -/

/-- R261: the reset of a recovery function. -/
theorem recoveryReset : Rules.RecoveryReset := by
  intro s fn hr hfn
  have he : exec (.recoveryReset fn) s = event (.recoveryReset fn) (s.rcvLive fn && s.resetDue fn) s (s.resetRcv fn) := rfl
  refine ⟨fun h1 h2 => completes_event he (decide_eq_true hfn) hr (by rw [h1, h2]; rfl),
    fun h => completes_not_event he (decide_eq_true hfn) ?_⟩
  rcases h with h | h <;> simp [h]

section
variable {s : State} {fn : Nat}

/-- R262: the bases of a latent error test moved on, and taken again when its period is over. -/
def State.latentRest (s : State) (fn : Nat) : State :=
  let u := s.setTab 0x15 fn 9 (Word.ofNat ((s.tab 0x15 fn 9).toNat + max (s.tf 0x15 fn 4 31 16) 1))
  if ms32 u.monoMs (u.tab 0x15 fn 10).toNat < 2 ^ 31 then
    let v := u.setTab 0x15 fn 11 (u.tab 0x15 fn 16)
    let v := v.setTab 0x15 fn 12 (v.tab 0x15 fn 18)
    (v.setTab 0x15 fn 10 (Word.ofNat (v.monoMs + v.tf 0x15 fn 4 15 0))).countRcv fn 7 1
  else u

/-- R262: what a latent error test finds. -/
def State.latentError (s : State) (fn : Nat) : Prop :=
  ((ms32 (s.tab 0x15 fn 16).toNat (s.tab 0x15 fn 11).toNat * (s.tf 0x15 fn 2 23 20 - 1) : Nat) : Int)
    - ((ms32 (s.tab 0x15 fn 18).toNat (s.tab 0x15 fn 12).toNat : Nat) : Int) > (s.tf 0x15 fn 3 15 0 : Nat)

theorem State.count_tb (b : CntBank) (u i t j w k : Nat) : (s.count b u i).tb t j w k = s.tb t j w k := by
  simp only [State.tb, State.tab, State.count_tables]

theorem State.latentTest_sound (h : ¬ s.latentError fn) : s.latentTest fn = s.latentRest fn := by
  exact congrArg (fun t => State.latentRest t fn) (if_neg h)

theorem State.latentTest_known (h : s.latentError fn) (h30 : s.tb 0x15 fn 5 30 = true) :
    s.latentTest fn = (s.count .red 0 13).latentRest fn := by
  exact congrArg (fun t => State.latentRest t fn) ((if_pos h).trans (if_pos ((State.count_tb ..).trans h30)))

theorem State.latentTest_new (h : s.latentError fn) (h30 : s.tb 0x15 fn 5 30 = false) :
    s.latentTest fn = State.latentRest
      (((s.count .red 0 13).setTab 0x15 fn 5 (setBitW ((s.count .red 0 13).tab 0x15 fn 5) 30 true)).postEvent .redEvtIdx
        .redEvt (Word.ofNat (at_ 8 28 + fn))) fn := by
  exact congrArg (fun t => State.latentRest t fn)
    ((if_pos h).trans (if_neg (by rw [State.count_tb, h30]; decide)))

end

/-- R262: the latent error test. -/
theorem latentErrorTest : Rules.LatentErrorTest := by
  intro s fn hr hfn passed gone error rest c
  have he : exec (.latentErrorTest fn) s
      = event (.latentErrorTest fn) (s.rcvLive fn && s.latentDue fn) s (s.latentTest fn) := rfl
  have hw : (Instr.latentErrorTest fn).wf = true := decide_eq_true hfn
  refine ⟨fun h => completes_not_event he hw (by rcases h with h | h <;> simp [h]), fun h1 h2 => ?_⟩
  have h := completes_event he hw hr (by rw [h1, h2]; rfl)
  refine ⟨fun hn => ?_, fun hn h30 => ?_, fun hn h30 => ?_⟩
  · rw [State.latentTest_sound hn] at h
    exact h
  · rw [State.latentTest_known hn h30] at h
    exact h
  · rw [State.latentTest_new hn h30] at h
    exact h

/-- Settles O28: stage 6 and stage 7 decided case by case, and the timers of the recovery functions. -/
theorem recoveryFunctions : Obligations.RecoveryFunctions :=
  ⟨policing, streamGates, metering, sequencesRecovered, recoveryReset, latentErrorTest⟩

end Sys2Proof.Machine

/-! PROOFS. Frames taken from the Coupler (R272 to R275, R279, R281, R284) and the time bases (R290 to R295). -/

namespace Sys2Proof.Machine

/-! ### A Coupler frame, sound or not -/

section
variable {s : State} {b : List Byte} {h : CplHdr} {p : List Byte} {type : Nat → Bool} {f : CplHdr → List Byte → State}

theorem State.cplTake_bad (hb : cplParse b = none) : s.cplTake b type f = s.cplBad b := by rw [State.cplTake, hb]

theorem State.cplTake_other (hb : cplParse b = some (h, p)) (ht : type h.type = false) : s.cplTake b type f = s := by
  rw [State.cplTake, hb]
  exact if_neg (by rw [ht]; decide)

theorem State.cplTake_own (hb : cplParse b = some (h, p)) (ht : type h.type = true) : s.cplTake b type f = f h p := by
  rw [State.cplTake, hb]
  exact if_pos ht

end

section
variable {s : State} {b : List Byte}

theorem completes_healthFrame (hr : s.running = true) (hp : s.pairedCfg = true) (hl : s.red.cplLink = true) :
    completes (.healthFrameReceive b) s (s.cplTake b (· = 0) fun _ p => s.takeHealth p) :=
  completes_event rfl rfl hr (by rw [hp, hl]; rfl)

theorem completes_haltNotice (hr : s.running = true) (hp : s.pairedCfg = true) :
    completes (.haltNoticeReceive b) s (s.cplTake b (· = 1) fun _ _ => s.takeHaltNotice) :=
  completes_event rfl rfl hr hp

theorem completes_couplerFrame (hr : s.running = true) (hl : s.red.cplLink = true) :
    completes (.couplerFrameReceive b) s (s.cplTake b (fun t => t = 2 || t = 3) fun h p => s.takeCpl h p) :=
  completes_event rfl rfl hr hl

/-- A reset request is heard by a powered member, be it halted or not. -/
theorem completes_resetRequest (hr : s.powered = true) (hp : s.pairedCfg = true) :
    completes (.resetRequestReceive b) s (s.hearRequest b) :=
  completes_answer rfl rfl (by rw [hr, hp]; rfl)

theorem State.hearRequest_now (hd : s.faultDue = false) : s.hearRequest b = s.resetRequest b := by
  rw [State.hearRequest, if_neg (by rw [hd]; decide)]

end

theorem State.powered_of_running {s : State} (h : s.running = true) : s.powered = true := by
  simp only [State.running, State.awake, Bool.and_eq_true] at h
  exact h.1.1

theorem State.cplBad_eq (s : State) (b : List Byte) :
    s.cplBad b = if cplType b = 0 then { s.count .red 0 9 with red := { s.red with seen := 0, goodCount := 0 } }
      else s.count .red 0 9 := by
  rw [State.cplBad, State.count_red]

/-- Settles O29: a frame that cplParse refuses is dropped and counted by all four commands. -/
theorem badCouplerFrames : Obligations.BadCouplerFrames := by
  intro s b hb hr hp hl c t
  have ht : s.cplBad b = t := s.cplBad_eq b
  rw [← ht]
  have health := completes_healthFrame (b := b) hr hp hl
  have halt := completes_haltNotice (b := b) hr hp
  have frame := completes_couplerFrame (b := b) hr hl
  have request := completes_resetRequest (b := b) (State.powered_of_running hr) hp
  rw [State.cplTake_bad hb] at health halt frame
  refine ⟨health, halt, frame, fun hd => ?_⟩
  rw [State.hearRequest_now hd, State.resetRequest, State.cplTake_bad hb] at request
  exact request

section
variable {s : State}

theorem State.takeHaltNotice_idle (h : s.red.state = 0 ∨ (s.red.state = 1 ∧ s.red.stateSince ≠ s.fs)) :
    s.takeHaltNotice = s.orReg .redIntStat 0 2 := by
  rw [← s.orReg_red .redIntStat 0 2, ← s.orReg_fs .redIntStat 0 2] at h
  exact if_pos h

theorem State.takeHaltNotice_moves (h0 : s.red.state ≠ 0) (h1 : s.red.state = 1 → s.red.stateSince = s.fs) :
    s.takeHaltNotice = { (s.orReg .redIntStat 0 2).setTwin 4 with
      red := { ((s.orReg .redIntStat 0 2).setTwin 4).red with seen := 0 } } := by
  rw [← s.orReg_red .redIntStat 0 2] at h0
  rw [← s.orReg_red .redIntStat 0 2, ← s.orReg_fs .redIntStat 0 2] at h1
  exact if_neg (not_or.mpr ⟨h0, fun ⟨ha, hb⟩ => hb (h1 ha)⟩)

end

/-- R273 to R275, R281: sound Coupler frames. -/
theorem soundCouplerFrames : Rules.SoundCouplerFrames := by
  intro s b h p hb hr hp hl
  have health := completes_healthFrame (b := b) hr hp hl
  have halt := completes_haltNotice (b := b) hr hp
  have frame := completes_couplerFrame (b := b) hr hl
  refine ⟨fun ht => ?_, fun ht => ?_, fun ht => ?_, fun ht => ?_, fun h2 h3 => ?_, fun ht => ?_⟩
  · rw [State.cplTake_other hb (decide_eq_false ht)] at health
    exact health
  · rw [State.cplTake_own hb (decide_eq_true ht)] at health
    exact health
  · rw [State.cplTake_other hb (decide_eq_false ht)] at halt
    exact halt
  · rw [State.cplTake_own hb (decide_eq_true ht)] at halt
    refine ⟨fun hno => ?_, fun h0 h1 => ?_⟩
    · rw [State.takeHaltNotice_idle hno] at halt
      exact halt
    · rw [State.takeHaltNotice_moves h0 h1] at halt
      exact halt
  · rw [State.cplTake_other hb (by simp [h2, h3])] at frame
    exact frame
  · rw [State.cplTake_own hb (by simpa using ht)] at frame
    exact frame

/-- R452 to R454: a Coupler frame for a Platform that is not in Run. -/
theorem couplerFrameAsleep : Rules.CouplerFrameAsleep := by
  intro s b h p hb hr hl ht plat hrun
  have frame := completes_couplerFrame (b := b) hr hl
  rw [State.cplTake_own hb (by simpa using ht), State.takeCpl, if_pos hrun] at frame
  exact frame

/-- R284, R286: reset requests at a halted member. -/
theorem resetRequests : Rules.ResetRequests := by
  intro s b h p hb hpow hp
  have request := completes_resetRequest (b := b) hpow hp
  refine ⟨fun hd ht hh hbase hnode hmax => ?_, fun hd hno => ?_, fun x hx hw => ?_⟩
  · have ha : s.acceptsReset p = true := by simp [State.acceptsReset, hh, hbase, hnode, hmax]
    rw [State.hearRequest_now hd, State.resetRequest, State.cplTake_own hb (decide_eq_true ht), if_pos ha] at request
    exact request
  · rw [State.hearRequest_now hd, State.resetRequest] at request
    by_cases ht : h.type = 4
    · rw [State.cplTake_own hb (decide_eq_true ht), if_neg (by rw [hno.resolve_left (not_not_intro ht)]; decide)] at request
      exact request
    · rw [State.cplTake_other hb (decide_eq_false ht)] at request
      exact request
  · have hd : s.faultDue = true := by rw [State.faultDue, hx]; simp [hw]
    rw [State.hearRequest, if_pos hd, hx] at request
    exact request

/-! ### Time bases -/

section
variable {s : State} {j k : Nat} {v trim : Int}

theorem State.tbSegs_setSeg_self (hk : k < s.time.tbs.length) :
    (s.setSeg k v trim).tbSegs k = { q0 := s.tickQ, v := v, trim := trim } :: s.tbSegs k := by
  simp [State.tbSegs, State.setSeg, hk]

theorem State.tbSegs_setSeg_ne (h : j ≠ k) : (s.setSeg k v trim).tbSegs j = s.tbSegs j := by
  simp [State.tbSegs, State.setSeg, Ne.symm h]

theorem State.tbSegs_congr {t : State} (h : t.time.tbs = s.time.tbs) : t.tbSegs k = s.tbSegs k := by
  rw [State.tbSegs, State.tbSegs, h]

/-- A segment's value where it begins. -/
theorem tbHist_begin (g : TbSeg) (l : List TbSeg) : tbHist (g :: l) g.q0 = g.v := by
  cases l <;> simp [tbHist, TbSeg.at_]

theorem State.markLate_time (s : State) (k : Nat) (a b : Int) : (s.markLate k a b).time = s.time := by
  simp only [State.markLate]
  split <;> split <;> simp only [State.orReg_time]

theorem State.markLate_fs (s : State) (k : Nat) (a b : Int) : (s.markLate k a b).fs = s.fs := by
  simp only [State.markLate]
  split <;> split <;> simp only [State.orReg_fs]

/-- A step sets the base's segment and no other time. -/
theorem State.stepTb_time (s : State) (k : Nat) (v : Int) :
    (s.stepTb k v).time = (s.setSeg k (v % ((tbUnit * 2 ^ 64 : Nat) : Int)) (s.tbTrim k)).time := by
  unfold State.stepTb
  extract_lets old v t u
  change (u.markLate k old (floorDiv v tbUnit)).time = _
  rw [State.markLate_time, State.orReg_time, State.count_time]

theorem State.stepTb_fs (s : State) (k : Nat) (v : Int) : (s.stepTb k v).fs = s.fs := by
  unfold State.stepTb
  extract_lets old v t u
  change (u.markLate k old (floorDiv v tbUnit)).fs = _
  rw [State.markLate_fs, State.orReg_fs, State.count_fs]
  rfl

end

/-- R292: a step of a time base. -/
theorem stepSetsTimeBase : Rules.StepSetsTimeBase := by
  intro s k j v hk
  have segs (i : Nat) := State.tbSegs_congr (k := i) (congrArg TimeSt.tbs (State.stepTb_time s k v))
  have hq : (s.stepTb k v).tickQ = s.tickQ := by rw [State.tickQ, State.stepTb_fs, State.tickQ]
  refine ⟨?_, ?_, fun hj => ?_, ?_⟩
  · rw [State.tbTick, segs, State.tbSegs_setSeg_self hk, hq]
    exact tbHist_begin _ _
  · rw [State.tbTrim, segs, State.tbSegs_setSeg_self hk]
    rfl
  · rw [segs, State.tbSegs_setSeg_ne hj]
  · rw [State.mono, State.stepTb_fs, State.mono]

/-! ### Steering -/

/-- R281: the trim that steering gives base `k`. -/
def State.steerTrim (s : State) (p : List Byte) (k : Nat) : Int :=
  max (-(2 ^ 31)) (min (2 ^ 31 - 1)
    (catchTrim (diff32 ((be p (40 + 4 * k) 4 + s.red.delayPs / 1000) % 2 ^ 32) (s.tbNow32 k))
      + ((Config.freeValue s.free % (2 * catchSlack) : Nat) - (catchSlack : Int))))

/-- R281: one base of a health frame. -/
def State.steerOne (p : List Byte) (s : State) (k : Nat) : State :=
  if s.followed k ∧ bitOf (be p 36 4) k then
    ({ s with free := s.free + 1 }.trimTb k (s.steerTrim p k)).syntonised k
  else s

theorem State.steer_eq (s : State) (p : List Byte) : s.steer p = (List.range 8).foldl (State.steerOne p) s := rfl

/-- A clamped value moved by less than the slack stays, clamped, within the slack. -/
theorem clamp_near (a e : Int) (he : -(catchSlack : Int) ≤ e) (he' : e ≤ catchSlack) :
    let level := catchTrim a
    let x := max (-(2 ^ 31)) (min (2 ^ 31 - 1) (level + e))
    x ≤ level + (catchSlack : Int) ∧ level ≤ x + (catchSlack : Int) := by
  simp only [catchTrim, catchSlack] at *
  omega

section
variable {s : State} {p : List Byte} {j k : Nat}

/-- Steering base `j` leaves what the others are judged by. -/
theorem State.steerOne_frame (s : State) (p : List Byte) (j : Nat) :
    (s.steerOne p j).red = s.red ∧ (s.steerOne p j).fs = s.fs ∧ (s.steerOne p j).regs = s.regs
      ∧ (s.steerOne p j).epochs = s.epochs ∧ (s.steerOne p j).time.tbs.length = s.time.tbs.length := by
  unfold State.steerOne
  split
  · exact ⟨rfl, rfl, rfl, rfl, List.length_modify ..⟩
  · exact ⟨rfl, rfl, rfl, rfl, rfl⟩

theorem State.steerOne_tbSegs_ne (h : j ≠ k) : (s.steerOne p j).tbSegs k = s.tbSegs k := by
  unfold State.steerOne
  split
  · exact State.tbSegs_setSeg_ne (Ne.symm h)
  · rfl

theorem State.steerOne_other (h : s.followed k = false ∨ bitOf (be p 36 4) k = false) : s.steerOne p k = s := by
  refine if_neg ?_
  rcases h with h | h <;> simp [h]

theorem State.steerOne_own (hf : s.followed k = true) (hb : bitOf (be p 36 4) k = true) :
    s.steerOne p k = ({ s with free := s.free + 1 }.trimTb k (s.steerTrim p k)).syntonised k := if_pos ⟨hf, hb⟩

theorem State.tbTrim_trimTb {trim : Int} (hk : k < s.time.tbs.length) :
    ((s.trimTb k trim).syntonised k).tbTrim k = trim := by
  have hs := State.tbSegs_setSeg_self (v := s.tbTick k) (trim := trim) hk
  change ((((s.setSeg k (s.tbTick k) trim).tbSegs k)).headD {}).trim = trim
  rw [hs]
  rfl

theorem State.steerTrim_near (s : State) (p : List Byte) (k : Nat) :
    let level := catchTrim (diff32 ((be p (40 + 4 * k) 4 + s.red.delayPs / 1000) % 2 ^ 32) (s.tbNow32 k))
    s.steerTrim p k ≤ level + (catchSlack : Int) ∧ level ≤ s.steerTrim p k + (catchSlack : Int) := by
  have hm := Nat.mod_lt (Config.freeValue s.free) (show 0 < 2 * catchSlack by decide)
  exact clamp_near _ _ (by omega) (by omega)

/-- What the steering of other bases keeps for the one that it comes to. -/
structure State.Unsteered (s t : State) (k : Nat) : Prop where
  red : t.red = s.red
  fs : t.fs = s.fs
  regs : t.regs = s.regs
  epochs : t.epochs = s.epochs
  bases : t.time.tbs.length = s.time.tbs.length
  segs : t.tbSegs k = s.tbSegs k

theorem State.unsteered_foldl (l : List Nat) : ∀ s : State, k ∉ l → s.Unsteered (l.foldl (State.steerOne p) s) k := by
  induction l with
  | nil => exact fun s _ => ⟨rfl, rfl, rfl, rfl, rfl, rfl⟩
  | cons j l ih =>
    intro s hk
    obtain ⟨hj, hl⟩ := not_or.mp (mt List.mem_cons.mpr hk)
    obtain ⟨r1, f1, g1, e1, b1, s1⟩ := ih (s.steerOne p j) hl
    obtain ⟨r0, f0, g0, e0, b0⟩ := s.steerOne_frame p j
    exact ⟨r1.trans r0, f1.trans f0, g1.trans g0, e1.trans e0, b1.trans b0,
      s1.trans (State.steerOne_tbSegs_ne (Ne.symm hj))⟩

/-- What a base is steered by. -/
theorem State.Unsteered.judged {t : State} (h : s.Unsteered t k) :
    t.followed k = s.followed k ∧ t.tbNow32 k = s.tbNow32 k ∧ t.red.delayPs = s.red.delayPs := by
  obtain ⟨hr, hf, hg, he, -, hs⟩ := h
  refine ⟨?_, ?_, by rw [hr]⟩
  · simp only [State.followed, State.paired, State.follower, State.rb, State.reg, State.cfg, hr, hg, he]
  · simp only [State.tbNow32, State.tbNow, State.tbNowNs, State.tickQ, hs, hf]

end

/-- R281: followed bases are steered by their trims. -/
theorem followedBasesSteered : Rules.FollowedBasesSteered := by
  intro s p k hk hlen want level
  obtain ⟨pre, post, hsplit⟩ := List.append_of_mem (List.mem_range.mpr hk)
  have hnd : (pre ++ k :: post).Nodup := hsplit ▸ List.nodup_range
  have hpre : k ∉ pre := fun h => (List.nodup_append.mp hnd).2.2 k h k List.mem_cons_self rfl
  have hpost : k ∉ post := (List.nodup_cons.mp (List.nodup_append.mp hnd).2.1).1
  have before := s.unsteered_foldl (p := p) pre hpre
  have hsteer : s.steer p = post.foldl (State.steerOne p) ((pre.foldl (State.steerOne p) s).steerOne p k) := by
    rw [State.steer_eq, hsplit, List.foldl_append, List.foldl_cons]
  rw [hsteer]
  obtain ⟨hfol, hnow, hdelay⟩ := before.judged
  have hlenb : k < (pre.foldl (State.steerOne p) s).time.tbs.length := by rw [before.bases, hlen]; exact hk
  have hsegs := before.segs
  generalize pre.foldl (State.steerOne p) s = t at hfol hnow hdelay hlenb hsegs
  have after := (t.steerOne p k).unsteered_foldl (p := p) post hpost
  refine ⟨fun hf hb => ?_, fun h => ?_⟩
  · have htrim : (post.foldl (State.steerOne p) (t.steerOne p k)).tbTrim k = t.steerTrim p k := by
      rw [State.tbTrim, after.segs, State.steerOne_own (hfol.trans hf) hb]
      exact State.tbTrim_trimTb (s := { t with free := t.free + 1 }) hlenb
    have near := t.steerTrim_near p k
    rw [hdelay, hnow] at near
    rw [htrim]
    exact near
  · rw [after.segs, State.steerOne_other (by rw [hfol]; exact h), hsegs]

/-- Settles O31: what each sound frame does, asleep and halted members included, and the bounds of a followed base's trim. -/
theorem couplerFramesTaken : Obligations.CouplerFramesTaken :=
  ⟨soundCouplerFrames, couplerFrameAsleep, resetRequests, followedBasesSteered⟩

/-! ### Time-base commands -/

theorem completes_timeCmd {c : Instr} {s : State} {src : Src} {op k : Nat} (hop : op < 8) (hk : k < 8)
    (he : exec c s = Machine.access c s (s.putTimeCmd src op k)) (hw : c.wf = true) (hs : s.takes src) :
    completes c s (s.timeCommand src op k) := by
  let n := 2 ^ 31 + at_ op 28 + at_ k 24
  have hn : n = 2 ^ 31 + at_ op 28 + at_ k 24 := rfl
  have hmask : Word.ofNat 0xFFFFFFFF &&& Word.ofNat (RegId.timeCmd.writableBy src) ≠ 0 := by cases src <;> decide
  have hput := completes_put (id := .timeCmd) (i := 0) (v := n) he hw hs rfl (by decide) (by decide) rfl rfl rfl (.inl hmask)
  have hsum : n = 2 ^ 31 + op * 2 ^ 28 + k * 2 ^ 24 := by rw [hn]; simp only [at_, Nat.shiftLeft_eq]
  have hlt : n < 2 ^ 32 := by omega
  have h30 : fld (Word.ofNat n) 30 28 = op := by rw [fld_ofNat hlt]; omega
  have h26 : fld (Word.ofNat n) 26 24 = k := by rw [fld_ofNat hlt]; omega
  have hact : (s.access src .time 0x10 .normal .timeCmd 0 (Word.ofNat n)).act s
      = if bitW (Word.ofNat n) 31 then s.timeCommand src (fld (Word.ofNat n) 30 28) (fld (Word.ofNat n) 26 24) else s := rfl
  rw [if_pos (bitW_go (by omega) hlt), h30, h26] at hact
  rw [hact] at hput
  exact hput

section
variable {s : State} {src : Src} {op k : Nat}

theorem State.timeCommand_busy (h : s.time.cmd ≠ none) : s.timeCommand src op k = s.illegal .time 0x10 src 2 :=
  if_pos (Option.isSome_iff_ne_none.mpr h)

variable (h : s.time.cmd = none) (hop : ¬ (op = 0 ∨ 3 < op))
include h hop

theorem State.timeCommand_foreign
    (hf : s.followed k = true ∨ s.rb .timeTbCfg k 31 ≠ decide (src = .firmware)) :
    s.timeCommand src op k = (s.setRf .timeCmdStat 0 30 29 1).illegal .time 0x10 src 10 := by
  refine (if_neg (by rw [h]; decide)).trans ((if_neg hop).trans (if_pos ?_))
  rcases hf with hf | hf
  · exact .inl hf
  · by_cases hs : src = .firmware
    · exact .inr (.inr ⟨by simpa [hs] using hf, hs⟩)
    · exact .inr (.inl ⟨by simpa [hs] using hf, hs⟩)

theorem State.timeCommand_owned (hf : s.followed k = false) (ho : s.rb .timeTbCfg k 31 = decide (src = .firmware)) :
    s.timeCommand src op k =
      if src = .firmware ∧ s.servoMay k op = false then s
      else { s with time := { s.time with cmd := some { op := op, tb := k, data := (s.reg .timeCmdDataLo 0).toNat + (s.reg .timeCmdDataHi 0).toNat * 2 ^ 32 } } } := by
  have hnot : ¬ (s.followed k = true ∨ (s.rb .timeTbCfg k 31 = true ∧ src ≠ .firmware)
      ∨ (s.rb .timeTbCfg k 31 = false ∧ src = .firmware)) := by
    rw [hf, ho]
    by_cases hs : src = .firmware <;> simp [hs]
  unfold State.timeCommand
  rw [if_neg (by rw [h]; decide)]
  extract_lets bad owner data
  rw [if_neg hop, if_neg hnot]
  simp only [Bool.not_eq_true]
  rfl

end

/-- R292, R293, R295: time-base commands taken. -/
theorem timeCommandStarts : Rules.TimeCommandStarts := by
  intro s src k hs hk all owns
  have step : completes (.timeCmdStep src k) s (s.timeCommand src 1 k) :=
    completes_timeCmd (by decide) hk rfl (decide_eq_true hk) hs
  have set_ : completes (.timeCmdSet src k) s (s.timeCommand src 2 k) :=
    completes_timeCmd (by decide) hk rfl (decide_eq_true hk) hs
  have trim : completes (.timeCmdTrim src k) s (s.timeCommand src 3 k) :=
    completes_timeCmd (by decide) hk rfl (decide_eq_true hk) hs
  have of {u : Nat → State} (h : ∀ op, 1 ≤ op → op ≤ 3 → s.timeCommand src op k = u op) : all u := by
    refine ⟨?_, ?_, ?_⟩
    · rw [← h 1 (by decide) (by decide)]
      exact step
    · rw [← h 2 (by decide) (by decide)]
      exact set_
    · rw [← h 3 (by decide) (by decide)]
      exact trim
  clear_value all
  refine ⟨fun h => of fun op _ _ => State.timeCommand_busy h, fun h hf => ?_, fun h hf ho => ?_⟩
  · have hf' : s.followed k = true ∨ s.rb .timeTbCfg k 31 ≠ decide (src = .firmware) := by
      simpa [owns] using hf
    have foreign (op : Nat) (h1 : 1 ≤ op) (h3 : op ≤ 3) := State.timeCommand_foreign (op := op) h (by omega) hf'
    exact of foreign
  · have ho' : s.rb .timeTbCfg k 31 = decide (src = .firmware) := by simpa [owns] using ho
    have owned (op : Nat) (h1 : 1 ≤ op) (h3 : op ≤ 3) := State.timeCommand_owned (op := op) h (by omega) hf ho'
    exact of owned

/-- How far a STEP or a SET would move a base. -/
def State.servoMove (s : State) (k op : Nat) : Int :=
  let data := (s.reg .timeCmdDataLo 0).toNat + (s.reg .timeCmdDataHi 0).toNat * 2 ^ 32
  signed 64 (if op = 1 then data else (data + 2 ^ 64 - s.tbNow k) % 2 ^ 64)

theorem State.servoMay_move {s : State} {k op : Nat} (h : op ≠ 3) {m : Int} (hm : s.servoMove k op = m) :
    s.servoMay k op = true ↔ s.rb .timeTbCfg k 30 = true ∧ s.rf .timeTbCfg k 15 0 * 1000 < m.natAbs := by
  have hq : s.servoMay k op
      = (s.rb .timeTbCfg k 30 && decide (s.rf .timeTbCfg k 15 0 * 1000 < (s.servoMove k op).natAbs)) := by
    unfold State.servoMay State.servoMove
    rw [if_neg h]
  rw [hq, hm, Bool.and_eq_true, decide_eq_true_eq]

/-- R295: the limits of firmware's servo. -/
theorem servoLimits : Rules.ServoLimits := by
  intro s k data
  refine ⟨?_, State.servoMay_move (by decide) ?_, State.servoMay_move (by decide) ?_⟩
  · unfold State.servoMay
    rw [if_pos rfl, decide_eq_true_eq]
  · rw [State.servoMove, if_pos rfl]
  · rw [State.servoMove, if_neg (by decide)]

/-- The state in which an accepted command is applied: over, RESULT 0, DONE set. -/
def State.cmdOver (s : State) : State :=
  ({ s with time := { s.time with cmd := none } }.setRf .timeCmdStat 0 30 29 0).orReg .timeIntStat 0 (2 ^ 29)

theorem State.cmdOver_tbNow (s : State) (k : Nat) : s.cmdOver.tbNow k = s.tbNow k := rfl

section
variable {s : State} {c : TimeCmd} (h : s.time.cmd = some c)
include h

theorem State.timeApply_trim (ho : c.op = 3) :
    s.timeApply = s.cmdOver.setSeg c.tb (s.cmdOver.tbTick c.tb) (signed 32 (c.data % 2 ^ 32)) := by
  rw [State.timeApply, h]
  exact if_pos ho

theorem State.timeApply_step (ho : c.op = 1) :
    s.timeApply = if c.data = 0 then s.cmdOver
      else s.cmdOver.stepTb c.tb (s.cmdOver.tbTick c.tb + signed 64 c.data * tbUnit) := by
  rw [State.timeApply, h]
  exact (if_neg (by rw [ho]; decide)).trans (if_pos ho)

theorem State.timeApply_set (ho : c.op = 2) :
    s.timeApply = if s.tbNow c.tb = c.data then s.cmdOver else s.cmdOver.stepTb c.tb ((c.data : Int) * tbUnit) := by
  rw [State.timeApply, h, ← s.cmdOver_tbNow]
  exact (if_neg (by rw [ho]; decide)).trans (if_neg (by rw [ho]; decide))

end

/-- R292, R294: the accepted command at its tick. -/
theorem timeCommandApplies : Rules.TimeCommandApplies := by
  intro s c ha hc t
  have h : completes .timeCmdApply s s.timeApply := completes_answer rfl rfl (by rw [ha, hc]; rfl)
  refine ⟨fun ho => ?_, fun ho hd => ?_, fun ho hd => ?_, fun ho hd => ?_, fun ho hd => ?_⟩
  · rw [State.timeApply_trim hc ho] at h
    exact h
  · rw [State.timeApply_step hc ho, if_pos hd] at h
    exact h
  · rw [State.timeApply_step hc ho, if_neg hd] at h
    exact h
  · rw [State.timeApply_set hc ho, if_pos hd] at h
    exact h
  · rw [State.timeApply_set hc ho, if_neg hd] at h
    exact h

/-- Settles O32: commands as they are taken, the servo's limits, the tick at which they apply, and what a step sets. -/
theorem timeCommands : Obligations.TimeCommands :=
  ⟨timeCommandStarts, servoLimits, timeCommandApplies, stepSetsTimeBase⟩

end Sys2Proof.Machine

/-! PROOFS. Time snapshots (R297 to R301), the 1PPS pins (R317, R318) and the triggers of the capture store (R336). -/

namespace Sys2Proof.Machine

/-! ### The save of the times -/

/-- A running switch whose last save differs from the one before it. -/
def savedOnce : State := { Tests.up with time := { Tests.up.time with saved := { mono := 1 } } }

/-- Refutes O33: a save moves what was saved before to the older slot of its record (R410), which the statement says stays. -/
theorem not_snapshotsAndRecords : ¬ Obligations.SnapshotsAndRecords := by
  intro h
  obtain ⟨-, -, -, -, -, save⟩ := h.1 savedOnce .firmware
  have hr : savedOnce.running = true := by decide +kernel
  obtain ⟨u, hu, hb, -⟩ := save hr
  obtain ⟨v, hv, hc, -⟩ : completes .timeSave savedOnce savedOnce.saveTime := completes_event rfl rfl hr rfl
  obtain rfl : u = v := by simpa using hu.symm.trans hv
  have older : savedOnce.saveTime.time.older.mono = 0 := congrArg (fun t : State => t.time.older.mono) (hc.symm.trans hb)
  exact absurd older (by decide)

/-! ### The 1PPS pins -/

/-- An event that emits a message completes with it. -/
theorem says_event {c : Instr} {s t : State} {o : Out} (he : exec c s = event c true s (t.emit o)) (hw : c.wf = true)
    (hr : s.running = true) : ∃ u, exec c s = .next u ∧ u.bare = t.bare ∧ o ∈ u.out := by
  have hout := exec_out he hw (by simp [hr])
  obtain ⟨u, hu, hb, -⟩ := completes_event he hw hr rfl
  obtain rfl : u = { s.fin (t.emit o) with pending := s.pending } := by simpa using hu.symm.trans hout
  exact ⟨_, hu, hb, (State.says_fin s (t.emit o)).mem (List.mem_cons_self ..)⟩

section
variable {s : State} {n highNs : Nat}

theorem State.ppsPulse_rises (hn : n < 4) (hd : s.ppsDue n = true) (hp : (s.pps n).pulse = none)
    (hl : (s.pps n).last ≠ some s.tickQ) :
    s.ppsPulse n = (s.setPps n
      { pulse := some (s.fs + s.cfg.f .timePpsOutWidth n 29 0 * 1000000), low := s.cfg.b .timePpsOutCfg n 30
        last := some s.tickQ }).emit (.pin (ppsName n) (!s.cfg.b .timePpsOutCfg n 30)) :=
  if_pos ⟨hn, hd, by rw [hp]; rfl, hl⟩

theorem State.ppsPulse_stays (h : s.ppsDue n = false ∨ (s.pps n).pulse ≠ none ∨ (s.pps n).last = some s.tickQ) :
    s.ppsPulse n = s := by
  refine if_neg ?_
  rintro ⟨-, hd, hp, hl⟩
  rcases h with h | h | h
  · rw [h] at hd
    cases hd
  · exact h (Option.isNone_iff_eq_none.mp hp)
  · exact hl h

theorem State.ppsEnd_idle (h : (s.pps n).pulse = none) : s.ppsEnd n = s := by rw [State.ppsEnd, h]

theorem State.ppsEnd_early {t : Nat} (h : (s.pps n).pulse = some t) (ht : s.fs < t) : s.ppsEnd n = s := by
  rw [State.ppsEnd, h]
  exact if_neg (Nat.not_le.mpr ht)

theorem State.ppsEnd_falls {t : Nat} (h : (s.pps n).pulse = some t) (ht : t ≤ s.fs) :
    s.ppsEnd n = (s.setPps n { s.pps n with pulse := none }).emit (.pin (ppsName n) (s.pps n).low) := by
  rw [State.ppsEnd, h]
  exact if_pos ht

end

/-- R317: the 1PPS outputs. -/
theorem ppsOutputs : Rules.PpsOutputs := by
  intro s n hn hr x low
  have hw : (Instr.ppsOutPulse n).wf = true := decide_eq_true hn
  have hw' : (Instr.ppsOutPulseEnd n).wf = true := decide_eq_true hn
  have he : exec (.ppsOutPulse n) s = event (.ppsOutPulse n) true s (s.ppsPulse n) := rfl
  have he' : exec (.ppsOutPulseEnd n) s = event (.ppsOutPulseEnd n) true s (s.ppsEnd n) := rfl
  refine ⟨fun hd hp hl => ?_, fun h => ?_, fun hp => ?_, fun t hp => ⟨fun ht => ?_, fun ht => ?_⟩⟩
  · rw [State.ppsPulse_rises hn hd hp hl] at he
    exact says_event he hw hr
  · rw [State.ppsPulse_stays h] at he
    exact completes_event he hw hr rfl
  · rw [State.ppsEnd_idle hp] at he'
    exact completes_event he' hw' hr rfl
  · rw [State.ppsEnd_early hp ht] at he'
    exact completes_event he' hw' hr rfl
  · rw [State.ppsEnd_falls hp ht] at he'
    exact says_event he' hw' hr

section
variable {s : State} {n highNs : Nat}

/-- An edge comes within a microsecond of the last one on its input (R318). -/
def State.ppsSoon (s : State) (n : Nat) : Bool :=
  match (s.time.ppsIn[n]?).getD none with
  | some t => decide (s.fs < t + 1000000000)
  | none => false

theorem State.ppsSoon_iff : s.ppsSoon n = true ↔ ∃ t, (s.time.ppsIn[n]?).getD none = some t ∧ s.fs < t + 1000000000 := by
  unfold State.ppsSoon
  cases (s.time.ppsIn[n]?).getD none <;> simp

/-- The stamps of an edge. -/
def State.ppsStamped (s : State) (n : Nat) : State :=
  let v := Int.fdiv (s.tbFine (s.rf .timePpsInCfg n 26 24) s.fs * 1000 - (s.rf .timePpsInCfg n 15 0 : Int) * fineUnit)
    (fineUnit * 1000)
  (s.setPair .timePpsInTbLo .timePpsInTbHi n (unsigned 64 v)).setPair .timePpsInMonoLo .timePpsInMonoHi n s.mono

theorem State.ppsEdge_off (h : s.rb .timePpsInCfg n 31 = false) : s.ppsEdge n highNs = s := by
  refine if_pos ?_
  rw [h]
  exact fun h => absurd h.2 (by decide)

theorem State.ppsEdge_rejected (hn : n < 4) (h : s.rb .timePpsInCfg n 31 = true) (hx : highNs < 20 ∨ s.ppsSoon n = true) :
    s.ppsEdge n highNs = s.count .time 0 10 :=
  (if_neg (not_not_intro ⟨hn, h⟩)).trans (if_pos hx)

theorem State.ppsEdge_stamped (hn : n < 4) (h : s.rb .timePpsInCfg n 31 = true) (hx : ¬ (highNs < 20 ∨ s.ppsSoon n = true)) :
    s.ppsEdge n highNs =
      (let t := s.ppsStamped n
       let t := t.setRf .timePpsInStat n 15 0 (t.rf .timePpsInStat n 15 0 + 1)
       { t with time := { t.time with ppsIn := t.time.ppsIn.set n (some t.fs) } }.orReg .timeIntStat 0 (2 ^ (16 + n))) :=
  (if_neg (not_not_intro ⟨hn, h⟩)).trans (if_neg hx)

end

/-- R318: the 1PPS inputs. -/
theorem ppsInputs : Rules.PpsInputs := by
  intro s n highNs hn hr soon
  have h : completes (.ppsInEdge n highNs) s (s.ppsEdge n highNs) := completes_event rfl (decide_eq_true hn) hr rfl
  refine ⟨fun hb => ?_, fun hb hx => ?_, fun hb h20 hs => ?_⟩
  · rw [State.ppsEdge_off hb] at h
    exact h
  · rw [State.ppsEdge_rejected hn hb (hx.imp id State.ppsSoon_iff.mpr)] at h
    exact h
  · rw [State.ppsEdge_stamped hn hb (not_or.mpr ⟨Nat.not_lt.mpr h20, fun hx => hs (State.ppsSoon_iff.mp hx)⟩)] at h
    exact h

/-- Settles O34: when each output asserts and ends, with its message, and what each edge on an input makes. -/
theorem ppsPins : Obligations.PpsPins := ⟨ppsOutputs, ppsInputs⟩

/-! ### Triggers -/

section
variable {s : State} {src w : Nat}

theorem State.count_win (s : State) (b : CntBank) (u i w : Nat) : (s.count b u i).win w = s.win w := by
  simp only [State.win, State.count_capt]

/-- A trigger in an open window. -/
theorem State.trigger_again (h : (List.range 4).find? (fun w => (s.win w).state = 1) = some w) :
    s.trigger src s.fs = ((s.count .capt 0 6).count .capt 0 7).putMarker w s.fs := by
  unfold State.trigger
  simp only [State.count_win]
  rw [h]

theorem State.find_state_none {k : Nat} (h : ∀ v, v < 4 → (s.win v).state ≠ k) :
    (List.range 4).find? (fun w => (s.win w).state = k) = none := by
  rw [List.find?_eq_none]
  exact fun v hv => by simpa using h v (List.mem_range.mp hv)

/-- A trigger that finds a free slot. -/
theorem State.trigger_opens (h1 : ∀ v, v < 4 → (s.win v).state ≠ 1)
    (h : (List.range 4).find? (fun w => (s.win w).state = 0) = some w) :
    s.trigger src s.fs = ((s.count .capt 0 6).openWindow w src s.fs).putMarker w s.fs := by
  unfold State.trigger
  simp only [State.count_win]
  rw [State.find_state_none h1, h]

/-- A trigger that is lost. -/
theorem State.trigger_lost (h : ∀ v, v < 4 → (s.win v).state ≠ 1 ∧ (s.win v).state ≠ 0) :
    s.trigger src s.fs = { (s.count .capt 0 6).count .capt 0 8 with
      free := ((s.count .capt 0 6).count .capt 0 8).free + 1 }.putMarker
        (Config.freeValue ((s.count .capt 0 6).count .capt 0 8).free % 256) s.fs := by
  unfold State.trigger
  simp only [State.count_win]
  rw [State.find_state_none fun v hv => (h v hv).1, State.find_state_none fun v hv => (h v hv).2]
  rfl

end

/-- A trigger while the chip-level blocks are in retention waits. -/
theorem State.bare_deferTrigger (s : State) :
    s.deferTrigger.bare = ({ s with ao := { s.ao with triggers := s.ao.triggers ++ [s.fs] } } : State).bare := by
  unfold State.deferTrigger State.stir
  split <;> rfl

/-- Settles O35: the three cases of a trigger, for both of its sources. -/
theorem triggers : Obligations.Triggers := by
  intro s src pin rising c both
  have write (hs : s.takes src) : completes (.triggerWrite src) s (s.trigger 1 s.fs) :=
    completes_go (id := .recTrigCtrl) (i := 0) rfl rfl hs rfl (by decide) (by decide) rfl rfl rfl (by cases src <;> decide)
      (by decide) rfl
  have edge (hr : s.running = true) (hp : pin < 16) (hf : s.gpioFires pin rising = true) :
      completes (.gpioTrigger pin rising) s (if s.retained then s.deferTrigger else s.trigger 2 s.fs) :=
    completes_event rfl (decide_eq_true hp) hr hf
  have of {u : Nat → State} (hu : ∀ n, s.trigger n s.fs = u n) : both u := by
    refine ⟨fun hs => hu 1 ▸ write hs, fun hr hp hf hret => ?_⟩
    have h := edge hr hp hf
    rw [if_neg (by rw [hret]; decide), hu 2] at h
    exact h
  clear_value both
  refine ⟨fun w h => of fun n => State.trigger_again h, fun w h1 h => of fun n => State.trigger_opens h1 h,
    fun h => of fun n => ?_, fun hr hp hf => completes_not_event rfl (decide_eq_true hp) hf, fun hr hp hf hret => ?_⟩
  · rw [State.trigger_lost h, State.count_free, State.count_free]
  · have h := edge hr hp hf
    rw [if_pos hret] at h
    exact completes_of_bare h s.bare_deferTrigger

end Sys2Proof.Machine

/-! PROOFS. Capture windows from their end to their commit (R338 to R341, R344), and the record writer in retention (R457). -/

namespace Sys2Proof.Machine

/-! ### Windows -/

section
variable {s : State} {w : Nat}

theorem State.sealTurn_iff : s.sealTurn w = true ↔ ∀ x ∈ s.capt.wins, x.state = 2 → (s.win w).id ≤ x.id := by
  rw [State.sealTurn, List.all_eq_true]
  refine forall₂_congr fun x _ => ?_
  by_cases h : x.state = 2 <;> simp [h]

/-- What a window that is sealed shows: its state, and its header with the signature `sig`. -/
def State.sealedWith (s t : State) (w : Nat) (sig : List Byte) : State :=
  let x := { s.win w with state := 3, unsigned_ := s.upd.vault.signKey.isNone }
  (t.setWin w { x with sealed := s.sealBytes x ++ sig }).orReg .recIntStat 0 1

/-- Sealing a window starts no commit unless the settings ask for it. -/
theorem State.sealedWith_cfg (s t : State) (w : Nat) (sig : List Byte) : (s.sealedWith t w sig).cfg = t.cfg := rfl

theorem State.sealWindow_unsigned (hk : s.upd.vault.signKey = none) (hc : s.cfg.b .recNvmeCfg 0 31 = false) :
    s.sealWindow w = s.sealedWith s w (List.replicate 96 0) := by
  unfold State.sealWindow
  rw [hk]
  change (if (s.sealedWith s w (List.replicate 96 0)).cfg.b .recNvmeCfg 0 31 then _ else _) = _
  refine (if_neg (by rw [State.sealedWith_cfg, hc]; decide)).trans ?_
  rw [State.sealedWith, hk]

theorem State.sealWindow_signed {k : Nat} (hk : s.upd.vault.signKey = some k) (hc : s.cfg.b .recNvmeCfg 0 31 = false) :
    s.sealWindow w = s.sealedWith { s with free := s.free + 1 } w
      (beBytes 96 (Config.signP384 k (Config.sha384
        (s.sealBytes { s.win w with state := 3, unsigned_ := s.upd.vault.signKey.isNone })) (Config.freeValue s.free))) := by
  unfold State.sealWindow State.sealedWith
  rw [hk]
  exact if_neg fun h => absurd (hc.symm.trans h) (by decide)

end

/-- R338, R344: windows end and are sealed. -/
theorem windowsSeal : Rules.WindowsSeal := by
  intro s w hw hr
  have hwf : (Instr.windowPostEnd w).wf = true := decide_eq_true hw
  have hwf' : (Instr.windowSealed w).wf = true := decide_eq_true hw
  have ended (ho : s.windowOver w = true) : completes (.windowPostEnd w) s (s.endWindow w (s.windowHalf w)) :=
    completes_event rfl hwf hr ho
  have sealed (h2 : (s.win w).state = 2) (ht : s.sealTurn w = true) : completes (.windowSealed w) s (s.sealWindow w) :=
    completes_event rfl hwf' hr (by rw [ht, h2]; rfl)
  refine ⟨fun ho => completes_not_event rfl hwf ho, ended, fun h => completes_not_event rfl hwf' ?_, State.sealTurn_iff,
    fun h2 ht hc => ?_, fun h2 ht hc => sealed h2 ht⟩
  · rcases h with h | h <;> simp [h]
  · intro x b shows
    refine ⟨fun hk => ?_, fun k hk => ?_⟩
    · have h := sealed h2 ht
      rw [State.sealWindow_unsigned hk hc] at h
      exact h
    · have h := sealed h2 ht
      rw [State.sealWindow_signed hk hc] at h
      exact h

/-! ### COMMIT and RELEASE -/

/-- One bit of a word given as a number. -/
theorem bitW_ofNat {n b : Nat} (hn : n < 2 ^ 32) : bitW (Word.ofNat n) b = n.testBit b := by
  rw [bitW, Word.ofNat, BitVec.getLsbD_ofNat]
  by_cases hb : b < 32
  · simp [hb]
  · rw [Nat.testBit_lt_two_pow (Nat.lt_of_lt_of_le hn (Nat.pow_le_pow_right (by decide) (by omega)))]
    exact Bool.and_false _

/-- R341: the slots that a mask names, in order. -/
def State.eachWindow (s : State) (src : Src) (m : Nat) (f : State → Nat → State) : State :=
  (List.range 4).foldl
    (fun t w => if bitOf m w then (if (t.win w).state = 3 then f t w else t.illegal .capt 0x180 src 11) else t) s

section
variable {x : Access} {s : State} {src : Src} {m : Nat}

theorem Access.window_off {b : Nat} (h : bitW x.new b = false) : x.window s b = s := if_pos (by rw [h]; decide)

theorem Access.foldl_window_off {l : List Nat} (h : ∀ b ∈ l, bitW x.new b = false) (s : State) : l.foldl x.window s = s := by
  induction l generalizing s with
  | nil => rfl
  | cons b l ih =>
    rw [List.foldl_cons, Access.window_off (h b List.mem_cons_self)]
    exact ih (fun c hc => h c (List.mem_cons_of_mem b hc)) s

/-- REC_WIN_CTRL acts on its COMMIT bits and then on its RELEASE bits. -/
theorem Access.winCtrl_eq (x : Access) (s : State) :
    x.winCtrl s = [4, 5, 6, 7].foldl x.window ((List.range 4).foldl x.window s) :=
  List.foldl_append (f := x.window) (b := s) (l := List.range 4) (l' := [4, 5, 6, 7])

variable (hb : x.blk = .capt) (ho : x.off = 0x180) (hs : x.src = src)
include hb ho hs

theorem Access.window_commit {w : Nat} (hw : w < 4) :
    x.window s w = if bitW x.new w then (if (s.win w).state = 3 then s.startCommit w else s.illegal .capt 0x180 src 11)
      else s := by
  unfold Access.window Access.bad
  rw [Nat.mod_eq_of_lt hw, if_pos hw, hb, ho, hs]
  cases bitW x.new w <;> simp [ite_not]

theorem Access.window_release {w : Nat} (hw : w < 4) :
    x.window s (w + 4) = if bitW x.new (w + 4) then
      (if (s.win w).state = 3 then (s.setWin w {}).restall else s.illegal .capt 0x180 src 11) else s := by
  unfold Access.window Access.bad
  rw [Nat.add_mod_right, Nat.mod_eq_of_lt hw, if_neg (by omega : ¬ w + 4 < 4), Nat.add_sub_cancel, hb, ho, hs]
  cases bitW x.new (w + 4) <;> simp [ite_not]

theorem Access.winCtrl_commit (hm : m < 16) (hn : x.new = Word.ofNat m) :
    x.winCtrl s = s.eachWindow src m fun t w => t.startCommit w := by
  have bit (b : Nat) : bitW x.new b = bitOf m b := by rw [hn]; exact bitW_ofNat (by omega)
  rw [Access.winCtrl_eq, Access.foldl_window_off, State.eachWindow]
  · refine foldl_congr_mem (fun t w hw => ?_) _
    rw [Access.window_commit hb ho hs (List.mem_range.mp hw), bit]
  · intro b hmem
    have : 4 ≤ b := by
      simp at hmem
      omega
    rw [bit]
    exact Nat.testBit_lt_two_pow (Nat.lt_of_lt_of_le hm (Nat.pow_le_pow_right (n := 2) (by decide) this))

theorem Access.winCtrl_release (hm : m < 16) (hn : x.new = Word.ofNat (at_ m 4)) :
    x.winCtrl s = s.eachWindow src m fun t w => (t.setWin w {}).restall := by
  have hlt : at_ m 4 < 2 ^ 32 := by simp only [at_, Nat.shiftLeft_eq]; omega
  have bit (b : Nat) : bitW x.new b = (m <<< 4).testBit b := by rw [hn]; exact bitW_ofNat hlt
  rw [Access.winCtrl_eq, Access.foldl_window_off (l := List.range 4), State.eachWindow]
  · change ((List.range 4).map (· + 4)).foldl x.window s = _
    rw [List.foldl_map]
    refine foldl_congr_mem (fun t w hw => ?_) _
    have high : bitW x.new (w + 4) = bitOf m w := by
      rw [bit, Nat.testBit_shiftLeft, Nat.add_sub_cancel, bitOf, decide_eq_true (Nat.le_add_left 4 w), Bool.true_and]
    rw [Access.window_release hb ho hs (List.mem_range.mp hw), high]
  · intro b hmem
    have hlow : decide (b ≥ 4) = false := decide_eq_false (Nat.not_le.mpr (List.mem_range.mp hmem))
    rw [bit, Nat.testBit_shiftLeft, hlow, Bool.false_and]

end

/-- R341: COMMIT and RELEASE. -/
theorem windowControl : Rules.WindowControl := by
  intro s src m hs hm
  have hmask : Word.ofNat 0xFFFFFFFF &&& Word.ofNat (RegId.recWinCtrl.writableBy src) ≠ 0 := by cases src <;> decide
  have hwf : (decide (m < 16)) = true := decide_eq_true hm
  have commit := completes_put (c := .windowCommit src m) (id := .recWinCtrl) (i := 0) (v := m) (off := 0x180) (w := .normal)
    rfl hwf hs rfl (by decide) (by decide) rfl rfl rfl (.inl hmask)
  have release := completes_put (c := .windowRelease src m) (id := .recWinCtrl) (i := 0) (v := at_ m 4) (off := 0x180)
    (w := .normal) rfl hwf hs rfl (by decide) (by decide) rfl rfl rfl (.inl hmask)
  refine ⟨?_, ?_⟩
  · rw [show (s.access src .capt 0x180 .normal .recWinCtrl 0 (Word.ofNat m)).act s
      = (s.access src .capt 0x180 .normal .recWinCtrl 0 (Word.ofNat m)).winCtrl s from rfl,
      Access.winCtrl_commit rfl rfl rfl hm rfl] at commit
    exact commit
  · rw [show (s.access src .capt 0x180 .normal .recWinCtrl 0 (Word.ofNat (at_ m 4))).act s
      = (s.access src .capt 0x180 .normal .recWinCtrl 0 (Word.ofNat (at_ m 4))).winCtrl s from rfl,
      Access.winCtrl_release rfl rfl rfl hm rfl] at release
    exact release

/-! ### Drives -/

/-- R340: one LBA to the drives. -/
theorem drivesWritten : Rules.DrivesWritten := by
  intro s fua lba b hb put
  have one : s.nvmeWrite fua 1 lba b = s.drives.foldl (fun s d => s.driveWrite fua lba b d) s := by
    have ht : b.take 4096 = b := List.take_of_length_le (Nat.le_of_eq hb)
    simp only [State.nvmeWrite, ht, hb, Nat.sub_self, List.replicate_zero, List.append_nil]
  refine ⟨fun h => ?_, fun h => ?_⟩
  · rw [one, State.drives, if_neg (by rw [h]; decide)]
    rfl
  · rw [one, State.drives, if_pos h]
    rfl

/-- R340, R341: commits that complete. -/
theorem windowCommits : Rules.WindowCommits := by
  intro s w hw hr
  have hwf : (Instr.windowCommitDone w).wf = true := decide_eq_true hw
  have hwf' : (Instr.windowCommitError w).wf = true := decide_eq_true hw
  refine ⟨fun h => ⟨completes_not_event rfl hwf (decide_eq_false h), completes_not_event rfl hwf' (decide_eq_false h)⟩,
    fun h => ⟨completes_event rfl hwf' hr (decide_eq_true h), ?_⟩⟩
  have done : completes (.windowCommitDone w) s (s.commitWindow w) := completes_event rfl hwf hr (decide_eq_true h)
  exact done

/-- Settles O36: each command of a window's course, with the drives' contents. -/
theorem captureWindows : Obligations.CaptureWindows := ⟨windowsSeal, windowControl, drivesWritten, windowCommits⟩

/-! ### The record writer in retention -/

/-- A switch whose chip-level blocks are in retention after a CXL error, with a marker at the record writer. -/
def writerRetained : State :=
  let t := Tests.up.orReg .aoChipStat 0 (2 ^ 31)
  { t with capt := { t.capt with cxlErr := true, queue := [.marker 0 0] } }

/-- Refutes O37: the record writer waits while the chip-level blocks are in retention (R457), which the statement leaves out of its
premises. -/
theorem not_captureWriting : ¬ Obligations.CaptureWriting := by
  intro h
  have hr : writerRetained.running = true := by decide +kernel
  obtain ⟨-, writes⟩ := h.2.1 writerRetained hr
  obtain ⟨lost, -⟩ := (writes []).1 0 0 rfl
  obtain ⟨u, hu, hb, -⟩ := lost rfl
  obtain ⟨v, hv, hc, -⟩ : completes .recordWrite writerRetained writerRetained :=
    completes_not_event rfl rfl (by decide +kernel)
  obtain rfl : u = v := by simpa using hu.symm.trans hv
  have waits := congrArg (fun t : State => t.capt.queue.length) (hc.symm.trans hb)
  exact absurd waits (by decide +kernel)

end Sys2Proof.Machine

/-! PROOFS. The PCIe function and its link (R346 to R348, R391, R394), the units of the host port (R372, R390) and their doorbells
(R361, R373, R374). -/

namespace Sys2Proof.Machine

/-! ### Accesses while HP_PERST_N holds the function in reset -/

section
variable {s t : State}

/-- Whether PCIe reaches a register is told by HP_PERST_N's level alone. -/
theorem State.reaches_pcie_of_perst (h : s.ao.perstLow = true) : s.reaches .pcie = false := by
  simp [State.reaches, h]

theorem State.bare_perstLow (h : s.bare = t.bare) : s.ao.perstLow = t.ao.perstLow :=
  (congrArg (fun u : State => u.ao.perstLow) h :)

theorem State.bus_of_perst (h : s.ao.perstLow = true) (a : Nat) (v : Word) : (s.bus .pcie a v).bare = s.bare := by
  rw [State.bus, State.bare_again, State.busWrite, if_pos (.inr (.inr (by rw [State.reaches_pcie_of_perst h]; decide)))]

theorem State.userWrite_of_perst (h : s.ao.perstLow = true) (a : Nat) (v : Word) : s.userWrite a v = s :=
  if_pos (.inr (.inl (by rw [State.reaches_pcie_of_perst h]; decide)))

/-- Several words of which none changes anything change nothing. -/
theorem bare_writeEach {f : State → Nat → Word → State} (hf : ∀ t a w, t.bare = s.bare → (f t a w).bare = s.bare)
    (ws : List Word) : ∀ (t : State) (a : Nat), t.bare = s.bare → (writeEach f t a ws).2.bare = s.bare := by
  induction ws with
  | nil => exact fun t a ht => ht
  | cons w ws ih =>
    intro t a ht
    cases ws with
    | nil => exact hf t a w ht
    | cons w' ws =>
      rw [writeEach]
      · exact ih _ _ ((State.bare_fin _ _).trans (hf t a w ht))
      · exact nofun

/-- A write request of PCIe to a function held in reset has no effect. -/
theorem State.request_of_perst (h : s.ao.perstLow = true) (bar : Bar) (a : Nat) (bytes : List Byte) :
    (s.request .pcie bar a bytes).2.bare = s.bare := by
  have held {t : State} (ht : t.bare = s.bare) : t.ao.perstLow = true := (State.bare_perstLow ht).trans h
  unfold State.request
  rw [if_neg (by cases bar <;> simp [State.unsupported, State.reaches_pcie_of_perst h])]
  cases requestWords a bytes with
  | none => rfl
  | some ws =>
    cases bar with
    | bar0 =>
      dsimp only
      split
      · exact bare_writeEach (fun t a w ht => (State.bus_of_perst (held ht) a w).trans ht) ws s a rfl
      · rfl
    | bar2 =>
      dsimp only
      split
      · exact bare_writeEach (fun t a w ht => by rwa [State.userWrite_of_perst (held ht)]) ws s a rfl
      · rfl

end

/-! ### The function -/

section
variable {s : State} {k : FnReset}

theorem completes_functionReset (hp : s.powered = true) (hk : k ≠ .d3ToD0 ∨ s.host.d3hot = true) :
    completes (.functionReset k) s ((s.resetFunction k).perst k) := by
  have he : exec (.functionReset k) s = answer (.functionReset k) (k ≠ .d3ToD0 || s.host.d3hot) s
      ((s.resetFunction k).perst k) := by
    change answer (.functionReset k) (if s.powered then k ≠ .d3ToD0 || s.host.d3hot else k = .perst) s
      (if s.powered then (s.resetFunction k).perst k else s.perst k) = _
    rw [if_pos hp, if_pos hp]
  exact completes_answer he rfl (by rcases hk with h | h <;> simp [h])

theorem completes_functionReset_unpowered (hp : s.powered = false) :
    completes (.functionReset k) s (s.perst k) := by
  have he : exec (.functionReset k) s = answer (.functionReset k) (k = .perst) s (s.perst k) := by
    change answer (.functionReset k) (if s.powered then k ≠ .d3ToD0 || s.host.d3hot else k = .perst) s
      (if s.powered then (s.resetFunction k).perst k else s.perst k) = _
    rw [if_neg (by rw [hp]; decide), if_neg (by rw [hp]; decide)]
  by_cases hk : k = .perst
  · exact completes_answer he rfl (decide_eq_true hk)
  · have := completes_idle he rfl (decide_eq_false hk)
    rw [State.perst, if_neg hk]
    exact this

end

theorem State.resetFunction_eq (s : State) (k : FnReset) :
    let strays := (List.range 17).foldl (fun s u => s.strayEntry u) s
    let stopped := (List.range 17).foldl (fun s u => if s.unitOn u then s.stopUnit u else s) strays
    let cold := stopped.coldRegs ringRegs
    let reset := { cold with host := { cold.host with
      gen := cold.host.gen + 1, units := List.replicate 17 {}, turn := 15, td := none, msix := [], pend := 0, d3hot := false
      pci := {} } }.orReg
      .hostLinkStat 0 (2 ^ 30)
    s.resetFunction k = if k = .linkDown ∨ k = .perst then reset.setReg .hostLinkStat 0 0x40000000 else reset := rfl

theorem completes_linkUp {s : State} {width speed : Nat} (hw : width = 1 ∨ width = 2 ∨ width = 4) (h0 : 0 < speed)
    (h5 : speed < 5) (hp : (s.powered && decide (2 ≤ s.phase)) = true) :
    completes (.pcieLinkUp width speed) s
      (let t := (s.setRf .hostLinkStat 0 31 31 1).setRf .hostLinkStat 0 7 0 (width * 16 + speed)
      { t with ao := { t.ao with perstLow := false } }) := by
  have hwf : (Instr.pcieLinkUp width speed).wf = true := by
    rcases hw with rfl | rfl | rfl <;> simp [Instr.wf] <;> omega
  have h := completes_answer (c := .pcieLinkUp width speed) rfl hwf hp
  rw [show at_ width 4 = width * 16 from Nat.shiftLeft_eq width 4] at h
  exact h

/-- R346 to R348, R391, R400: the link and the power state of the function, and its resets. -/
theorem pcieFunction : Rules.PcieFunction := by
  intro s k width speed strays stopped cold reset
  refine ⟨fun hp hk => ?_, fun hp => completes_functionReset_unpowered hp, fun hp hk => ?_, fun hd => ?_,
    fun hno hw h0 h5 => ?_, fun hp h2 hw h0 h5 => completes_linkUp hw h0 h5 (by rw [hp, decide_eq_true h2]; rfl),
    fun src b off v hl => ⟨?_, fun hs => ?_⟩, fun ha hl => ?_, fun ha hl => ?_⟩
  · have h := completes_functionReset (k := k) hp hk
    rw [State.resetFunction_eq, State.perst] at h
    exact h
  · have h := completes_functionReset_unpowered (k := k) hp
    rw [State.perst, if_neg hk] at h
    exact h
  · refine completes_idle (can := if s.powered then FnReset.d3ToD0 ≠ .d3ToD0 || s.host.d3hot else FnReset.d3ToD0 = .perst) rfl
      rfl ?_
    cases s.powered <;> simp [hd]
  · have hwf : (Instr.pcieLinkUp width speed).wf = true := by
      rcases hw with rfl | rfl | rfl <;> simp [Instr.wf] <;> omega
    refine completes_idle (can := s.powered && decide (2 ≤ s.phase)) rfl hwf ?_
    rcases hno with h | h
    · rw [h]
      rfl
    · rw [decide_eq_false (Nat.not_le.mpr h), Bool.and_false]
  · cases hwf : (Instr.registerWrite .pcie b off v).wf with
    | true => exact completes_of_bare (completes_writes hwf rfl) (State.request_of_perst hl b off v)
    | false => exact ⟨s, (exec_answers _ s).2 hwf, rfl, rfl⟩
  · simp [State.reaches, hs]
  · exact completes_idle (can := s.awake && s.reaches .pcie) rfl rfl
      (by rw [State.reaches_pcie_of_perst hl, Bool.and_false])
  · exact completes_answer (can := s.awake && s.reaches .pcie) rfl rfl (by simp [ha, State.reaches, hl])

/-- R394: stray entries. -/
theorem strayEntries : Rules.StrayEntries := by
  intro s u
  refine ⟨fun h => by rw [State.strayEntry, h], fun c rest h => ?_⟩
  intro size head full entry
  have found : s.strayEntry u = if s.cqFull u ∨ Config.freeValue s.free % 2 = 0 then { s with free := s.free + 1 }
      else { s with free := s.free + 1, out := entry :: s.out } := by
    rw [State.strayEntry, h]
    rfl
  have hfull : s.cqFull u = true ↔ full := decide_eq_true_iff
  refine ⟨fun hx => ?_, fun hf hv => ?_⟩
  · rw [found, if_pos (hx.imp hfull.mpr id)]
  · rw [found, if_neg (not_or.mpr ⟨fun hq => hf (hfull.mp hq), by omega⟩)]

/-! ### Units -/

/-- The register of EN of a unit. -/
def enReg (u : Nat) : RegId × Nat := if u < 16 then (.hostQpCtrl, u) else (.hostTdCtrl, 0)

section
variable {s : State} {src : Src} {u : Nat}

theorem regAt_en (hu : u < 17) : s.regAt .host (unitOff u) = some ((enReg u).1, (enReg u).2, false) := by
  rcases eq_of_lt_seventeen hu with rfl | rfl | rfl | rfl | rfl | rfl | rfl | rfl | rfl | rfl | rfl | rfl | rfl | rfl | rfl | rfl | rfl <;> rfl

theorem enReg_plain (hu : u < 17) : (enReg u).1.rwlMask = 0 ∧ groupOf (enReg u).1 (enReg u).2 = none
    ∧ unitOff u < 0x10000 ∧ unitOff u % 4 = 0
    ∧ Word.ofNat (2 ^ 31) &&& Word.ofNat ((enReg u).1.writableBy src) = Word.ofNat (2 ^ 31) := by
  rcases eq_of_lt_seventeen hu with rfl | rfl | rfl | rfl | rfl | rfl | rfl | rfl | rfl | rfl | rfl | rfl | rfl | rfl | rfl | rfl | rfl <;>
    cases src <;> decide

/-- A write of the EN bit alone through the SET or the CLR view. -/
theorem Access.unitCtrl_en {x : Access} (hm : x.mask = Word.ofNat (2 ^ 31)) :
    x.unitCtrl s u = if bitW x.new 31 then s.enableUnit x.src u else if s.unitOn u then s.stopUnit u else s := by
  have hplat : x.mask &&& Word.ofNat 0x38000000 = 0 := by rw [hm]; decide
  have hstore : ({ x with mask := setBitW x.mask 31 false } : Access).store s = s := by
    refine if_pos ?_
    have : setBitW x.mask 31 false = 0 := by rw [hm]; decide
    rw [this]
    exact BitVec.zero_and
  have hname : x.names 31 = true := by rw [Access.names, hm]; decide
  unfold Access.unitCtrl
  simp only [hplat, ne_eq, not_true, decide_false, Bool.and_false, Bool.false_eq_true, if_false, hstore, hname]

theorem act_en (hu : u < 17) (x : Access) (hid : x.id = (enReg u).1) (hi : x.i = (enReg u).2) :
    x.act s = x.unitCtrl s u := by
  obtain ⟨src, blk, off, view, id, i, mask, new⟩ := x
  subst hid hi
  by_cases h : u < 16
  · simp only [enReg, if_pos h]
    rfl
  · obtain rfl : u = 16 := by omega
    rfl

theorem completes_enableUnit (hs : s.takes src) (hu : u < 17) : completes (.enableUnit src u) s (s.enableUnit src u) := by
  obtain ⟨hl, hg, ho, h4, hm⟩ := enReg_plain (src := src) hu
  have h := completes_put (c := .enableUnit src u) (w := .set) (v := 2 ^ 31) rfl (decide_eq_true hu) hs rfl ho h4 (regAt_en hu)
    hl hg (.inl (by rw [View.touched_set, hm]; decide))
  have hset : bitW (s.access src .host (unitOff u) .set (enReg u).1 (enReg u).2 (Word.ofNat (2 ^ 31))).new 31 = true := by
    simp only [State.access, bitW, View.apply, BitVec.getLsbD_or]
    exact Bool.or_eq_true_iff.mpr (.inr (by decide))
  rw [act_en hu _ rfl rfl, Access.unitCtrl_en (by exact hm)] at h
  rw [if_pos hset] at h
  exact h

theorem completes_disableUnit (hs : s.takes src) (hu : u < 17) :
    completes (.disableUnit src u) s (if s.unitOn u then s.stopUnit u else s) := by
  obtain ⟨hl, hg, ho, h4, hm⟩ := enReg_plain (src := src) hu
  have h := completes_put (c := .disableUnit src u) (w := .clr) (v := 2 ^ 31) rfl (decide_eq_true hu) hs rfl ho h4 (regAt_en hu)
    hl hg (.inl (by rw [View.touched_clr, hm]; decide))
  have hclr : bitW (s.access src .host (unitOff u) .clr (enReg u).1 (enReg u).2 (Word.ofNat (2 ^ 31))).new 31 = false := by
    simp only [State.access, bitW, View.apply, BitVec.getLsbD_and, BitVec.getLsbD_not]
    exact Bool.and_eq_false_iff.mpr (.inr (by decide))
  rw [act_en hu _ rfl rfl, Access.unitCtrl_en (by exact hm)] at h
  rw [if_neg (by rw [hclr]; decide)] at h
  exact h

end

/-- R372, R384, R390: units enabled, disabled and idle. -/
theorem hostUnits : Rules.HostUnits := by
  intro s src u hu
  have idle (ha : s.awake = true) : completes (.unitIdle u) s (s.idleUnit u) := completes_answer rfl (decide_eq_true hu) ha
  refine ⟨fun hs hz => ?_, fun hs hz hi => ?_, fun hs hz hi => ?_, fun hs hon => ?_, fun hs hon => ?_, fun ha h => ?_, ?_,
    fun ha hf hw hh htd => ?_⟩
  · have h := completes_enableUnit hs hu
    rw [State.enableUnit, if_pos hz] at h
    exact h
  · have h := completes_enableUnit hs hu
    rw [State.enableUnit, if_neg (by rw [hz]; decide), if_pos (by rw [hi]; decide)] at h
    exact h
  · have h := completes_enableUnit hs hu
    rw [State.enableUnit, if_neg (by rw [hz]; decide), if_neg (by rw [hi]; decide)] at h
    exact h
  · have h := completes_disableUnit hs hu
    rw [if_pos hon] at h
    exact h
  · have h := completes_disableUnit hs hu
    rw [if_neg (by rw [hon]; decide)] at h
    exact h
  · have hq := idle ha
    rw [State.idleUnit, if_neg ?_] at hq
    · exact hq
    · rintro ⟨-, hf, hw, hh, ht⟩
      rcases h with h | h | h | ⟨h16, htd⟩
      · exact h hf
      · exact h (List.isEmpty_iff.mp hw)
      · rw [h] at hh
        cases hh
      · exact ht ⟨h16, Option.isSome_iff_ne_none.mpr htd⟩
  · rw [State.headsDone, Bool.and_eq_true, decide_eq_true_eq, decide_eq_true_eq]
  · have hq := idle ha
    rw [State.idleUnit, if_pos ⟨hu, hf, List.isEmpty_iff.mpr hw, hh, fun ⟨h16, ht⟩ => by rw [htd h16] at ht; cases ht⟩] at hq
    exact hq

/-- Settles O38: the function's resets, link and power states, and its units, each answer unfolded. -/
theorem pcieAndUnits : Obligations.PcieAndUnits := ⟨pcieFunction, strayEntries, hostUnits⟩

end Sys2Proof.Machine

/-! PROOFS. The doorbells of the host port (R359, R361, R373 to R375). -/

namespace Sys2Proof.Machine

section
variable {s : State} {src : Src} {db head size : RegId} {u off v : Nat}

/-! ### What a doorbell does, beside stirring the chip-level blocks -/

theorem State.bare_stir_producerDb : (s.stir.producerDb src db head size u off v).bare
    = (s.producerDb src db head size u off v).bare := by
  unfold State.stir
  split
  · change (if ¬ s.unitOn u then _ else if doorbellOk (v % 65536) (s.rf db u 15 0) (s.rf head u 15 0) (s.ring size u) then _
      else _ : State).bare = _
    unfold State.producerDb
    split
    · rfl
    · split <;> rfl
  · rfl

/-- R374: a completion doorbell. -/
def State.consumerDb (s : State) (src : Src) (u v : Nat) : State :=
  let old := s.rf .hostCqDb u 15 0
  if idxDiff (v % 65536) old ≤ idxDiff (s.rf .hostQpCqHead u 15 0) old then
    s.setReg .hostCqDb u (Word.ofNat (v % 65536))
  else s.illegal .host (if u < 16 then 0x8008 + u * 16 else 0x8104) src 8

theorem State.bare_cqDoorbell : (s.cqDoorbell src u v).bare = (s.consumerDb src u v).bare := by
  unfold State.cqDoorbell State.stir
  split
  · change (if idxDiff (v % 65536) (s.rf .hostCqDb u 15 0)
      ≤ idxDiff (s.rf .hostQpCqHead u 15 0) (s.rf .hostCqDb u 15 0) then _ else _ : State).bare = _
    simp only [State.consumerDb]
    split <;> rfl
  · rfl

variable {c : Instr} (hv : v < 65536)
include hv

theorem completes_producer (h : completes c s (s.stir.producerDb src db head size u off v)) :
    (s.unitOn u = false → completes c s (s.illegal .host off src 11))
      ∧ (s.unitOn u = true → idxDiff v (s.rf head u 15 0) ≤ s.ring size u
          ∧ idxDiff (s.rf db u 15 0) (s.rf head u 15 0) ≤ idxDiff v (s.rf head u 15 0) →
        completes c s (s.setReg db u (Word.ofNat v)))
      ∧ (s.unitOn u = true → ¬ (idxDiff v (s.rf head u 15 0) ≤ s.ring size u
          ∧ idxDiff (s.rf db u 15 0) (s.rf head u 15 0) ≤ idxDiff v (s.rf head u 15 0)) →
        completes c s (s.illegal .host off src 6)) := by
  replace h := completes_of_bare h State.bare_stir_producerDb
  have hok : doorbellOk v (s.rf db u 15 0) (s.rf head u 15 0) (s.ring size u) = true
      ↔ idxDiff v (s.rf head u 15 0) ≤ s.ring size u
        ∧ idxDiff (s.rf db u 15 0) (s.rf head u 15 0) ≤ idxDiff v (s.rf head u 15 0) := by
    rw [doorbellOk, Bool.and_eq_true, decide_eq_true_eq, decide_eq_true_eq]
  rw [State.producerDb, Nat.mod_eq_of_lt hv] at h
  refine ⟨fun hu => ?_, fun hu hd => ?_, fun hu hd => ?_⟩
  · rw [if_pos (by rw [hu]; decide)] at h
    exact h
  · rw [if_neg (by rw [hu]; decide), if_pos (hok.mpr hd)] at h
    exact h
  · rw [if_neg (by rw [hu]; decide), if_neg (mt hok.mp hd)] at h
    exact h

theorem completes_consumer (h : completes c s (s.cqDoorbell src u v)) :
    (idxDiff v (s.rf .hostCqDb u 15 0) ≤ idxDiff (s.rf .hostQpCqHead u 15 0) (s.rf .hostCqDb u 15 0) →
        completes c s (s.setReg .hostCqDb u (Word.ofNat v)))
      ∧ (idxDiff (s.rf .hostQpCqHead u 15 0) (s.rf .hostCqDb u 15 0) < idxDiff v (s.rf .hostCqDb u 15 0) →
        completes c s (s.illegal .host (if u < 16 then 0x8008 + u * 16 else 0x8104) src 8)) := by
  replace h := completes_of_bare h State.bare_cqDoorbell
  rw [State.consumerDb, Nat.mod_eq_of_lt hv] at h
  refine ⟨fun hd => ?_, fun hd => ?_⟩
  · rw [if_pos hd] at h
    exact h
  · rw [if_neg (Nat.not_le.mpr hd)] at h
    exact h

end

/-! ### In the register block -/

section
variable {s : State} {src : Src} {q v : Nat} {c : Instr}

theorem regAt_doorbells (s : State) (hq : q < 16) : s.regAt .host (0x8000 + q * 16) = some (.hostTxDb, q, false)
    ∧ s.regAt .host (0x8000 + q * 16 + 4) = some (.hostRxDb, q, false)
    ∧ s.regAt .host (0x8000 + q * 16 + 8) = some (.hostCqDb, q, false) := by
  rcases eq_of_lt_seventeen (Nat.lt_succ_of_lt hq) with rfl | rfl | rfl | rfl | rfl | rfl | rfl | rfl | rfl | rfl | rfl | rfl | rfl | rfl |
    rfl | rfl | rfl
  case inr.inr.inr.inr.inr.inr.inr.inr.inr.inr.inr.inr.inr.inr.inr.inr => exact absurd hq (by decide)
  all_goals exact ⟨rfl, rfl, rfl⟩

/-- A doorbell register takes the low half of what is written. -/
theorem completes_dbWrite {id : RegId} {i off : Nat} {f : Nat → State} (he : exec c s = Machine.access c s (s.put src .host .normal off v))
    (hw : c.wf = true) (hs : s.takes src) (ho : off < 0x10000) (h4 : off % 4 = 0) (hr : s.regAt .host off = some (id, i, false))
    (hl : id.rwlMask = 0) (hg : groupOf id i = none) (hm : Word.ofNat (id.writableBy src) ≠ 0) (hv : v < 65536)
    (hact : (s.access src .host off .normal id i (Word.ofNat v)).act s = f (fld (Word.ofNat v) 15 0)) : completes c s (f v) := by
  have h := completes_put he hw hs rfl ho h4 hr hl hg (.inl (by rwa [View.touched_normal]))
  rw [hact, fld_ofNat (by omega), show v / 2 ^ 0 % 2 ^ (15 + 1 - 0) = v by omega] at h
  exact h

end

/-! ### In the user window -/

section
variable {s : State} {q v : Nat}

/-- A doorbell of PCIe in the page of a queue pair. -/
theorem State.userDoorbell_page (hq : q < 16) (ha : s.awake = true) (hl : s.ao.perstLow = false) (hd : s.host.d3hot = false)
    {off : Nat} (ho : off < 12) (h4 : off % 4 = 0) :
    s.userDoorbell (q * 0x10000 + off) v = s.pageWrite q off (Word.ofNat v) := by
  have hr : s.reaches .pcie = true := by simp [State.reaches, hl]
  rw [State.userDoorbell, if_neg (by simp [State.unsupported, hd]; omega), State.userWrite,
    if_neg (by rw [ha, hr, hd]; simp; omega), if_pos (by omega), show (q * 0x10000 + off) / 0x10000 = q by omega,
    show (q * 0x10000 + off) % 0x10000 = off by omega]

theorem State.pageWrite_undelegated (hd : s.delegated q = false) {off : Nat} (ho : off < 12) (w : Word) :
    s.pageWrite q off w = s.illegal .host (0x8000 + q * 16 + off) .pcie 12 := by
  rw [State.pageWrite, if_pos (by rw [hd]; decide), if_pos ho]

theorem State.pageWrite_delegated (hd : s.delegated q = true) (hv : v < 65536) :
    s.pageWrite q 0 (Word.ofNat v) = s.txDoorbell .pcie q v ∧ s.pageWrite q 4 (Word.ofNat v) = s.rxDoorbell .pcie q v
      ∧ s.pageWrite q 8 (Word.ofNat v) = s.cqDoorbell .pcie q v := by
  have hf : fld (Word.ofNat v) 15 0 = v := by
    rw [fld_ofNat (by omega)]
    omega
  refine ⟨?_, ?_, ?_⟩
  all_goals rw [State.pageWrite, if_neg (by rw [hd]; decide), hf]
  · exact if_pos rfl
  · exact (if_neg (by decide)).trans (if_pos rfl)
  · exact (if_neg (by decide)).trans ((if_neg (by decide)).trans (if_pos rfl))

end

/-! ### Both ways -/

section
variable {s : State} {src : Src} {q v : Nat} {user : Bool}

/-- A doorbell in the user window. -/
theorem completes_userDb {c : Instr} {off : Nat} {t : State}
    (he : exec c s = Machine.access c s (s.doorbell src q off v user)) (hw : c.wf = true) (hu : user = true)
    (ht : s.userDoorbell (q * 0x10000 + off) v = t) : completes c s t := by
  rw [State.doorbell, if_pos hu, ht] at he
  exact completes_access hw he

theorem completes_txDb (hq : q < 16) (hv : v < 65536) (hr : rings s src q user) :
    completes (.txDb src q v user) s (s.txDoorbell src q v) := by
  rcases hr with ⟨rfl, hs⟩ | ⟨rfl, rfl, ha, hl, hd, hg⟩
  · exact completes_dbWrite (f := s.txDoorbell src q) rfl (by simp [Instr.wf, isUser, hq, hv]) hs (by omega) (by omega)
      (regAt_doorbells s hq).1 rfl rfl (by cases src <;> decide) hv rfl
  · exact completes_userDb (off := 0) rfl (by simp [Instr.wf, isUser, hq, hv]) rfl
      ((State.userDoorbell_page hq ha hl hd (by decide) (by decide)).trans (State.pageWrite_delegated hg hv).1)

theorem completes_rxDb (hq : q < 16) (hv : v < 65536) (hr : rings s src q user) :
    completes (.rxDb src q v user) s (s.rxDoorbell src q v) := by
  rcases hr with ⟨rfl, hs⟩ | ⟨rfl, rfl, ha, hl, hd, hg⟩
  · exact completes_dbWrite (f := s.rxDoorbell src q) rfl (by simp [Instr.wf, isUser, hq, hv]) hs (by omega) (by omega)
      (regAt_doorbells s hq).2.1 rfl rfl (by cases src <;> decide) hv rfl
  · exact completes_userDb (off := 4) rfl (by simp [Instr.wf, isUser, hq, hv]) rfl
      ((State.userDoorbell_page hq ha hl hd (by decide) (by decide)).trans (State.pageWrite_delegated hg hv).2.1)

theorem completes_cqDb (hq : q < 16) (hv : v < 65536) (hr : rings s src q user) :
    completes (.cqDb src q v user) s (s.cqDoorbell src q v) := by
  rcases hr with ⟨rfl, hs⟩ | ⟨rfl, rfl, ha, hl, hd, hg⟩
  · exact completes_dbWrite (f := s.cqDoorbell src q) rfl (by simp [Instr.wf, isUser, hq, hv]) hs (by omega) (by omega)
      (regAt_doorbells s hq).2.2 rfl rfl (by cases src <;> decide) hv rfl
  · exact completes_userDb (off := 8) rfl (by simp [Instr.wf, isUser, hq, hv]) rfl
      ((State.userDoorbell_page hq ha hl hd (by decide) (by decide)).trans (State.pageWrite_delegated hg hv).2.2)

end

/-- Settles O39: the two tests of R373 on each producer doorbell, in the register block and in the user window. -/
theorem producerDoorbells : Obligations.ProducerDoorbells := by
  intro s src q v user hq hv ok rule
  refine ⟨fun hr => ⟨?_, ?_⟩, fun hs => ?_⟩
  · have h := completes_txDb hq hv hr
    rw [State.txDoorbell, if_pos hq] at h
    exact completes_producer hv h
  · exact completes_producer hv (completes_rxDb hq hv hr)
  · have h : completes (.tdDb src v) s (s.txDoorbell src 16 v) :=
      completes_dbWrite (f := s.txDoorbell src 16) (id := .hostTxDb) (i := 16) rfl (decide_eq_true hv) hs (by decide) (by decide)
        rfl rfl rfl (by cases src <;> decide) hv rfl
    exact completes_producer hv h

/-- R374: completion doorbells. -/
theorem completionDoorbells : Rules.CompletionDoorbells := by
  intro s src q v user hq hv rule
  refine ⟨fun hr => ?_, fun hs => ?_⟩
  · have h := completes_consumer hv (completes_cqDb hq hv hr)
    rw [if_pos hq] at h
    exact h
  · have h : completes (.tdcDb src v) s (s.cqDoorbell src 16 v) :=
      completes_dbWrite (f := s.cqDoorbell src 16) (id := .hostCqDb) (i := 16) rfl (decide_eq_true hv) hs (by decide) (by decide)
        rfl rfl rfl (by cases src <;> decide) hv rfl
    exact completes_consumer hv h

/-- R361: doorbells of a queue pair that is not delegated. -/
theorem undelegatedDoorbells : Rules.UndelegatedDoorbells := by
  intro s q v hq hv ha hl hd hg
  have refused {off : Nat} (ho : off < 12) (h4 : off % 4 = 0) :
      s.userDoorbell (q * 0x10000 + off) v = s.illegal .host (0x8000 + q * 16 + off) .pcie 12 :=
    (State.userDoorbell_page hq ha hl hd ho h4).trans (State.pageWrite_undelegated hg ho _)
  exact ⟨completes_userDb (off := 0) rfl (by simp [Instr.wf, isUser, hq, hv]) rfl (refused (by decide) (by decide)),
    completes_userDb (off := 4) rfl (by simp [Instr.wf, isUser, hq, hv]) rfl (refused (by decide) (by decide)),
    completes_userDb (off := 8) rfl (by simp [Instr.wf, isUser, hq, hv]) rfl (refused (by decide) (by decide))⟩

/-- An access that emits a message completes with it. -/
theorem says_access {c : Instr} {s : State} {o : Out} (he : exec c s = Machine.access c s (s.emit o)) (hw : c.wf = true) :
    ∃ u, exec c s = .next u ∧ u.bare = s.bare ∧ o ∈ u.out :=
  ⟨_, exec_out he hw rfl, State.bare_fin s _, (State.says_fin s (s.emit o)).mem (List.mem_cons_self ..)⟩

/-- R347: doorbells in D3hot. -/
theorem doorbellsInD3hot : Rules.DoorbellsInD3hot := by
  intro s q v hq hv hl hd turned
  have away (a : Nat) : s.userDoorbell a v = s.emit (.unsupported .bar2 a) :=
    if_pos (by simp [State.unsupported, State.reaches, hl, hd])
  have turns (off : Nat) : s.doorbell .pcie q off v true = s.emit (.unsupported .bar2 (q * 0x10000 + off)) :=
    (if_pos rfl).trans (away _)
  refine ⟨says_access ?_ (by simp [Instr.wf, isUser, hq, hv]), says_access ?_ (by simp [Instr.wf, isUser, hq, hv]),
    says_access ?_ (by simp [Instr.wf, isUser, hq, hv])⟩
  · exact congrArg (Machine.access _ s) ((turns 0).trans (by rw [Nat.add_zero]))
  · exact congrArg (Machine.access _ s) (turns 4)
  · exact congrArg (Machine.access _ s) (turns 8)

/-- Settles O40: completion doorbells, and the doorbells of the user window that are turned away. -/
theorem otherDoorbells : Obligations.OtherDoorbells := ⟨completionDoorbells, undelegatedDoorbells, doorbellsInD3hot⟩

end Sys2Proof.Machine

/-! PROOFS. Host frames sent and received (R376 to R382, R389), completions and failed accesses (R385 to R389, R393). -/

namespace Sys2Proof.Machine

/-! ### Transmit frames -/

section
variable {s : State} {q : Nat} {descs : List (List Word)} {data : Option (List Byte)}

theorem State.fetchTx_idle (h : s.txTurn q = false) : s.fetchTx q descs data = s := if_pos (by simp [h])

variable (hq : q < 16) (ht : s.txTurn q = true)
include hq ht

theorem State.fetchTx_bad {k code : Nat} (hw : s.txWalk (descs.take (s.txPosted q)) 0 0 0 = .bad k code) :
    s.fetchTx q descs data = s.malformed q 0 ((s.unit q).fetch + k) code := by
  unfold State.fetchTx
  rw [if_neg (not_not_intro ⟨hq, ht⟩)]
  extract_lets posted at0
  rw [show s.txWalk posted 0 0 0 = .bad k code from hw]

theorem State.fetchTx_open (hw : s.txWalk (descs.take (s.txPosted q)) 0 0 0 = .open_) :
    s.fetchTx q descs data = { s with host := { s.host with turn := q } } := by
  unfold State.fetchTx
  rw [if_neg (not_not_intro ⟨hq, ht⟩)]
  extract_lets posted at0
  rw [show s.txWalk posted 0 0 0 = .open_ from hw]

variable {n : Nat} (hw : s.txWalk (descs.take (s.txPosted q)) 0 0 0 = .frame n) {h : HostInfo}
  (hi : s.txInfo q n ((descs.take (s.txPosted q)).headD []) = h)
include hw hi

theorem State.fetchTx_full (hc : 8192 < s.fixedUsed + s.ownCells + ceilDiv (max h.len 60 + 4) 256) :
    s.fetchTx q descs data = s := by
  unfold State.fetchTx
  rw [if_neg (not_not_intro ⟨hq, ht⟩)]
  extract_lets posted at0
  rw [show s.txWalk posted 0 0 0 = .frame n from hw]
  dsimp only
  rw [show s.txInfo q n (posted.headD []) = h from hi]
  exact if_pos hc

theorem State.fetchTx_failed (hc : s.fixedUsed + s.ownCells + ceilDiv (max h.len 60 + 4) 256 ≤ 8192) :
    s.fetchTx q descs none = ((s.takeDescs q n).postCompl q (txCompl h 1)).count .host q 3 := by
  unfold State.fetchTx
  rw [if_neg (not_not_intro ⟨hq, ht⟩)]
  extract_lets posted at0
  rw [show s.txWalk posted 0 0 0 = .frame n from hw]
  dsimp only
  rw [show s.txInfo q n (posted.headD []) = h from hi]
  exact if_neg (Nat.not_lt.mpr hc)

theorem State.fetchTx_frame {b : List Byte} (hc : s.fixedUsed + s.ownCells + ceilDiv (max h.len 60 + 4) 256 ≤ 8192) :
    s.fetchTx q descs (some b) =
      (let cells := ceilDiv (max h.len 60 + 4) 256
       let p := s.rf .hostQpCtrl q 29 27
       let b := hostBytes b h.len
       let f : Frame :=
         { bytes := b, len := b.length, port := 528 + q, plat := p, host := some h, cls := h.cls
           charge := { fixed := cells } }
       let t := ((s.takeDescs q n).writeBeats p b.length).modUnit q fun x => { x with inFlight := x.inFlight + 1 }
       { t with fixedUsed := t.fixedUsed + cells }.modPlat p fun x => { x with hostQ := x.hostQ ++ [f] }) := by
  unfold State.fetchTx
  rw [if_neg (not_not_intro ⟨hq, ht⟩)]
  extract_lets posted at0
  rw [show s.txWalk posted 0 0 0 = .frame n from hw]
  dsimp only
  rw [show s.txInfo q n (posted.headD []) = h from hi]
  exact if_neg (Nat.not_lt.mpr hc)

end

/-- What each step of a fold keeps, the fold keeps. -/
theorem foldl_keeps {α β γ : Type} {g : α → γ} {f : α → β → α} (h : ∀ a b, g (f a b) = g a) (l : List β) (a : α) :
    g (l.foldl f a) = g a := by
  induction l generalizing a with
  | nil => rfl
  | cons b l ih => exact (ih _).trans (h a b)

theorem State.perfBump_fixedUsed (s : State) (p k n : Nat) : (s.perfBump p k n).fixedUsed = s.fixedUsed := by
  unfold State.perfBump
  split
  · rfl
  · obtain ⟨lo, hi, i⟩ := perfRegs p k
    dsimp -zeta only
    extract_lets v t u
    have ht : t.fixedUsed = s.fixedUsed := (State.setPerf48_fixedUsed ..).trans (State.modPlat_fixedUsed ..)
    have hu : u.fixedUsed = s.fixedUsed := (State.setReg_fixedUsed ..).trans ht
    clear_value t u
    repeat' split
    · exact ht
    · exact hu
    · exact hu
    · exact (State.modPlat_fixedUsed ..).trans ((State.setReg_fixedUsed ..).trans hu)

theorem State.perf_fixedUsed (s : State) (p ev : Nat) (port cls : Option Nat) (n : Nat) :
    (s.perf p ev port cls n).fixedUsed = s.fixedUsed := by
  unfold State.perf
  split
  · rfl
  · exact foldl_keeps (g := State.fixedUsed) (fun s k => by
      split
      · exact s.perfBump_fixedUsed p k n
      · rfl) _ s

theorem State.agg_fixedUsed (s : State) (i n : Nat) : (s.agg i n).fixedUsed = s.fixedUsed := by
  unfold State.agg
  split
  · exact State.setPerf48_fixedUsed ..
  · rfl

theorem State.writeBeats_fixedUsed (s : State) (p n : Nat) : (s.writeBeats p n).fixedUsed = s.fixedUsed :=
  (State.agg_fixedUsed ..).trans (State.perf_fixedUsed ..)

theorem State.busyUnit_modUnit_fixedUsed (s : State) (u v : Nat) (f : HostUnit → HostUnit) :
    ((s.busyUnit u).modUnit v f).fixedUsed = s.fixedUsed :=
  (State.modUnit_fixedUsed ..).trans (State.setRf_fixedUsed ..)

theorem State.takeDescs_fixedUsed (s : State) (q n : Nat) : (s.takeDescs q n).fixedUsed = s.fixedUsed :=
  State.busyUnit_modUnit_fixedUsed { s with host := { s.host with turn := q } } q q _

theorem completes_hostTxFetch {s : State} {q : Nat} {descs : List (List Word)} {data : List Byte} (hq : q < 16)
    (hr : s.running = true) (hc : s.retained = false) :
    completes (.hostTxFetch q descs data) s (s.fetchTx q descs (some data)) :=
  completes_event (can := !s.retained && true) rfl (decide_eq_true hq) hr (by simp [hc])

theorem hostTransmit : Rules.HostTransmit := by
  intro s q descs data hq hr hc posted
  have h := completes_hostTxFetch (descs := descs) (data := data) hq hr hc
  refine ⟨fun ht => ?_, fun ht => ⟨fun k code hw => ?_, fun hw => ?_, fun n hw => ?_⟩⟩
  · rw [State.fetchTx_idle ht] at h; exact h
  · rw [State.fetchTx_bad hq ht hw] at h; exact h
  · rw [State.fetchTx_open hq ht hw] at h; exact h
  · intro i cells p b f
    refine ⟨fun hf => ?_, fun hf => ?_⟩
    · rw [State.fetchTx_full hq ht hw rfl hf] at h; exact h
    intro t
    have ht' : t.fixedUsed = s.fixedUsed := by
      rw [State.modUnit_fixedUsed, State.writeBeats_fixedUsed, State.takeDescs_fixedUsed]
    rw [State.fetchTx_frame hq ht hw rfl hf] at h
    rw [← ht']
    exact h

/-! ### Receive buffers -/

/-- The length of a posted buffer (R380). -/
def rxLen (d : List Word) : Nat := fld (dword d 2) 15 0

theorem rxWalk_cons (d : List Word) (r : List (List Word)) (k l : Nat) :
    rxWalk (d :: r) k l = if l = 0 then .fits k else if rxBad d then .bad k else rxWalk r (k + 1) (l - rxLen d) := rfl

/-- Nothing is left to place: no buffer is taken. -/
theorem rxWalk_zero (bufs : List (List Word)) (k : Nat) : rxWalk bufs k 0 = .fits k := by
  cases bufs with
  | nil => exact if_pos rfl
  | cons d r => exact if_pos rfl

/-- The first `j` buffers are the fewest that hold `l` bytes, and none of them is malformed. -/
def RxFits (bufs : List (List Word)) (l j : Nat) : Prop :=
  j ≤ bufs.length ∧ l ≤ ((bufs.take j).map rxLen).sum ∧ (∀ m, m < j → ((bufs.take m).map rxLen).sum < l)
    ∧ ∀ d ∈ bufs.take j, rxBad d = false

theorem rxFits_zero_iff {bufs : List (List Word)} {j : Nat} : RxFits bufs 0 j ↔ j = 0 :=
  ⟨fun ⟨_, _, hm, _⟩ => Nat.eq_zero_of_not_pos fun hj => Nat.not_lt_zero _ (hm 0 hj), fun h => by subst h; simp [RxFits]⟩

theorem not_rxFits_zero {bufs : List (List Word)} {l : Nat} (hl : l ≠ 0) : ¬ RxFits bufs l 0 := fun ⟨_, h, _⟩ =>
  hl (Nat.le_zero.mp h)

theorem rxFits_succ_iff {d : List Word} {r : List (List Word)} {l j : Nat} (hl : l ≠ 0) :
    RxFits (d :: r) l (j + 1) ↔ rxBad d = false ∧ RxFits r (l - rxLen d) j := by
  simp only [RxFits, List.length_cons, List.take_succ_cons, List.map_cons, List.sum_cons, List.mem_cons, forall_eq_or_imp,
    Nat.succ_le_succ_iff, Nat.sub_le_iff_le_add']
  constructor
  · rintro ⟨hj, h, hm, hb, hr⟩
    refine ⟨hb, hj, h, fun m hlt => ?_, hr⟩
    have := hm (m + 1) (Nat.succ_lt_succ hlt)
    rw [List.take_succ_cons, List.map_cons, List.sum_cons] at this
    exact Nat.lt_sub_of_add_lt (Nat.add_comm .. ▸ this)
  · rintro ⟨hb, hj, h, hm, hr⟩
    refine ⟨hj, h, fun m hlt => ?_, hb, hr⟩
    cases m with
    | zero => exact Nat.pos_of_ne_zero hl
    | succ m =>
      have := hm m (Nat.lt_of_succ_lt_succ hlt)
      rw [List.take_succ_cons, List.map_cons, List.sum_cons]
      exact Nat.add_comm .. ▸ Nat.add_lt_of_lt_sub this

/-- The buffers walked from the `k`-th on. -/
theorem rxWalk_fits_iff (bufs : List (List Word)) (k l n : Nat) :
    rxWalk bufs k l = .fits n ↔ ∃ j, n = k + j ∧ RxFits bufs l j := by
  by_cases h0 : l = 0
  · subst h0
    simp [rxWalk_zero, rxFits_zero_iff, eq_comm]
  induction bufs generalizing k l with
  | nil =>
    refine iff_of_false (by simp [rxWalk, h0]) fun ⟨j, _, hj⟩ => ?_
    obtain rfl : j = 0 := Nat.le_zero.mp hj.1
    exact not_rxFits_zero h0 hj
  | cons d r ih =>
    have shift : (∃ j, n = k + j ∧ RxFits (d :: r) l j) ↔ rxBad d = false ∧ ∃ j, n = k + 1 + j ∧ RxFits r (l - rxLen d) j := by
      constructor
      · rintro ⟨_ | j, e, hj⟩
        · exact absurd hj (not_rxFits_zero h0)
        · obtain ⟨hb, hj⟩ := (rxFits_succ_iff h0).mp hj
          exact ⟨hb, j, by omega, hj⟩
      · rintro ⟨hb, j, e, hj⟩
        exact ⟨j + 1, by omega, (rxFits_succ_iff h0).mpr ⟨hb, hj⟩⟩
    rw [rxWalk_cons, if_neg h0, shift]
    cases hb : rxBad d with
    | true => simp
    | false =>
      simp only [Bool.false_eq_true, if_false, true_and]
      by_cases h1 : l - rxLen d = 0
      · rw [h1]
        simp [rxWalk_zero, rxFits_zero_iff, eq_comm]
      · exact ih _ _ h1

theorem receiveBuffers : Rules.ReceiveBuffers :=
  ⟨fun bufs l n => (rxWalk_fits_iff bufs 0 l n).trans
      ⟨fun ⟨j, e, h⟩ => by rw [Nat.zero_add] at e; subst e; exact h, fun h => ⟨n, (Nat.zero_add n).symm, h⟩⟩,
    fun d => by simp [rxBad, and_assoc]⟩

/-! ### Frames for a receive ring -/

theorem State.release_frame (s : State) (x : Copy) : (s.release x).2.frame = x.frame := by
  unfold State.release
  extract_lets q
  cases x.pool
  case reservation | shared | fixed => rfl
  case account =>
    dsimp only
    cases s.ref x.frame.no with
    | none => rfl
    | some r =>
      dsimp only
      split <;> rfl

theorem State.takeCopy_frame (s : State) (e c : Nat) (x : Copy) : (s.takeCopy e c x).2.frame = x.frame :=
  State.release_frame ..

theorem State.writeBufs_shape (s : State) (bufs : List (List Word)) (b : List Byte) :
    ∃ o, s.writeBufs bufs b = { s with out := o } := by
  induction bufs generalizing s b with
  | nil => exact ⟨_, rfl⟩
  | cons d r ih =>
    unfold State.writeBufs
    split
    · exact ⟨_, rfl⟩
    · obtain ⟨o, ho⟩ := ih (s.emit _) (b.drop (fld (dword d 2) 15 0))
      exact ⟨o, ho⟩

theorem State.says_writeBufs (s : State) (bufs : List (List Word)) (b : List Byte) : s.Says (s.writeBufs bufs b) := by
  induction bufs generalizing s b with
  | nil => exact s.says_refl
  | cons d r ih =>
    unfold State.writeBufs
    split
    · exact s.says_refl
    · exact (s.says_emit _).trans (ih ..)

/-- A frame fills the buffers in ring order (R380). -/
theorem State.mem_writeBufs (s : State) (bufs : List (List Word)) (b : List Byte) (k : Nat) (d : List Word)
    (hk : bufs[k]? = some d) (hb : ((bufs.take k).map rxLen).sum < b.length) :
    Out.hostMem ((dword d 0).toNat + (dword d 1).toNat * 2 ^ 32)
      ((b.drop ((bufs.take k).map rxLen).sum).take (rxLen d)) ∈ (s.writeBufs bufs b).out := by
  induction bufs generalizing s b k with
  | nil => simp at hk
  | cons e r ih =>
    have hne : b.isEmpty = false := by cases b <;> simp at hb ⊢
    unfold State.writeBufs
    rw [if_neg (by rw [hne]; decide)]
    dsimp only
    cases k with
    | zero =>
      obtain rfl : e = d := by simpa using hk
      refine (State.says_writeBufs ..).mem ?_
      rw [List.take_zero, List.map_nil, List.sum_nil, List.drop_zero]
      exact List.mem_cons_self ..
    | succ k =>
      rw [List.take_succ_cons, List.map_cons, List.sum_cons] at hb ⊢
      rw [← List.drop_drop]
      exact ih _ _ k (by simpa using hk) (by rw [List.length_drop]; exact Nat.lt_sub_of_add_lt (Nat.add_comm .. ▸ hb))

section
variable {s t : State} {q c : Nat} {x y : Copy} {bufs : List (List Word)} {n : Nat}

/-- The head frame of class `c` as the delivery takes it, with what the delivery counts at once. -/
def State.delivering (t : State) (e c l : Nat) : State :=
  ((t.perf 0 12 (perfPort e) (some c) 1).perf 0 10 (perfPort e) none (beats l)).agg 2 (beats l)

variable {d : State} (hx : s.takeCopy (528 + q) c x = (t, y)) (hd : t.delivering (528 + q) c y.frame.bytes.length = d)
include hx hd

theorem State.deliver_injected (hi : d.injCell 0 = true) :
    s.deliver q c x bufs n = (d.takeInjCell 0).crcFailed 0 (528 + q) true := by
  subst hd
  unfold State.deliver
  rw [hx]
  exact if_pos hi

variable (hi : d.injCell 0 = false)
include hi

theorem State.deliver_badCell (hb : y.frame.badCells ≠ []) :
    s.deliver q c x bufs n = d.crcFailed 0 (528 + q) false := by
  have hb : (!y.frame.badCells.isEmpty) = true := by cases h : y.frame.badCells <;> simp_all
  subst hd
  unfold State.deliver
  rw [hx]
  exact (if_neg (by rw [← Bool.not_eq_true] at hi; exact hi)).trans (if_pos hb)

theorem State.deliver_sound (hb : y.frame.badCells = []) :
    s.deliver q c x bufs n =
      (((d.writeBufs (bufs.take n) y.frame.bytes).modUnit q fun z =>
        { z with rxTake := (z.rxTake + n) % 65536 }).postCompl q
          (d.rxCompl y q n)).count .host q 1 := by
  have hb : ¬ (!y.frame.badCells.isEmpty) = true := by simp [hb]
  subst hd
  unfold State.deliver
  rw [hx]
  exact (if_neg (by rw [← Bool.not_eq_true] at hi; exact hi)).trans (if_neg hb)

end

/-- A counter does not depend on what has been said. -/
theorem State.bare_count_with_out (s : State) (o : List Out) (b : CntBank) (u i : Nat) :
    ({ s with out := o }.count b u i).bare = (s.count b u i).bare := by
  unfold State.count State.countN State.setCounter
  by_cases h : bitOf (s.counter b u i) 39 = bitOf ((s.counter b u i + 1) % 2 ^ 40) 39
  · refine (congrArg State.bare (if_pos h)).trans (Eq.trans ?_ (congrArg State.bare (if_pos h)).symm)
    rfl
  · cases halfBit b u i with
    | none =>
      refine (congrArg State.bare (if_neg h)).trans (Eq.trans ?_ (congrArg State.bare (if_neg h)).symm)
      rfl
    | some x =>
      refine (congrArg State.bare (if_neg h)).trans (Eq.trans ?_ (congrArg State.bare (if_neg h)).symm)
      rfl

theorem State.bare_delivered (s : State) (o : List Out) (q : Nat) (f : HostUnit → HostUnit) (c : Compl) :
    ((({ s with out := o }.modUnit q f).postCompl q c).count .host q 1).bare
      = (((s.modUnit q f).postCompl q c).count .host q 1).bare :=
  ((s.modUnit q f).postCompl q c).bare_count_with_out o ..

theorem State.out_delivered (s : State) (q : Nat) (f : HostUnit → HostUnit) (c : Compl) :
    (((s.modUnit q f).postCompl q c).count .host q 1).out = s.out := by
  rw [State.count_out]
  rfl

section
variable {s t : State} {q : Nat} {bufs posted : List (List Word)} (hp : bufs.take (s.rxPosted q) = posted)
  (hl : (s.port (528 + q)).link = true)
include hp hl

theorem State.hostSelect_malformed {k : Nat} (hm : s.rxMalformed q posted = some k) :
    s.hostSelect q bufs = s.malformed q 1 ((s.unit q).rxTake + k) 6 := by
  subst hp
  unfold State.hostSelect
  extract_lets e
  rw [if_neg (not_not_intro hl), hm]

/-- A head frame that the receive ring can take, or that is malformed there (R382). -/
def State.rxReady (q : Nat) (posted : List (List Word)) (u : State) (_ : Nat) (x : Copy) : Bool :=
  !u.complFull q && rxWalk posted 0 x.frame.bytes.length ≠ .short

variable (hm : s.rxMalformed q posted = none)
include hm

theorem State.hostSelect_none
    (hs : (if posted.length = s.rxPosted q then s.holdHeads q posted else s).selectFrom (528 + q) (State.rxReady q posted)
      highFirst = (t, none)) : s.hostSelect q bufs = t := by
  subst hp
  unfold State.hostSelect
  extract_lets e b u ready
  rw [if_neg (not_not_intro hl), hm]
  dsimp only
  rw [show u.selectFrom e ready highFirst = (t, none) from hs]

theorem State.hostSelect_some {c n : Nat} {x : Copy} {rest : List Copy}
    (hs : (if posted.length = s.rxPosted q then s.holdHeads q posted else s).selectFrom (528 + q) (State.rxReady q posted)
      highFirst = (t, some c)) (hx : ((t.port (528 + q)).queue c).copies = x :: rest)
    (hw : rxWalk posted 0 x.frame.bytes.length = .fits n) : s.hostSelect q bufs = t.deliver q c x posted n := by
  subst hp
  unfold State.hostSelect
  extract_lets e b u ready
  rw [if_neg (not_not_intro hl), hm]
  dsimp only
  rw [show u.selectFrom e ready highFirst = (t, some c) from hs]
  dsimp only
  rw [show ((t.port e).queue c).copies = x :: rest from hx]
  dsimp only
  rw [show rxWalk b 0 x.frame.bytes.length = .fits n from hw]

end

theorem exec_hostSelect {s t : State} {q : Nat} {bufs : List (List Word)} (hc : s.retained = false) (ht : s.hostSelect q bufs = t) :
    exec (.transmissionSelection (528 + q) bufs) s = event (.transmissionSelection (528 + q) bufs) true s t := by
  have he : (if 528 ≤ 528 + q then s.hostSelect (528 + q - 528) bufs else s.select (528 + q)) = t := by
    rw [if_pos (Nat.le_add_right ..), Nat.add_sub_cancel_left, ht]
  show event _ (decide (528 + q < 528) || !s.retained) s _ = _
  rw [hc, Bool.not_false, Bool.or_true, he]

theorem isEgress_host {q : Nat} (hq : q < 16) : isEgress (528 + q) = true := by
  simp [isEgress]
  omega

theorem hostReceive : Rules.HostReceive := by
  intro s q bufs hq hr hc e posted fits h sel hl
  have hwf : (Instr.transmissionSelection e bufs).wf = true := isEgress_host hq
  have go {t : State} (ht : s.hostSelect q bufs = t) : completes (.transmissionSelection e bufs) s t :=
    completes_event (exec_hostSelect hc ht) hwf hr rfl
  have hsel : (if posted.length = s.rxPosted q then s.holdHeads q posted else s).selectFrom (528 + q) (State.rxReady q posted)
      highFirst = sel := rfl
  clear_value sel
  refine ⟨fun k hm => go (State.hostSelect_malformed rfl hl hm), fun hm => ⟨fun hn => ?_, ?_⟩⟩
  · exact go (State.hostSelect_none rfl hl hm (hsel.trans (Prod.ext rfl hn)))
  · intro c x rest n hsome hx hw b taken t len
    have hd := State.hostSelect_some rfl hl hm (hsel.trans (Prod.ext rfl hsome)) hx hw
    have hf : (sel.1.takeCopy e c x).2.frame = x.frame := State.takeCopy_frame ..
    have ht : State.delivering (sel.1.takeCopy e c x).1 (528 + q) c (sel.1.takeCopy e c x).2.frame.bytes.length = t := by
      rw [hf]; rfl
    clear_value t
    refine ⟨fun hi => ?_, fun hi hb => ?_, fun hi hb => ?_⟩
    · have h := State.deliver_injected (bufs := posted) (n := n) (Prod.eta (sel.1.takeCopy (528 + q) c x)).symm ht hi
      exact go (hd.trans h)
    · have h := State.deliver_badCell (bufs := posted) (n := n) (Prod.eta (sel.1.takeCopy (528 + q) c x)).symm ht hi
        (by rw [hf]; exact hb)
      exact go (hd.trans h)
    · have h := State.deliver_sound (bufs := posted) (n := n) (Prod.eta (sel.1.takeCopy (528 + q) c x)).symm ht hi
        (by rw [hf]; exact hb)
      rw [hf] at h
      obtain ⟨o, ho⟩ := t.writeBufs_shape (posted.take n) x.frame.bytes
      have he := exec_hostSelect hc (hd.trans h)
      obtain ⟨v, hv, hb, -⟩ := completes_event he hwf hr rfl
      refine ⟨v, hv, hb.trans ?_, fun k d hk hkd => ?_⟩
      · rw [ho]; exact State.bare_delivered ..
      · obtain rfl : v = _ := by simpa using hv.symm.trans (exec_out he hwf (by simp [hr]))
        obtain ⟨j, hj, hfit⟩ := (rxWalk_fits_iff ..).mp hw
        obtain rfl : n = j := by omega
        obtain ⟨_, _, hlt, _⟩ := hfit
        have hpk : ((posted.take n).take k) = posted.take k := by rw [List.take_take, Nat.min_eq_left (Nat.le_of_lt hk)]
        have hm := t.mem_writeBufs (posted.take n) x.frame.bytes k d (by rw [List.getElem?_take, if_pos hk]; exact hkd)
          (by rw [hpk]; exact hlt k hk)
        rw [hpk] at hm
        refine (State.says_fin s _).mem ?_
        rw [State.out_delivered]
        exact hm

/-! ### The hold of a receive frame -/

theorem State.rxHoldDrop_nil {s : State} {q c : Nat} (h : ((s.port (528 + q)).queue c).copies = []) :
    s.rxHoldDrop q c = s := by
  unfold State.rxHoldDrop
  rw [h]

theorem State.rxHoldDrop_cons {s : State} {q c : Nat} {x : Copy} {rest : List Copy}
    (h : ((s.port (528 + q)).queue c).copies = x :: rest) :
    (x.holdEnd = none → s.rxHoldDrop q c = s)
      ∧ ∀ t, x.holdEnd = some t → s.rxHoldDrop q c
        = if t ≤ s.fs then ((s.popHead (528 + q) c).dropCopy x).count .host q 2 else s := by
  unfold State.rxHoldDrop
  rw [h]
  dsimp only
  refine ⟨fun hn => ?_, fun t ht => ?_⟩
  · rw [hn]
  · rw [ht]

theorem receiveHold : Rules.ReceiveHold := by
  intro s q c hq hc hr copies
  have h : completes (.rxHoldDrop q c) s (s.rxHoldDrop q c) :=
    completes_event (can := true) rfl (by simp [Instr.wf, hq, hc]) hr rfl
  refine ⟨fun he => ?_, fun x rest he => ?_⟩
  · rw [State.rxHoldDrop_nil he] at h; exact h
  · obtain ⟨hnone, hsome⟩ := State.rxHoldDrop_cons he
    refine ⟨fun hn => ?_, fun t ht => ⟨fun hlt => ?_, fun hle => ?_⟩⟩
    · rw [hnone hn] at h; exact h
    · rw [hsome t ht, if_neg (Nat.not_le.mpr hlt)] at h; exact h
    · rw [hsome t ht, if_pos hle] at h; exact h

/-- Settles O41: frames sent from and delivered to the rings of the host. -/
theorem hostFrames : Obligations.HostFrames := ⟨hostTransmit, receiveBuffers, hostReceive, receiveHold⟩

/-! ### Completions and failed accesses -/

theorem completes_dmaFail {s t : State} {w : DmaFail} (hr : s.running = true) (hw : w.wf = true) (ht : s.dmaFail w = t) :
    completes (.dmaAccessFail w) s t :=
  ht ▸ completes_event (can := true) rfl hw hr rfl

theorem failedHostAccesses : Rules.FailedHostAccesses := by
  intro s u hr fails
  refine ⟨fun hu ha => ?_, fun hu ho => ⟨?_, ?_⟩, fun hu ho => ⟨?_, ?_⟩, fun hu hw => ?_, fun hu ha ht => ?_, fun descs n hu ht hw => ?_⟩
  · exact completes_dmaFail hr (decide_eq_true hu) (if_pos ⟨hu, ha⟩)
  · exact completes_dmaFail hr (decide_eq_true hu) (if_pos ⟨hu, ho⟩)
  · exact completes_dmaFail hr (decide_eq_true hu) (if_pos ⟨hu, ho⟩)
  · exact completes_dmaFail hr (decide_eq_true hu) (if_neg (by simp [ho]))
  · exact completes_dmaFail hr (decide_eq_true hu) (if_neg (by simp [ho]))
  · exact completes_dmaFail hr (decide_eq_true hu) (if_pos ⟨hu, by simpa using hw⟩)
  · subst hu
    exact completes_dmaFail hr rfl (if_pos ⟨ha, by simp [ht]⟩)
  · intro h hc
    exact completes_dmaFail hr (decide_eq_true hu) (State.fetchTx_failed hu ht hw rfl hc)

section
variable {s : State} {u : Nat}

theorem State.writeCompl_idle (h : (s.unit u).waiting = []
    ∨ s.ring .hostQpCqSize u ≤ idxDiff (s.rf .hostQpCqHead u 15 0) (s.rf .hostCqDb u 15 0)) : s.writeCompl u = s := by
  unfold State.writeCompl
  extract_lets size head
  cases hw : (s.unit u).waiting with
  | nil => rfl
  | cons c rest => exact if_pos (decide_eq_true (h.resolve_left (by simp [hw])))

theorem State.writeCompl_goes {c : Compl} {rest : List Compl} (hw : (s.unit u).waiting = c :: rest)
    (hf : ¬ s.ring .hostQpCqSize u ≤ idxDiff (s.rf .hostQpCqHead u 15 0) (s.rf .hostCqDb u 15 0)) :
    s.writeCompl u =
      (let head := s.rf .hostQpCqHead u 15 0
       let next := (head + 1) % 65536
       let t := (s.emit (.hostMem (s.entryAddr .hostQpCqBaseLo .hostQpCqBaseHi u head (s.ring .hostQpCqSize u) 32)
        (c.words.flatMap fun w => leBytes 4 w.toNat))).emit
          (.hostMem ((s.reg .hostQpCqWbLo u).toNat + (s.reg .hostQpCqWbHi u).toNat * 2 ^ 32) (leBytes 4 next))
       ((((t.setReg .hostQpCqHead u (Word.ofNat next)).headTo .hostQpTxHead u c.txHead).headTo .hostQpRxHead u
        c.rxHead).modUnit u fun x => { x with waiting := rest }).raiseCq u) := by
  unfold State.writeCompl
  extract_lets size head
  rw [hw]
  exact if_neg (by simpa [State.cqFull] using hf)

theorem State.cqTimer_none (h : (s.unit u).cqSince = none ∨ s.rf .hostQpCqInt u 15 0 = 0) : s.cqTimer u = s := by
  unfold State.cqTimer
  extract_lets us
  cases ht : (s.unit u).cqSince with
  | none => rfl
  | some t => exact if_neg fun ⟨h0, _⟩ => h0 (h.resolve_left (by simp [ht]))

theorem State.cqTimer_some {t : Nat} (h : (s.unit u).cqSince = some t) (h0 : s.rf .hostQpCqInt u 15 0 ≠ 0) :
    s.cqTimer u = if t + s.rf .hostQpCqInt u 15 0 * 1000000000 ≤ s.fs
      then (s.orReg .hostQpIntStat u 1).modUnit u fun x => { x with cqSince := none } else s := by
  unfold State.cqTimer
  extract_lets us
  rw [h]
  by_cases hle : t + us * 1000000000 ≤ s.fs
  · exact (if_pos ⟨h0, hle⟩).trans (if_pos hle).symm
  · exact (if_neg fun h => hle h.2).trans (if_neg hle).symm

end

/-- The state with other messages said. -/
def State.saying (s : State) (o : List Out) : State := { s with out := o }

theorem State.bare_saying (s : State) (o : List Out) : (s.saying o).bare = s.bare := rfl

/-! A head and a raised CQ do not depend on what has been said, and say nothing. -/

theorem State.headTo_saying (s : State) (o : List Out) (id : RegId) (u : Nat) (n : Option Nat) :
    (s.saying o).headTo id u n = (s.headTo id u n).saying o := by
  cases n with
  | none => rfl
  | some n =>
    unfold State.headTo
    by_cases h : idxDiff n (s.rf id u 15 0) ≤ 32768
    · refine (if_pos h).trans (Eq.trans ?_ (congrArg (fun t : State => t.saying o) (if_pos h)).symm)
      rfl
    · refine (if_neg h).trans (Eq.trans ?_ (congrArg (fun t : State => t.saying o) (if_neg h)).symm)
      rfl

theorem State.raiseCq_saying (s : State) (o : List Out) (u : Nat) : (s.saying o).raiseCq u = (s.raiseCq u).saying o := by
  unfold State.raiseCq
  by_cases h : max 1 (s.rf .hostQpCqInt u 31 16) ≤ idxDiff (s.rf .hostQpCqHead u 15 0) (s.rf .hostCqDb u 15 0)
  · refine (if_pos h).trans (Eq.trans ?_ (congrArg (fun t : State => t.saying o) (if_pos h)).symm)
    rfl
  · refine (if_neg h).trans (Eq.trans ?_ (congrArg (fun t : State => t.saying o) (if_neg h)).symm)
    rfl

theorem State.setReg_saying (s : State) (o : List Out) (id : RegId) (i : Nat) (w : Word) :
    (s.saying o).setReg id i w = (s.setReg id i w).saying o := rfl

theorem State.modUnit_saying (s : State) (o : List Out) (u : Nat) (f : HostUnit → HostUnit) :
    (s.saying o).modUnit u f = (s.modUnit u f).saying o := rfl

/-- The heads that a written completion advances, and its interrupt. -/
def State.advance (s : State) (u head : Nat) (c : Compl) (rest : List Compl) : State :=
  ((((s.setReg .hostQpCqHead u (Word.ofNat head)).headTo .hostQpTxHead u c.txHead).headTo .hostQpRxHead u
    c.rxHead).modUnit u fun x => { x with waiting := rest }).raiseCq u

theorem State.advance_saying (s : State) (o : List Out) (u head : Nat) (c : Compl) (rest : List Compl) :
    (s.saying o).advance u head c rest = (s.advance u head c rest).saying o := by
  simp only [State.advance, State.setReg_saying, State.headTo_saying, State.modUnit_saying, State.raiseCq_saying]

theorem completions : Rules.Completions := by
  intro s u hu hr size head full
  have hwc : (Instr.completionWrite u).wf = true := decide_eq_true hu
  have hw := completes_event (c := .completionWrite u) (can := true) rfl hwc hr rfl
  have ht : completes (.cqTimerExpiry u) s (s.cqTimer u) := completes_event (can := true) rfl (decide_eq_true hu) hr rfl
  refine ⟨fun h => ?_, fun c rest h hf => ?_, fun t h h0 => ⟨fun hle => ?_, fun hlt => ?_⟩, fun h => ?_⟩
  · rw [State.writeCompl_idle h] at hw; exact hw
  · intro next t goes t' entry back
    have he : s.writeCompl u = (s.advance u next c rest).saying (back :: entry :: s.out) :=
      (State.writeCompl_goes h hf).trans (s.advance_saying (back :: entry :: s.out) u next c rest)
    have hgo (t : State) (id : RegId) (n : Option Nat) : goes t id n = t.headTo id u n := by cases n <;> rfl
    have ht' : (t'.modUnit u fun x => { x with waiting := rest }).raiseCq u = s.advance u next c rest := by
      simp only [t', hgo]
      rfl
    clear_value t' entry back next
    have hout := exec_out (c := .completionWrite u) (s := s) (can := s.running && true) rfl hwc (by simp [hr])
    obtain ⟨v, hv, hb, -⟩ := hw
    obtain rfl : v = _ := by simpa using hv.symm.trans hout
    have hsays := State.says_fin s (s.writeCompl u)
    obtain ⟨l, hl⟩ := hsays
    refine ⟨_, l, hv, hb.trans ?_, hl.symm.trans ?_⟩
    · rw [ht', he, State.bare_saying]
    · rw [he]; rfl
  · rw [State.cqTimer_some h h0, if_pos hle] at ht; exact ht
  · rw [State.cqTimer_some h h0, if_neg (Nat.not_le.mpr hlt)] at ht; exact ht
  · rw [State.cqTimer_none h] at ht; exact ht

/-- Settles O42: completions, and failed accesses to host memory. -/
theorem hostCompletions : Obligations.HostCompletions := ⟨failedHostAccesses, completions⟩

end Sys2Proof.Machine

/-! PROOFS. Resets and supplies (R300, R396, R397, R439, R471, R485). -/

namespace Sys2Proof.Machine

/-- A running switch whose store of registers lists BOOT_SEC_STAT twice, with the bit for the debug port set in both. -/
def Counterexamples.secStatTwice : State :=
  { Tests.up with regs := [(regKey .bootSecStat 0, Word.ofNat (2 ^ 26)), (regKey .bootSecStat 0, Word.ofNat (2 ^ 26))] }

/-- Refutes O43: the statement does not ask for a canonical store of registers. A reset that clears bit 26 of BOOT_SEC_STAT, and with
it the word's last bit, takes one entry from the store; where a second one stands behind it, the bit reads 1 after the reset. -/
theorem not_resetsAndSupplies : ¬ Obligations.ResetsAndSupplies := by
  rintro ⟨-, erases, -⟩
  obtain ⟨-, -, -, -, -, -, -, -, -, -, -, -, -, -, -, -, -, -, -, -, -, -, -, -, -, -, -, -, -, -, -, -, -, hbit, -⟩ :=
    erases Counterexamples.secStatTwice false
  exact absurd hbit (by decide +kernel)

end Sys2Proof.Machine

/-! PROOFS. Transmission selection (R206, R208) and the starts of frames. -/

namespace Sys2Proof.Machine

/-- A switch whose chip-level blocks are in retention, with a frame at the head of a queue of host group 0 and no buffer posted. -/
def hostGroupRetained : State :=
  (Tests.up.orReg .aoChipStat 0 (2 ^ 31)).setPort 528
    { link := true, queues := [{ copies := [{ frame := { bytes := [0] }, port := 528 }] }] }

/-- Refutes O58: the selection of a host group waits while the chip-level blocks are in retention (R457), and the statement leaves that
out of its premises. -/
theorem not_selectionAndStarts : ¬ Obligations.SelectionAndStarts := by
  rintro ⟨selection, -⟩
  obtain ⟨-, host⟩ := selection hostGroupRetained 528 [] (by decide +kernel)
  obtain ⟨u, hu, hb, -⟩ := (host (by decide) (by decide)).2
  have waits : completes (.transmissionSelection 528 []) hostGroupRetained hostGroupRetained :=
    completes_not_event rfl rfl (by decide +kernel)
  obtain ⟨v, hv, hc, -⟩ := waits
  obtain rfl : u = v := by simpa using hu.symm.trans hv
  have heads := congrArg (fun t : State => ((t.port 528).queue 0).copies.map (·.holdEnd)) (hc.symm.trans hb)
  exact absurd heads (by decide +kernel)

end Sys2Proof.Machine

/-! PROOFS. The watchdog, the operating hours and fault injection (R467, R476 to R479). -/

namespace Sys2Proof.Machine

theorem completes_safWdog {s : State} {src : Src} (hs : s.takes src) : completes (.safWdog src) s (s.kickWdog src) :=
  completes_put (id := .safWdog) (i := 0) rfl rfl hs rfl (by decide) (by decide) rfl rfl rfl (.inr rfl)

theorem watchdog : Rules.Watchdog := by
  intro s src
  have hw : (Instr.watchdogExpiry).wf = true := rfl
  refine ⟨fun hs => completes_safWdog hs, fun hs hne => ?_, fun hh => ?_, fun ha hp => ⟨fun hle => ?_, fun hlt => ?_⟩⟩
  · have h := completes_safWdog hs
    rw [State.kickWdog, if_neg hne] at h
    exact h
  · exact completes_idle rfl hw (by simp [hh])
  · exact completes_idle rfl hw (by simp [State.wdogExpired, fsPerMs, Nat.not_lt.mpr hle])
  · refine completes_answer (can := s.guarded && !s.halted && s.wdogExpired) rfl hw ?_
    obtain ⟨hpow, hh⟩ : s.powered = true ∧ s.halted = false := by simpa [State.awake] using ha
    simp [State.guarded, State.detects, State.wdogExpired, fsPerMs, hpow, hh, hp, hlt]

theorem operatingHours : Rules.OperatingHours := fun _ hp => completes_answer rfl rfl hp

/-- A GO write to SAF_INJECT injects what its fields name. -/
theorem completes_inject {c : Instr} {s : State} {src : Src} {kind p : Nat} (he : exec c s = Machine.access c s (s.putInject src kind p))
    (hw : c.wf = true) (hs : s.takes src) (hp : p < 8) (hk : kind < 8) : completes c s (s.inject src kind p) := by
  have hv : 2 ^ 31 + at_ kind 27 + p < 2 ^ 32 := by simp only [at_]; omega
  have hgo : bitW (Word.ofNat (2 ^ 31 + at_ kind 27 + p)) 31 = true := bitW_go (by simp only [at_]; omega) hv
  have hkind : fld (Word.ofNat (2 ^ 31 + at_ kind 27 + p)) 30 27 = kind := by
    rw [fld_ofNat hv]
    simp only [at_]
    omega
  have hplat : fld (Word.ofNat (2 ^ 31 + at_ kind 27 + p)) 2 0 = p := by
    rw [fld_ofNat hv]
    simp only [at_]
    omega
  have h : completes c s (s.inject src (fld (Word.ofNat (2 ^ 31 + at_ kind 27 + p)) 30 27) (fld (Word.ofNat (2 ^ 31 + at_ kind 27 + p)) 2 0)) :=
    completes_go (id := .safInject) (i := 0) he hw hs rfl (by decide) (by decide) rfl rfl rfl (by cases src <;> decide) hgo rfl
  rw [hkind, hplat] at h
  exact h

theorem faultInjection : Rules.FaultInjection := by
  intro s src p hs hp off free2 v w
  have hw : decide (p < 8) = true := decide_eq_true hp
  have h1 : completes (.injectSingleBit src p) s (s.inject src 1 p) := completes_inject rfl hw hs hp (by decide)
  have h2 : completes (.injectDoubleBit src p) s (s.inject src 2 p) := completes_inject rfl hw hs hp (by decide)
  have h3 : completes (.injectCellCrc src p) s (s.inject src 3 p) := completes_inject rfl hw hs hp (by decide)
  have h4 : completes (.injectLockstep src p) s (s.inject src 4 p) := completes_inject rfl hw hs hp (by decide)
  have h5 : completes (.injectClockMonitor src p) s (s.inject src 5 p) := completes_inject rfl hw hs hp (by decide)
  have h6 : completes (.injectPipelineParity src p) s (s.inject src 6 p) := completes_inject rfl hw hs hp (by decide)
  refine ⟨fun hoff => ?_, fun hon => ?_⟩
  · have shut (k : Nat) : s.inject src k p = off := if_pos (by simp [hoff])
    rw [shut] at h1 h2 h3 h4 h5 h6
    exact ⟨h1, h2, h3, h4, h5, h6⟩
  · have hn : ¬ ¬ s.rb .safCfg 0 29 = true := not_not_intro hon
    unfold State.inject at h1 h2 h3 h4 h5 h6
    rw [if_neg hn] at h1 h2 h3 h4 h5 h6
    exact ⟨h1, h2, h3, h6, h4, h5⟩

/-- Settles O54: the watchdog, the operating hours and injected faults. -/
theorem watchdogAndInjection : Obligations.WatchdogAndInjection := ⟨watchdog, operatingHours, faultInjection⟩

end Sys2Proof.Machine

/-! PROOFS. Power: the states of a Platform, wake-ahead, the causes that last, WAKE_N and retention (R225, R240, R451 to R461). -/

namespace Sys2Proof.Machine

/-! ### Counters and what follows a change -/

/-- What counting does to the registers: a half-range bit where the counter's bit 39 changes. -/
def State.halfRegs (s : State) (b : CntBank) (u i v : Nat) : Store Word :=
  if bitOf (s.counter b u i) 39 = bitOf (v % 2 ^ 40) 39 then s.regs
  else match halfBit b u i with
    | some (id, j, bit) => (s.orReg id j (2 ^ bit)).regs
    | none => s.regs

theorem State.setCounter_eq (s : State) (b : CntBank) (u i v : Nat) :
    s.setCounter b u i v
      = { s with cnt := Store.set 0 s.cnt (cntKey b u i) (v % 2 ^ 40), regs := s.halfRegs b u i v } := by
  unfold State.setCounter State.halfRegs
  by_cases h : bitOf (s.counter b u i) 39 = bitOf (v % 2 ^ 40) 39
  · exact (if_pos h).trans (by rw [if_pos h])
  · refine (if_neg h).trans ?_
    rw [if_neg h]
    cases halfBit b u i with
    | none => rfl
    | some x => rfl

theorem State.halfRegs_congr {s t : State} (hc : s.cnt = t.cnt) (hr : s.regs = t.regs) (b : CntBank) (u i v : Nat) :
    s.halfRegs b u i v = t.halfRegs b u i v := by
  simp only [State.halfRegs, State.counter, State.orReg, State.setReg, State.reg, hc, hr] <;> rfl

/-- A counter changes with what is kept of the state. -/
theorem State.bare_countN_congr {s t : State} (h : s.bare = t.bare) (b : CntBank) (u i n : Nat) :
    (s.countN b u i n).bare = (t.countN b u i n).bare := by
  have hc := State.bare_counter h b u i
  rw [State.countN, State.countN, State.setCounter_eq, State.setCounter_eq, hc, State.bare_cnt h,
    State.halfRegs_congr (State.bare_cnt h) (State.bare_regs h)]
  exact congrArg (fun v : State => { v with
    cnt := Store.set 0 t.cnt (cntKey b u i) ((t.counter b u i + n) % 2 ^ 40)
    regs := t.halfRegs b u i (t.counter b u i + n) }) h

theorem State.bare_stir_setPlat (s : State) (p : Nat) (x : Plat) : (s.stir.setPlat p x).bare = (s.setPlat p x).bare := by
  unfold State.stir
  split
  · rfl
  · rfl

/-- A wake of a sleeping Platform, but for the note that the chip-level blocks were stirred. -/
theorem State.bare_wake_asleep {s : State} {p : Nat} (c : Nat) (h : (s.plat p).power ≠ .run) (g : (s.plat p).power ≠ .waking) :
    (s.wake p c).bare = ((s.setPlat p { s.plat p with
      power := .waking, pwrSince := s.fs, lanesOff := s.cfg.lanesOff p }).count .ao p (3 + min c 2)).bare := by
  have hp : s.stir.plat p = s.plat p := by
    obtain ⟨a, ha⟩ := s.stir_shape
    rw [ha]
    rfl
  rw [s.wake_asleep c h g, hp]
  exact State.bare_countN_congr (s.bare_stir_setPlat p _) ..

/-! ### The states of a Platform -/

theorem platformStates : Rules.PlatformStates := by
  intro s p cause hp hc hr x c goes dozes sleeps
  have hwf : decide (p < 8) = true := decide_eq_true hp
  have doze : completes (.dozeEntry p) s (s.doze p) := completes_event rfl hwf hr rfl
  have sleep : completes (.sleepEntry p) s (s.sleep p) := completes_event rfl hwf hr rfl
  have wake : completes (.platformWake p cause) s (s.wake p cause) :=
    completes_event rfl (by simp [Instr.wf, hp, hc]) hr rfl
  have run (h : s.retained = false) : completes (.platformRun p) s (s.platRun p) :=
    completes_event (can := !s.retained && true) rfl hwf hr (by simp [h])
  have off : completes (.offReturn p) s (s.offReturn p) := completes_event rfl hwf hr rfl
  refine ⟨fun h => ?_, fun h => ?_, fun h => ?_, fun h => ?_, fun h => ?_, fun h g => ?_, fun h => ?_, fun h g => ?_, fun h => ?_,
    fun h1 h2 h3 h4 => ?_⟩
  · rw [State.doze, if_pos (by simpa [dozes] using h)] at doze
    exact doze
  · rw [State.doze, if_neg (by simpa [dozes] using h)] at doze
    exact doze
  · rw [State.sleep, if_pos (by simpa [sleeps] using h)] at sleep
    exact sleep
  · rw [State.sleep, if_neg (by simpa [sleeps] using h)] at sleep
    exact sleep
  · rw [s.wake_awake cause h] at wake
    exact wake
  · refine completes_of_bare wake ?_
    rw [State.bare_wake_asleep cause h g, Nat.min_eq_left (Nat.le_of_lt_succ hc)]
  · cases hret : s.retained with
    | true => exact completes_not_event (can := !s.retained && true) rfl hwf (by simp [hret])
    | false =>
      have run := run hret
      rw [State.platRun, if_neg h] at run
      exact run
  · have run := run g
    rw [State.platRun, if_pos h] at run
    exact run
  · rw [State.offReturn, if_neg] at off
    · exact off
    · rintro ⟨h1, h2, -, h4⟩
      rcases h with h | h | h
      · exact h h1
      · exact absurd h2 (by rw [h]; decide)
      · exact absurd h4 (by rw [h]; decide)
  · rw [State.offReturn, if_pos ⟨h1, h2, h3, h4⟩] at off
    exact off

theorem wakeAheadOfOpenings : Rules.WakeAheadOfOpenings := by
  intro s p hp hr
  have wake : completes (.wakeAhead p) s (s.wakeAhead p) := completes_event (can := true) rfl (decide_eq_true hp) hr rfl
  refine ⟨fun h => ?_, fun hpol hrun => ?_⟩
  · rw [State.wakeAhead, if_pos h] at wake
    exact wake
  · intro t w
    have hplat : t.plat p = s.plat p := by
      simp only [t]
      split <;> simp [State.plat]
    have he : s.wakeAhead p = if t.leadWake p = true ∧ (t.plat p).power ≠ .waking then t.wakeLead p else t := by
      unfold State.wakeAhead
      exact if_neg (by simp [hpol, hrun])
    rw [hplat] at he
    have hlead : t.wakeLead p = if t.ttWake p = true then w.count .sch p 4 else w := rfl
    refine ⟨fun h1 h2 => ?_, fun h => ?_⟩
    · rw [he, if_pos ⟨h1, h2⟩, hlead] at wake
      exact wake
    · rw [he, if_neg] at wake
      · exact wake
      · rintro ⟨h1, h2⟩
        rcases h with h | h
        · exact absurd h1 (by rw [h]; decide)
        · exact h2 h

theorem State.wakeCause_iff (s : State) (p : Nat) : s.wakeCause p = true ↔
    s.quiet p = false ∨ s.streamHold p = true ∨ s.rb .aoPwrCtrl 0 p = true ∨ bitOf s.tbl.claimed p = true
      ∨ ∃ c, s.tbl.cmd = some c ∧ c.target = p := by
  cases h : s.tbl.cmd <;> simp [State.wakeCause, h, or_assoc]

/-- A Platform that is woken is waking. -/
theorem State.power_wake {s : State} {p : Nat} (c : Nat) (hp : p < s.plats.length) (h : (s.plat p).power ≠ .run)
    (g : (s.plat p).power ≠ .waking) : ((s.wake p c).plat p).power = .waking := by
  obtain ⟨a, ha⟩ := s.stir_shape
  have hl : p < s.stir.plats.length := by rw [ha]; exact hp
  rw [s.wake_asleep c h g, State.plat, State.count_plats]
  exact congrArg Plat.power (State.plat_setPlat hl)

theorem lastingCausesWake : Rules.LastingCausesWake := by
  intro s p hp cause
  have hcause : cause ↔ s.wakeCause p = true := (s.wakeCause_iff p).symm
  refine ⟨fun h g hc => ?_, fun h => ?_⟩
  · have hc := hcause.mp hc
    unfold State.wakeDue
    rw [if_neg (by simp [h, g, hc])]
    split
    · rw [State.wakeLead, State.countIf]
      split
      · rw [State.plat, State.count_plats]
        exact State.power_wake 1 hp h g
      · exact State.power_wake 1 hp h g
    · exact State.power_wake _ hp h g
  · unfold State.wakeDue
    refine if_pos ?_
    rcases h with h | h | h
    · exact .inl h
    · exact .inr (.inl h)
    · exact .inr (.inr (by simpa [hcause] using h))

/-- What the slow clock counts of a Platform, by its power state. -/
theorem State.countPower_eq (s : State) (n : Nat) : s.countPower n = (List.range 8).foldl
    (fun v p => v.countN .ao p
      (match (v.plat p).power with
        | .run => 0 | .waking => 0 | .doze => 1 | .off => 2 | .sleep => if v.enteringSleep p then 1 else 2) n) s := by
  unfold State.countPower
  congr 1
  funext v p
  have h : (if v.pwrCode p = 0 ∨ v.pwrCode p = 4 then 0 else if v.pwrCode p = 1 ∨ v.pwrCode p = 5 then 1 else 2)
      = (match (v.plat p).power with
        | .run => 0 | .waking => 0 | .doze => 1 | .off => 2 | .sleep => if v.enteringSleep p then 1 else 2) := by
    unfold State.pwrCode
    cases (v.plat p).power with
    | run => rfl
    | doze => rfl
    | off => rfl
    | waking => rfl
    | sleep => cases v.enteringSleep p <;> rfl
  exact congrArg (fun k => v.countN .ao p k n) h

theorem powerTimeCounts : Rules.PowerTimeCounts := by
  intro s hq ht hp hr hh t n
  obtain ⟨u, o, hu⟩ := State.endRst_shape { s with fs := s.fs + 800000 }
  have hfs : t.fs = s.fs + 800000 := (congrArg State.fs hu).trans rfl
  have hsaf : t.saf = s.saf := (congrArg State.saf hu).trans rfl
  have hstep : step s = .next s.tick := by rw [step, hq]
  have counts : t.Ticked ((if s.awake then t.aggClock else t).countPower n) :=
    (State.Ticked.ite t.ticked_aggClock (.refl t)).trans (State.ticked_countPower _ _)
  have hsaf' := (congrArg State.saf counts.still :).trans hsaf
  refine ⟨hstep.trans (congrArg Host.Outcome.next ?_), fun u => u.countPower_eq n⟩
  have htick : s.tick
      = ((if s.awake then t.aggClock else t).countPower (t.fs / 1000000000 - s.fs / 1000000000)).haltStep := by
    unfold State.tick
    rw [if_neg (not_not_intro ht)]
    exact (if_neg (by simp [hr])).trans (if_pos hp)
  rw [htick, hfs]
  exact State.haltStep_none (hsaf' ▸ hh)

/-- Settles O49: by the transitions of a Platform's power, each under its conditions. -/
theorem platformPower : Obligations.PlatformPower :=
  ⟨platformStates, wakeAheadOfOpenings, lastingCausesWake, powerTimeCounts⟩

/-! ### WAKE_N, and the retention of the chip-level blocks -/

theorem wakeN : Rules.WakeN := by
  intro s
  have fall (h : s.ao.wakeNLow = false) : completes .wakeNFall s (if s.awake then s.wakeNFall else s.wakeNLow) :=
    completes_answer (can := !s.ao.wakeNLow) rfl rfl (by simp [h])
  refine ⟨fun h => completes_idle (can := !s.ao.wakeNLow) rfl rfl (by simp [h]), fun h => ?_, fun h g => ?_, ?_⟩
  · cases hl : s.ao.wakeNLow with
    | true =>
      refine completes_of_bare (completes_idle (can := !s.ao.wakeNLow) rfl rfl (by simp [hl])) ?_
      rw [← hl]
    | false =>
      have fall := fall hl
      rw [if_neg (by simp [h])] at fall
      exact fall
  · have fall := fall g
    rw [if_pos h] at fall
    exact fall
  · exact completes_answer (can := true) rfl rfl rfl

theorem State.chipCalled_iff (s : State) :
    s.chipCalled = true ↔ s.retained = true ∧ ∀ t, s.ao.chipIdle = some t → s.ao.retainedAt ≤ t := by
  unfold State.chipCalled
  cases s.ao.chipIdle <;> simp

theorem State.chipRetain_of_none {s : State} (h : s.ao.chipIdle = none) : s.chipRetain = s := by
  unfold State.chipRetain
  rw [h]

theorem State.chipRetain_of_some {s : State} {t : Nat} (h : s.ao.chipIdle = some t) :
    s.chipRetain = if s.chipQuiet ∧ t + 10000000000 ≤ s.fs ∧ ¬ s.retained then
      { s with ao := { s.ao with retainedAt := s.fs } }.orReg .aoChipStat 0 (2 ^ 31) else s := by
  unfold State.chipRetain
  rw [h]

theorem State.postEvent_ao (s : State) (idx evt : RegId) (w : Word) : (s.postEvent idx evt w).ao = s.ao := by
  unfold State.postEvent
  dsimp only
  split
  · exact State.orReg_ao ..
  · exact (State.setRf_ao ..).trans (State.setReg_ao ..)

theorem State.countRcv_ao (s : State) (fn slot n : Nat) : (s.countRcv fn slot n).ao = s.ao := by
  have h : (s.countEntry 0x15 fn (16 + 2 * slot) n).1.ao = s.ao := (State.setTab_ao ..).trans (State.setTab_ao ..)
  unfold State.countRcv
  dsimp only
  split
  · exact (State.postEvent_ao ..).trans h
  · exact h

theorem State.resetRcv_ao (s : State) (fn : Nat) : (s.resetRcv fn).ao = s.ao :=
  (State.countRcv_ao ..).trans ((State.setTab_ao ..).trans ((State.setTab_ao ..).trans (State.setTab_ao ..)))

theorem State.latentRest_ao (s : State) (fn : Nat) : (s.latentRest fn).ao = s.ao := by
  unfold State.latentRest
  extract_lets u v w
  have hu : u.ao = s.ao := State.setTab_ao ..
  have hv : v.ao = s.ao := (State.setTab_ao ..).trans hu
  have hw : w.ao = s.ao := (State.setTab_ao ..).trans hv
  clear_value u v w
  split
  · exact (State.countRcv_ao ..).trans ((State.setTab_ao ..).trans hw)
  · exact hu

theorem State.latentTest_ao (s : State) (fn : Nat) : (s.latentTest fn).ao = s.ao := by
  have count := s.count_ao .red 0 13
  by_cases h : s.latentError fn
  · cases h30 : s.tb 0x15 fn 5 30 with
    | true =>
      rw [State.latentTest_known h h30, State.latentRest_ao, count]
    | false =>
      rw [State.latentTest_new h h30, State.latentRest_ao, State.postEvent_ao, State.setTab_ao, count]
  · rw [State.latentTest_sound h, State.latentRest_ao]

theorem State.latNextPast_ao (s : State) (fn : Nat) : (s.latNextPast fn).ao = s.ao := by
  unfold State.latNextPast
  extract_lets period next behind
  clear_value period next behind
  split
  · exact State.setTab_ao ..
  · rfl

/-- The always-on domain's own state stands through the catching up of the recovery functions. -/
theorem State.catchUpRcv_ao (s : State) (fn : Nat) : (s.catchUpRcv fn).ao = s.ao := by
  unfold State.catchUpRcv
  extract_lets t
  have ht : t.ao = s.ao := by
    dsimp only [t]
    split
    · exact (State.latNextPast_ao ..).trans (State.latentTest_ao ..)
    · rfl
  clear_value t
  split
  · exact (State.resetRcv_ao ..).trans ht
  · exact ht

theorem chipRetention : Rules.ChipRetention := by
  intro s hr
  have enter : completes .chipRetentionEntry s s.chipRetain := completes_event (can := true) rfl rfl hr rfl
  refine ⟨fun h => ?_, fun t ht => ⟨fun h => ?_, fun h1 h2 h3 => ?_⟩, s.chipCalled_iff, fun h => ?_, fun h => ?_⟩
  · cases hi : s.ao.chipIdle with
    | none =>
      rw [State.chipRetain_of_none hi] at enter
      exact enter
    | some t =>
      rw [State.chipRetain_of_some hi, if_neg] at enter
      · exact enter
      · rintro ⟨h1, -, h3⟩
        rcases h with h | h | h
        · exact absurd h (by simp [hi])
        · exact absurd h1 (by simp [h])
        · exact h3 h
  · rw [State.chipRetain_of_some ht, if_neg (fun g => absurd g.2.1 (Nat.not_le.mpr h))] at enter
    exact enter
  · rw [State.chipRetain_of_some ht, if_pos ⟨h2, h1, by simp [h3]⟩] at enter
    exact enter
  · exact completes_not_event rfl rfl h
  · intro t₀ t₁ t
    have wakes : completes .chipWake s s.chipWake.serveTriggers := completes_event rfl rfl hr h
    have ht : s.chipWake = t := if_pos h
    rw [ht] at wakes
    refine ⟨fun hn => ?_, wakes⟩
    have hao : t.ao = t₁.ao := foldl_keeps (g := State.ao) (fun a b => a.catchUpRcv_ao b) _ _
    have hn' : t.ao.triggers = [] := by
      rw [hao]
      exact (congrArg AoSt.triggers (State.setRf_ao s .aoChipStat 0 31 31 0)).trans hn
    rw [State.serveTriggers, hn'] at wakes
    refine completes_of_bare wakes ?_
    rw [List.foldl_nil, ← hn']

/-- What waits for the chip-level blocks changes nothing in retention, whatever its operands are. -/
theorem completes_retained {c : Instr} {can : Bool} {s t : State} (he : exec c s = chipEvent c can s t) (h : s.retained = true) :
    completes c s s := by
  refine ⟨s, he.trans ?_, rfl, rfl⟩
  have hcan : (c.wf && (s.running && (!s.retained && can))) = false := by simp [h]
  exact congrArg Host.Outcome.next (by rw [if_neg (hcan ▸ Bool.false_ne_true)])

theorem retentionDefers : Rules.RetentionDefers := by
  intro s p t q d data bufs bytes hp ht hq hd hret
  have select : completes (.transmissionSelection (528 + q) bufs) s s :=
    completes_not_event rfl (by simp [Instr.wf, isEgress]; omega) (by simp [hret])
  exact ⟨completes_retained rfl hret, completes_retained rfl hret, completes_retained rfl hret, completes_retained rfl hret,
    fun _ => completes_retained rfl hret, fun _ => completes_retained rfl hret, completes_retained rfl hret,
    completes_retained rfl hret, select⟩

/-- Settles O50: by the level of the pin, the conditions of retention, and the commands that it withholds. -/
theorem wakePinAndRetention : Obligations.WakePinAndRetention :=
  ⟨wakeN, chipRetention, retentionDefers⟩

end Sys2Proof.Machine

/-! PROOFS. Flalith: which frames are accepted, relayed and answered (R418 to R424). -/

namespace Sys2Proof.Machine

/-! ### Counter mode -/

theorem length_flatMap_blocks {f : Nat → List Byte} {L : Nat} (hf : ∀ i, (f i).length = L) (m : Nat) :
    ((List.range m).flatMap f).length = m * L := by
  induction m with
  | zero => exact (Nat.zero_mul L).symm
  | succ m ih => rw [List.range_succ, List.flatMap_append, List.flatMap_singleton, List.length_append, ih, hf, Nat.succ_mul]

/-- A byte of equal blocks laid end to end. -/
theorem getD_flatMap_blocks {f : Nat → List Byte} {L : Nat} (hf : ∀ i, (f i).length = L) (m n : Nat) (h : n < m * L) :
    ((List.range m).flatMap f).getD n 0 = (f (n / L)).getD (n % L) 0 := by
  have len (m : Nat) : ((List.range m).flatMap f).length = m * L := length_flatMap_blocks hf m
  induction m with
  | zero => simp at h
  | succ m ih =>
    rw [List.range_succ, List.flatMap_append, List.flatMap_singleton]
    rcases Nat.lt_or_ge n (m * L) with hn | hn
    · rw [List.getD_eq_getElem?_getD, List.getElem?_append_left (by rw [len]; exact hn), ← List.getD_eq_getElem?_getD, ih hn]
    · have hdiv : n / L = m := Nat.div_eq_of_lt_le hn h
      rw [List.getD_eq_getElem?_getD, List.getElem?_append_right (by rw [len]; exact hn), ← List.getD_eq_getElem?_getD, len, hdiv]
      congr 1
      have := Nat.div_add_mod n L
      rw [hdiv, Nat.mul_comm] at this
      omega

theorem length_sliceZ (b : List Byte) (o n : Nat) : (sliceZ b o n).length = n := by
  simp only [sliceZ, List.length_append, List.length_take, List.length_drop, List.length_replicate]
  omega

theorem getD_sliceZ_zero (b : List Byte) {n k : Nat} (h : k < n) : (sliceZ b 0 n).getD k 0 = b.getD k 0 := by
  simp only [sliceZ, List.drop_zero, List.getD_eq_getElem?_getD]
  rcases Nat.lt_or_ge k (b.take n).length with hk | hk
  · rw [List.getElem?_append_left hk, List.getElem?_take_of_lt h]
  · rw [List.getElem?_append_right hk]
    have hb : b.length ≤ k := by simp at hk; omega
    rw [List.getElem?_eq_none hb]
    simp only [List.getElem?_replicate]
    split <;> rfl

theorem length_ctrStream (key pre : List Byte) (first n : Nat) : (ctrStream key pre first n).length = n := by
  rw [ctrStream, List.length_take, length_flatMap_blocks fun _ => length_sliceZ .., ceilDiv]
  omega

/-- A byte of the key stream is its place's in the block of its counter. -/
theorem getD_ctrStream (key pre : List Byte) (first : Nat) {n k : Nat} (h : k < n) :
    (ctrStream key pre first n).getD k 0 = (Config.aes256 key (pre ++ beBytes 4 (first + k / 16))).getD (k % 16) 0 := by
  rw [ctrStream, List.getD_eq_getElem?_getD, List.getElem?_take_of_lt h, ← List.getD_eq_getElem?_getD,
    getD_flatMap_blocks (fun _ => length_sliceZ ..) _ _ (by simp only [ceilDiv]; omega),
    getD_sliceZ_zero _ (Nat.mod_lt _ (by decide))]

/-- Counter mode byte by byte. -/
theorem ctrCrypt_eq (key pre : List Byte) (first : Nat) (b : List Byte) :
    ctrCrypt key pre first b = (List.range b.length).map fun n =>
      (b[n]?).getD 0 ^^^ (Config.aes256 key (pre ++ beBytes 4 (first + n / 16))).getD (n % 16) 0 := by
  refine List.ext_getElem (by simp [ctrCrypt, length_ctrStream]) fun n h1 h2 => ?_
  have hn : n < b.length := by simpa using h2
  have hs : n < (ctrStream key pre first b.length).length := by rw [length_ctrStream]; exact hn
  have hg := getD_ctrStream key pre first hn
  rw [List.getD_eq_getElem?_getD, List.getElem?_eq_getElem hs, Option.getD_some] at hg
  simp only [ctrCrypt, List.getElem_zipWith, List.getElem_map, List.getElem_range, hg, List.getElem?_eq_getElem hn, Option.getD_some]

/-! ### A request reaches firmware -/

section
variable {s : State} {h : FlaHdr} {p : List Byte} {act : State → State}

theorem State.flalith_other (hf : s.isFlalith h = false) : s.flalith h p act = s :=
  if_pos (by simp [hf])

theorem State.flalith_forged (hf : s.isFlalith h = true) (ha : s.flaAuth h p = false) : s.flalith h p act = s.count .fla 0 1 :=
  (if_neg (by simp [hf])).trans (if_pos (by simp [ha]))

theorem State.flalith_replayed (hf : s.isFlalith h = true) (ha : s.flaAuth h p = true) (hn : s.flaFresh h = false) :
    s.flalith h p act = s.count .fla 0 2 :=
  (if_neg (by simp [hf])).trans ((if_neg (by simp [ha])).trans (if_pos (by simp [hn])))

theorem State.flalith_excess (hf : s.isFlalith h = true) (ha : s.flaAuth h p = true) (hn : s.flaFresh h = true)
    (hr : 20000 ≤ s.flaSecond.upd.rate) : s.flalith h p act = s.flaSecond.count .fla 0 3 :=
  (if_neg (by simp [hf])).trans ((if_neg (by simp [ha])).trans ((if_neg (by simp [hn])).trans (if_pos hr)))

theorem State.emits_eq {α : Type} (f : α → Out) (l : List α) (s : State) :
    l.foldl (fun s a => s.emit (f a)) s = { s with out := (l.map f).reverse ++ s.out } := by
  induction l generalizing s with
  | nil => rfl
  | cons a l ih =>
    rw [List.foldl_cons, ih]
    simp [State.emit]

theorem State.count_fla_regs (s : State) (i : Nat) : (s.count .fla 0 i).regs = s.regs := by
  simp only [State.count, State.countN, State.setCounter_eq, State.halfRegs]
  split <;> rfl

/-- What the relay of a request sends. -/
def State.relays (s : State) (h : FlaHdr) (p : List Byte) : List Out :=
  (s.boot.mgmtPorts.filter (· ≠ h.port)).map fun n => Out.flalith { h with port := n, hops := h.hops - 1 } (s.flaCipher h p)

/-- The relay of a request to the group. -/
theorem State.flaRelay_group (h1 : h.da = flaGroup) (h2 : 1 ≤ h.hops) (h3 : h.dst ≠ s.node) :
    s.flaRelay h p = if (s.boot.mgmtPorts.filter (· ≠ h.port)).isEmpty then s
      else { s with out := (s.relays h p).reverse ++ s.out }.count .fla 0 4 := by
  have sends : ∀ (l : List Nat) (t : State), t.flaCipher h p = s.flaCipher h p →
      l.foldl (fun t n => t.emit (.flalith { h with port := n, hops := h.hops - 1 } (t.flaCipher h p))) t
        = l.foldl (fun t n => t.emit (.flalith { h with port := n, hops := h.hops - 1 } (s.flaCipher h p))) t := by
    intro l
    induction l with
    | nil => exact fun _ _ => rfl
    | cons n l ih =>
      intro t ht
      rw [List.foldl_cons, List.foldl_cons, ht]
      exact ih _ ht
  unfold State.flaRelay
  refine (if_pos ⟨h1, h2, h3⟩).trans ?_
  dsimp only
  rw [sends _ s rfl, State.emits_eq]
  cases hp : (s.boot.mgmtPorts.filter (· ≠ h.port)) with
  | nil => rfl
  | cons n l => rw [State.relays, hp]; rfl

theorem State.flaRelay_idle (h1 : h.da ≠ flaGroup ∨ h.hops = 0 ∨ h.dst = s.node) : s.flaRelay h p = s := by
  refine if_neg ?_
  rintro ⟨g1, g2, g3⟩
  rcases h1 with h1 | h1 | h1
  · exact h1 g1
  · omega
  · exact g3 h1

theorem State.flaRelay_regs : (s.flaRelay h p).regs = s.regs := by
  by_cases h1 : h.da = flaGroup ∧ 1 ≤ h.hops ∧ h.dst ≠ s.node
  · rw [State.flaRelay_group h1.1 h1.2.1 h1.2.2]
    split
    · rfl
    · exact State.count_fla_regs ..
  · rw [State.flaRelay, if_neg h1]

theorem State.flaSecond_regs (s : State) : s.flaSecond.regs = s.regs := by
  unfold State.flaSecond
  split <;> rfl

theorem State.flaRecord_regs (s : State) (h : FlaHdr) : (s.flaRecord h).regs = s.regs := rfl

/-- An accepted request in the count of its second. -/
def State.flaRated (s : State) : State := { s with upd := { s.upd with rate := s.upd.rate + 1 } }

theorem State.flaRated_regs (s : State) : s.flaRated.regs = s.regs := rfl

theorem flalithTaken_eq (s : State) (h : FlaHdr) (p : List Byte) :
    flalithTaken s h p = ((s.flaSecond.flaRecord h).count .fla 0 0).flaRated.flaRelay h p := rfl

theorem flalithTaken_regs (s : State) (h : FlaHdr) (p : List Byte) : (flalithTaken s h p).regs = s.regs := by
  rw [flalithTaken_eq, State.flaRelay_regs, State.flaRated_regs, State.count_fla_regs, State.flaRecord_regs, State.flaSecond_regs]

theorem State.node_congr {s t : State} (h : s.regs = t.regs) : s.node = t.node := by
  simp only [State.node, State.rf, State.reg, h]

/-- A request that passes is taken, and acted on where it is for this node. -/
theorem State.flalith_passes (hp : flalithPasses s h p) : s.flalith h p act
    = if h.dst = s.node ∨ h.dst = 0xFFFF then act (flalithTaken s h p) else flalithTaken s h p := by
  obtain ⟨-, hf, ha, hn, hr⟩ := hp
  rw [← State.node_congr (flalithTaken_regs s h p)]
  exact (if_neg (by simp [hf])).trans ((if_neg (by simp [ha])).trans ((if_neg (by simp [hn])).trans
    (if_neg (Nat.not_le.mpr hr))))

end

/-- Each request is heard as its outer part and payload say, whatever it then does. -/
theorem exec_flalithPart {c : Instr} {h : FlaHdr} {p : List Byte} (hc : flalithPart c = some (h, p)) :
    ∃ act : State → State, ∀ s, ∃ can v, can = s.running ∧ exec c s = answerFrom c can s (v, s.flalith h p act) := by
  have event (s : State) : (s.running && true) = s.running := Bool.and_true _
  unfold flalithPart at hc
  split at hc
  · cases hc; exact ⟨(·.flaRead h _), fun s => ⟨_, s, event s, rfl⟩⟩
  · cases hc; exact ⟨(·.flaWrite h _), fun s => ⟨_, _, rfl, rfl⟩⟩
  · cases hc; exact ⟨(·.flaReport h _ _), fun s => ⟨_, s, event s, rfl⟩⟩
  · cases hc; exact ⟨(·.flaWindow h _ _), fun s => ⟨_, s, event s, rfl⟩⟩
  · cases hc; exact ⟨(·.updBegin h _ _), fun s => ⟨_, s, event s, rfl⟩⟩
  · cases hc; exact ⟨(·.updPiece h _ _ _), fun s => ⟨_, s, event s, rfl⟩⟩
  · cases hc; exact ⟨(·.updStatus h _), fun s => ⟨_, s, event s, rfl⟩⟩
  · cases hc; exact ⟨(·.updArm h _ _), fun s => ⟨_, s, event s, rfl⟩⟩
  · cases hc; exact ⟨(·.updReboot h _ _), fun s => ⟨_, s, event s, rfl⟩⟩
  · cases hc; exact ⟨(·.updAbort h), fun s => ⟨_, s, event s, rfl⟩⟩
  · cases hc; exact ⟨(·.keyRoll h _), fun s => ⟨_, s, event s, rfl⟩⟩
  · cases hc

theorem completes_answerFrom {c : Instr} {can : Bool} {s t : State} {u : State × State} (he : exec c s = answerFrom c can s u)
    (hw : c.wf = true) (hc : can = true) (ht : u.2 = t) : completes c s t := by
  obtain ⟨v, h1, h2, h3⟩ := answerFrom_bare s u hw hc
  exact ⟨v, he.trans h1, h2.trans (congrArg State.bare ht), h3⟩

theorem requestsAccepted : Rules.RequestsAccepted := by
  intro s c h p hc hw hr
  obtain ⟨act, hact⟩ := exec_flalithPart hc
  obtain ⟨can, v, hcan, he⟩ := hact s
  have act {t : State} (ht : s.flalith h p act = t) : completes c s t := completes_answerFrom he hw (hcan.trans hr) ht
  refine ⟨fun hf => act (State.flalith_other hf), fun hf => ⟨fun ha => act (State.flalith_forged hf ha),
    fun ha hn => act (State.flalith_replayed hf ha hn), fun ha hn hx => act (State.flalith_excess hf ha hn hx)⟩,
    fun hp h1 h2 => act ?_⟩
  rw [State.flalith_passes hp, if_neg (by simp [h1, h2])]

theorem requestsJudged : Rules.RequestsJudged := by
  intro s h p
  constructor
  · simp only [State.isFlalith, State.flaStation, Bool.and_eq_true, decide_eq_true_eq]
    refine and_congr_right fun _ => ?_
    generalize (if h.port = 520 then s.cfg.stationIn 0 none h.da else s.cfg.station h.port h.da) = x
    cases x with
    | none => simp
    | some y =>
      obtain ⟨e, k⟩ := y
      simp
  · have hseal (k : List Byte) : flaSeal h k p = (List.range p.length).map fun n =>
        (p[n]?).getD 0 ^^^ (Config.aes256 k (flaNonce h ++ beBytes 4 (2 + n / 16))).getD (n % 16) 0 := ctrCrypt_eq ..
    have htag (k : List Byte) : flaTag h k (flaSeal h k p) = Config.gcmTag k (flaNonce h) (flaBytes { h with hops := 0 })
        ((List.range p.length).map fun n =>
          (p[n]?).getD 0 ^^^ (Config.aes256 k (flaNonce h ++ beBytes 4 (2 + n / 16))).getD (n % 16) 0) := by
      rw [hseal]
      rfl
    unfold State.flaAuth
    simp only [Bool.and_eq_true, decide_eq_true_eq, List.contains_iff_mem, and_assoc]
    refine and_congr_right fun _ => and_congr_right fun _ => and_congr_right fun _ => and_congr_right fun _ => ?_
    cases hk : s.slotKey h.slot with
    | none => simp
    | some k =>
      simp only [decide_eq_true_eq, Option.some.injEq, exists_eq_left', htag]
      exact Iff.rfl

/-- The other sources that are remembered once a request is recorded: of 4,096 the one least recently heard is forgotten. -/
def recorded (s : State) (h : FlaHdr) : List (Nat × Nat) :=
  if 4096 ≤ (s.upd.sources.filter (·.1 ≠ h.src)).length then (s.upd.sources.filter (·.1 ≠ h.src)).drop 1
  else s.upd.sources.filter (·.1 ≠ h.src)

theorem State.flaRecord_sources (s : State) (h : FlaHdr) :
    (s.flaRecord h).upd.sources = recorded s h ++ [(h.src, h.seq)] := by
  simp only [State.flaRecord, recorded, decide_eq_true_eq]

theorem recorded_ne {s : State} {h : FlaHdr} {x : Nat × Nat} (hx : x ∈ recorded s h) : x.1 ≠ h.src := by
  have hf : x ∈ s.upd.sources.filter (·.1 ≠ h.src) := by
    unfold recorded at hx
    split at hx
    · exact List.mem_of_mem_drop hx
    · exact hx
  simpa using (List.mem_filter.mp hf).2

theorem sequencesChecked : Rules.SequencesChecked := by
  intro s h
  refine ⟨fun x hx => ?_, fun hn => ?_, ?_, fun hl => ?_⟩
  · simp [State.flaFresh, hx]
  · simp [State.flaFresh, hn]
  · have hnone : (recorded s h).find? (·.1 = h.src) = none :=
      List.find?_eq_none.mpr fun x hx => by simpa using recorded_ne hx
    have hlast : (s.flaRecord h).upd.sources.find? (·.1 = h.src) = some (h.src, h.seq) := by
      rw [State.flaRecord_sources, List.find?_append, hnone]
      simp
    rw [State.flaFresh, hlast]
    simp
  · rw [State.flaRecord_sources, List.length_append, List.length_singleton, recorded]
    have := List.length_filter_le (fun x : Nat × Nat => decide (x.1 ≠ h.src)) s.upd.sources
    split
    · rw [List.length_drop]
      omega
    · omega

theorem requestsRelayed : Rules.RequestsRelayed := by
  intro s h p ports
  refine ⟨State.flaRelay_idle, fun h1 h2 h3 => ⟨fun hn => ?_, fun hn => ?_⟩⟩
  · rw [State.flaRelay_group h1 h2 h3]
    exact if_pos (List.isEmpty_iff.mpr hn)
  · rw [State.flaRelay_group h1 h2 h3]
    exact if_neg fun he => hn (List.isEmpty_iff.mp he)

theorem repliesFormed : Rules.RepliesFormed := by
  intro s h q p r slot
  refine ⟨rfl, rfl, rfl, rfl, rfl, rfl, rfl, rfl, rfl, rfl, rfl, rfl, fun k hk => ?_⟩
  have hcipher (x : FlaHdr) (hx : x.slot = slot) : s.flaCipher x p = flaSeal x k p := by
    rw [State.flaCipher, hx, hk, Option.getD_some]
  have htag : r.tag = flaTag { r with tag := 0 } ((s.slotKey slot).getD []) (s.flaCipher { r with tag := 0 } p) := rfl
  rw [htag, hcipher _ rfl, hk]
  rfl

/-- Settles O45: by the order of the tests of a frame, and the parts of those the switch sends. -/
theorem flalithAcceptance : Obligations.FlalithAcceptance :=
  ⟨requestsAccepted, requestsJudged, sequencesChecked, requestsRelayed, repliesFormed⟩

end Sys2Proof.Machine

/-! PROOFS. Flalith requests: register access, update packages, reboots and key rolls (R424 to R432, R441). -/

namespace Sys2Proof.Machine

/-! ### Replies -/

theorem State.reply_from (s : State) {h : FlaHdr} (status : Nat) (data : List Byte) (hm : h.port ∈ s.boot.mgmtPorts) :
    s.reply h status data
      = { s with upd := { s.upd with seq := s.upd.seq + 1 } }.emit (replyOut s h (s.upd.seq + 1) status data) :=
  if_neg (by simpa using hm)

theorem State.reply_none (s : State) {h : FlaHdr} (status : Nat) (data : List Byte) (hm : h.port ∉ s.boot.mgmtPorts) :
    s.reply h status data = s :=
  if_pos (by simpa using hm)

section
variable {s t u : State} {c : Instr} {h : FlaHdr} {status : Nat} {data : List Byte}

/-- A request that is heard is answered where its meaning for an accepted request is a reply. -/
theorem answers_replyFrom {p : List Byte} {act : State → State} {can : Bool} {v : State} (hh : heard s c h t)
    (hp : flalithPart c = some (h, p)) (he : exec c s = answerFrom c can s (v, s.flalith h p act)) (hcan : can = s.running)
    (ha : act t = u.reply h status data) : answers c s u h status data := by
  obtain ⟨hw, q, hq, hpass, hdst, ht⟩ := hh
  obtain rfl : p = q := congrArg Prod.snd (Option.some.inj (hp.symm.trans hq))
  have heard : s.flalith h p act = u.reply h status data := by
    rw [State.flalith_passes hpass, if_pos hdst, ← ht, ha]
  rw [heard] at he
  refine ⟨_, he.trans (answerFrom_performed s _ hw (hcan.trans hpass.1)), rfl, fun hm => ?_, fun hm => ?_⟩
  · have hr := u.reply_from status data hm
    refine ⟨(State.bare_fin _ _).trans (hr ▸ rfl), (State.says_fin v _).mem ?_⟩
    rw [hr]
    exact List.mem_cons_self
  · exact (State.bare_fin _ _).trans (congrArg State.bare (u.reply_none status data hm))

theorem answers_reply {p : List Byte} (act : State → State) (hh : heard s c h t) (hp : flalithPart c = some (h, p))
    (he : exec c s = event c true s (s.flalith h p act)) (ha : act t = u.reply h status data) : answers c s u h status data :=
  answers_replyFrom hh hp he (Bool.and_true _) ha

theorem completes_heard {p : List Byte} (act : State → State) (hh : heard s c h t) (hp : flalithPart c = some (h, p))
    (he : exec c s = event c true s (s.flalith h p act)) (ha : act t = u) : completes c s u := by
  obtain ⟨hw, q, hq, hpass, hdst, ht⟩ := hh
  obtain rfl : p = q := congrArg Prod.snd (Option.some.inj (hp.symm.trans hq))
  refine completes_event he hw hpass.1 rfl |> (completes_of_bare · (congrArg State.bare ?_))
  rw [State.flalith_passes hpass, if_pos hdst, ← ht, ha]

end

/-! ### Register access and reports -/

theorem State.reportItems_none {t : State} {n : Nat} (hn : n < 1 ∨ 6 < n) : t.reportItems n = none := by
  unfold State.reportItems
  rw [if_neg (by omega), if_neg (by omega), if_neg (by omega), if_neg (by omega), if_neg (by omega), if_neg (by omega)]

theorem flalithAccess : Rules.FlalithAccess := by
  intro s t h
  refine ⟨fun addrs hh => ?_, fun writes hh => ?_, fun n first hh => ?_, fun id k hh => ?_⟩
  · have reads {u : State} {status data} (ha : t.flaRead h addrs = u.reply h status data) :=
      answers_reply (State.flaRead · h addrs) hh rfl rfl ha
    exact ⟨fun hl => reads (if_pos hl), fun hl => reads (if_neg (Nat.not_lt.mpr hl))⟩
  · have writes_ {u : State} {status data} (ha : t.flaWrite h writes = u.reply h status data) := 
      answers_replyFrom (act := (State.flaWrite · h writes)) hh rfl rfl rfl ha
    exact ⟨fun hl => writes_ (if_pos hl), fun hl => writes_ (if_neg (Nat.not_lt.mpr hl))⟩
  · have reports {u : State} {status data} (ha : t.flaReport h n first = u.reply h status data) :=
      answers_reply (State.flaReport · h n first) hh rfl rfl ha
    refine ⟨fun hn => reports ?_, fun l hl => reports ?_⟩
    · rw [State.flaReport, State.reportItems_none hn]
    · rw [State.flaReport, hl]
  · have reads {u : State} {status data} (ha : t.flaWindow h id k = u.reply h status data) :=
      answers_reply (State.flaWindow · h id k) hh rfl rfl ha
    refine ⟨fun hn => reads ?_, fun b hb => reads ?_⟩
    · rw [State.flaWindow, hn]
    · rw [State.flaWindow, hb]

/-! ### Update packages -/

theorem packageBegins : Rules.PackageBegins := by
  intro s t h pkg bytes hh fits same begins
  have begin_ {u : State} {status data} (ha : t.updBegin h pkg bytes = u.reply h status data) :=
      answers_reply (State.updBegin · h pkg bytes) hh rfl rfl ha
  have fit (hf : fits) : ¬ (bytes = 0 ∨ t.bootRecord.bankSize < bytes) := by
    obtain ⟨h1, h2⟩ := hf
    omega
  refine ⟨fun hf => begin_ (if_pos ?_), fun hf hx => begin_ ((if_neg (fit hf)).trans (if_pos hx)),
    fun hf hx hs => begin_ ((if_neg (fit hf)).trans ((if_neg (by simp [hx])).trans (if_pos hs))), fun hf hx hs => ?_⟩
  · simp only [fits] at hf
    omega
  · have anew : t.updBegin h pkg bytes = (begins t.disarm).reply h 0 [] :=
      (if_neg (fit hf)).trans ((if_neg (by simp [hx])).trans (if_neg hs))
    refine ⟨fun h3 => begin_ (anew.trans ?_), fun h3 => begin_ (anew.trans ?_)⟩
    · rw [State.disarm, if_neg h3]
    · rw [State.disarm, if_pos h3]

theorem pieceStored : Rules.PieceStored := by
  intro s t h pkg i x hh c
  have piece {u : State} {status data} (ha : t.updPiece h pkg i x = u.reply h status data) :=
      answers_reply (State.updPiece · h pkg i x) hh rfl rfl ha
  refine ⟨fun h1 => piece (if_pos h1), fun h1 h2 h3 => piece ((if_neg ?_).trans (if_pos h3)),
    fun h1 h2 h3 h4 h5 => piece ((if_neg ?_).trans ((if_neg ?_).trans (if_pos h5))), fun h1 h2 h3 h4 h5 => ?_⟩
  · simp [h1, h2]
  · simp [h1, h2]
  · simp [h3, h4]
  · have stores : ∀ y, _ = y → t.updPiece h pkg i x = y := fun y hy =>
      (if_neg (by simp [h1, h2])).trans ((if_neg (by simp [h3, h4])).trans ((if_neg (by simp [h5])).trans hy))
    intro base e w have_ v
    refine ⟨fun hp => piece (stores _ (if_pos (by simp [hp]))),
      fun hp hr => piece (stores _ ((if_neg (by simp [hp])).trans (if_pos hr))),
      fun hp hr => piece (stores _ ((if_neg (by simp [hp])).trans ((if_neg (not_not_intro hr)).trans rfl)))⟩

theorem packageArmed : Rules.PackageArmed := by
  intro s t h
  refine ⟨fun first hh => ?_, fun pkg tries hh => ?_, fun hh => answers_reply (State.updAbort · h) hh rfl rfl rfl⟩
  · have status {u : State} {st data} (ha : t.updStatus h first = u.reply h st data) :=
      answers_reply (State.updStatus · h first) hh rfl rfl ha
    exact ⟨fun h8 => status (if_pos h8), fun h8 => status (if_neg (not_not_intro h8))⟩
  · have arm {u : State} {st data} (ha : t.updArm h pkg tries = u.reply h st data) :=
      answers_reply (State.updArm · h pkg tries) hh rfl rfl ha
    refine ⟨fun h1 => arm (if_pos h1), fun h1 h2 h3 => arm ((if_neg ?_).trans (if_pos h3)),
      fun h1 h2 h3 h4 => arm ((if_neg ?_).trans ((if_neg ?_).trans rfl))⟩
    · simp [h1, h2]
    · simp [h1, h2]
    · omega

/-- Settles O46: each request is one reply after what it changes, by the order of its tests. -/
theorem updateRequests : Obligations.UpdateRequests := ⟨packageBegins, pieceStored, packageArmed⟩

/-! ### Reboots and key rolls -/

theorem State.flaRelay_fs (s : State) (h : FlaHdr) (p : List Byte) : (s.flaRelay h p).fs = s.fs := by
  by_cases h1 : h.da = flaGroup ∧ 1 ≤ h.hops ∧ h.dst ≠ s.node
  · rw [State.flaRelay_group h1.1 h1.2.1 h1.2.2]
    split
    · rfl
    · exact State.count_fs ..
  · rw [State.flaRelay, if_neg h1]

theorem State.flaSecond_fs (s : State) : s.flaSecond.fs = s.fs := by
  unfold State.flaSecond
  split <;> rfl

theorem State.flaRecord_fs (s : State) (h : FlaHdr) : (s.flaRecord h).fs = s.fs := rfl

theorem State.flaRated_fs (s : State) : s.flaRated.fs = s.fs := rfl

theorem flalithTaken_fs (s : State) (h : FlaHdr) (p : List Byte) : (flalithTaken s h p).fs = s.fs := by
  rw [flalithTaken_eq, State.flaRelay_fs, State.flaRated_fs, State.count_fs, State.flaRecord_fs, State.flaSecond_fs]

/-- No time passes while a request is taken. -/
theorem heard_fs {s t : State} {c : Instr} {h : FlaHdr} (hh : heard s c h t) : t.fs = s.fs := by
  obtain ⟨-, p, -, -, -, ht⟩ := hh
  rw [ht, flalithTaken_fs]

theorem State.rebootNow_none {s : State} (h : s.upd.reboot = none) : s.rebootNow = s := by
  unfold State.rebootNow
  rw [h]

section
variable {s : State} {at_ : Nat} {h : FlaHdr} {force : Bool}

theorem State.rebootNow_early (hr : s.upd.reboot = some (at_, h, force)) (ht : s.fs < at_) : s.rebootNow = s := by
  unfold State.rebootNow
  rw [hr]
  exact if_pos ht

/-- The delay of a reboot is over, and RST_GPIO stands as said. -/
def State.rebooted (s : State) (low : Option (Nat × Nat)) : State := { s with upd := { s.upd with reboot := none, rstLow := low } }

theorem State.rebootNow_due (hr : s.upd.reboot = some (at_, h, force)) (ht : at_ ≤ s.fs) : s.rebootNow
    = if s.mayReboot force then
        ((s.rebooted (some (s.fs + fsPerMs, s.rf .bootUpdCfg 0 3 0))).reply h 0 []).emit
          (.pin (gpioName (s.rf .bootUpdCfg 0 3 0)) false)
      else (s.rebooted s.upd.rstLow).reply h 3 [] := by
  unfold State.rebootNow
  rw [hr]
  exact if_neg (Nat.not_lt.mpr ht)

end

theorem rebootAndKeyRoll : Rules.RebootAndKeyRoll := by
  intro s
  have ends : ∀ u, s.rebootNow = u → s.running = true → exec .updRebootDelayEnd s = .next { s.fin u with pending := s.pending } :=
    fun u hu hr => hu ▸ exec_out (can := s.running && true) rfl rfl (by rw [hr]; rfl)
  refine ⟨fun t h delayMs force hh => ?_, fun hr hn => ?_, fun at_ h force hr hs => ⟨fun ht => ?_, fun ht => ?_⟩, fun t h key hh => ?_⟩
  · have reboot {u : State} {status data} (ha : t.updReboot h delayMs force = u.reply h status data) :=
      answers_reply (State.updReboot · h delayMs force) hh rfl rfl ha
    refine ⟨fun h1 => reboot (if_pos ?_), fun h1 h2 h3 => reboot ((if_neg ?_).trans (if_pos (by simp [h3]))),
      fun h1 h2 h3 h4 => reboot ((if_neg ?_).trans ((if_neg (by simp [h3])).trans (if_pos (by simp [h4])))), fun h1 h2 h3 h4 => ?_⟩
    · exact h1.imp_right Option.isSome_iff_ne_none.mpr
    · simp [h1, h2]
    · simp [h1, h2]
    · refine completes_heard (State.updReboot · h delayMs force) hh rfl rfl ?_
      rw [← heard_fs hh]
      exact (if_neg (by simp [h1, h2])).trans ((if_neg (by simp [h3])).trans (if_neg (by simp [h4])))
  · have h := completes_event (c := .updRebootDelayEnd) (can := true) rfl rfl hr rfl
    rw [State.rebootNow_none hn] at h
    exact h
  · have h := completes_event (c := .updRebootDelayEnd) (can := true) rfl rfl hr rfl
    rw [State.rebootNow_early hs ht] at h
    exact h
  · intro sends low q endsAt
    have he := ends _ (State.rebootNow_due hs ht) hr
    cases hf : s.mayReboot force with
    | true =>
      have hlow : low = some (s.fs + fsPerMs, s.rf .bootUpdCfg 0 3 0) := if_pos hf
      rw [if_pos hf] at he
      refine ⟨_, he, fun hm => ⟨?_, ?_⟩, fun hm => ?_, fun _ => (State.says_fin _ _).mem List.mem_cons_self⟩
      · refine (State.bare_fin ..).trans ?_
        rw [(s.rebooted _).reply_from _ _ hm]
        simp only [endsAt, hlow]
        rfl
      · refine (State.says_fin _ _).mem (List.mem_cons_of_mem _ ?_)
        rw [(s.rebooted _).reply_from _ _ hm]
        exact List.mem_cons_self
      · refine (State.bare_fin ..).trans ?_
        rw [(s.rebooted _).reply_none _ _ hm]
        simp only [endsAt, hlow]
        rfl
    | false =>
      have hlow : low = s.upd.rstLow := if_neg (by simp [hf])
      rw [if_neg (by simp [hf])] at he
      refine ⟨_, he, fun hm => ⟨?_, ?_⟩, fun hm => ?_, fun h => absurd h Bool.false_ne_true⟩
      · refine (State.bare_fin ..).trans ?_
        rw [(s.rebooted _).reply_from _ _ hm]
        simp only [endsAt, hlow]
        rfl
      · refine (State.says_fin _ _).mem ?_
        rw [(s.rebooted _).reply_from _ _ hm]
        exact List.mem_cons_self
      · refine (State.bare_fin ..).trans ?_
        rw [(s.rebooted _).reply_none _ _ hm]
        simp only [endsAt, hlow]
        rfl
  · have roll {u : State} {status data} (ha : t.keyRoll h key = u.reply h status data) :=
      answers_reply (State.keyRoll · h key) hh rfl rfl ha
    exact ⟨fun h1 => roll (if_pos h1), fun h1 => roll (if_neg (not_not_intro h1))⟩

theorem keySlots : Rules.KeySlots := by
  intro v slot other key
  refine ⟨fun h => ?_, fun k hk h1 h2 => ?_⟩
  · rw [Vault.putSlot, h]
  · rw [Vault.putSlot, hk]
    exact ⟨List.getElem?_set_self h1, List.getElem?_set_self h2, fun h => ⟨List.getElem?_set_ne h.symm, List.getElem?_set_ne h.symm⟩⟩

/-- Settles O47: each request is one reply after what it changes; the end of a reboot's delay sends its own. -/
theorem flalithRequests : Obligations.FlalithRequests := ⟨flalithAccess, rebootAndKeyRoll, keySlots⟩

end Sys2Proof.Machine

/-! PROOFS. JTAG, the debug port and provisioning (R440, R442, R443). -/

namespace Sys2Proof.Machine

/-! ### The debug port -/

section
variable {s : State} {sig : DebugSig}

/-- A debug authority's signature over a challenge verifies. -/
def goodUnlock (s : State) (sig : DebugSig) (c : Nat) : Prop :=
  ∃ id pub, s.upd.debugId = some id ∧ s.upd.vault.pubs.find? (keyId · = id) = some pub
    ∧ sig.value = Config.verifiesP384 pub (Config.sha384 (leBytes 8 Config.dieNumber ++ leBytes 32 c)) sig.nonce

theorem State.unlocks_iff (c : Nat) : s.unlocks c sig = true ↔ goodUnlock s sig c := by
  unfold State.unlocks goodUnlock
  cases hd : s.upd.debugId with
  | none => simp
  | some id =>
    cases hp : s.upd.vault.pubs.find? (keyId · = id) with
    | none => simp [hp]
    | some pub =>
      simp only [hp, decide_eq_true_eq, Option.some.injEq, exists_and_left, exists_eq_left']
      exact Iff.rfl

/-- The state once an unlock attempt has used the challenge. -/
def State.spent (s : State) : State := { s with upd := { s.upd with challenge := none } }

theorem State.unlock_open {c : Nat} (hc : s.upd.challenge = some c) (hg : goodUnlock s sig c) (ha : s.debugAllows 2 = true)
    (h31 : s.rb .bootSecStat 0 31 = false) : s.unlock sig = s.spent.openDebug 2 := by
  unfold State.unlock
  rw [hc]
  exact if_pos ⟨State.unlocks_iff c |>.mpr hg, ha, Bool.eq_false_iff.mp h31⟩

theorem State.unlock_fails (h : (∀ c, s.upd.challenge = some c → ¬ goodUnlock s sig c) ∨ s.debugAllows 2 = false
    ∨ s.rb .bootSecStat 0 31 = true) : s.unlock sig = s.spent := by
  unfold State.unlock
  refine if_neg ?_
  rintro ⟨g1, g2, g3⟩
  rcases h with h | h | h
  · cases hc : s.upd.challenge with
    | none => rw [hc] at g1; exact absurd g1 Bool.false_ne_true
    | some c =>
      rw [hc] at g1
      exact h c hc (State.unlocks_iff c |>.mp g1)
  · exact Bool.eq_false_iff.mp h g2
  · exact g3 h

end

theorem debugAccess : Rules.DebugAccess := by
  intro s sig hp spent shows good driven
  have hdriven : driven → s.returnsDriven = true := by
    intro h
    simpa [State.returnsDriven, hp, driven] using h
  have reads (hd : driven) : exec .debugChallengeRead s = .next { s.fin s.readChallenge with pending := s.pending } :=
    exec_out (can := s.returnsDriven) rfl rfl (hdriven hd)
  have unlock : completes (.debugUnlock sig) s (s.unlock sig) := completes_answer (can := s.powered) rfl rfl hp
  have reset (h : s.rb .bootSecStat 0 31 = true) : completes .debugReset s s.debugReset :=
    completes_answer (can := s.powered && s.rb .bootSecStat 0 31) rfl rfl (by simp [hp, h])
  refine ⟨fun c hd hc => ?_, fun h0 hh => ?_, fun hd hc => ?_, fun h => ?_, fun c hc hg ha h31 => ?_, fun h => ?_, fun h hf => ?_,
    fun x h hx hw => ?_⟩
  · have hr : s.readChallenge = s.emit (.jtag (challengeBytes c)) := by
      unfold State.readChallenge
      rw [hc]
    refine ⟨_, reads hd, (State.bare_fin ..).trans ?_, (State.says_fin _ _).mem ?_⟩
    · rw [hr]
      rfl
    · rw [hr]
      exact List.mem_cons_self
  · exact completes_idle (can := s.returnsDriven) rfl rfl (by simp [State.returnsDriven, h0, hh])
  · have hr : s.readChallenge
        = { s with free := s.free + 1, upd := { s.upd with challenge := some (Config.freeValue s.free) } }.emit
          (.jtag (challengeBytes (Config.freeValue s.free))) := by
      unfold State.readChallenge
      rw [hc]
      rfl
    refine ⟨_, reads hd, (State.bare_fin ..).trans ?_, (State.says_fin _ _).mem ?_⟩
    · rw [hr]
      rfl
    · rw [hr]
      exact List.mem_cons_self
  · rw [State.unlock_fails h] at unlock
    exact unlock
  · rw [State.unlock_open hc hg ha h31] at unlock
    exact unlock
  · exact completes_idle (can := s.powered && s.rb .bootSecStat 0 31) rfl rfl (by simp [h])
  · have reset := reset h
    rw [State.debugReset, if_neg (by simp [hf])] at reset
    exact reset
  · have reset := reset h
    have hdue : s.faultDue = true := by simp [State.faultDue, hx, hw]
    have hdefer : s.deferReset .debug = { s with saf := { s.saf with halting := some { x with held := some .debug } } } := by
      unfold State.deferReset
      rw [hx]
      rfl
    rw [State.debugReset, if_pos hdue, hdefer] at reset
    exact reset

/-! ### What opening debug leaves -/

/-- Nothing changes from `s` to `t` but registers and the Signal Box's own state. -/
def State.Logs (s t : State) : Prop := ∃ r f, t = { s with regs := r, saf := f }

theorem State.Logs.trans {s t u : State} (h : s.Logs t) (g : t.Logs u) : s.Logs u := by
  obtain ⟨r, f, rfl⟩ := h
  obtain ⟨r', f', rfl⟩ := g
  exact ⟨r', f', rfl⟩

theorem State.logs_setReg (s : State) (id : RegId) (i : Nat) (w : Word) : s.Logs (s.setReg id i w) := ⟨_, _, rfl⟩

theorem State.logs_logRecord (s : State) (fatal : Bool) (code flags : Nat) (detail : List Word) :
    s.Logs (s.logRecord fatal code flags detail) := by
  cases fatal <;> exact ⟨_, _, rfl⟩

theorem State.logs_foldl {f : State → Nat → State} (h : ∀ s i, State.Logs s (f s i)) (l : List Nat) (s : State) :
    s.Logs (l.foldl f s) := by
  induction l generalizing s with
  | nil => exact ⟨_, _, rfl⟩
  | cons i l ih => exact (h s i).trans (ih _)

theorem State.logs_openDebug (s : State) (by_ : Nat) :
    State.Logs { s with upd := { s.upd with vault := s.upd.vault.sramLost } } (s.openDebug by_) := by
  unfold State.openDebug
  extract_lets x t u v w
  have hu : t.Logs u := t.logs_setReg ..
  have hv : u.Logs v := State.logs_foldl (fun s i => s.logs_setReg ..) ..
  have hw : v.Logs w := v.logs_logRecord ..
  exact ((hu.trans hv).trans hw).trans ((w.logs_setReg ..).trans (State.logs_setReg ..))

theorem debugZeroesKeys : Rules.DebugZeroesKeys := by
  intro s by_
  obtain ⟨r, f, h⟩ := s.logs_openDebug by_
  rw [h]
  exact ⟨rfl, rfl, rfl, rfl⟩

/-! ### Provisioning -/

theorem provisioning : Rules.Provisioning := by
  intro s hp
  have writes (i : JtagItem) (hi : i.wf = true) : completes (.jtagProvision i) s (s.provision i) :=
    completes_answer (can := s.powered) rfl hi hp
  refine ⟨fun i hi hl => ?_, fun hl => ?_⟩
  · exact completes_of_bare (writes i hi) (congrArg State.bare (if_pos hl))
  · have open_ (i : JtagItem) (t : State) (hi : i.wf = true)
        (ht : s.provision i = t) : completes (.jtagProvision i) s t := ht ▸ writes i hi
    have hn : ¬ s.rb .bootSecStat 0 27 = true := by simp [hl]
    intro v w vault
    refine ⟨fun slot k h1 h2 => open_ _ _ ?_ (if_neg hn), fun k h1 => open_ _ _ ?_ (if_neg hn), fun k h1 => open_ _ _ ?_ (if_neg hn),
      fun b h1 => open_ _ _ ?_ (if_neg hn), fun n id h1 h2 => open_ _ _ ?_ (if_neg hn), fun id h1 => open_ _ _ ?_ (if_neg hn),
      fun x h1 => open_ _ _ ?_ ((if_neg hn).trans ?_), fun b h1 => open_ _ _ ?_ (if_neg hn), open_ _ _ rfl (if_neg hn)⟩
    · simp [JtagItem.wf, h1, h2]
    · simp [JtagItem.wf, h1]
    · simp [JtagItem.wf, h1]
    · simp [JtagItem.wf, h1]
    · simp [JtagItem.wf, h1, h2]
    · simp [JtagItem.wf, h1]
    · simp [JtagItem.wf, h1]
    · simp [Nat.mod_eq_of_lt h1]
    · simp [JtagItem.wf, h1]

/-- Settles O48: by what a challenge, an attempt, a debug reset and an item written make of the state. -/
theorem debugAndProvisioning : Obligations.DebugAndProvisioning := ⟨debugAccess, debugZeroesKeys, provisioning⟩

end Sys2Proof.Machine

/-! PROOFS. The phases of the boot (R397 to R408): what ends each phase, and what it leaves. -/

namespace Sys2Proof.Machine

/-! ### The phase a boot stands in -/

section
variable {s : State} {c : Instr} {can : Bool} {t : State}

theorem State.inPhase_true {n : Nat} (hw : s.awake = true) (hp : s.phase = n) : s.inPhase n = true := by
  simp [State.inPhase, hw, hp]

theorem State.inPhase_false {n : Nat} (h : s.awake = false ∨ s.phase ≠ n) : s.inPhase n = false := by
  rcases h with h | h <;> simp [State.inPhase, h]

end

theorem bootPhasesInOrder : Rules.BootPhasesInOrder := by
  intro s ok mram engine
  refine ⟨fun h => completes_idle (can := s.inPhase 0) rfl rfl (State.inPhase_false h),
    fun h => completes_idle (can := s.inPhase 1) rfl rfl (State.inPhase_false h),
    fun h h1 h2 => completes_idle (can := s.inPhase 2) rfl (by simp [Instr.wf, h1, h2]) (State.inPhase_false h),
    fun h => completes_idle (can := s.inPhase 3) rfl rfl (State.inPhase_false h),
    fun h => completes_idle (can := s.inPhase 4) rfl rfl (State.inPhase_false h),
    fun h => completes_idle (can := s.inPhase 5 && !s.boot.proved) rfl rfl ?_,
    fun h => completes_idle (can := s.inPhase 5 && s.boot.proved) rfl rfl ?_⟩
  · rcases or_assoc.mpr h with h | h
    · rw [State.inPhase_false h]; rfl
    · simp [h]
  · rcases or_assoc.mpr h with h | h
    · rw [State.inPhase_false h]; rfl
    · simp [h]

/-! ### Init -/

theorem State.deriveKeys_free (s : State) : s.deriveKeys.free = s.free := by
  unfold State.deriveKeys
  extract_lets u t id
  have ht : t.free = s.free := by
    dsimp only [t]
    split <;> rfl
  clear_value t id
  exact (foldl_keeps (g := State.free) (fun a i => State.setReg_free ..) _ _).trans ht

theorem bootInit : Rules.BootInit := by
  intro s hw hp t u v
  have init (ok : Bool) : completes (.bootInit ok) s (s.init ok) :=
    completes_answer (can := s.inPhase 0) rfl rfl (State.inPhase_true hw hp)
  refine ⟨init true, ?_⟩
  have hfree : v.free = s.free := by
    refine u.deriveKeys_free.trans ?_
    dsimp only [u, t]
    split <;> rfl
  have h := init false
  have he : s.init false = ({ v with free := v.free + 1 }.halt 0x0060 [Word.ofNat (Config.freeValue v.free), 1]) := rfl
  rw [he, hfree] at h
  exact h

/-! ### Identity -/

/-- A bank is booted, as a trial or not. -/
def State.bootsBank (s : State) (b : Nat) (trial : Bool) : State :=
  ({ s with boot := { s.boot with trial := trial } }.setRf .bootStat 0 23 23 (b2n trial)).takeBank b

/-- A bank fails, and the other is tried. -/
def State.nextBank (s : State) (b : Nat) : State :=
  State.tryBanks ((s.failBank b).otherBanks b)
    (if (s.failBank b).otherBanks b = [] then s.failBank b else (s.failBank b).setRf .bootStat 0 22 22 1)

/-- A trial's bank uses one of its tries. -/
def State.triesLess (s : State) : State := s.writeBootRec { s.bootRecord with tries := s.bootRecord.tries - 1 }

theorem State.identifyFirst_eq {s : State} (trial : Bool) (hc : s.chooseBank.2 = trial) (w : State) (hw : w = if trial then s.triesLess else s) :
    s.identifyFirst = if w.bankOk s.chooseBank.1 then w.bootsBank s.chooseBank.1 trial else w.nextBank s.chooseBank.1 := by
  have htry (l : List Nat) (x y : State) : (if l.isEmpty then x else y) = if l = [] then x else y := by cases l <;> rfl
  unfold State.identifyFirst State.nextBank
  generalize s.chooseBank = c at hc
  obtain ⟨b, t⟩ := c
  obtain rfl : t = trial := hc
  dsimp only
  rw [htry, hw]
  rfl

theorem bootIdentity : Rules.BootIdentity := by
  intro s hw hp b w boots fails
  have identify (ok : Bool) : completes (.bootIdentity ok) s (s.bootIdentify ok) :=
    completes_answer (can := s.inPhase 1) rfl rfl (State.inPhase_true hw hp)
  have found : s.bootIdentify true = match s.boot.retry with
    | some b => s.identifyRetry b
    | none => s.identifyFirst := rfl
  refine ⟨identify false, fun o ho => ?_, fun hn hc => ?_, fun hn hc => ?_⟩
  · intro r
    have h := identify true
    rw [found, ho] at h
    have hr : s.identifyRetry o = if r.bankOk o then r.takeBank o else (r.failBank o).noImage := rfl
    dsimp only at h
    rw [hr] at h
    exact ⟨fun hk => by rw [if_pos hk] at h; exact h, fun hk => by rw [if_neg (by simp [hk])] at h; exact h⟩
  · have h := identify true
    rw [found, hn] at h
    dsimp only at h
    rw [State.identifyFirst_eq false hc s rfl] at h
    exact ⟨fun hk => by rw [if_pos hk] at h; exact h, fun hk => by rw [if_neg (by simp [b, hk])] at h; exact h⟩
  · have h := identify true
    rw [found, hn] at h
    dsimp only at h
    rw [State.identifyFirst_eq true hc w rfl] at h
    exact ⟨fun hk => by rw [if_pos hk] at h; exact h, fun hk => by rw [if_neg (by simp [b, hk])] at h; exact h⟩

/-! ### Restore -/

theorem State.bare_keepOlder_setPhase (s0 s : State) (p : Nat) : ((s0.keepOlder s).setPhase p).bare = (s.setPhase p).bare := rfl

theorem bootRestore : Rules.BootRestore := by
  intro s ok lost older hw hp h1 h2 a d times v r t
  have restore : completes (.bootRestore { ringOk := ok, lost := lost, older := older }) s
      (s.restore { ringOk := ok, lost := lost, older := older }) :=
    completes_answer (can := s.inPhase 2) rfl (by simp [Instr.wf, h1, h2]) (State.inPhase_true hw hp)
  have he : s.restore { ringOk := ok, lost := lost, older := older }
      = (a.keepOlder (t.setReg .bootRet 0 (Word.ofNat
          (at_ (b2n t.boot.durableOk) 31 + at_ (b2n t.genValid) 30 + t.boot.areaGen.getD 0)))).setPhase 3 := rfl
  exact completes_of_bare restore ((congrArg State.bare he).trans (State.bare_keepOlder_setPhase a _ 3))

/-! ### Load -/

theorem State.load_none {s : State} {e : Option Nat} (h : s.openImage = none) : s.load e = s.bankFailed := by
  unfold State.load
  rw [h]

/-- The parts of an image belong: every section of a part's type has a header that agrees with it. -/
def partsOk (l : List (Nat × Nat × List Byte)) : Prop := ∀ x ∈ l, x.1 = 0 ∨ 4 < x.1 ∨ partOk l x.1 x.2.1 x.2.2 = true

theorem partsOk_iff (l : List (Nat × Nat × List Byte)) :
    (l.all fun (t, arg, d) => t = 0 || decide (4 < t) || partOk l t arg d) = true ↔ partsOk l := by
  simp only [List.all_eq_true, Bool.or_eq_true, decide_eq_true_eq, or_assoc]
  exact Iff.rfl

section
variable {s : State} {e : Option Nat} {l : List (Nat × Nat × List Byte)}

theorem State.load_misfit (hl : s.openImage = some l) (h : ¬ partsOk l) : s.load e = s.bankFailed := by
  unfold State.load
  rw [hl]
  exact if_pos (fun g => h ((partsOk_iff l).mp g))

/-- An image whose parts run stands by. -/
def State.stands (s : State) (l : List (Nat × Nat × List Byte)) (bad : Nat) : State :=
  { s with boot := { s.boot with sects := l, bad := bad } }

/-- The parts of an opened image applied. -/
def State.loadParts (s : State) (e : Option Nat) (l : List (Nat × Nat × List Byte)) : State × Bool :=
  State.applyParts { s with boot := { s.boot with engines := [] } } e (partOrder l)

theorem State.load_parts (hl : s.openImage = some l) (h : partsOk l) :
    s.load e = if (s.loadParts e l).2 then (s.loadParts e l).1.bankFailed
      else
        let t := (s.loadParts e l).1.setPhase 4
        let u := t.stands l (if t.boot.bad = 0 && l.any (sectionBad l) then 2 else t.boot.bad)
        if l.any (sectionBad l) then u.refuseBoot 2 else u := by
  unfold State.load
  rw [hl]
  refine (if_neg (not_not_intro ((partsOk_iff l).mpr h))).trans ?_
  exact rfl

end

theorem bootLoad : Rules.BootLoad := by
  intro s fails engine hw hp
  have load : completes (.bootLoad fails engine) s (s.load (if fails = true then some engine else none)) :=
    completes_answer (can := s.inPhase 3) rfl rfl (State.inPhase_true hw hp)
  refine ⟨fun h => ?_, fun l hl => ⟨fun x hx h1 h2 h3 => ?_, fun hok => ?_⟩⟩
  · rw [State.load_none h] at load
    exact load
  · rw [State.load_misfit hl] at load
    · exact load
    · intro g
      rcases g x hx with g | g | g
      · omega
      · omega
      · exact absurd g (by simp [h3])
  · intro r t stands
    rw [State.load_parts hl hok, show s.loadParts _ l = r from rfl] at load
    refine ⟨fun hf => ?_, fun hf hb => ?_, fun hf hb => ?_⟩
    · rw [if_pos hf] at load
      exact load
    · rw [if_neg (fun h => absurd (h.symm.trans hf) (by decide))] at load
      rw [hb] at load
      dsimp only at load
      rw [Bool.and_false] at load
      exact load
    · rw [if_neg (fun h => absurd (h.symm.trans hf) (by decide))] at load
      rw [hb] at load
      dsimp only at load
      rw [Bool.and_true, if_pos rfl] at load
      have hbad : (if decide ((r.1.setPhase 4).boot.bad = 0) = true then 2 else (r.1.setPhase 4).boot.bad)
          = if t.boot.bad = 0 then 2 else t.boot.bad := by simp only [decide_eq_true_eq, t]
      rw [hbad] at load
      exact load

/-! ### Images and their signatures -/

theorem length_sectionBytes (s : State) (key : List Byte) (bank i : Nat) (x : Sect) : (s.sectionBytes key bank i x).length = x.len := by
  rw [State.sectionBytes, ctrCrypt_eq]
  simp [State.flashRead]

/-- The bytes of a section decrypted, each by its own counter's block (R439). -/
def State.clearBytes (s : State) (key : List Byte) (i : Nat) (x : Sect) : List Byte :=
  (List.range x.len).map fun n =>
    let counter := beBytes 2 (le (s.imageHeader s.bank) 6 2) ++ beBytes 2 i ++ List.replicate 8 0 ++ beBytes 4 (n / 16)
    s.flashByte (s.bankBase s.bank + x.off + n) ^^^ (Config.aes256 key counter).getD (n % 16) 0

theorem State.sectionBytes_eq (s : State) (key : List Byte) (i : Nat) (x : Sect) :
    s.sectionBytes key s.bank i x = s.clearBytes key i x := by
  have hlen : (s.flashRead (s.bankBase s.bank + x.off) x.len).length = x.len := by simp [State.flashRead]
  rw [State.sectionBytes, ctrCrypt_eq, hlen]
  refine List.map_congr_left fun n hn => ?_
  have hbyte : ((s.flashRead (s.bankBase s.bank + x.off) x.len)[n]?).getD 0 = s.flashByte (s.bankBase s.bank + x.off + n) := by
    rw [State.flashRead, List.getElem?_map, List.getElem?_range (List.mem_range.mp hn)]
    rfl
  rw [hbyte, Nat.zero_add]
  rfl

section
variable {s : State} {key : List Byte}

/-- The sections of a table open from index `k` on where each matches its digest. -/
theorem State.openSections_some : ∀ (l : List Sect) (k : Nat),
    (∀ i x, l[i]? = some x → beBytes 48 (Config.sha384 (s.clearBytes key (k + i) x)) = x.digest) →
    ∃ r, s.openSections key s.bank l k = some r ∧ r.length = l.length
      ∧ ∀ (i : Nat) (x : Sect), l[i]? = some x → r[i]? = some (x.type, x.arg, s.clearBytes key (k + i) x)
  | [], _, _ => ⟨[], rfl, rfl, fun i x h => by simp at h⟩
  | x :: xs, k, h => by
    obtain ⟨r, hr, hlen, hget⟩ := State.openSections_some xs (k + 1) fun i y hy => by
      have := h (i + 1) y hy
      rwa [show k + (i + 1) = k + 1 + i by omega] at this
    have h0 := h 0 x rfl
    rw [Nat.add_zero] at h0
    refine ⟨(x.type, x.arg, s.clearBytes key k x) :: r, ?_, by simp [hlen], fun i y hy => ?_⟩
    · rw [State.openSections, State.sectionBytes_eq, if_pos h0, hr]
      rfl
    · cases i with
      | zero =>
        obtain rfl : x = y := Option.some.inj hy
        rfl
      | succ i =>
        rw [show k + (i + 1) = k + 1 + i by omega]
        exact hget i y hy

/-- One section that does not match its digest shuts the image. -/
theorem State.openSections_none : ∀ (l : List Sect) (k i : Nat) (x : Sect), l[i]? = some x →
    beBytes 48 (Config.sha384 (s.clearBytes key (k + i) x)) ≠ x.digest → s.openSections key s.bank l k = none
  | [], _, i, x, h, _ => by simp at h
  | y :: ys, k, i, x, h, hne => by
    rw [State.openSections, State.sectionBytes_eq]
    split
    · next hy =>
      cases i with
      | zero =>
        obtain rfl : y = x := Option.some.inj h
        exact absurd hy hne
      | succ i =>
        rw [State.openSections_none ys (k + 1) i x h (by rwa [show k + 1 + i = k + (i + 1) by omega])]
        rfl
    · rfl

end

theorem imageOpens : Rules.ImageOpens := by
  intro s h entries clear
  have hopen (key : List Byte) (hk : s.upd.vault.imageKey = some key) : s.openImage = s.openSections key s.bank entries 0 := by
    simp only [State.openImage, hk, Option.bind_some, entries, h]
  refine ⟨fun hk => ?_, fun key hk => ⟨fun hd => ?_, fun i x hx hne => ?_⟩⟩
  · rw [State.openImage, hk]
    rfl
  · rw [hopen key hk]
    obtain ⟨r, h1, h2, h3⟩ := State.openSections_some (s := s) (key := key) entries 0 fun i x hx => by
      rw [Nat.zero_add]
      exact hd i x hx
    refine ⟨r, h1, h2, fun i x hx => ?_⟩
    have := h3 i x hx
    rw [Nat.zero_add] at this
    exact this
  · rw [hopen key hk]
    refine State.openSections_none entries 0 i x hx ?_
    rw [Nat.zero_add]
    exact hne

/-- A key identifier is accepted where an unrevoked ROOT_ID holds it (R404). -/
def State.rootAccepts (s : State) (id : List Byte) : Prop :=
  ∃ n, n < 4 ∧ s.upd.rootIds[n]? = some (some id) ∧ s.rb .bootSecStat 0 n = false

theorem State.rootAccepts_iff (s : State) (id : List Byte) :
    ((List.range 4).any fun n => (s.upd.rootIds[n]?).getD none = some id && !s.rb .bootSecStat 0 n) = true
      ↔ s.rootAccepts id := by
  have hget (n : Nat) : (s.upd.rootIds[n]?).getD none = some id ↔ s.upd.rootIds[n]? = some (some id) := by
    cases s.upd.rootIds[n]? <;> simp
  simp only [List.any_eq_true, List.mem_range, Bool.and_eq_true, decide_eq_true_eq, hget, Bool.not_eq_true']
  exact Iff.rfl

theorem State.signerOf_accepted {s : State} {h : List Byte} (ha : s.rootAccepts (sliceZ h 3712 16)) :
    s.signerOf h = s.upd.vault.pubs.find? (keyId · = sliceZ h 3712 16) :=
  if_pos ((s.rootAccepts_iff _).mpr ha)

theorem State.signerOf_refused {s : State} {h : List Byte} (ha : ¬ s.rootAccepts (sliceZ h 3712 16)) : s.signerOf h = none :=
  if_neg fun g => ha ((s.rootAccepts_iff _).mp g)

theorem signaturesVerify : Rules.SignaturesVerify := by
  intro s b h id accepted verifies
  have ok : s.bankOk b = (s.signatureOk h && headerOk h s.bootRecord.bankSize) := rfl
  have hsign : accepted → s.signerOf h = s.upd.vault.pubs.find? (keyId · = id) := fun ha => State.signerOf_accepted ha
  have hrefuse : ¬ accepted → s.signerOf h = none := fun ha => State.signerOf_refused ha
  have hnone : s.signerOf h = none → s.bankOk b = false := by
    intro hn
    rw [ok, State.signatureOk, hn]
    rfl
  refine ⟨fun hh => by rw [ok, hh, Bool.and_false], fun ha => hnone (hrefuse ha), fun hp => hnone ?_, fun pub hp => ⟨fun hv => ?_,
    fun ha hv hh => ?_⟩⟩
  · by_cases ha : accepted
    · exact (hsign ha).trans hp
    · exact hrefuse ha
  · by_cases ha : accepted
    · rw [ok, State.signatureOk, hsign ha, hp]
      simp only [Bool.and_eq_false_iff, decide_eq_false_iff_not]
      exact .inl hv
    · exact hnone (hrefuse ha)
  · rw [ok, State.signatureOk, hsign ha, hp, hh, Bool.and_true]
    exact decide_eq_true hv

theorem bankFails : Rules.BankFails := by
  intro s f t
  constructor
  · intro hn
    unfold State.bankFailed
    dsimp only
    rw [show (s.failBank s.bank).otherBanks s.bank = [] from hn]
  · intro o l hl
    unfold State.bankFailed
    dsimp only
    rw [show (s.failBank s.bank).otherBanks s.bank = o :: l from hl]

/-! ### Parts -/

theorem partBefore_total (x y : Nat × Nat × List Byte) : partBefore x y = true ∨ partBefore y x = true := by
  simp only [partBefore, decide_eq_true_eq]
  omega

theorem partBefore_trans {x y z : Nat × Nat × List Byte} (h : partBefore x y = true) (g : partBefore y z = true) :
    partBefore x z = true := by
  simp only [partBefore, decide_eq_true_eq] at *
  omega

theorem insertPart_perm (x : Nat × Nat × List Byte) : ∀ l, (insertPart x l).Perm (x :: l)
  | [] => .refl _
  | y :: l => by
    rw [insertPart]
    split
    · exact .refl _
    · exact ((insertPart_perm x l).cons y).trans (.swap ..)

theorem insertPart_pairwise {x : Nat × Nat × List Byte} : ∀ {l : List (Nat × Nat × List Byte)},
    l.Pairwise (fun x y => partBefore x y = true) → (insertPart x l).Pairwise (fun x y => partBefore x y = true)
  | [], _ => List.pairwise_singleton ..
  | y :: l, h => by
    rw [insertPart]
    obtain ⟨h1, h2⟩ := List.pairwise_cons.mp h
    split
    · next hxy =>
      refine List.pairwise_cons.mpr ⟨fun z hz => ?_, h⟩
      rcases List.mem_cons.mp hz with rfl | hz
      · exact hxy
      · exact partBefore_trans hxy (h1 z hz)
    · next hxy =>
      refine List.pairwise_cons.mpr ⟨fun z hz => ?_, insertPart_pairwise h2⟩
      rcases List.mem_cons.mp ((insertPart_perm x l).mem_iff.mp hz) with rfl | hz
      · exact (partBefore_total z y).resolve_left hxy
      · exact h1 z hz

theorem partsSorted (l : List (Nat × Nat × List Byte)) :
    (l.foldr insertPart []).Pairwise (fun x y => partBefore x y = true) ∧ (l.foldr insertPart []).Perm l := by
  induction l with
  | nil => exact ⟨.nil, .refl _⟩
  | cons x l ih =>
    exact ⟨insertPart_pairwise ih.1, (insertPart_perm x _).trans (ih.2.cons x)⟩

theorem State.engines_applyPart (s : State) (x : Nat × Nat × List Byte) : (s.applyPart x).boot.engines = s.boot.engines ++ [x.1] := by
  unfold State.applyPart
  dsimp only
  split <;> rfl

theorem State.applyParts_none (l : List (Nat × Nat × List Byte)) (s : State) :
    (s.applyParts none l).2 = false ∧ (s.applyParts none l).1.boot.engines = s.boot.engines ++ l.map (·.1) := by
  induction l generalizing s with
  | nil => exact ⟨rfl, (List.append_nil _).symm⟩
  | cons x l ih =>
    have h : s.applyParts none (x :: l) = (s.applyPart x).applyParts none l := if_neg (by simp)
    rw [h]
    obtain ⟨h1, h2⟩ := ih (s.applyPart x)
    refine ⟨h1, h2.trans ?_⟩
    rw [s.engines_applyPart, List.append_assoc]
    rfl

theorem partsApplied : Rules.PartsApplied := by
  intro s l
  obtain ⟨h1, h2⟩ := partsSorted (l.filter fun x => decide (1 ≤ x.1 ∧ x.1 ≤ 4))
  obtain ⟨h3, h4⟩ := s.applyParts_none l
  exact ⟨h1, h2, h3, h4⟩

end Sys2Proof.Machine

/-! PROOFS. The boot: what Restore finds of MRAM, Admission, and the commit edge (R241, R406, R410 to R414, R438). -/

namespace Sys2Proof.Machine

/-! ### The vault -/

theorem State.deriveKeys_vault (s : State) :
    s.deriveKeys.upd.vault = if s.deriveBlocked then s.upd.vault else s.upd.vault.derive := by
  unfold State.deriveKeys
  extract_lets u t id
  have ht : t.upd.vault = if s.deriveBlocked then s.upd.vault else s.upd.vault.derive := by
    dsimp only [t]
    split <;> rfl
  clear_value t id
  exact (foldl_keeps (g := fun s : State => s.upd.vault) (fun a i => congrArg UpdSt.vault (State.setReg_upd ..)) _ _).trans ht

theorem Wrapped.open_same {w : Wrapped} {k : List Byte} (h : w.under = k) : w.open_ k = some w.key := if_pos h

theorem Wrapped.open_other {w : Wrapped} {k : List Byte} (h : w.under ≠ k) : w.open_ k = none := if_neg h

theorem keysDerived : Rules.KeysDerived := by
  intro s v k x
  have hx : x = if s.deriveBlocked then v else v.derive := s.deriveKeys_vault
  refine ⟨fun h => hx.trans (if_pos h), fun h => ?_⟩
  have hx : x = v.derive := hx.trans (if_neg (by simp [h]))
  clear_value x
  subst hx
  let opened (w : Option Wrapped) : Option (List Byte) := w.bind (·.open_ k)
  refine ⟨rfl, rfl, rfl, rfl, rfl, rfl, fun w hw hu => ?_, fun w hw hu => ?_, fun hw => ?_, fun n w hw hu => ?_⟩
  · exact (congrArg opened hw).trans (Wrapped.open_same hu)
  · exact (congrArg opened hw).trans (Wrapped.open_other hu)
  · exact congrArg opened hw
  · have hget : v.derive.slotKeys[n]? = (v.wrapSlots[n]?).map fun w => w.bind (·.open_ k) := List.getElem?_map ..
    rw [hget, hw]
    exact congrArg some (Wrapped.open_same hu)

/-! ### Register words whatever the store -/

/-- A word other than its register's cold value is read as it was written, whatever the store lists. -/
theorem State.reg_setReg_warm {s : State} {id : RegId} {i : Nat} {w : Word} (h : w ≠ coldWord id i) :
    (s.setReg id i w).reg id i = w := by
  unfold State.setReg State.reg regOf setRegOf Store.set
  rw [if_neg h]
  exact Store.get_put_self ..

/-- A bit set in a register whose cold value has it clear. -/
theorem State.rb_orReg_bit {s : State} {id : RegId} {i k : Nat} (hc : bitW (coldWord id i) k = false)
    (hb : bitW (Word.ofNat (2 ^ k)) k = true) : (s.orReg id i (2 ^ k)).rb id i k = true := by
  have hbit : bitW (s.reg id i ||| Word.ofNat (2 ^ k)) k = true := by
    rw [bitW, BitVec.getLsbD_or, show (Word.ofNat (2 ^ k)).getLsbD k = true from hb, Bool.or_true]
  rw [State.orReg, State.rb, State.reg_setReg_warm, hbit]
  intro he
  rw [he, hc] at hbit
  exact Bool.false_ne_true hbit

/-! ### The areas of MRAM -/

/-- The store header as Restore finds it (R410). -/
def State.headerRead (s : State) (lost older : Nat) : State :=
  if readsOlder lost older 8 then { s with boot := { s.boot with durableOk := s.boot.olderOk } } else s

theorem readsOlder_iff (lost older k : Nat) : readsOlder lost older k = true ↔ bitOf lost k = false ∧ bitOf older k = true := by
  simp [readsOlder, and_comm]

/-- The store header stands as said. -/
def State.withHeader (s : State) (ok : Bool) : State := { s with boot := { s.boot with durableOk := ok } }

theorem State.headerRead_eq (s : State) (lost older : Nat) : s.headerRead lost older
    = s.withHeader (if bitOf older 8 = true ∧ bitOf lost 8 = false then s.boot.olderOk else s.boot.durableOk) := by
  unfold State.headerRead
  by_cases h : bitOf older 8 = true ∧ bitOf lost 8 = false
  · rw [if_pos ((readsOlder_iff ..).mpr h.symm), if_pos h]
    rfl
  · rw [if_neg fun g => h ((readsOlder_iff ..).mp g).symm, if_neg h]
    rfl

/-- What is left of the areas of MRAM where some fail (R411). -/
def State.areasLost (s : State) (lost : Nat) : State :=
  { s with boot := { s.boot with
      kept := (List.range 8).map fun p => if bitOf lost p then [] else (s.boot.kept[p]?).getD []
      durableOk := s.boot.durableOk && !bitOf lost 8
      areaGen := if bitOf lost 9 then none else s.boot.areaGen } }

theorem State.checkAreas_eq (s : State) (lost older : Nat) : s.checkAreas lost older
    = if lost = 0 then s.headerRead lost older else ((s.headerRead lost older).areasLost lost).orReg .bootIntStat 0 8 := rfl

theorem areasChecked : Rules.AreasChecked := by
  intro s lost older valid
  refine ⟨rfl, fun h => ?_, fun h hk => ?_⟩
  · rw [State.checkAreas_eq, if_pos h, State.headerRead_eq]
    rfl
  · intro t
    have ht : t = ((s.headerRead lost older).areasLost lost).orReg .bootIntStat 0 8 := (State.checkAreas_eq ..).trans (if_neg h)
    rw [State.headerRead_eq] at ht
    clear_value t
    subst ht
    refine ⟨fun p hp => ?_, rfl, rfl, ?_, rfl, rfl, rfl, rfl⟩
    · have hget : ((List.range 8).map fun p => if bitOf lost p then [] else (s.boot.kept[p]?).getD [])[p]?
          = some (if bitOf lost p then [] else (s.boot.kept[p]?).getD []) := by
        rw [List.getElem?_map, List.getElem?_range hp]
        rfl
      refine hget.trans ?_
      split
      · rfl
      · rw [List.getElem?_eq_getElem (hk ▸ hp)]
        rfl
    · exact State.rb_orReg_bit (k := 3) (by decide) (by decide)

/-! ### The records of MRAM -/

section
variable (s : State) (lost older : Nat)

/-- The retained configuration as a boot finds it. -/
def State.findRetained : State :=
  if bitOf lost 10 then s.dropRetained
  else if readsOlder lost older 10 then
    { s.setReg .bootRetCfg 0 s.boot.olderCfg.1 with boot := { s.boot with retDigest := s.boot.olderCfg.2 } }
  else s

/-- The update state as a boot finds it. -/
def State.findUpdate : State :=
  if bitOf lost 11 then s.dropUpdate else if readsOlder lost older 11 then s.putUpdRec s.slots.upd else s

/-- The capture state as a boot finds it. -/
def State.findCapture : State :=
  if bitOf lost 12 then s.dropCapture else if readsOlder lost older 12 then s.putCaptRec s.slots.capt else s

/-- The times and the count of partner resets as a boot finds them. -/
def State.findTimes : State :=
  let s := if readsOlder lost older 13 then { s with time := { s.time with saved := s.time.older } } else s
  if bitOf lost 14 then { s with red := { s.red with count := 0 } } else s

theorem State.dropRecords_eq : s.dropRecords lost older
    = (((s.findRetained lost older).findUpdate lost older).findCapture lost older).findTimes lost older := rfl

theorem State.findRetained_shape : ∃ r b, s.findRetained lost older = { s with regs := r, boot := b } := by
  unfold State.findRetained
  split
  · exact ⟨_, _, rfl⟩
  · split <;> exact ⟨_, _, rfl⟩

theorem State.findUpdate_shape : ∃ r u x, s.findUpdate lost older
    = { s with regs := r, upd := u, slots := { s.slots with upd := x } } := by
  unfold State.findUpdate
  split
  · exact ⟨_, _, _, rfl⟩
  · split <;> exact ⟨_, _, _, rfl⟩

theorem State.findCapture_shape : ∃ c x, s.findCapture lost older = { s with capt := c, slots := { s.slots with capt := x } } := by
  unfold State.findCapture
  split
  · exact ⟨_, _, rfl⟩
  · split <;> exact ⟨_, _, rfl⟩

theorem State.findTimes_eq : s.findTimes lost older = { s with
    time := { s.time with saved := if readsOlder lost older 13 then s.time.older else s.time.saved }
    red := { s.red with count := if bitOf lost 14 then 0 else s.red.count } } := by
  unfold State.findTimes
  dsimp only
  split <;> split <;> rfl

end

section
variable {s : State} {lost older : Nat}

theorem Store.wfD_filter {α : Type} [DecidableEq α] {d : Nat → α} (f : Nat × α → Bool) {m : Store α} {lo : Option Nat}
    (h : Store.wfD d lo m = true) : Store.wfD d lo (m.filter f) = true := by
  induction m generalizing lo with
  | nil => rfl
  | cons e r ih =>
    obtain ⟨j, u⟩ := e
    obtain ⟨hlo, hu, hr⟩ := Store.wfD_cons.mp h
    rw [List.filter_cons]
    split
    · exact Store.wfD_cons.mpr ⟨hlo, hu, ih hr⟩
    · exact Store.wfD_of_lower (ih hr) fun l hl => Nat.le_of_lt (hlo l hl)

theorem State.findRetained_canonical (h : regsCanonical s.regs) : regsCanonical (s.findRetained lost older).regs := by
  unfold State.findRetained
  split
  · exact Store.wfD_filter _ h
  · split
    · exact State.regsCanonical_setReg h ..
    · exact h

theorem State.findRetained_digest : (s.findRetained lost older).boot.retDigest = if bitOf lost 10 = true then []
    else if bitOf older 10 = true then s.boot.olderCfg.2 else s.boot.retDigest := by
  unfold State.findRetained
  cases h : bitOf lost 10 <;> cases g : bitOf older 10 <;> simp [readsOlder, h, g, State.dropRetained]

theorem State.putUpdRec_updRec (h : regsCanonical s.regs) (r : UpdRec) : (s.putUpdRec r).updRec = r := by
  have hpkg : (s.putUpdRec r).reg .bootUpdPkg 0 = r.pkg := State.reg_setReg_self (State.regsCanonical_setReg h ..) ..
  have hstat : (s.putUpdRec r).reg .bootUpdStat 0 = r.stat :=
    (State.reg_setReg_ne (State.regsCanonical_setReg h ..) _ (.inl (by decide))).trans (State.reg_setReg_self h ..)
  unfold State.updRec
  rw [hpkg, hstat]
  rfl

theorem State.putCaptRec_captRec (r : CaptRec) : (s.putCaptRec r).captRec = r := rfl

theorem State.captRec_congr {s t : State} (h : s.capt = t.capt) : s.captRec = t.captRec := by
  simp only [State.captRec, h]

theorem State.updRec_congr {s t : State} (h : s.upd = t.upd) (g : s.regs = t.regs) : s.updRec = t.updRec := by
  simp only [State.updRec, State.reg, h, g]

/-- Record `k` is read from its older slot. -/
def readsRecord (lost older k : Nat) : Prop := bitOf lost k = false ∧ bitOf older k = true

/-- Record `k` is read from its newer slot. -/
def recordStands (lost older k : Nat) : Prop := bitOf lost k = false ∧ bitOf older k = false

theorem State.findUpdate_lost (h : bitOf lost 11 = true) : s.findUpdate lost older = s.dropUpdate := if_pos h

theorem State.findUpdate_older (h : readsRecord lost older 11) : s.findUpdate lost older = s.putUpdRec s.slots.upd :=
  (if_neg (by simp [h.1])).trans (if_pos ((readsOlder_iff ..).mpr h))

theorem State.findUpdate_stands (h : recordStands lost older 11) : s.findUpdate lost older = s :=
  (if_neg (by simp [h.1])).trans (if_neg (by simp [readsOlder, h.2]))

theorem State.findCapture_lost (h : bitOf lost 12 = true) : s.findCapture lost older = s.dropCapture := if_pos h

theorem State.findCapture_older (h : readsRecord lost older 12) : s.findCapture lost older = s.putCaptRec s.slots.capt :=
  (if_neg (by simp [h.1])).trans (if_pos ((readsOlder_iff ..).mpr h))

theorem State.findCapture_stands (h : recordStands lost older 12) : s.findCapture lost older = s :=
  (if_neg (by simp [h.1])).trans (if_neg (by simp [readsOlder, h.2]))

/-- Of the blocks in capture memory those stay that the record counts as closed. -/
theorem State.mem_putCaptRec_ring {r : CaptRec} {x : Nat × RecBlock} (h : x ∈ (s.putCaptRec r).capt.ring) :
    x ∈ s.capt.ring ∧ x.2.bsn < r.bsn := by
  have hx : x ∈ s.capt.ring.filter fun x => decide (x.2.bsn < r.bsn) := h
  exact ⟨(List.mem_filter.mp hx).1, by simpa using (List.mem_filter.mp hx).2⟩

end

/-- Acting on one number of a list that holds it once. -/
theorem foldl_only {α : Type} (f : α → α) (k : Nat) : ∀ (l : List Nat), k ∉ l → ∀ a : α,
    l.foldl (fun a j => if bitOf (2 ^ k) j then f a else a) a = a
  | [], _, _ => rfl
  | j :: l, h, a => by
    have hj : bitOf (2 ^ k) j = false := by
      simp only [List.mem_cons, not_or] at h
      simp [bitOf, h.1]
    rw [List.foldl_cons, if_neg (by simp [hj])]
    exact foldl_only f k l (fun g => h (List.mem_cons_of_mem _ g)) a

theorem foldl_once {α : Type} (f : α → α) (k : Nat) : ∀ (l : List Nat), l.Nodup → k ∈ l → ∀ a : α,
    l.foldl (fun a j => if bitOf (2 ^ k) j then f a else a) a = f a
  | j :: l, hn, hk, a => by
    obtain ⟨h1, h2⟩ := List.nodup_cons.mp hn
    rw [List.foldl_cons]
    by_cases hj : k = j
    · subst hj
      have hb : bitOf (2 ^ k) k = true := by simp [bitOf]
      rw [if_pos hb]
      exact foldl_only f k l h1 _
    · have hb : bitOf (2 ^ k) j = false := by simp [bitOf, hj]
      rw [if_neg (by simp [hb])]
      exact foldl_once f k l h2 ((List.mem_cons.mp hk).resolve_left hj) a

/-- One record lost, with the unit that failed free. -/
def State.loseOne (s : State) : State := { s with free := s.free + 1 }.mramLost (Config.freeValue s.free % 65536)

theorem State.countLost_eq (s : State) (lost : Nat) :
    s.countLost lost = (List.range 15).foldl (fun s k => if bitOf lost k then s.loseOne else s) s := rfl

theorem recordsDiscarded : Rules.RecordsDiscarded := by
  intro s lost older t reads stands
  obtain ⟨r₁, b₁, h₁⟩ := s.findRetained_shape lost older
  obtain ⟨r₂, u₂, x₂, h₂⟩ := (s.findRetained lost older).findUpdate_shape lost older
  obtain ⟨c₃, x₃, h₃⟩ := ((s.findRetained lost older).findUpdate lost older).findCapture_shape lost older
  have h₄ := (s.dropRecords_eq lost older).trans (State.findTimes_eq ..)
  have hdigest := s.findRetained_digest (lost := lost) (older := older)
  have hcanon := s.findRetained_canonical (lost := lost) (older := older)
  generalize s.findRetained lost older = a at h₁ h₂ h₃ h₄ hdigest hcanon
  have update_lost := a.findUpdate_lost (lost := lost) (older := older)
  have update_older := a.findUpdate_older (lost := lost) (older := older)
  have update_stands := a.findUpdate_stands (lost := lost) (older := older)
  generalize a.findUpdate lost older = b at h₂ h₃ h₄ update_lost update_older update_stands
  have capture_lost := b.findCapture_lost (lost := lost) (older := older)
  have capture_older := b.findCapture_older (lost := lost) (older := older)
  have capture_stands := b.findCapture_stands (lost := lost) (older := older)
  generalize b.findCapture lost older = c at h₃ h₄ capture_lost capture_older capture_stands
  have ht : t = _ := h₄
  clear_value t
  have aSlots : a.slots = s.slots := (congrArg State.slots h₁ :)
  have aUpd : a.upd = s.upd := (congrArg State.upd h₁ :)
  have bCapt : b.capt = s.capt := (congrArg State.capt h₂ :).trans (congrArg State.capt h₁ :)
  have bSlots : b.slots.capt = s.slots.capt := (congrArg (fun v : State => v.slots.capt) h₂ :).trans (congrArg OlderSlots.capt aSlots :)
  have cRed : c.red = s.red := (congrArg State.red h₃ :).trans ((congrArg State.red h₂ :).trans (congrArg State.red h₁ :))
  have cTime : c.time = s.time := (congrArg State.time h₃ :).trans ((congrArg State.time h₂ :).trans (congrArg State.time h₁ :))
  have tCapt : t.capt = c.capt := (congrArg State.capt ht :)
  have tUpd : t.upd = b.upd := (congrArg State.upd ht :).trans (congrArg State.upd h₃ :)
  have tRegs : t.regs = b.regs := (congrArg State.regs ht :).trans (congrArg State.regs h₃ :)
  have tBoot : t.boot = a.boot := (congrArg State.boot ht :).trans ((congrArg State.boot h₃ :).trans (congrArg State.boot h₂ :))
  have tTime : t.time = { s.time with saved := if readsOlder lost older 13 then s.time.older else s.time.saved } :=
    cTime ▸ (congrArg State.time ht :)
  refine ⟨cRed ▸ (congrArg State.red ht :), fun h => ?_, fun h => ?_, fun h => ?_, fun h => ?_, fun h => ?_, fun h => ?_, fun hr h => ?_,
    fun h => ?_, tBoot ▸ hdigest, ?_, ?_, ?_, rfl, fun k hk => ?_⟩
  · rw [tTime, if_pos ((readsOlder_iff ..).mpr h)]
  · rw [tTime, if_neg fun g => h ((readsOlder_iff ..).mp g)]
  · rw [tCapt, capture_lost h, ← bCapt]
    rfl
  · have hc := capture_older h
    have hcapt : t.capt = (b.putCaptRec b.slots.capt).capt := tCapt.trans (congrArg State.capt hc :)
    refine ⟨(State.captRec_congr hcapt).trans ((State.putCaptRec_captRec _).trans bSlots), ?_, ?_, fun x hx => ?_⟩
    · exact (congrArg RecSt.nvme hcapt).trans (congrArg RecSt.nvme bCapt :)
    · exact (congrArg RecSt.nvme2 hcapt).trans (congrArg RecSt.nvme2 bCapt :)
    · rw [hcapt] at hx
      rw [← bCapt, ← bSlots]
      exact State.mem_putCaptRec_ring hx
  · rw [tCapt, capture_stands h, bCapt]
  · rw [tUpd, update_lost h, ← aUpd]
    rfl
  · rw [State.updRec_congr tUpd tRegs, update_older h, State.putUpdRec_updRec (hcanon hr), aSlots]
  · rw [tUpd, update_stands h, aUpd]
  · exact (congrArg State.tables ht :).trans ((congrArg State.tables h₃ :).trans ((congrArg State.tables h₂ :).trans (congrArg State.tables h₁ :)))
  · exact (congrArg State.ports ht :).trans ((congrArg State.ports h₃ :).trans ((congrArg State.ports h₂ :).trans (congrArg State.ports h₁ :)))
  · exact (congrArg State.saf ht :).trans ((congrArg State.saf h₃ :).trans ((congrArg State.saf h₂ :).trans (congrArg State.saf h₁ :)))
  · rw [State.countLost_eq]
    exact foldl_once State.loseOne k _ List.nodup_range (List.mem_range.mpr hk) s

/-! ### The slots of MRAM -/

theorem State.pinChange_slots (s : State) (n : String) (a b : Bool) : (s.pinChange n a b).slots = s.slots := by
  unfold State.pinChange
  split <;> rfl

theorem State.watchQuiet_slots (s : State) : s.watchQuiet.slots = s.slots := by
  have plat (t : State) (p : Nat) : (t.watchPlat p).slots = t.slots := by
    unfold State.watchPlat
    extract_lets x since
    split <;> rfl
  have chip (t : State) : t.watchChip.slots = t.slots := by
    unfold State.watchChip
    extract_lets since
    split <;> rfl
  exact (chip _).trans (foldl_keeps (g := State.slots) plat _ s)

theorem State.vectors_slots (s s0 : State) : (s.vectors s0).slots = s.slots := by
  unfold State.vectors
  refine foldl_keeps (g := State.slots) (fun t v => ?_) _ s
  unfold State.sendVector State.dropPending
  split
  · split
    · rfl
    · split <;> rfl
  · split <;> rfl

theorem slotsWritten : Rules.SlotsWritten := by
  intro s t hp u
  have hs : u.slots = (s.keepOlder t).slots := by
    unfold u
    unfold State.fin
    rw [if_neg hp]
    dsimp only
    rw [State.pinChange_slots, State.pinChange_slots, State.pinChange_slots, State.vectors_slots, State.watchQuiet_slots]
  have hc : u.slots.capt = if t.captRec = s.captRec then t.slots.capt else s.captRec := congrArg OlderSlots.capt hs
  have hu : u.slots.upd = if t.updRec = s.updRec then t.slots.upd else s.updRec := congrArg OlderSlots.upd hs
  exact ⟨fun h => hc.trans (if_pos h), fun h => hc.trans (if_neg h), fun h => hu.trans (if_pos h), fun h => hu.trans (if_neg h)⟩

/-! ### Apply and Admission -/

section
variable {s : State}

/-- The report that Admission leaves: a fallback that proves leaves the refused one where it is. -/
def State.bootReport (s : State) : Store Word :=
  let ls := s.install.admRun
  if s.boot.fallback && ls.all (·.reason = 0) then (s.setReport 0 s.install.asStaged ls).adm.rpt else s.install.admFinish.adm.rpt

/-- Admission judged: its report, and RESULT, REASON and FIRST of the check. -/
def State.bootJudged (s : State) (rpt : Store Word) : State :=
  { s with adm := { s.adm with rpt := rpt } }.setReg .schAdmStat 0
    ((s.install.admFinish.reg .schAdmStat 0 &&& 0x0C0F3FFF) ||| (s.reg .schAdmStat 0 &&& 0x30000000))

theorem State.bootAdmit_judged (h3 : s.bootSrc ≠ 3) (hb : s.boot.bad = 0) : s.bootAdmit
    = if s.install.admRun.all (·.reason = 0) then
        { s.bootJudged s.bootReport with boot := { s.boot with proved := true } }
      else ((s.bootJudged s.bootReport).refuseBoot 5).refuseConfig :=
  (if_neg h3).trans (if_neg (not_not_intro hb))

theorem State.bootAdmit_proved (h3 : s.bootSrc ≠ 3) (hb : s.boot.bad = 0) (hok : s.install.admRun.all (·.reason = 0) = true) :
    s.bootAdmit = { s.bootJudged s.bootReport with boot := { s.boot with proved := true } } :=
  (State.bootAdmit_judged h3 hb).trans (if_pos hok)

theorem State.bootAdmit_refused (h3 : s.bootSrc ≠ 3) (hb : s.boot.bad = 0) (hok : s.install.admRun.all (·.reason = 0) = false) :
    s.bootAdmit = ((s.bootJudged s.install.admFinish.adm.rpt).refuseBoot 5).refuseConfig := by
  have hr : s.bootReport = s.install.admFinish.adm.rpt := by
    unfold State.bootReport
    dsimp only
    rw [hok, Bool.and_false]
    rfl
  rw [State.bootAdmit_judged h3 hb, hok, hr]
  rfl

end

theorem applyAndAdmission : Rules.ApplyAndAdmission := by
  intro s hw
  refine ⟨fun hp => ?_, fun hp hn => ?_⟩
  · exact completes_answer (can := s.inPhase 4) rfl rfl (State.inPhase_true hw hp)
  · have hcan : (s.inPhase 5 && !s.boot.proved) = true := by rw [State.inPhase_true hw hp, hn]; rfl
    have admits : completes .bootAdmission s s.bootAdmit := completes_answer (can := s.inPhase 5 && !s.boot.proved) rfl rfl hcan
    refine ⟨fun h3 => ?_, fun h3 hb => ?_, fun h3 hb hl => ?_, fun h3 hb hl => ?_⟩
    · rw [State.bootAdmit, if_pos h3] at admits
      exact admits
    · rw [State.bootAdmit, if_neg h3, if_pos hb] at admits
      exact admits
    · have hok : s.install.admRun.all (·.reason = 0) = true := List.all_eq_true.mpr fun l h => decide_eq_true (hl l h)
      obtain ⟨u, hu, hbare, -⟩ := admits
      rw [State.bootAdmit_proved h3 hb hok] at hbare
      exact ⟨u, hu, (State.bare_boot hbare :), (State.bare_epochs hbare :), (State.bare_tables hbare :), (State.bare_ports hbare :)⟩
    · have hok : s.install.admRun.all (·.reason = 0) = false := by
        obtain ⟨l, h, hne⟩ := hl
        exact List.all_eq_false.mpr ⟨l, h, by simpa using hne⟩
      rw [State.bootAdmit_refused h3 hb hok] at admits
      exact admits

/-! ### The commit edge -/

/-- The installed image as its checks judge it: a ring that goes on is judged without the windows that stand in it. -/
def State.judged (t : State) : State :=
  if t.ringKept then { t with capt := { t.capt with wins := List.replicate 4 {} } } else t

theorem State.bootCommit_fails {s : State} {g : Nat} (h : s.install.judged.failing s.install.stagedGroups true = some g) :
    s.bootCommit = ((s.refuseCommit .firmware g).refuseBoot 4).refuseConfig := by
  unfold State.judged at h
  unfold State.bootCommit
  dsimp only
  rw [h]

theorem State.bootCommit_runs {s : State} (h : s.install.judged.failing s.install.stagedGroups true = none) :
    s.bootCommit = { bootRuns s.install with boot := { (bootRuns s.install).boot with trial := false } } := by
  unfold State.judged at h
  unfold State.bootCommit
  dsimp only
  rw [h]
  rfl

theorem bootCommitEdge : Rules.BootCommitEdge := by
  intro s hw hp hpr t judged fails
  have hcan : (s.inPhase 5 && s.boot.proved) = true := by rw [State.inPhase_true hw hp, hpr]; rfl
  have commits : completes .bootCommit s s.bootCommit := completes_answer (can := s.inPhase 5 && s.boot.proved) rfl rfl hcan
  refine ⟨fun g hg => ?_, fun hn => ?_⟩
  · rw [State.bootCommit_fails hg] at commits
    exact commits
  · rw [State.bootCommit_runs hn] at commits
    exact commits

/-- Settles O44: phase by phase, by what ends each and what it leaves. -/
theorem bootPhases : Obligations.BootPhases :=
  ⟨bootPhasesInOrder, bootInit, keysDerived, bootIdentity, bootRestore, bootLoad, imageOpens, signaturesVerify, bankFails, partsApplied,
    areasChecked, recordsDiscarded, slotsWritten, applyAndAdmission, bootCommitEdge⟩

end Sys2Proof.Machine

/-! PROOFS. Cells and frames received (R41 to R47, R179, R191). -/

namespace Sys2Proof.Machine

theorem isLine_of_lt {e : Nat} (h : e < 512) : isLine e = true := decide_eq_true h

/-! ### Cells -/

section
variable {s : State} {e : Nat} {d : List Byte}

/-- The next bytes of a frame taken by its MAC. -/
def State.takesCell (s : State) (e : Nat) (d : List Byte) (x : RxCtx) : State :=
  (s.drawCell e x d).1.setPort e { (s.drawCell e x d).1.port e with rx := some (s.drawCell e x d).2 }

theorem State.rxCell_begins (h : (s.port e).rx = none) : s.rxCell e true d = s.takesCell e d (s.startRx e) := by
  unfold State.rxCell
  rw [h]
  rfl

theorem State.rxCell_no_frame (h : (s.port e).rx = none) : s.rxCell e false d = s := by
  unfold State.rxCell
  rw [h]

theorem State.rxCell_in_frame {x : RxCtx} (h : (s.port e).rx = some x) : s.rxCell e true d = s := by
  unfold State.rxCell
  rw [h]

theorem State.rxCell_goes_on {x : RxCtx} (h : (s.port e).rx = some x) :
    s.rxCell e false d = if x.bytes.length % 256 = 0 then s.takesCell e d x else s := by
  unfold State.rxCell
  rw [h]
  rfl

end

theorem cellsDrawn : Rules.CellsDrawn := by
  intro s e d he h0 h1 hr takes
  have hwf (sfd : Bool) : (Instr.cellDraw e sfd d).wf = true := by simp [Instr.wf, isLine_of_lt he, h0, h1]
  have draws (sfd : Bool) (hl : (s.port e).link = true) : completes (.cellDraw e sfd d) s (s.rxCell e sfd d) :=
    completes_event (can := (s.port e).link) rfl (hwf sfd) hr hl
  refine ⟨fun hl sfd => completes_not_event (can := (s.port e).link) rfl (hwf sfd) hl, fun hl => ⟨fun hn => ⟨?_, ?_⟩, fun x hx => ⟨?_,
    fun hm => ?_, fun hm => ?_⟩⟩⟩
  · have h := draws true hl
    rw [State.rxCell_begins hn] at h
    exact h
  · have h := draws false hl
    rw [State.rxCell_no_frame hn] at h
    exact h
  · have h := draws true hl
    rw [State.rxCell_in_frame hx] at h
    exact h
  · have h := draws false hl
    rw [State.rxCell_goes_on hx, if_pos hm] at h
    exact h
  · have h := draws false hl
    rw [State.rxCell_goes_on hx, if_neg hm] at h
    exact h

/-! ### The last byte of a frame -/

theorem framesReceived : Rules.FramesReceived := by
  intro s e codeErr x he hr hl
  have ends : completes (.frameReceive e codeErr) s
      (match (s.port e).rx with
        | some x => s.endRx e x codeErr
        | none => s) :=
    completes_event (can := (s.port e).link) rfl (isLine_of_lt he) hr hl
  refine ⟨fun hn => ?_, fun hx => ?_⟩
  · rw [hn] at ends
    exact ends
  · intro t n fcsOk c
    rw [hx] at ends
    dsimp only at ends
    have hfcs : (4 ≤ n && x.bytes.drop (n - 4) = fcsOf (x.bytes.take (n - 4))) = fcsOk := (Bool.decide_and ..).symm
    refine ⟨fun hy => ?_, fun hy h64 => ?_, fun hy h64 => ?_⟩
    · have heq : s.endRx e x codeErr = (t.count .ao (e / 64) 6).orReg .aoIntStat 0 2 := if_pos hy
      rw [heq] at ends
      exact ends
    · have heq : s.endRx e x codeErr = _ := (if_neg (by simp [hy])).trans (if_pos h64)
      rw [heq] at ends
      rw [← hfcs]
      exact ends
    · have heq : s.endRx e x codeErr = _ := (if_neg (by simp [hy])).trans (if_neg (Nat.not_lt.mpr h64))
      rw [heq] at ends
      rw [← hfcs]
      exact ends

/-! ### What is made of a frame -/

theorem stationMatched {c : Cfg} {port da e n : Nat} (h : c.station port da = some (e, n)) :
    let k (i : Nat) : Nat := port / 64 * 16 + i
    let matching (i : Nat) : Prop := c.b .platStaHi (k i) 31 = true
      ∧ c.f .platStaHi (k i) 15 0 * 2 ^ 32 + (c .platStaLo (k i)).toNat = da
      ∧ (c.b .platStaHi (k i) 30 = false ∨ c.f .platStaHi (k i) 29 24 = port % 64)
    e < 16 ∧ matching e ∧ n = c.f .platStaHi (k e) 20 16 ∧ ∀ i, i < e → ¬ matching i := by
  intro k matching
  have hmatch (i : Nat) : (c.b .platStaHi (k i) 31
      && decide (c.f .platStaHi (k i) 15 0 * 2 ^ 32 + (c .platStaLo (k i)).toNat = da)
      && (!c.b .platStaHi (k i) 30 || some (port % 64) = some (c.f .platStaHi (k i) 29 24))) = true ↔ matching i := by
    simp only [Bool.and_eq_true, Bool.or_eq_true, Bool.not_eq_true', decide_eq_true_eq, Option.some.injEq, and_assoc, matching,
      eq_comm (a := port % 64)]
  unfold Cfg.station Cfg.stationIn at h
  obtain ⟨i, hi, heq⟩ := Option.map_eq_some_iff.mp h
  obtain ⟨rfl, rfl⟩ := Prod.mk.inj heq
  obtain ⟨h1, h2, h3⟩ := List.find?_range_eq_some.mp hi
  refine ⟨List.mem_range.mp h2, (hmatch i).mp h1, rfl, fun j hj hm => ?_⟩
  have := h3 j hj
  rw [(hmatch j).mpr hm] at this
  exact absurd this (by decide)

section
variable (s : State) (port : Nat) (x : RxCtx) (codeErr fcsOk : Bool)

/-- The error mark of a frame, and the counter of its kind. -/
def State.rxMark : Nat × Nat := rxError codeErr fcsOk x.bytes.length ((s.cfgAt x.epoch).maxFrame port)

/-- A whole frame counted, by its mark, its size and its address. -/
def State.rxCounted (err : Nat × Nat) : State :=
  let c := if err.1 = 0 then s else s.count .plat port err.2
  let c := if x.bytes.length ≤ (s.cfgAt x.epoch).maxFrame port then c.count .plat port (17 + sizeBin x.bytes.length) else c
  if err.1 = 0 then c.countGood port x.bytes.length (be x.bytes 0 6) else c

/-- A whole frame that no MAC control function takes: its station entry counted, and the frame handed on unless its cells were
lost. -/
def State.rxHanded (c : State) (err : Nat) : State :=
  let sta := if err = 0 then c.cfg.station port (be x.bytes 0 6) else none
  let d := if sta.isSome then c.count .plat port 16 else c
  if x.dropped then d
  else
    d.handOff
      { bytes := x.bytes.take ((s.cfgAt x.epoch).maxFrame port), len := x.bytes.length
        trunc := decide ((s.cfgAt x.epoch).maxFrame port < x.bytes.length), err := err, port := port, plat := port / 64
        instant := x.sfd, sta := sta, charge := x.charge, acct := x.acct, rxEpoch := x.epoch }

theorem State.receiveFrame_eq : s.receiveFrame port x codeErr fcsOk
    = if (s.rxMark port x codeErr fcsOk).1 = 0 ∧ be x.bytes 12 2 = 0x8808 then
        ((s.rxCounted port x (s.rxMark port x codeErr fcsOk)).freeStaging (port / 64) port x.acct x.charge).consumeControl port x.bytes
      else s.rxHanded port x (s.rxCounted port x (s.rxMark port x codeErr fcsOk)) (s.rxMark port x codeErr fcsOk).1 := by
  unfold State.receiveFrame
  extract_lets plat len max
  rw [show rxError codeErr fcsOk len max = s.rxMark port x codeErr fcsOk from rfl]
  generalize s.rxMark port x codeErr fcsOk = err
  obtain ⟨err, slot⟩ := err
  rfl

end

theorem framesJudged : Rules.FramesJudged := by
  refine ⟨fun codeErr fcsOk len max => ⟨fun h => ?_, fun h h1 h2 => ?_, fun h h1 h2 => ?_, fun h h1 h2 => ?_, fun h h1 h2 => ?_⟩,
    fun c port da e n h => stationMatched h, fun s f => ⟨fun h => if_pos h, fun h => if_neg (Nat.not_le.mpr h)⟩,
    fun s port x codeErr fcsOk => ?_⟩
  · simp [rxError, h]
  · simp [rxError, h, h1, h2]
  · simp [rxError, h, h1, h2]
  · simp [rxError, h, Nat.not_lt.mpr h1, h2]
  · simp [rxError, h, Nat.not_lt.mpr h1, h2]
  · intro len max err c₁ c₂ c control sta d
    have h := s.receiveFrame_eq port x codeErr fcsOk
    have hrest (hc : ¬ control) : s.receiveFrame port x codeErr fcsOk = s.rxHanded port x c err.1 := h.trans (if_neg hc)
    exact ⟨fun hc => h.trans (if_pos hc), fun hc hd => (hrest hc).trans (if_pos hd),
      fun hc hd => (hrest hc).trans (if_neg (by simp [hd]))⟩

/-- Settles O55: by the bytes of a frame as they come, its end, and the first test that it fails. -/
theorem macReception : Obligations.MacReception := ⟨cellsDrawn, framesReceived, framesJudged⟩

end Sys2Proof.Machine

/-! PROOFS. Pause received and sent (R48, R194, R195). -/

namespace Sys2Proof.Machine

/-! ### Pause received -/

section
variable {s : State} {e : Nat}

theorem State.pauseUntil_line (he : e < 512) (q : Nat) :
    s.pauseUntil e q = if q = 0 then 0 else s.fs + q * 512 * bitFs (s.port e).speed := by
  rw [State.pauseUntil, State.speed, if_pos he]

/-- A pause that reaches no class marks no frame. -/
theorem PortSt.hitBy_none (p : PortSt) {reached : Nat → Bool} (h : ∀ c, reached c = false) : p.hitBy reached = p.macQ := by
  refine List.ext_getElem? fun k => ?_
  rw [PortSt.hitBy, List.getElem?_mapIdx]
  simp [h]

/-- A received pause that is honoured: all queues stand until its end, or are released. -/
theorem State.takePause_honoured (he : e < 512) {q : Nat} {rest : List PauseInfo} (hp : (s.port e).rxPause = .pause q :: rest)
    (hon : s.cfg.b .platPortCtrl e 29 = true) : s.takePause e q = s.setPort e { s.port e with
      rxPause := rest
      pauseEnd := List.replicate 8 (if q = 0 then 0 else s.fs + q * 512 * bitFs (s.port e).speed)
      macQ := (s.port e).hitBy fun _ => decide (q ≠ 0) } := by
  unfold State.takePause State.modPort
  dsimp only
  rw [hp, hon, State.pauseUntil_line he, if_pos rfl]
  simp only [Bool.true_and]
  rfl

theorem State.takePause_ignored {q : Nat} {rest : List PauseInfo} (hp : (s.port e).rxPause = .pause q :: rest)
    (hon : s.cfg.b .platPortCtrl e 29 = false) : s.takePause e q = s.setPort e { s.port e with rxPause := rest } := by
  unfold State.takePause State.modPort
  dsimp only
  rw [hp, hon, PortSt.hitBy_none _ fun _ => Bool.false_and _]
  rfl

theorem State.takePfc_eq (he : e < 512) {en : Nat} {times : List Nat} {rest : List PauseInfo}
    (hp : (s.port e).rxPause = .pfc en times :: rest) : s.takePfc e en times = s.setPort e { s.port e with
      rxPause := rest
      pauseEnd := (List.range 8).map fun k =>
        if bitOf en k && bitOf (s.cfg.f .platPortCtrl e 23 16) k then
          (if (times[k]?).getD 0 = 0 then 0 else s.fs + (times[k]?).getD 0 * 512 * bitFs (s.port e).speed)
        else ((s.port e).pauseEnd[k]?).getD 0
      macQ := (s.port e).hitBy fun k => bitOf en k && bitOf (s.cfg.f .platPortCtrl e 23 16) k && decide ((times[k]?).getD 0 ≠ 0) } := by
  unfold State.takePfc State.modPort
  dsimp only
  simp only [hp, State.pauseUntil_line he]
  rfl

end

theorem receivedPause : Rules.ReceivedPause := by
  intro s e c he hc hr p until_ on hit
  have pause : completes (.pauseReceived e) s
      (match p.rxPause.head? with
        | some (.pause q) => s.takePause e q
        | _ => s) := completes_event (can := true) rfl (isLine_of_lt he) hr rfl
  have pfc : completes (.pfcReceived e) s
      (match p.rxPause.head? with
        | some (.pfc en times) => s.takePfc e en times
        | _ => s) := completes_event (can := true) rfl (isLine_of_lt he) hr rfl
  have hwf : (Instr.pauseTimerExpiry e c).wf = true := by simp [Instr.wf, isLine_of_lt he, hc]
  refine ⟨fun hn => ?_, fun q rest hq => ?_, fun en times rest hq => ?_, fun h1 h2 => ?_, fun h => ?_⟩
  · rw [hn] at pause pfc
    exact ⟨pause, pfc⟩
  · rw [hq] at pause pfc
    dsimp only [List.head?_cons] at pause pfc
    refine ⟨pfc, fun hon => ?_, fun hon => ?_⟩
    · rw [State.takePause_honoured he hq hon] at pause
      exact pause
    · rw [State.takePause_ignored hq hon] at pause
      exact pause
  · rw [hq] at pause pfc
    dsimp only [List.head?_cons] at pause pfc
    rw [State.takePfc_eq he hq] at pfc
    exact ⟨pause, pfc⟩
  · exact completes_event (can := p.paused c && decide ((p.pauseEnd[c]?).getD 0 ≤ s.fs)) rfl hwf hr (by simp [h1, h2])
  · exact completes_not_event (can := p.paused c && decide ((p.pauseEnd[c]?).getD 0 ≤ s.fs)) rfl hwf (by simp [h])

/-! ### Pause sent -/

theorem pauseSent : Rules.PauseSent := by
  intro s e a he ha hr p x plain bytes
  have hmac : isMac e = true := by simpa [isMac] using he
  have hwf : (Instr.xonSent e a).wf = true ∧ (Instr.xoffRefresh e a).wf = true := by simp [Instr.wf, hmac, ha]
  have sends : completes (.pauseFrameTx e) s (s.sendPause e) := completes_event (can := true) rfl hmac hr rfl
  refine ⟨fun h => completes_not_event rfl hwf.1 h, fun h => completes_event rfl hwf.1 hr h,
    fun h1 h2 h3 => completes_event (can := s.xoffDue e a) rfl hwf.2 hr ?_,
    fun h => completes_not_event (can := s.xoffDue e a) rfl hwf.2 ?_, fun h => ?_, fun h1 h2 h3 => ?_⟩
  · have hdue : s.xoffDue e a = (x.xoff && p.link && decide (x.lastXoff + s.halfPause e ≤ s.fs)) := rfl
    simp [hdue, h1, h2, h3]
  · have hdue : s.xoffDue e a = (x.xoff && p.link && decide (x.lastXoff + s.halfPause e ≤ s.fs)) := rfl
    rcases h with h | h | h
    · simp [hdue, h]
    · simp [hdue, h]
    · simp [hdue, Nat.not_le.mpr h]
  · have heq : s.sendPause e = s := by
      refine if_pos ?_
      rcases h with h | h | h
      · simp [show (s.port e).pauseTx = [] from h]
      · simp [Option.isSome_iff_ne_none.mpr (show (s.port e).tx ≠ none from h)]
      · simp [show (s.port e).link = false from h]
    rw [heq] at sends
    exact sends
  · have hgo : ¬ ((s.port e).pauseTx.isEmpty || (s.port e).tx.isSome || !(s.port e).link) = true := by
      simp [show (s.port e).pauseTx ≠ [] from h1, show (s.port e).tx = none from h2, show (s.port e).link = true from h3]
    have heq : s.sendPause e = _ := if_neg hgo
    rw [heq] at sends
    exact sends

/-- Settles O57: by the pause at the head of those received, and by what each account has to send. -/
theorem pauseFrames : Obligations.PauseFrames := ⟨receivedPause, pauseSent⟩

end Sys2Proof.Machine

/-! PROOFS. Passes of the ingress pipeline: which frame a pass takes, how rules merge, and how a pass ends (R13, R83 to R101). -/

namespace Sys2Proof.Machine

/-! ### The frame that a pass takes -/

section
variable {s : State} {p : Nat}

theorem State.takeFirst_line {f : Frame} {rest : List Frame} (h : (s.plat p).intake = f :: rest) :
    s.takeFirst p = some (s.setPlat p { s.plat p with intake := rest, took := true }, f) := by
  unfold State.takeFirst
  dsimp only
  rw [h]

theorem State.takeFirst_none (h : (s.plat p).intake = []) (g : (s.plat p).prio ≠ [] ∨ (s.plat p).norm ≠ [] ∨ (s.plat p).hostQ = []) :
    s.takeFirst p = none := by
  unfold State.takeFirst
  dsimp only
  rw [h]
  cases hq : (s.plat p).prio ++ (s.plat p).norm with
  | nil =>
    obtain ⟨h1, h2⟩ := List.append_eq_nil_iff.mp hq
    rw [(g.resolve_left (not_not_intro h1)).resolve_left (not_not_intro h2)]
  | cons x l => rfl

/-- A host frame taken for its first pass: bound, its bytes in the write side, and completed. -/
def State.hostTaken (s : State) (p : Nat) (f : Frame) (rest : List Frame) : State × Frame :=
  let b := (s.setPlat p { s.plat p with hostQ := rest, took := true }).bind { f with instant := s.fs }
  let t := (b.1.arriveImage p b.2.no b.2.bytes.length).1
  (match b.2.host with | some h => t.hostFirst h | none => t, b.2)

theorem State.takeFirst_host {f : Frame} {rest : List Frame} (h : (s.plat p).intake = []) (h1 : (s.plat p).prio = [])
    (h2 : (s.plat p).norm = []) (h3 : (s.plat p).hostQ = f :: rest) : s.takeFirst p = some (s.hostTaken p f rest) := by
  unfold State.takeFirst State.hostTaken
  dsimp only
  rw [h, h1, h2, h3]
  rfl

theorem State.firstPass_some {t : State} {f : Frame} (h : s.takeFirst p = some (t, f)) :
    s.firstPass p = if t.injParity p then t.parityDrop f else t.beginFirst f := by
  unfold State.firstPass
  rw [h]

theorem State.firstPass_none (h : s.takeFirst p = none) : s.firstPass p = s := by
  unfold State.firstPass
  rw [h]

end

theorem firstPasses : Rules.FirstPasses := by
  intro s p hp hr x pass
  have hwf : decide (p < 8) = true := decide_eq_true hp
  have first (hx : x.power = .run) : completes (.firstPass p) s (s.firstPass p) :=
    completes_event (can := (s.plat p).power = .run) rfl hwf hr (decide_eq_true hx)
  have takes (hx : x.power = .run) {t : State} {f : Frame} (h : s.takeFirst p = some (t, f)) : pass t f := by
    have hf := first hx
    rw [State.firstPass_some h] at hf
    exact ⟨fun hi => by rw [if_neg (by simp [hi])] at hf; exact hf, fun hi => by rw [if_pos hi] at hf; exact hf⟩
  refine ⟨fun hx => ⟨?_, ?_⟩, fun hx => ⟨fun f rest h => takes hx (State.takeFirst_line h), fun h g => ?_,
    fun f rest h h1 h2 h3 => takes hx (State.takeFirst_host h h1 h2 h3)⟩⟩
  · exact completes_not_event (can := (s.plat p).power = .run) rfl hwf (decide_eq_false hx)
  · exact completes_not_event (can := (s.plat p).power = .run) rfl hwf (decide_eq_false hx)
  · have hf := first hx
    rw [State.firstPass_none (State.takeFirst_none h g)] at hf
    exact hf

section
variable {s : State} {p : Nat}

theorem State.turnDue_iff : s.turnDue p = true ↔ (s.plat p).intake = [] ∨ s.cfg.f .clsTtCtrl p 20 16 ≠ 0 := by
  simp [State.turnDue]

theorem State.turnPass_prio {f : Frame} {rest : List Frame} (hd : s.turnDue p = true) (h : (s.plat p).prio = f :: rest) :
    s.turnPass p = if s.injParity p then (s.setPlat p { s.plat p with prio := rest, took := true }).parityDrop f
      else ((s.setPlat p { s.plat p with prio := rest, took := true }).beginTurn f).runPass f := by
  unfold State.turnPass State.turntablePass
  rw [if_neg (not_not_intro hd)]
  dsimp only
  rw [h]

theorem State.turnPass_norm {f : Frame} {rest : List Frame} (hd : s.turnDue p = true) (h0 : (s.plat p).prio = [])
    (h : (s.plat p).norm = f :: rest) :
    s.turnPass p = if s.injParity p then (s.setPlat p { s.plat p with norm := rest, took := true }).parityDrop f
      else ((s.setPlat p { s.plat p with norm := rest, took := true }).beginTurn f).runPass f := by
  unfold State.turnPass State.turntablePass
  rw [if_neg (not_not_intro hd)]
  dsimp only
  rw [h0, h]

theorem State.turnPass_empty (h0 : (s.plat p).prio = []) (h : (s.plat p).norm = []) : s.turnPass p = s := by
  unfold State.turnPass State.turntablePass
  dsimp only
  rw [h0, h]
  split
  · rfl
  · split <;> rfl

end

theorem turntablePasses : Rules.TurntablePasses := by
  intro s p hp hr hx x pass turn
  have turns : completes (.turntablePass p) s (s.turnPass p) :=
    completes_event (can := (s.plat p).power = .run) rfl (decide_eq_true hp) hr (decide_eq_true hx)
  have takes {t : State} {f : Frame} (h : s.turnPass p = if s.injParity p then t.parityDrop f else (t.beginTurn f).runPass f) :
      pass t f := by
    rw [h] at turns
    exact ⟨fun hi => by rw [if_neg (by simp [hi])] at turns; exact turns, fun hi => by rw [if_pos hi] at turns; exact turns⟩
  refine ⟨fun f rest ht h => takes (State.turnPass_prio (State.turnDue_iff.mpr ht) h),
    fun f rest ht h0 h => takes (State.turnPass_norm (State.turnDue_iff.mpr ht) h0 h), fun ht => ?_, fun h0 h => ?_⟩
  · have he : s.turnPass p = s := if_pos fun h => ht (State.turnDue_iff.mp h)
    rw [he] at turns
    exact turns
  · rw [State.turnPass_empty h0 h] at turns
    exact turns

/-! ### How rules merge -/

theorem applying_cons_none {p : Hit → Bool} {h : Hit} {r : List Hit} (hr : applying p r = none) :
    applying p (h :: r) = if p h then some h else none := by
  rw [applying, hr]

theorem applying_cons_some {p : Hit → Bool} {h g : Hit} {r : List Hit} (hr : applying p r = some g) :
    applying p (h :: r) = if p h ∧ g.prio ≤ h.prio then some h else some g := by
  rw [applying, hr]

theorem applying_none_iff (p : Hit → Bool) (hs : List Hit) : applying p hs = none ↔ ∀ g, g ∈ hs → p g = false := by
  induction hs with
  | nil => simp [applying]
  | cons h r ih =>
    cases hr : applying p r with
    | none =>
      rw [applying_cons_none hr]
      have := ih.mp hr
      cases hp : p h with
      | true => simp [hp]
      | false =>
        simp only [Bool.false_eq_true, if_false, true_iff]
        intro g hg
        rcases List.mem_cons.mp hg with rfl | hg
        · exact hp
        · exact this g hg
    | some g =>
      have hnot : ¬ ∀ g, g ∈ h :: r → p g = false := fun hall =>
        absurd (hr.symm.trans (ih.mpr fun g hg => hall g (List.mem_cons_of_mem _ hg))) (by simp)
      rw [applying_cons_some hr]
      split
      · exact iff_of_false (by simp) hnot
      · exact iff_of_false (by simp) hnot

/-- The applying rule is one that sets the group, and no other such rule comes before it. -/
theorem applying_some {p : Hit → Bool} {hs : List Hit} (hp : hs.Pairwise fun a b => a.tree < b.tree) {h : Hit}
    (ha : applying p hs = some h) :
    h ∈ hs ∧ p h = true ∧ ∀ g, g ∈ hs → p g = true → g.prio < h.prio ∨ (g.prio = h.prio ∧ h.tree ≤ g.tree) := by
  induction hs generalizing h with
  | nil => simp [applying] at ha
  | cons x r ih =>
    obtain ⟨hx, hr⟩ := List.pairwise_cons.mp hp
    cases hn : applying p r with
    | none =>
      rw [applying_cons_none hn] at ha
      have hall := (applying_none_iff p r).mp hn
      split at ha
      · next hpx =>
        obtain rfl : x = h := Option.some.inj ha
        refine ⟨List.mem_cons_self, hpx, fun g hg hpg => ?_⟩
        rcases List.mem_cons.mp hg with rfl | hg
        · exact .inr ⟨rfl, Nat.le_refl _⟩
        · exact absurd hpg (by simp [hall g hg])
      · cases ha
    | some y =>
      rw [applying_cons_some hn] at ha
      obtain ⟨hm, hpy, hbest⟩ := ih hr hn
      split at ha
      · next hc =>
        obtain rfl : x = h := Option.some.inj ha
        refine ⟨List.mem_cons_self, hc.1, fun g hg hpg => ?_⟩
        rcases List.mem_cons.mp hg with rfl | hg
        · exact .inr ⟨rfl, Nat.le_refl _⟩
        · have := hx g hg
          rcases hbest g hg hpg with h | h <;> omega
      · next hc =>
        obtain rfl : y = h := Option.some.inj ha
        refine ⟨List.mem_cons_of_mem _ hm, hpy, fun g hg hpg => ?_⟩
        rcases List.mem_cons.mp hg with rfl | hg
        · have : ¬ y.prio ≤ g.prio := fun h => hc ⟨hpg, h⟩
          exact .inl (by omega)
        · exact hbest g hg hpg

theorem walkTree_tree {s : State} {bank tree : Nat} {key : List Nat} {h : Hit} (hw : walkTree s bank tree key = .ok (some h)) :
    h.tree = tree := by
  unfold walkTree at hw
  split at hw
  · cases hw
  · cases hw
  · dsimp only at hw
    split at hw
    · cases hw
    · cases hw
      rfl

/-- A tree is walked in a pass where it is enabled for it. -/
def walks (s : State) (bank pass t : Nat) : Prop :=
  bitW (s.reg .clsTreeCfg (bank * 16 + t)) 31 = true ∧ bitOf (fld (s.reg .clsTreeCfg (bank * 16 + t)) 27 24) pass = true

theorem walkAll_succ (s : State) (bank pass : Nat) (key : Nat → List Nat) (n t : Nat) :
    walkAll s bank pass key (n + 1) t
      = if bitW (s.reg .clsTreeCfg (bank * 16 + t)) 31 ∧ bitOf (fld (s.reg .clsTreeCfg (bank * 16 + t)) 27 24) pass then
          match walkTree s bank t (key (fld (s.reg .clsTreeCfg (bank * 16 + t)) 17 16)) with
          | .error e => .error e
          | .ok h =>
            match walkAll s bank pass key n (t + 1) with
            | .error e => .error e
            | .ok r => .ok (h.toList ++ r)
        else walkAll s bank pass key n (t + 1) := rfl

/-- The results of the trees from `t` on rise in tree number, and come from trees that are walked. -/
theorem walkAll_sorted {s : State} {bank pass : Nat} {key : Nat → List Nat} : ∀ {n t : Nat} {hs : List Hit},
    walkAll s bank pass key n t = .ok hs →
      hs.Pairwise (fun a b => a.tree < b.tree) ∧ ∀ h, h ∈ hs → t ≤ h.tree ∧ h.tree < t + n ∧ walks s bank pass h.tree
  | 0, t, hs, h => by
    cases h
    exact ⟨.nil, fun h hh => by cases hh⟩
  | n + 1, t, hs, h => by
    have later {r : List Hit} (hr : walkAll s bank pass key n (t + 1) = .ok r) :
        r.Pairwise (fun a b => a.tree < b.tree) ∧ ∀ h, h ∈ r → t + 1 ≤ h.tree ∧ h.tree < t + (n + 1) ∧ walks s bank pass h.tree := by
      obtain ⟨h1, h2⟩ := walkAll_sorted hr
      exact ⟨h1, fun g hg => by obtain ⟨h3, h4, h5⟩ := h2 g hg; exact ⟨h3, by omega, h5⟩⟩
    rw [walkAll_succ] at h
    split at h
    · next hc =>
      split at h
      · cases h
      · next x hx =>
        split at h
        · cases h
        · next r hr =>
          obtain ⟨h1, h2⟩ := later hr
          cases h
          cases x with
          | none => exact ⟨h1, fun g hg => by obtain ⟨h3, h4, h5⟩ := h2 g hg; exact ⟨by omega, h4, h5⟩⟩
          | some y =>
            have hy := walkTree_tree hx
            refine ⟨List.pairwise_cons.mpr ⟨fun g hg => ?_, h1⟩, fun g hg => ?_⟩
            · have := (h2 g hg).1
              omega
            · rcases List.mem_cons.mp hg with rfl | hg
              · rw [hy]
                exact ⟨Nat.le_refl _, by omega, hc⟩
              · obtain ⟨h3, h4, h5⟩ := h2 g hg
                exact ⟨by omega, h4, h5⟩
    · obtain ⟨h1, h2⟩ := later h
      exact ⟨h1, fun g hg => by obtain ⟨h3, h4, h5⟩ := h2 g hg; exact ⟨by omega, h4, h5⟩⟩

theorem rulesMerge : Rules.RulesMerge := by
  refine ⟨fun p hs hp => ⟨applying_none_iff p hs, fun h ha => applying_some hp ha⟩, fun s bank pass key hs h => ?_⟩
  obtain ⟨h1, h2⟩ := walkAll_sorted h
  refine ⟨h1, fun g hg => ?_⟩
  obtain ⟨-, h3, h4, h5⟩ := h2 g hg
  exact ⟨by omega, h4, h5⟩

/-! ### Dispositions -/

theorem dispositions : Rules.Dispositions := by
  intro f m
  refine ⟨fun h => ?_, fun h hm => ?_⟩
  · rw [Frame.disp, h]
  · have hd : f.disp m = if h.drop then .drop
        else if h.turntable && f.err = 0 then .turn h.inner
        else if f.isDirected then .none
        else if h.fwdMode = 3 then .host h.hostq
        else if f.err ≠ 0 || f.sta.isSome then .none
        else if h.fwdMode = 1 then .port h.port
        else if h.fwdMode = 2 then .group h.mgroup
        else .none := by rw [Frame.disp, hm]
    have ht (h1 : h.turntable = false ∨ f.err ≠ 0) : (h.turntable && f.err = 0) = false := by
      rcases h1 with h1 | h1 <;> simp [h1]
    refine ⟨fun h0 => ?_, fun h0 h1 h2 => ?_, fun h0 h1 => ⟨fun h2 => ?_, fun h2 => ⟨fun h3 => ?_, fun h3 h4 => ?_,
      fun h4 h5 => ⟨fun h3 => ?_, fun h3 => ?_, fun h3 => ?_⟩⟩⟩⟩
    · simp [hd, h0]
    · simp [hd, h0, h1, h2]
    · simp [hd, h0, ht h1, h2]
    · simp [hd, h0, ht h1, h2, h3]
    · rcases h4 with h4 | h4 <;> simp [hd, h0, ht h1, h2, h3, h4]
    · simp [hd, h0, h1.resolve_right (not_not_intro h4), h2, h3, h4, h5]
    · simp [hd, h0, h1.resolve_right (not_not_intro h4), h2, h3, h4, h5]
    · simp [hd, h0, h1.resolve_right (not_not_intro h4), h2, h3, h4, h5]

/-! ### How a pass ends -/

theorem dropInPass_eq (s : State) (f : Frame) : s.dropInPass f = dropped s f := by
  unfold State.dropInPass dropped
  dsimp only

section
variable {s : State} {cfg : Cfg} {bank pass : Nat} {key : Nat → List Nat} {errored station directed : Bool} {m : Merged}

/-- A pass whose trees are walked without a fault merges their results, of which only those apply that may. -/
theorem classify_ok (h : classify s cfg bank pass key errored station directed = .ok m) :
    ∃ hs, m = (mergeHits hs).applied errored station ∧ voidFault s cfg (errored || station || directed) m = none := by
  unfold classify at h
  split at h
  · cases h
  · next hs _ =>
    dsimp only at h
    split at h
    · cases h
    · next hv =>
      cases h
      exact ⟨hs, rfl, hv⟩

theorem voidFault_colour {v : Bool} (h : voidFault s cfg v m = none) : ∀ x, m.colour = some x → x.colour ≠ 3 := by
  intro x hx h3
  unfold voidFault at h
  dsimp only at h
  rw [hx] at h
  dsimp only at h
  rw [if_pos h3] at h
  cases h

end

theorem passesEnd : Rules.PassesEnd := by
  refine ⟨fun s f e => ?_, fun s cfg bank pass key errored station directed m h => ?_, fun s f inner => ?_⟩
  · intro r c₁ c₂ h
    have h₁ : s.countIf (f.pass = 0 && r.odd ≠ 0) .cls f.plat 7 = c₁ := by
      simp only [State.countIf, c₁, Bool.and_eq_true, decide_eq_true_eq]
    have h₂ : c₁.countIf (f.pass = 0 && r.frag) .cls f.plat 8 = c₂ := by
      simp only [State.countIf, c₂, Bool.and_eq_true, decide_eq_true_eq]
    unfold State.runPass
    dsimp only
    rw [show s.passParse f = r from rfl, h₁, h₂, h]
    exact congrArg State.drain (dropInPass_eq ..)
  · obtain ⟨hs, hm, hv⟩ := classify_ok h
    refine ⟨fun he => ?_, fun he => ?_, voidFault_colour hv⟩
    · subst hm he
      exact ⟨rfl, rfl⟩
    · have hor : (errored || station) = true := by simpa using he
      subst hm
      exact ⟨if_pos hor, if_pos hor⟩
  · intro p c g lost high
    have hlost (slot : Nat) : ((s.ttDrop f.plat slot).dropInPass f).drain = lost slot := by
      rw [dropInPass_eq]
      rfl
    have hnext (h : f.pass < c.f .clsTtCtrl f.plat 13 12) : s.recirculate f inner
        = if high then
            (if p.prio.length < 16 then s.setPlat f.plat { p with prio := p.prio ++ [g] } else lost 2)
          else if p.norm.length < 240 then s.setPlat f.plat { p with norm := p.norm ++ [g] } else lost 2 := by
      rw [← hlost]
      exact if_neg (Nat.not_le.mpr h)
    refine ⟨fun h => (if_pos h).trans (hlost 3), fun h => ⟨fun hh hl => ?_, fun hh hl => ?_, fun hh hl => ?_, fun hh hl => ?_⟩⟩
    · rw [hnext h, if_pos hh, if_pos hl]
    · rw [hnext h, if_pos hh, if_neg (Nat.not_lt.mpr hl)]
    · rw [hnext h, if_neg (by simp [hh]), if_pos hl]
    · rw [hnext h, if_neg (by simp [hh]), if_neg (Nat.not_lt.mpr hl)]

end Sys2Proof.Machine

/-! PROOFS. Forwarding, the LPM lookup, the admission of copies and the wait list (R97, R121, R134, R135, R138, R182 to R198). -/

namespace Sys2Proof.Machine

/-! ### Forwarding -/

section
variable {s : State} {f : Frame} {r : Parsed}

/-- Where the frame came from, as an entry of the table names it. -/
def State.cameFrom (s : State) (f : Frame) : Nat := at_ (s.ingressDest f.port).1 16 + (s.ingressDest f.port).2

theorem State.bridge_known {i : Nat} (h : s.macLookup f.plat (fld (s.tab 0x08 f.vid 0) 11 0) (r.da f.bytes) = some i) :
    s.bridge f r = if bitW (s.tab f.plat i 2) 28 then (s.count .tbl f.plat 11, .drop)
      else if fld (s.tab f.plat i 2) 17 0 = s.cameFrom f then (s.count .tbl f.plat 10, .drop)
      else (s, .to (some (if fld (s.tab f.plat i 2) 17 16 = 0 then .port (fld (s.tab f.plat i 2) 15 0)
        else if fld (s.tab f.plat i 2) 17 16 = 1 then .lag (fld (s.tab f.plat i 2) 15 0) else .mgroup (fld (s.tab f.plat i 2) 15 0)))) := by
  unfold State.bridge State.cameFrom
  dsimp only
  rw [h]

theorem State.bridge_unknown (h : s.macLookup f.plat (fld (s.tab 0x08 f.vid 0) 11 0) (r.da f.bytes) = none) :
    s.bridge f r = if r.da f.bytes = 0xFFFFFFFFFFFF then (s, .to (some (.set (s.tf 0x08 f.vid 3 12 0))))
      else if bitOf (r.da f.bytes) 40 ∧ bitW (s.tab 0x08 f.vid 0) 27 then (s.count .tbl f.plat 8, .drop)
      else if ¬ bitOf (r.da f.bytes) 40 ∧ bitW (s.tab 0x08 f.vid 0) 28 then (s.count .tbl f.plat 8, .drop)
      else (s.count .tbl f.plat 7, .to (some (.set (s.tf 0x08 f.vid 3 12 0)))) := by
  unfold State.bridge
  dsimp only
  rw [h]

end

theorem forwarding : Rules.Forwarding := by
  intro s f r v da flood from_
  refine ⟨fun i hi => ?_, fun hn => ?_, fun vrf nh => ?_⟩
  · intro w
    have hb := State.bridge_known hi
    refine ⟨fun h => hb.trans (if_pos h), fun h g => hb.trans ((if_neg (by simp [w, h])).trans (if_pos g)), fun h g => ?_⟩
    have hto := hb.trans ((if_neg (by simpa [w] using h)).trans (if_neg g))
    refine ⟨fun h0 => hto.trans ?_, fun h1 => hto.trans ?_, fun h2 => hto.trans ?_⟩
    · rw [if_pos h0]
    · rw [if_neg (by rw [h1]; decide), if_pos h1]
    · rw [if_neg (by rw [h2]; decide), if_neg (by rw [h2]; decide)]
  · have hb := State.bridge_unknown hn
    refine ⟨fun h => hb.trans (if_pos h), fun h g => hb.trans ((if_neg h).trans ?_), fun h g => hb.trans ((if_neg h).trans ?_)⟩
    · cases h40 : bitOf da 40 with
      | true =>
        rw [h40, if_pos rfl] at g
        exact if_pos ⟨rfl, g⟩
      | false =>
        rw [h40, if_neg (by decide)] at g
        exact (if_neg (by simp)).trans (if_pos ⟨by simp, g⟩)
    · cases h40 : bitOf da 40 with
      | true =>
        rw [h40, if_pos rfl] at g
        exact (if_neg (by simp [g, v])).trans (if_neg (by simp))
      | false =>
        rw [h40, if_neg (by decide)] at g
        exact (if_neg (by simp)).trans (if_neg (by simp [g, v]))
  · intro w
    have hn : s.nextHop f vrf nh = if ¬ bitW w 31 then ((s.lpmMiss f vrf).1, f, (s.lpmMiss f vrf).2)
        else if bitW w 30 then (s.count .tbl f.plat 16, f, .drop)
        else if bitW w 29 then (s, f, .to (some (.port (528 + fld w 27 24))))
        else (s, { f with route := some nh }, .to (some (if bitW w 28 then .lag (fld w 9 0) else .port (fld w 9 0)))) := rfl
    refine ⟨fun h => ?_, fun h1 h2 => ?_, fun h1 h2 h3 => ?_, fun h1 h2 h3 => ?_⟩
    · rw [hn, if_pos (by simp [h])]
    · rw [hn, if_neg (by simp [h1]), if_pos h2]
    · rw [hn, if_neg (by simp [h1]), if_neg (by simp [h2]), if_pos h3]
    · rw [hn, if_neg (by simp [h1]), if_neg (by simp [h2]), if_neg (by simp [h3])]

/-! ### The LPM lookup -/

/-- The lengths present from `start` down. -/
def presentLengths (s : State) (v6 : Bool) (vrf start : Nat) : List Nat :=
  ((List.range start).map fun k => start - k).filter fun l => s.lpmPresent v6 vrf l

theorem presentLengths_succ (s : State) (v6 : Bool) (vrf l : Nat) : presentLengths s v6 vrf (l + 1)
    = if s.lpmPresent v6 vrf (l + 1) then (l + 1) :: presentLengths s v6 vrf l else presentLengths s v6 vrf l := by
  have hr : (List.range (l + 1)).map (fun k => l + 1 - k) = (l + 1) :: (List.range l).map fun k => l - k := by
    rw [List.range_succ_eq_map, List.map_cons, List.map_map]
    refine congrArg _ (List.map_congr_left fun k _ => ?_)
    simp
  rw [presentLengths, hr, List.filter_cons]
  rfl

/-- The next hop of the entry of a length, where there is one. -/
def lpmHop (s : State) (v6 : Bool) (vrf addr l : Nat) : Option Nat :=
  (s.lookup (if v6 then 0x0E else 0x0D) (lpmKey v6 vrf l addr)).map fun i =>
    s.tf (if v6 then 0x0E else 0x0D) i (if v6 then 5 else 2) 16 0

/-- A length's probe finds its entry, or the probes go on below it. -/
theorem State.lpmProbe_present {s : State} {v6 : Bool} {vrf addr l : Nat} (h : s.lpmPresent v6 vrf (l + 1) = true) (k : Nat) :
    s.lpmProbe v6 vrf addr (l + 1) (k + 1) = match lpmHop s v6 vrf addr (l + 1) with
      | some nh => .found nh
      | none => s.lpmProbe v6 vrf addr l k := by
  rw [State.lpmProbe, if_pos h, lpmHop]
  dsimp only
  cases s.lookup (if v6 then 0x0E else 0x0D) (lpmKey v6 vrf (l + 1) addr) <;> rfl

/-- The present lengths are probed from the longest down. -/
theorem State.lpmProbe_eq (s : State) (v6 : Bool) (vrf addr start probes : Nat) :
    s.lpmProbe v6 vrf addr start probes
      = match ((presentLengths s v6 vrf start).take probes).findSome? (lpmHop s v6 vrf addr), (presentLengths s v6 vrf start)[probes]? with
        | some nh, _ => .found nh
        | none, some l => .cont l
        | none, none => .miss := by
  induction start generalizing probes with
  | zero => simp [State.lpmProbe, presentLengths]
  | succ l ih =>
    rw [presentLengths_succ]
    cases h : s.lpmPresent v6 vrf (l + 1) with
    | false =>
      unfold State.lpmProbe
      rw [if_neg (by simp [h]), ih, if_neg (by decide)]
    | true =>
      rw [if_pos rfl]
      cases probes with
      | zero =>
        unfold State.lpmProbe
        rw [if_pos h]
        rfl
      | succ k =>
        rw [State.lpmProbe_present h, List.take_succ_cons, List.findSome?_cons, List.getElem?_cons_succ]
        cases lpmHop s v6 vrf addr (l + 1) with
        | some nh => rfl
        | none => exact ih k

/-! ### What an event counted leaves of the mode -/

/-- A write at a key above one that is listed leaves every reading up to that one. -/
theorem Store.get_set_above {α : Type} [DecidableEq α] {m : Store α} {e : α} {c k : Nat} (hc : Store.get e m c ≠ e) (hk : c < k)
    (d d' v : α) {k' : Nat} (hk' : k' ≤ c) : Store.get d' (Store.set d m k v) k' = Store.get d' m k' := by
  unfold Store.set
  split
  · induction m with
    | nil => exact absurd rfl hc
    | cons x r ih =>
      obtain ⟨j, u⟩ := x
      simp only [Store.get] at hc
      rw [Store.del]
      by_cases hcj : c < j
      · rw [if_neg (by omega), if_pos hcj] at hc
        exact absurd rfl hc
      · rw [if_neg (by omega), if_neg (by omega)]
        simp only [Store.get]
        by_cases hcj' : c = j
        · by_cases h1 : k' = j
          · rw [if_pos h1, if_pos h1]
          · rw [if_neg h1, if_neg h1, if_pos (by omega), if_pos (by omega)]
        · rw [if_neg hcj', if_neg hcj] at hc
          rw [ih hc]
  · exact Store.get_put_ne d' m v (by omega)

section
variable {s : State} {p : Nat}

/-- The mode of the switch and a Platform's counter control as another state has them. -/
def State.modeKept (p : Nat) (s t : State) : Prop :=
  t.reg .glbMode 0 = s.reg .glbMode 0 ∧ t.rb .platPerfCtrl p 31 = true ∧ t.tables = s.tables

theorem State.modeKept.trans {s t u : State} (h : State.modeKept p s t) (g : State.modeKept p t u) : State.modeKept p s u :=
  ⟨g.1.trans h.1, g.2.1, g.2.2.trans h.2.2⟩

theorem State.ctrl_listed (h : s.rb .platPerfCtrl p 31 = true) :
    Store.get (coldWord .platPerfCtrl p) s.regs (regKey .platPerfCtrl p) ≠ coldWord .platPerfCtrl p := by
  intro he
  have hb : bitW (Store.get (coldWord .platPerfCtrl p) s.regs (regKey .platPerfCtrl p)) 31 = true := h
  have hc : bitW (coldWord .platPerfCtrl p) 31 = false := by
    show bitW (Word.ofNat 0) 31 = false
    decide
  rw [he, hc] at hb
  exact Bool.false_ne_true hb

theorem State.modeKept_setReg (h : s.rb .platPerfCtrl p 31 = true) {id : RegId} {i : Nat}
    (hk : regKey .platPerfCtrl p < regKey id i) (w : Word) : State.modeKept p s (s.setReg id i w) := by
  have hl := State.ctrl_listed h
  have hg : regKey .glbMode 0 ≤ regKey .platPerfCtrl p := by
    have h1 : RegId.glbMode.ctorIdx = 3 := by decide
    have h2 : RegId.platPerfCtrl.ctorIdx = 319 := by decide
    simp only [regKey, h1, h2]
    omega
  refine ⟨Store.get_set_above hl hk _ _ _ hg, ?_, rfl⟩
  have hc : (s.setReg id i w).reg .platPerfCtrl p = s.reg .platPerfCtrl p := Store.get_set_above hl hk _ _ _ (Nat.le_refl _)
  rw [State.rb, hc]
  exact h

/-- A word other than its register's cold value leaves every other register's reading, whatever the store lists. -/
theorem State.reg_setReg_warm_ne {s : State} {id id' : RegId} {i i' : Nat} {w : Word} (h : w ≠ coldWord id i)
    (hne : id' ≠ id ∨ i' ≠ i) : (s.setReg id i w).reg id' i' = s.reg id' i' := by
  have hset : (s.setReg id i w).regs = s.regs.put (regKey id i) w := if_neg h
  unfold State.reg regOf
  rw [hset]
  exact Store.get_put_ne _ _ _ (regKey_ne hne)

theorem State.modeKept_setCtrl {w : Word} (h : bitW w 31 = true) : State.modeKept p s (s.setReg .platPerfCtrl p w) := by
  have hw : w ≠ coldWord .platPerfCtrl p := by
    intro he
    rw [he] at h
    exact absurd h (by show ¬ bitW (Word.ofNat 0) 31 = true; decide)
  refine ⟨State.reg_setReg_warm_ne hw (.inl (by decide)), ?_, rfl⟩
  rw [State.rb, State.reg_setReg_warm hw, h]

theorem State.modeKept_orCtrl (h : s.rb .platPerfCtrl p 31 = true) (m : Nat) : State.modeKept p s (s.orReg .platPerfCtrl p m) :=
  State.modeKept_setCtrl (by
    rw [bitW, BitVec.getLsbD_or, show (s.reg .platPerfCtrl p).getLsbD 31 = true from h, Bool.true_or])

theorem State.modeKept_notePerf (h : s.rb .platPerfCtrl p 31 = true) (k n : Nat) (b : Bool) :
    State.modeKept p s (s.notePerf p k n b) := ⟨rfl, h, rfl⟩

theorem State.modeKept_modPlat (h : s.rb .platPerfCtrl p 31 = true) (q : Nat) (f : Plat → Plat) :
    State.modeKept p s (s.modPlat q f) := ⟨rfl, h, rfl⟩

theorem State.modeKept_setPerf48 (h : s.rb .platPerfCtrl p 31 = true) {lo hi : RegId} {i : Nat}
    (hlo : regKey .platPerfCtrl p < regKey lo i) (hhi : regKey .platPerfCtrl p < regKey hi i) (v : Nat) :
    State.modeKept p s (s.setPerf48 lo hi i v) := by
  have h1 := State.modeKept_setReg h hlo (Word.ofNat v)
  exact h1.trans (State.modeKept_setReg h1.2.1 hhi _)

theorem regKey_perf (p k : Nat) : regKey .platPerfCtrl p < regKey (perfRegs p k).1 (perfRegs p k).2.2
    ∧ regKey .platPerfCtrl p < regKey (perfRegs p k).2.1 (perfRegs p k).2.2 := by
  have h0 : RegId.platPerfCtrl.ctorIdx = 319 := by decide
  have h1 : RegId.platPerfCycLo.ctorIdx > 319 ∧ RegId.platPerfCycHi.ctorIdx > 319 ∧ RegId.platPerfCntLo.ctorIdx > 319
      ∧ RegId.platPerfCntHi.ctorIdx > 319 := by decide
  obtain ⟨h1, h2, h3, h4⟩ := h1
  unfold perfRegs
  split
  · simp only [regKey, h0]
    omega
  · simp only [regKey, h0]
    omega

theorem State.modeKept_perfBump (h : s.rb .platPerfCtrl p 31 = true) (k n : Nat) : State.modeKept p s (s.perfBump p k n) := by
  obtain ⟨hlo, hhi⟩ := regKey_perf p k
  unfold State.perfBump
  split
  · exact ⟨rfl, h, rfl⟩
  · generalize hr : perfRegs p k = r at hlo hhi
    obtain ⟨lo, hi, i⟩ := r
    dsimp -zeta only at hlo hhi ⊢
    extract_lets v t u
    have hnote := State.modeKept_notePerf h k n (decide (2 ^ 48 ≤ v))
    have ht : State.modeKept p s t := hnote.trans (State.modeKept_setPerf48 hnote.2.1 hlo hhi _)
    have hovf : regKey .platPerfCtrl p < regKey .platPerfOvf p := by
      have h0 : RegId.platPerfCtrl.ctorIdx < RegId.platPerfOvf.ctorIdx := by decide
      simp only [regKey]
      omega
    have hu : State.modeKept p s u := ht.trans (State.modeKept_setReg ht.2.1 hovf _)
    clear_value v t u
    repeat' split
    · exact ht
    · exact hu
    · exact hu
    · have hf := hu.trans (State.modeKept_orCtrl hu.2.1 (2 ^ 30))
      exact hf.trans (State.modeKept_modPlat hf.2.1 _ _)

/-- Counting an event leaves the mode of the switch and every table as they are. -/
theorem State.perf_mode (s : State) (p ev : Nat) (port cls : Option Nat) (n : Nat) :
    (s.perf p ev port cls n).reg .glbMode 0 = s.reg .glbMode 0 ∧ (s.perf p ev port cls n).tables = s.tables := by
  unfold State.perf
  split
  · exact ⟨rfl, rfl⟩
  · next h =>
    have hon : s.rb .platPerfCtrl p 31 = true := by
      simp only [not_or, Decidable.not_not, State.perfOn, Bool.and_eq_true] at h
      exact h.2.1.1
    have fold : ∀ (l : List Nat) (t : State), State.modeKept p s t → State.modeKept p s
        (l.foldl (fun s k => if evselTakes (s.reg .platPerfEvsel (p * 8 + k)) ev port cls then s.perfBump p k n else s) t) := by
      intro l
      induction l with
      | nil => exact fun _ h => h
      | cons k l ih =>
        intro t ht
        refine ih _ ?_
        dsimp only
        split
        · exact ht.trans (State.modeKept_perfBump ht.2.1 k n)
        · exact ht
    obtain ⟨h1, -, h2⟩ := fold _ s ⟨rfl, hon, rfl⟩
    exact ⟨h1, h2⟩

end

/-- The lookup of a key needs the mode and the tables alone. -/
theorem State.lpmProbe_congr {s t : State} (hm : s.reg .glbMode 0 = t.reg .glbMode 0) (ht : s.tables = t.tables) (v6 : Bool)
    (vrf addr start probes : Nat) : s.lpmProbe v6 vrf addr start probes = t.lpmProbe v6 vrf addr start probes := by
  have hpresent : s.lpmPresent v6 vrf = t.lpmPresent v6 vrf := by
    funext l
    simp only [State.lpmPresent, ht]
  have htab : s.tab = t.tab := by
    funext a b c
    simp only [State.tab, ht]
  have hhop : lpmHop s v6 vrf addr = lpmHop t v6 vrf addr := by
    funext l
    simp only [lpmHop, State.lookup, State.capacity, State.tblProfile, State.rf, State.entry, State.tf, hm, htab] <;> rfl
  rw [State.lpmProbe_eq, State.lpmProbe_eq, hhop, presentLengths, presentLengths, hpresent]

section
variable {s : State} {f : Frame} {st : LpmState}

/-- The state once the probes of a lookup are counted. -/
def State.lpmCounted (s : State) (f : Frame) (st : LpmState) : State :=
  s.perf f.plat 5 (perfPort f.port) none (s.lpmProbes st.v6 st.vrf st.addr st.len 6)

theorem State.lpm_eq (s : State) (f : Frame) (st : LpmState) : s.lpm f st
    = match s.lpmProbe st.v6 st.vrf st.addr st.len 6 with
      | .found nh => (s.lpmCounted f st).nextHop { f with lpm := none } st.vrf nh
      | .cont l =>
        if f.pass < ((s.lpmCounted f st).frameCfg { f with lpm := none }).f .clsTtCtrl f.plat 13 12 then
          (s.lpmCounted f st, { f with lpm := some { st with len := l } }, .cont)
        else ((s.lpmCounted f st).ttDrop f.plat 3, { f with lpm := none }, .limit)
      | .miss =>
        if st.v6 ∧ bitW (s.tab 0x0F st.vrf 0) 30 then
          (s.lpmCounted f st).nextHop { f with lpm := none } st.vrf (s.tf 0x0F st.vrf 1 16 0)
        else if ¬ st.v6 ∧ bitW (s.tab 0x0F st.vrf 0) 31 then
          (s.lpmCounted f st).nextHop { f with lpm := none } st.vrf (fld (s.tab 0x0F st.vrf 0) 16 0)
        else (((s.lpmCounted f st).lpmMiss { f with lpm := none } st.vrf).1, { f with lpm := none },
          ((s.lpmCounted f st).lpmMiss { f with lpm := none } st.vrf).2) := by
  obtain ⟨hm, ht⟩ := s.perf_mode f.plat 5 (perfPort f.port) none (s.lpmProbes st.v6 st.vrf st.addr st.len 6)
  have htab : (s.lpmCounted f st).tab = s.tab := by
    funext a b c
    simp only [State.tab, State.lpmCounted, ht]
  have hprobe : (s.lpmCounted f st).lpmProbe st.v6 st.vrf st.addr st.len 6 = s.lpmProbe st.v6 st.vrf st.addr st.len 6 :=
    State.lpmProbe_congr hm ht ..
  unfold State.lpm
  dsimp only
  rw [show s.perf f.plat 5 (perfPort f.port) none (s.lpmProbes st.v6 st.vrf st.addr st.len 6) = s.lpmCounted f st from rfl, hprobe]
  simp only [State.tf, htab] <;> rfl

/-- A miss of the lookup, to the host where the VRF says so. -/
theorem State.lpmMiss_eq (s : State) (f : Frame) (vrf : Nat) : s.lpmMiss f vrf
    = (s.count .tbl f.plat 15, if bitW (s.tab 0x0F vrf 0) 29 then .to (some (.port (528 + fld (s.tab 0x0F vrf 0) 27 24))) else .drop) := by
  have htab : (s.count .tbl f.plat 15).tab 0x0F vrf 0 = s.tab 0x0F vrf 0 := by
    simp only [State.tab, State.count_tables]
  unfold State.lpmMiss State.tb State.tf
  dsimp only
  rw [htab]
  split <;> rfl

end

theorem longestPrefix : Rules.LongestPrefix := by
  refine ⟨fun s v6 vrf addr start probes => ?_, fun s f st => ?_⟩
  · intro here width cut key hop
    have hhop : hop = lpmHop s v6 vrf addr := by
      funext l
      cases v6 <;> rfl
    rw [hhop]
    exact s.lpmProbe_eq v6 vrf addr start probes
  · intro y t w more c
    have hl := s.lpm_eq f st
    have htab : t.tab 0x0F st.vrf 0 = w := by
      have := (s.perf_mode f.plat 5 (perfPort f.port) none (s.lpmProbes st.v6 st.vrf st.addr st.len 6)).2
      simp only [State.tab, t, w, this]
    refine ⟨fun nh h => ?_, fun l h => ?_, fun h => ?_⟩
    · rw [hl, h]
      rfl
    · rw [h] at hl
      exact ⟨fun hm => hl.trans (if_pos hm), fun hm => hl.trans (if_neg hm)⟩
    · rw [h] at hl
      refine ⟨fun h6 h30 => hl.trans (if_pos ⟨h6, h30⟩), fun h6 h31 => hl.trans ((if_neg (by simp [h6])).trans (if_pos ⟨by simp [h6], h31⟩)),
        fun h30 h31 => ?_⟩
      have hmiss : s.lpm f st = ((t.lpmMiss y st.vrf).1, y, (t.lpmMiss y st.vrf).2) := by
        refine hl.trans ((if_neg ?_).trans (if_neg ?_))
        · rintro ⟨g1, g2⟩
          exact absurd g2 (by simp [w] at h30; simp [h30 g1])
        · rintro ⟨g1, g2⟩
          exact absurd g2 (by simp [w] at h31; simp [h31 (by simpa using g1)])
      rw [hmiss, State.lpmMiss_eq, htab]
      exact ⟨fun h29 => by rw [if_pos h29], fun h29 => by rw [if_neg (by simp [h29])]⟩

/-! ### The admission of copies -/

section
variable {s : State} {f : Frame} {e rank : Nat} {first : Bool}

/-- A copy pushes others out where its class may. -/
def State.pushes (s : State) (f : Frame) (e rank : Nat) : State × Bool :=
  if (s.frameCfg f).b .tmClassCfg (f.cls.getD 0) 29 = true then s.pushout f e rank else (s, false)

/-- The reservation of a copy's class holds it. -/
def State.reserved (s : State) (f : Frame) (e : Nat) : Prop :=
  (s.frameCfg f).kind (f.cls.getD 0) = 2
    ∧ ((s.port e).queue (f.cls.getD 0)).resvUsed + f.cells ≤ (s.frameCfg f).resv e (f.cls.getD 0)

theorem State.admitCopy_limit (h1 : s.sduFails f e = false) (h2 : s.portRefuses e = false) (h3 : ¬ s.reserved f e)
    (h4 : s.fits f e (s.shiftOf f) s.sharedFree = false) : s.admitCopy f e rank first
      = if (s.pushes f e rank).2 then ((s.pushes f e rank).1.chargeShared f e first, some .shared)
        else ((s.pushes f e rank).1.refuse f.plat e
          (if f.colour = 1 ∧ (s.pushes f e rank).1.fits f e 0 (s.pushes f e rank).1.sharedFree then 2 else 1) (f.cls.getD 0), none) := by
  unfold State.admitCopy
  dsimp only
  rw [if_neg (by simp [h1]), if_neg (by simp [h2])]
  refine (if_neg h3).trans ((if_neg (by simp [h4])).trans ?_)
  rw [show (if (s.frameCfg f).b .tmClassCfg (f.cls.getD 0) 29 = true then s.pushout f e rank else (s, false)) = s.pushes f e rank from rfl]

end

theorem copiesAdmitted : Rules.CopiesAdmitted := by
  intro s f e rank first c cfg q reserved push
  refine ⟨fun h => if_pos h, fun h1 h2 => (if_neg (by simp [h1])).trans (if_pos h2), fun h1 h2 => ⟨fun h3 => ?_, fun h3 h4 => ?_,
    fun h3 h4 => ?_⟩, fun w ws k => ?_⟩
  · exact (if_neg (by simp [h1])).trans ((if_neg (by simp [h2])).trans (if_pos h3))
  · exact (if_neg (by simp [h1])).trans ((if_neg (by simp [h2])).trans ((if_neg h3).trans (if_pos h4)))
  · have hl := State.admitCopy_limit (rank := rank) (first := first) h1 h2 h3 h4
    refine ⟨fun h5 => hl.trans (if_pos h5), fun h5 h6 h7 => hl.trans ((if_neg ?_).trans ?_), fun h5 h6 => hl.trans ((if_neg ?_).trans ?_)⟩
    · exact fun h => absurd (h.symm.trans h5) (by decide)
    · rw [if_pos ⟨h6, h7⟩]
      rfl
    · exact fun h => absurd (h.symm.trans h5) (by decide)
    · rw [if_neg]
      · rfl
      · rintro ⟨g1, g2⟩
        rcases h6 with h6 | h6
        · exact h6 g1
        · exact absurd (g2.symm.trans h6) (by decide)
  · intro d
    have hd : s.admitWants f rank (w :: ws) k = match d with
        | (s, none) => s.admitWants f rank ws k
        | (s, some pool) =>
          if k = 0 then (s.link (s.copyOf f w rank pool true)).admitWants f rank ws 1
          else
            match s.copySource f rank (decide (2 ≤ k) && decide (rank ≤ 3)) with
            | (s, true) => (s.link (s.copyOf f w rank pool false)).admitWants f rank ws (k + 1)
            | (s, false) =>
              ((s.release (s.copyOf f w rank pool false)).1.refuse f.plat w.port 3 (f.cls.getD 0)).admitWants f rank ws k := rfl
    clear_value d
    obtain ⟨t, o⟩ := d
    refine ⟨fun hn => ?_, fun pool hp hk => ?_⟩
    · obtain rfl : o = none := hn
      exact hd
    · obtain rfl : o = some pool := hp
      exact hd.trans (if_pos hk)

/-! ### Extra copies and the wait list -/

theorem copiesAndWaitList : Rules.CopiesAndWaitList := by
  intro s p i hp hr
  have hwf : decide (p < 8) = true := decide_eq_true hp
  have writes : completes (.extraCopyWrite p) s (s.writeNextExtra p) := completes_event (can := true) rfl hwf hr rfl
  refine ⟨fun h => ?_, fun x h => ?_, fun h => completes_not_event rfl hwf h, fun r h hw => ?_, fun h1 h2 => ?_, fun h => ?_⟩
  · rw [State.writeNextExtra, h] at writes
    exact writes
  · rw [State.writeNextExtra, h] at writes
    exact writes
  · intro t
    have admits : completes (.waitListAdmit p i) s (s.admitWaiting p i).drain := completes_event rfl hwf hr h
    have he : s.admitWaiting p i = (t.refuseDown r.frame r.wants).1.admitLossless r.frame (t.refuseDown r.frame r.wants).2 := by
      unfold State.admitWaiting
      rw [hw]
      rfl
    rw [he] at admits
    exact admits
  · exact completes_event (can := (s.plat p).copyXoff && decide ((s.plat p).copyBytes ≤ s.cfg.f .tmReplCfg 0 9 0 * 1024)) rfl hwf hr
      (by simp [h1, h2])
  · exact completes_not_event (can := (s.plat p).copyXoff && decide ((s.plat p).copyBytes ≤ s.cfg.f .tmReplCfg 0 9 0 * 1024)) rfl hwf
      (by simp [h])

/-- Settles O56: by the frame a pass takes, what its rules say, and what becomes of its copies. -/
theorem pipelinePasses : Obligations.PipelinePasses :=
  ⟨firstPasses, turntablePasses, rulesMerge, dispositions, passesEnd, forwarding, longestPrefix, copiesAdmitted, copiesAndWaitList⟩

end Sys2Proof.Machine

/-! PROOFS. What the data plane leaves alone: time, settings, tables and the parts of the switch that hold no frame. -/

namespace Sys2Proof.Machine

/-- The switch without what its data plane works on: words, counters, ports, Platforms, cells and outputs. Two states of which
this is one agree in all the rest. -/
def State.apart (s : State) : State :=
  { s with out := [], free := 0, regs := [], cnt := [], ports := [], plats := [], sharedUsed := 0, fixedUsed := 0, refs := [] }

namespace State

variable (s : State)

/-! ### What agrees -/

variable {s} in
theorem fs_of_apart {t : State} (h : t.apart = s.apart) : t.fs = s.fs := (congrArg State.fs h :)

variable {s} in
theorem epochs_of_apart {t : State} (h : t.apart = s.apart) : t.epochs = s.epochs := (congrArg State.epochs h :)

variable {s} in
theorem tables_of_apart {t : State} (h : t.apart = s.apart) : t.tables = s.tables := (congrArg State.tables h :)

variable {s} in
theorem saf_of_apart {t : State} (h : t.apart = s.apart) : t.saf = s.saf := (congrArg State.saf h :)

/-! ### Words, counters, ports and cells -/

@[simp] theorem apart_setReg (id : RegId) (i : Nat) (w : Word) : (s.setReg id i w).apart = s.apart := rfl
@[simp] theorem apart_setRf (id : RegId) (i hi lo v : Nat) : (s.setRf id i hi lo v).apart = s.apart := rfl
@[simp] theorem apart_orReg (id : RegId) (i m : Nat) : (s.orReg id i m).apart = s.apart := rfl
@[simp] theorem apart_setPort (n : Nat) (p : PortSt) : (s.setPort n p).apart = s.apart := rfl
@[simp] theorem apart_modPort (n : Nat) (f : PortSt → PortSt) : (s.modPort n f).apart = s.apart := rfl
@[simp] theorem apart_setPlat (n : Nat) (p : Plat) : (s.setPlat n p).apart = s.apart := rfl
@[simp] theorem apart_modPlat (n : Nat) (f : Plat → Plat) : (s.modPlat n f).apart = s.apart := rfl
@[simp] theorem apart_setQueue (e c : Nat) (q : Queue) : (s.setQueue e c q).apart = s.apart := rfl
@[simp] theorem apart_setCopies (e c : Nat) (l : List Copy) : (s.setCopies e c l).apart = s.apart := rfl
@[simp] theorem apart_setRef (r : CellRef) : (s.setRef r).apart = s.apart := rfl
@[simp] theorem apart_emit (o : Out) : (s.emit o).apart = s.apart := rfl
@[simp] theorem apart_touchTx (e : Nat) : (s.touchTx e).apart = s.apart := rfl
@[simp] theorem apart_setPerf48 (lo hi : RegId) (i v : Nat) : (s.setPerf48 lo hi i v).apart = s.apart := rfl
@[simp] theorem apart_notePerf (p k n : Nat) (w : Bool) : (s.notePerf p k n w).apart = s.apart := rfl
@[simp] theorem apart_dropImage (p no : Nat) : (s.dropImage p no).apart = s.apart := rfl

@[simp] theorem apart_setCounter (b : CntBank) (u i v : Nat) : (s.setCounter b u i v).apart = s.apart := by
  obtain ⟨m, r, h⟩ := s.setCounter_shape b u i v
  rw [h]
  rfl

@[simp] theorem apart_countN (b : CntBank) (u i n : Nat) : (s.countN b u i n).apart = s.apart := by
  rw [State.countN, apart_setCounter]

@[simp] theorem apart_count (b : CntBank) (u i : Nat) : (s.count b u i).apart = s.apart := by
  rw [State.count, apart_countN]

@[simp] theorem apart_countIf (c : Bool) (b : CntBank) (u i : Nat) : (s.countIf c b u i).apart = s.apart := by
  unfold State.countIf
  split <;> simp

@[simp] theorem apart_countPort (e slot n : Nat) : (s.countPort e slot n).apart = s.apart := by
  unfold State.countPort
  split <;> simp

@[simp] theorem apart_uncountPort (e slot : Nat) : (s.uncountPort e slot).apart = s.apart := by
  unfold State.uncountPort
  split
  · exact s.apart_setCounter ..
  · rfl

@[simp] theorem apart_perfBump (p k n : Nat) : (s.perfBump p k n).apart = s.apart := by
  unfold State.perfBump
  split
  · rfl
  · obtain ⟨lo, hi, i⟩ := perfRegs p k
    dsimp -zeta only
    extract_lets v t u
    have ht : t.apart = s.apart := (State.apart_setPerf48 ..).trans (State.apart_notePerf ..)
    have hu : u.apart = s.apart := (State.apart_orReg ..).trans ht
    clear_value v t u
    repeat' split
    · exact ht
    · exact hu
    · exact hu
    · exact (State.apart_modPlat ..).trans ((State.apart_orReg ..).trans hu)

@[simp] theorem apart_perf (p ev : Nat) (port cls : Option Nat) (n : Nat) : (s.perf p ev port cls n).apart = s.apart := by
  unfold State.perf
  split
  · rfl
  · exact foldl_keeps (g := State.apart) (fun s k => by split <;> simp) _ _

@[simp] theorem apart_setShared (n : Nat) : (s.setShared n).apart = s.apart := by
  unfold State.setShared
  dsimp only
  repeat' split
  all_goals rfl

@[simp] theorem apart_takeShared (n : Nat) : (s.takeShared n).apart = s.apart := s.apart_setShared _

@[simp] theorem apart_giveShared (n : Nat) : (s.giveShared n).apart = s.apart := s.apart_setShared _

@[simp] theorem apart_creditAcct (port a sh hd : Nat) : (s.creditAcct port a sh hd).apart = s.apart :=
  (State.apart_giveShared _ sh).trans (s.apart_modPort _ _)

@[simp] theorem apart_moveStaging (plat port : Nat) (acct : Option Nat) (c : Charge) (take : Nat) :
    (s.moveStaging plat port acct c take).apart = s.apart := by
  unfold State.moveStaging
  cases acct <;> dsimp only <;> split <;> simp <;> rfl

@[simp] theorem apart_freeStaging (plat port : Nat) (acct : Option Nat) (c : Charge) :
    (s.freeStaging plat port acct c).apart = s.apart := s.apart_moveStaging _ _ _ _ _

@[simp] theorem apart_settleImage (plat no : Nat) : (s.settleImage plat no).apart = s.apart := by
  unfold State.settleImage
  split <;> simp

@[simp] theorem apart_chargeCapture (no : Nat) : (s.chargeCapture no).apart = s.apart := by
  unfold State.chargeCapture
  repeat' split
  all_goals simp

@[simp] theorem apart_release (x : Copy) : (s.release x).1.apart = s.apart := by
  unfold State.release
  dsimp only
  repeat' split
  all_goals simp

@[simp] theorem apart_recharge (x : Copy) : (s.recharge x).apart = s.apart := by
  unfold State.recharge
  dsimp only
  repeat' split
  all_goals simp

@[simp] theorem apart_dropCopy (x : Copy) : (s.dropCopy x).apart = s.apart := by
  unfold State.dropCopy
  dsimp only
  repeat' split
  all_goals simp

/-! ### Queues, credits and frames in transmission -/

@[simp] theorem apart_forwardCreditTo (e c fs : Nat) : (s.forwardCreditTo e c fs).apart = s.apart := by
  unfold State.forwardCreditTo
  split <;> simp

@[simp] theorem apart_forwardCredit (e c : Nat) : (s.forwardCredit e c).apart = s.apart := s.apart_forwardCreditTo _ _ _

@[simp] theorem apart_forwardCredits (e : Nat) : (s.forwardCredits e).apart = s.apart :=
  foldl_keeps (g := State.apart) (fun s c => s.apart_forwardCredit e c) _ _

@[simp] theorem apart_cutCopies (e c : Nat) (l : List Copy) : (s.cutCopies e c l).apart = s.apart :=
  s.apart_forwardCredit e c

@[simp] theorem apart_link (x : Copy) : (s.link x).apart = s.apart := by
  unfold State.link
  simp

@[simp] theorem apart_correct (e : Nat) (b : List Byte) (o : Nat) (udp v4 : Bool) (add : Int) :
    (s.correct e b o udp v4 add).1.apart = s.apart := s.apart_countIf _ _ _ _

@[simp] theorem apart_putTcRec (p : Nat) (r : TcRec) : (s.putTcRec p r).apart = s.apart := by
  unfold State.putTcRec
  dsimp only
  split <;> simp

@[simp] theorem apart_tcApply (f : Frame) (e cross : Nat) (shift : Int) (b : List Byte) :
    (s.tcApply f e cross shift b).1.apart = s.apart := by
  unfold State.tcApply
  dsimp only
  repeat' split
  all_goals simp

@[simp] theorem apart_stampTx (e : Nat) : (s.stampTx e).apart = s.apart := by
  unfold State.stampTx
  dsimp only
  repeat' split
  all_goals simp

@[simp] theorem apart_stampDue (e now : Nat) : (s.stampDue e now).apart = s.apart := by
  unfold State.stampDue
  repeat' split
  all_goals simp

@[simp] theorem apart_postTxts (e : Nat) (t : TxFrame) (err : Bool) : (s.postTxts e t err).apart = s.apart := by
  unfold State.postTxts
  split
  · rfl
  · extract_lets p wr rd c k ns w1 i
    clear_value w1
    split
    · exact (State.apart_count ..).trans (s.apart_orReg ..)
    · exact (State.apart_count ..).trans rfl

@[simp] theorem apart_endTx (e : Nat) (t : TxFrame) (fin : Nat) : (s.endTx e t fin).apart = s.apart := by
  unfold State.endTx
  cases t.copy <;> simp

@[simp] theorem apart_flushQueue (e : Nat) (l : List Copy) : (s.flushQueue e l).apart = s.apart := by
  induction l generalizing s with
  | nil => rfl
  | cons x l ih => exact (ih _).trans (by simp)

@[simp] theorem apart_flushPort (e : Nat) : (s.flushPort e).apart = s.apart := by
  refine foldl_keeps (g := State.apart) (fun s c => ?_) _ _
  dsimp only
  rw [apart_flushQueue, apart_cutCopies]
  repeat' split
  all_goals simp

@[simp] theorem apart_undoRise (e : Nat) : (s.undoRise e).1.apart = s.apart := by
  unfold State.undoRise
  dsimp only
  repeat' split
  all_goals simp

@[simp] theorem apart_undoUnderrun (e : Nat) : (s.undoUnderrun e).apart = s.apart := by
  have h := s.apart_undoRise e
  unfold State.undoUnderrun
  split <;> next heq => rw [heq] at h; simpa using h

@[simp] theorem apart_abortTx (e : Nat) : (s.abortTx e).apart = s.apart := by
  unfold State.abortTx
  dsimp only
  split <;> simp

@[simp] theorem apart_abortRx (e : Nat) : (s.abortRx e).apart = s.apart := by
  unfold State.abortRx
  split <;> simp

@[simp] theorem apart_returnTx (e c : Nat) (t : TxFrame) : (s.returnTx e c t).apart = s.apart := by
  unfold State.returnTx
  dsimp only
  split <;> simp

@[simp] theorem apart_returnUntimed (e : Nat) : (s.returnUntimed e).apart = s.apart := by
  refine foldl_keeps (g := State.apart) (fun s c => ?_) _ _
  dsimp only
  repeat' split
  all_goals simp

@[simp] theorem apart_linkChanged (e : Nat) : (s.linkChanged e).apart = s.apart := by
  unfold State.linkChanged
  split <;> simp

/-! ### Tables and the rest of the settings' edge -/

/-- The switch without its tables too, without Platforms' lists, the capture and the causes that keep it awake. -/
def away : State :=
  { s.apart with tables := [], tbl := {}, psf := {}, sch := {}, adm := {}, capt := {}, ao := {}, commit := {} }

variable {s} in
theorem away_of_apart {t : State} (h : t.apart = s.apart) : t.away = s.away :=
  (congrArg (fun q : State => { q with tables := [], tbl := {}, psf := {}, sch := {}, adm := {}, capt := {}, ao := {}, commit := {} }) h :)

@[simp] theorem away_setTab (t i w : Nat) (v : Word) : (s.setTab t i w v).away = s.away := rfl

@[simp] theorem away_deleteEntry (t i : Nat) : (s.deleteEntry t i).away = s.away := rfl

@[simp] theorem away_workLater (p : Nat) (w : TableWork) : (s.workLater p w).away = s.away := rfl

@[simp] theorem away_unspread (origin : Nat) (key : List Nat) (p : Nat) : (s.unspread origin key p).away = s.away := by
  unfold State.unspread
  repeat' split
  all_goals rfl

@[simp] theorem away_dropCopies (origin : Nat) (key : List Nat) (l : List Nat) : (s.dropCopies origin key l).away = s.away := by
  induction l generalizing s with
  | nil => rfl
  | cons p l ih =>
    refine (ih _).trans ?_
    repeat' split
    all_goals simp

@[simp] theorem away_deleteWhere (p : Nat) (sel : Nat → Bool) : (s.deleteWhere p sel).1.away = s.away :=
  foldl_keeps (g := State.away)
    (fun s i => (away_of_apart (State.apart_count (s.deleteEntry p i) .tbl p 5)).trans (s.away_deleteEntry p i)) _ _

@[simp] theorem away_deleteAll (ps : List Nat) (sel : State → Nat → Nat → Bool) : (s.deleteAll ps sel).away = s.away := by
  unfold State.deleteAll
  refine (foldl_keeps (g := State.away) (fun s (o : Nat × List Nat) => s.away_dropCopies o.1 o.2 _) _ _).trans ?_
  refine foldl_keeps (g := fun x : State × List (Nat × List Nat) => x.1.away) (fun x p => ?_) ps (s, [])
  exact x.1.away_deleteWhere p _

@[simp] theorem away_deleteEverywhere (destType dest : Nat) : (s.deleteEverywhere destType dest).away = s.away :=
  (State.away_deleteAll _ _ _).trans (foldl_keeps (g := State.away) (fun s p => s.away_workLater p _) _ _)

@[simp] theorem away_forgetPort (port : Nat) : (s.forgetPort port).away = s.away :=
  (foldl_keeps (g := State.away) (fun s g => s.away_deleteEverywhere 1 g) _ _).trans (s.away_deleteEverywhere 0 port)

@[simp] theorem away_expireHold (e : Nat) : (s.expireHold e).away = s.away := by
  unfold State.expireHold
  rw [away_forgetPort]
  exact away_of_apart (by simp only [apart_orReg, apart_modPort, apart_flushPort])

@[simp] theorem away_portDown (e ms : Nat) : (s.portDown e ms).away = s.away := by
  unfold State.portDown
  dsimp only
  repeat' split
  · exact (State.away_expireHold _ e).trans (away_of_apart (by simp))
  · exact away_of_apart (by simp)
  · rfl

end State

end Sys2Proof.Machine

/-! PROOFS. The commit edge: what the edge of a group leaves alone, and what the groups' staged words are until then (R21, R24). -/

namespace Sys2Proof.Machine

namespace State

variable (s : State)

/-! ### What the edge of a group leaves alone -/

@[simp] theorem away_restall : s.restall.away = s.away := by
  unfold State.restall
  dsimp only
  split <;> rfl

@[simp] theorem away_shutBlock (size : Nat) : (s.shutBlock size).away = s.away := by
  unfold State.shutBlock
  split
  · rfl
  · extract_lets c b b' next t
    exact (away_of_apart (t.apart_count .capt 0 5)).trans rfl

@[simp] theorem away_closeBlock : s.closeBlock.away = s.away := by
  unfold State.closeBlock
  split <;> simp

@[simp] theorem away_settleRecording : s.settleRecording.away = s.away := by
  unfold State.settleRecording
  split <;> simp

@[simp] theorem away_startCommit (w : Nat) : (s.startCommit w).away = s.away := by
  unfold State.startCommit
  dsimp only
  split <;> rfl

@[simp] theorem away_autoCommit : s.autoCommit.away = s.away := by
  unfold State.autoCommit
  split
  · exact foldl_keeps (g := State.away) (fun s w => by split <;> simp) _ _
  · rfl

@[simp] theorem away_startRing : s.startRing.away = s.away := (State.away_restall _).trans s.away_closeBlock

theorem away_psf (x : PsfSt) : ({ s with psf := x } : State).away = s.away := rfl

@[simp] theorem away_resetEntry (t i : Nat) : (s.resetEntry t i).away = s.away := by
  unfold State.resetEntry
  split
  · simp only [away_setTab]
  · split
    · extract_lets a b
      exact (b.away_psf _).trans ((a.away_setTab ..).trans (s.away_setTab ..))
    · split
      · simp only [away_setTab]
      · split
        · simp only [away_setTab]
        · rfl

@[simp] theorem away_writeWords (t i w : Nat) (l : List Word) : (s.writeWords t i w l).away = s.away := by
  induction l generalizing s w with
  | nil => rfl
  | cons v l ih => exact (ih _ _).trans rfl

@[simp] theorem away_writeEntry (t i : Nat) (l : List Word) : (s.writeEntry t i l).away = s.away := by
  unfold State.writeEntry
  dsimp only
  split <;> simp

@[simp] theorem away_applyEdit : s.applyEdit.away = s.away := by
  unfold State.applyEdit
  exact s.away_writeEntry _ _ _

@[simp] theorem away_wake (p c : Nat) : (s.wake p c).away = s.away := by
  obtain ⟨ps, m, r, a, h⟩ := s.wake_shape p c
  rw [h]
  rfl

@[simp] theorem apart_becomeTimed (e : Nat) : (s.becomeTimed e).apart = s.apart := by
  unfold State.becomeTimed
  rw [apart_modPort]
  refine foldl_keeps (g := State.apart) (fun s c => ?_) _ _
  repeat' split
  all_goals simp

@[simp] theorem apart_pendTt (e : Nat) : (s.pendTt e).apart = s.apart := by
  unfold State.pendTt
  extract_lets c was tb cyc base l t
  have ht : t.apart = s.apart := s.apart_modPort _ _
  split
  · exact ht
  · exact (t.apart_becomeTimed e).trans ht

@[simp] theorem apart_edgeBucket (old : Cfg) (e : Nat) : (s.edgeBucket old e).apart = s.apart := by
  unfold State.edgeBucket
  extract_lets
  split <;> rfl

@[simp] theorem away_edgeMac (old : Cfg) (e : Nat) : (s.edgeMac old e).away = s.away := by
  unfold State.edgeMac
  extract_lets on t u cur
  have ht : t.away = s.away := by
    unfold t
    repeat' split
    all_goals simp
  have hu : u.away = t.away := by
    unfold u
    split <;> rfl
  exact hu.trans ht

@[simp] theorem away_edgePort (old : Cfg) (e : Nat) : (s.edgePort old e).away = s.away := by
  unfold State.edgePort
  extract_lets t u
  have ht : t.away = s.away := by
    unfold t
    split <;> simp
  have hu : u.apart = t.apart :=
    (State.apart_edgeBucket _ old e).trans (foldl_keeps (g := State.apart) (fun s k => by exact s.apart_setQueue _ _ _) _ _)
  split
  · split
    · exact (away_of_apart ((State.apart_pendTt u e).trans hu)).trans ht
    · exact (away_of_apart hu).trans ht
  · exact ht

@[simp] theorem away_edgeLanes (old : Cfg) (p : Nat) : (s.edgeLanes old p).away = s.away := by
  unfold State.edgeLanes
  extract_lets c changed t
  have ht : t.away = s.away := foldl_keeps (g := State.away) (fun s k => by dsimp only; split <;> simp) _ _
  clear_value t
  repeat' split
  all_goals exact ht

@[simp] theorem away_edgeAging (old : Cfg) : (s.edgeAging old).away = s.away := by
  unfold State.edgeAging
  extract_lets every swept sweptAt
  have h (t : Nat) : (sweptAt t).away = s.away := rfl
  clear_value every sweptAt
  repeat' split
  all_goals simp only [h]

@[simp] theorem away_edgeSampler (old : Cfg) : (s.edgeSampler old).away = s.away := by
  unfold State.edgeSampler
  split <;> rfl

@[simp] theorem away_pendSched (n : Nat) : (s.pendSched n).away = s.away := rfl

@[simp] theorem away_edgeGroup (old : Cfg) (changed : Bool) (g : Nat) : (s.edgeGroup old changed g).away = s.away := by
  unfold State.edgeGroup
  repeat' split
  all_goals simp only [away_edgePort, away_edgeLanes, away_pendSched, away_edgeAging, away_applyEdit, away_edgeSampler,
    away_settleRecording, away_startRing, away_autoCommit]

@[simp] theorem away_edgeWake (changed : List Nat) (g : Nat) : (s.edgeWake changed g).away = s.away := by
  unfold State.edgeWake
  repeat' split
  all_goals simp

/-! ### The staged words of the groups -/

/-- The staged words of the groups that a selection names (R21). -/
def inGroups (sel : Nat → Bool) : Store Word := keysIn sel s.regs

end State

/-- A word of a key that no selection names changes no word that it names. -/
theorem keysIn_set (sel : Nat → Bool) (m : Store Word) (d w : Word) {k : Nat} (hk : groupOfKey k = none) :
    keysIn sel (Store.set d m k w) = keysIn sel m := by
  have hnot (v : Word) (r : Store Word) : keysIn sel ((k, v) :: r) = keysIn sel r := by simp [keysIn, hk]
  have hcons (x : Nat × Word) {r r' : Store Word} (h : keysIn sel r = keysIn sel r') : keysIn sel (x :: r) = keysIn sel (x :: r') := by
    simp only [keysIn] at h ⊢
    rw [List.filter_cons, List.filter_cons, h]
  have hdel : keysIn sel (m.del k) = keysIn sel m := by
    induction m with
    | nil => rfl
    | cons x r ih =>
      obtain ⟨j, v⟩ := x
      rw [Store.del]
      split
      · next h => rw [← h, hnot]
      · split
        · rfl
        · exact hcons _ ih
  have hput : keysIn sel (m.put k w) = keysIn sel m := by
    clear hdel
    induction m with
    | nil => exact hnot w []
    | cons x r ih =>
      obtain ⟨j, v⟩ := x
      rw [Store.put]
      split
      · next h => rw [← h, hnot, hnot]
      · split
        · exact hnot w _
        · exact hcons _ (ih)
  unfold Store.set
  split
  · exact hdel
  · exact hput

/-- The group of a register's key. -/
theorem groupOfKey_regKey (id : RegId) (i : Nat) : groupOfKey (regKey id i) = groupOf id i := by
  have h := id.ctorIdx_lt
  have hmod : regKey id i % 1024 = id.ctorIdx := by unfold regKey; omega
  have hdiv : regKey id i / 1024 = i := by unfold regKey; omega
  rw [groupOfKey, hmod, hdiv, RegId.ofNat_ctorIdx]

/-- No half-range bit is in a group. -/
theorem halfBit_ungrouped {b : CntBank} {u i j bit : Nat} {id : RegId} (h : halfBit b u i = some (id, j, bit)) :
    groupOf id j = none := by
  cases b <;> simp only [halfBit, Option.some.injEq, Prod.mk.injEq, reduceCtorEq] at h <;> obtain ⟨rfl, -, -⟩ := h <;> rfl

namespace State

variable (s : State)

theorem inGroups_setReg {id : RegId} {i : Nat} (h : groupOf id i = none) (w : Word) : (s.setReg id i w).inGroups = s.inGroups :=
  funext fun sel => keysIn_set sel _ _ _ ((groupOfKey_regKey id i).trans h)

@[simp] theorem inGroups_setCounter (b : CntBank) (u i v : Nat) : (s.setCounter b u i v).inGroups = s.inGroups := by
  rw [State.setCounter_eq]
  change (fun sel => keysIn sel (s.halfRegs b u i v)) = s.inGroups
  unfold State.halfRegs
  split
  · rfl
  · split
    · next h => exact s.inGroups_setReg (halfBit_ungrouped h) _
    · rfl

@[simp] theorem inGroups_count (b : CntBank) (u i : Nat) : (s.count b u i).inGroups = s.inGroups := by
  rw [State.count, State.countN, inGroups_setCounter]

@[simp] theorem inGroups_countIf (c : Bool) (b : CntBank) (u i : Nat) : (s.countIf c b u i).inGroups = s.inGroups := by
  unfold State.countIf
  split <;> simp

@[simp] theorem inGroups_modPort (n : Nat) (f : PortSt → PortSt) : (s.modPort n f).inGroups = s.inGroups := rfl

@[simp] theorem inGroups_modPlat (n : Nat) (f : Plat → Plat) : (s.modPlat n f).inGroups = s.inGroups := rfl

@[simp] theorem inGroups_correct (e : Nat) (b : List Byte) (o : Nat) (udp v4 : Bool) (add : Int) :
    (s.correct e b o udp v4 add).1.inGroups = s.inGroups := s.inGroups_countIf ..

@[simp] theorem inGroups_putTcRec (p : Nat) (r : TcRec) : (s.putTcRec p r).inGroups = s.inGroups := by
  unfold State.putTcRec
  dsimp only
  split <;> simp

@[simp] theorem inGroups_tcApply (f : Frame) (e cross : Nat) (shift : Int) (b : List Byte) :
    (s.tcApply f e cross shift b).1.inGroups = s.inGroups := by
  unfold State.tcApply
  dsimp only
  repeat' split
  all_goals simp

@[simp] theorem inGroups_stampDue (e now : Nat) : (s.stampDue e now).inGroups = s.inGroups := by
  have stampTx : (s.stampTx e).inGroups = s.inGroups := by
    unfold State.stampTx
    dsimp only
    repeat' split
    all_goals simp
  unfold State.stampDue
  repeat' split
  · exact stampTx
  all_goals rfl

@[simp] theorem inGroups_forwardCredit (e c : Nat) : (s.forwardCredit e c).inGroups = s.inGroups := by
  unfold State.forwardCredit State.forwardCreditTo
  split <;> rfl

@[simp] theorem inGroups_forwardCredits (e : Nat) : (s.forwardCredits e).inGroups = s.inGroups :=
  foldl_keeps (g := State.inGroups) (fun s c => s.inGroups_forwardCredit e c) _ _

/-! ### Before the edge, and at it -/

theorem inGroups_beforeEdge (gs : List Nat) : (s.beforeEdge gs).inGroups = s.inGroups :=
  (foldl_keeps (g := State.inGroups) (fun s g => by split <;> simp) _ _).trans
    (foldl_keeps (g := State.inGroups) (fun s (x : Nat × PortSt) => s.inGroups_stampDue x.1 s.fs) _ _)

theorem apart_beforeEdge (gs : List Nat) : (s.beforeEdge gs).apart = s.apart :=
  (foldl_keeps (g := State.apart) (fun s g => by split <;> simp) _ _).trans
    (foldl_keeps (g := State.apart) (fun s (x : Nat × PortSt) => s.apart_stampDue x.1 s.fs) _ _)

/-- The settings after an edge are those of the words in its groups and of the committed ones. -/
theorem afterCommit_congr {t : State} (he : t.epochs = s.epochs) (hg : t.inGroups = s.inGroups) (gs : List Nat) :
    t.afterCommit gs = s.afterCommit gs := by
  have hk : keysIn (gs.contains ·) t.regs = keysIn (gs.contains ·) s.regs := congrFun hg _
  unfold State.afterCommit mergeStaged
  rw [he, hk]

theorem applyGroups_epochs (gs : List Nat) : (s.applyGroups gs).epochs = s.afterCommit gs :: s.epochs := by
  have he := epochs_of_apart (s.apart_beforeEdge gs)
  unfold State.applyGroups
  extract_lets t old changed u v
  have hv : v.away = u.away := foldl_keeps (g := State.away) (fun s g => s.away_edgeGroup _ _ _) _ _
  have hw : (gs.foldl (fun s g => s.edgeWake changed g) v).away = v.away :=
    foldl_keeps (g := State.away) (fun s g => s.away_edgeWake _ _) _ _
  refine (congrArg State.epochs (hw.trans hv) :).trans ?_
  change t.afterCommit gs :: t.epochs = _
  rw [afterCommit_congr s he (s.inGroups_beforeEdge gs), he]

/-- The settings after the edge of a commit: those of its groups as staged, the others as they were (R21, R24). -/
theorem commitEdge_epochs : s.commitEdge.epochs = s.afterCommit s.commit.groups :: s.epochs := by
  have hadm (t : State) (p : Bool) : (t.admEdge p).epochs = t.epochs := by
    unfold State.admEdge
    dsimp only
    split <;> rfl
  unfold State.commitEdge
  exact (hadm ..).trans (s.applyGroups_epochs _)

end State

/-- Settles O14: the words of a group stand until the edge as they were staged, and its effects change no settings. -/
theorem commitEdgeTakesStaged : Obligations.CommitEdgeTakesStaged := by
  intro s hr
  refine ⟨fun h => ⟨completes_event rfl rfl hr h, rfl, s.commitEdge_epochs, ?_⟩, fun h => completes_not_event rfl rfl h⟩
  exact congrArg (fun l : List (Store Word) => regOf (l.headD [])) s.commitEdge_epochs

end Sys2Proof.Machine

/-! PROOFS. The data plane does not look at the causes that keep the switch awake, nor at what has been put out: with others it
works the same. -/

namespace Sys2Proof.Machine

/-- The switch with other causes that keep it awake, and with other outputs behind it. -/
def State.besides (s : State) (a : AoSt) (o : List Out) : State := { s with ao := a, out := o }

namespace State

variable (s : State) (a : AoSt) (o : List Out)

/-! ### What is read -/

@[simp] theorem besides_fs : (s.besides a o).fs = s.fs := (rfl)
@[simp] theorem besides_ports : (s.besides a o).ports = s.ports := (rfl)
@[simp] theorem besides_plats : (s.besides a o).plats = s.plats := (rfl)
@[simp] theorem besides_refs : (s.besides a o).refs = s.refs := (rfl)
@[simp] theorem besides_sharedUsed : (s.besides a o).sharedUsed = s.sharedUsed := (rfl)
@[simp] theorem besides_fixedUsed : (s.besides a o).fixedUsed = s.fixedUsed := (rfl)
@[simp] theorem besides_port (n : Nat) : (s.besides a o).port n = s.port n := (rfl)
@[simp] theorem besides_plat (n : Nat) : (s.besides a o).plat n = s.plat n := (rfl)
@[simp] theorem besides_ref (n : Nat) : (s.besides a o).ref n = s.ref n := (rfl)
@[simp] theorem besides_reg (id : RegId) (i : Nat) : (s.besides a o).reg id i = s.reg id i := (rfl)
@[simp] theorem besides_rb (id : RegId) (i b : Nat) : (s.besides a o).rb id i b = s.rb id i b := (rfl)
@[simp] theorem besides_rf (id : RegId) (i hi lo : Nat) : (s.besides a o).rf id i hi lo = s.rf id i hi lo := (rfl)
@[simp] theorem besides_cfg : (s.besides a o).cfg = s.cfg := (rfl)
@[simp] theorem besides_cfgAt (e : Nat) : (s.besides a o).cfgAt e = s.cfgAt e := (rfl)
@[simp] theorem besides_epochWhen (e : Nat) : (s.besides a o).epochWhen e = s.epochWhen e := (rfl)
@[simp] theorem besides_counter (b : CntBank) (u i : Nat) : (s.besides a o).counter b u i = s.counter b u i := (rfl)
@[simp] theorem besides_outer (f : Frame) : (s.besides a o).outer f = s.outer f := (rfl)
@[simp] theorem besides_residence (f : Frame) (k x y : Nat) : (s.besides a o).residence f k x y = s.residence f k x y := (rfl)
@[simp] theorem besides_cbs (e c : Nat) : (s.besides a o).cbs e c = s.cbs e c := (rfl)
@[simp] theorem besides_creditWhen (e c t : Nat) : (s.besides a o).creditWhen e c t = s.creditWhen e c t := (rfl)
@[simp] theorem besides_perfOn (p : Nat) : (s.besides a o).perfOn p = s.perfOn p := (rfl)
@[simp] theorem besides_perfClock (p : Nat) : (s.besides a o).perfClock p = s.perfClock p := (rfl)
@[simp] theorem besides_perfDrops (p k : Nat) : (s.besides a o).perfDrops p k = s.perfDrops p k := (rfl)
@[simp] theorem besides_perf48 (lo hi : RegId) (i : Nat) : (s.besides a o).perf48 lo hi i = s.perf48 lo hi i := (rfl)
@[simp] theorem besides_pendingOf (n : Nat) : (s.besides a o).pendingOf n = s.pendingOf n := (rfl)
@[simp] theorem besides_macIndices (p : Nat) : (s.besides a o).macIndices p = s.macIndices p := (rfl)
@[simp] theorem besides_bit (e : Nat) : (s.besides a o).bit e = s.bit e := (rfl)
@[simp] theorem besides_stampFine (k t : Nat) (ps : Int) : (s.besides a o).stampFine k t ps = s.stampFine k t ps := (rfl)
@[simp] theorem besides_holdMs (e : Nat) : (s.besides a o).holdMs e = s.holdMs e := (rfl)
@[simp] theorem besides_lookup (t : Nat) (key : List Nat) : (s.besides a o).lookup t key = s.lookup t key := (rfl)
@[simp] theorem besides_entry (t i : Nat) : (s.besides a o).entry t i = s.entry t i := (rfl)
@[simp] theorem besides_tab (t i w : Nat) : (s.besides a o).tab t i w = s.tab t i w := (rfl)
@[simp] theorem besides_tb (t i w b : Nat) : (s.besides a o).tb t i w b = s.tb t i w b := (rfl)
@[simp] theorem besides_tf (t i w hi lo : Nat) : (s.besides a o).tf t i w hi lo = s.tf t i w hi lo := (rfl)
@[simp] theorem besides_tableWaits (p : Nat) : (s.besides a o).tableWaits p = s.tableWaits p := (rfl)
@[simp] theorem besides_lastMemberOf (n : Nat) : (s.besides a o).lastMemberOf n = s.lastMemberOf n := (rfl)
@[simp] theorem besides_hasDest (d n p i : Nat) : (s.besides a o).hasDest d n p i = s.hasDest d n p i := (rfl)
@[simp] theorem besides_sharedFree : (s.besides a o).sharedFree = s.sharedFree := (rfl)

/-! ### Either way, and again and again -/

@[simp] theorem ite_besides {c : Prop} {i : Decidable c} [Decidable c] (x y : State) :
    @ite _ c i (x.besides a o) (y.besides a o) = (if c then x else y).besides a o := by
  by_cases h : c
  · rw [if_pos h, if_pos h]
  · rw [if_neg h, if_neg h]

variable {a o} in
theorem foldl_besides {β : Type} {f : State → β → State} (h : ∀ s b, f (s.besides a o) b = (f s b).besides a o) (l : List β)
    (s : State) : l.foldl f (s.besides a o) = (l.foldl f s).besides a o := by
  induction l generalizing s with
  | nil => rfl
  | cons b l ih => rw [List.foldl_cons, List.foldl_cons, h, ih]

/-! ### Words, counters, ports and cells -/

@[simp] theorem besides_setReg (id : RegId) (i : Nat) (w : Word) : (s.besides a o).setReg id i w = (s.setReg id i w).besides a o := rfl
@[simp] theorem besides_setRf (id : RegId) (i hi lo v : Nat) :
    (s.besides a o).setRf id i hi lo v = (s.setRf id i hi lo v).besides a o := rfl
@[simp] theorem besides_orReg (id : RegId) (i m : Nat) : (s.besides a o).orReg id i m = (s.orReg id i m).besides a o := rfl
@[simp] theorem besides_setPort (n : Nat) (p : PortSt) : (s.besides a o).setPort n p = (s.setPort n p).besides a o := rfl
@[simp] theorem besides_modPort (n : Nat) (f : PortSt → PortSt) : (s.besides a o).modPort n f = (s.modPort n f).besides a o := rfl
@[simp] theorem besides_setPlat (n : Nat) (p : Plat) : (s.besides a o).setPlat n p = (s.setPlat n p).besides a o := rfl
@[simp] theorem besides_modPlat (n : Nat) (f : Plat → Plat) : (s.besides a o).modPlat n f = (s.modPlat n f).besides a o := rfl
@[simp] theorem besides_setQueue (e c : Nat) (q : Queue) : (s.besides a o).setQueue e c q = (s.setQueue e c q).besides a o := rfl
@[simp] theorem besides_setCopies (e c : Nat) (l : List Copy) :
    (s.besides a o).setCopies e c l = (s.setCopies e c l).besides a o := rfl
@[simp] theorem besides_setRef (r : CellRef) : (s.besides a o).setRef r = (s.setRef r).besides a o := rfl
@[simp] theorem besides_touchTx (e : Nat) : (s.besides a o).touchTx e = (s.touchTx e).besides a o := rfl
@[simp] theorem besides_setPerf48 (lo hi : RegId) (i v : Nat) :
    (s.besides a o).setPerf48 lo hi i v = (s.setPerf48 lo hi i v).besides a o := rfl
@[simp] theorem besides_notePerf (p k n : Nat) (w : Bool) : (s.besides a o).notePerf p k n w = (s.notePerf p k n w).besides a o := rfl
@[simp] theorem besides_dropImage (p no : Nat) : (s.besides a o).dropImage p no = (s.dropImage p no).besides a o := rfl
@[simp] theorem besides_setTab (t i w : Nat) (v : Word) : (s.besides a o).setTab t i w v = (s.setTab t i w v).besides a o := rfl

@[simp] theorem besides_setCounter (b : CntBank) (u i v : Nat) :
    (s.besides a o).setCounter b u i v = (s.setCounter b u i v).besides a o := by
  rw [State.setCounter_eq, State.setCounter_eq]
  rfl

@[simp] theorem besides_countN (b : CntBank) (u i n : Nat) : (s.besides a o).countN b u i n = (s.countN b u i n).besides a o := by
  rw [State.countN, State.countN, besides_setCounter, besides_counter]

@[simp] theorem besides_count (b : CntBank) (u i : Nat) : (s.besides a o).count b u i = (s.count b u i).besides a o := by
  rw [State.count, State.count, besides_countN]

@[simp] theorem besides_countIf (c : Bool) (b : CntBank) (u i : Nat) :
    (s.besides a o).countIf c b u i = (s.countIf c b u i).besides a o := by
  rw [State.countIf, State.countIf, besides_count, ite_besides]

@[simp] theorem besides_countPort (e slot n : Nat) : (s.besides a o).countPort e slot n = (s.countPort e slot n).besides a o := by
  rw [State.countPort, State.countPort, besides_countN, ite_besides]

@[simp] theorem besides_uncountPort (e slot : Nat) : (s.besides a o).uncountPort e slot = (s.uncountPort e slot).besides a o := by
  rw [State.uncountPort, State.uncountPort, besides_setCounter, ite_besides, besides_counter]

/-- What a performance counter that would show `v` and is to be below `lim` leaves beside its value (R364). -/
def perfWraps (p k v lim : Nat) : State :=
  if v < lim then s
  else
    let s := s.orReg .platPerfOvf p (2 ^ k)
    if ¬ s.rb .platPerfCtrl p 29 then s
    else if s.rb .platPerfCtrl p 30 then s
    else (s.orReg .platPerfCtrl p (2 ^ 30)).modPlat p fun x => { x with frozeAt := some s.fs }

theorem besides_perfWraps (p k v lim : Nat) : (s.besides a o).perfWraps p k v lim = (s.perfWraps p k v lim).besides a o := by
  simp only [perfWraps, besides_orReg, besides_rb, besides_modPlat, besides_fs, ite_besides]

theorem perfBump_eq (p k n : Nat) {lo hi : RegId} {i : Nat} (h : perfRegs p k = (lo, hi, i)) :
    s.perfBump p k n
      = if s.perfDrops p k then s
        else ((s.notePerf p k n (decide (2 ^ 48 ≤ s.perf48 lo hi i + n))).setPerf48 lo hi i
          ((s.perf48 lo hi i + n) % 2 ^ 48)).perfWraps p k (s.perf48 lo hi i + n) (2 ^ 48) := by
  unfold State.perfBump
  rw [h]
  rfl

@[simp] theorem besides_perfBump (p k n : Nat) : (s.besides a o).perfBump p k n = (s.perfBump p k n).besides a o := by
  obtain ⟨⟨lo, hi, i⟩, h⟩ : ∃ r, perfRegs p k = r := ⟨_, rfl⟩
  rw [perfBump_eq _ p k n h, perfBump_eq _ p k n h, besides_perfDrops, besides_perf48, besides_notePerf, besides_setPerf48,
    besides_perfWraps, ite_besides]

@[simp] theorem besides_perf (p ev : Nat) (port cls : Option Nat) (n : Nat) :
    (s.besides a o).perf p ev port cls n = (s.perf p ev port cls n).besides a o := by
  rw [State.perf, State.perf, besides_perfOn, foldl_besides, ite_besides]
  intro s k
  rw [besides_reg, besides_perfBump, ite_besides]

@[simp] theorem besides_setShared (n : Nat) : (s.besides a o).setShared n = (s.setShared n).besides a o := by
  have h (t : State) : ({ t.besides a o with sharedUsed := n } : State) = ({ t with sharedUsed := n } : State).besides a o := rfl
  simp only [State.setShared, h, besides_sharedFree, besides_rf, besides_setRf, besides_orReg, ite_besides]

@[simp] theorem besides_takeShared (n : Nat) : (s.besides a o).takeShared n = (s.takeShared n).besides a o :=
  s.besides_setShared a o _

@[simp] theorem besides_giveShared (n : Nat) : (s.besides a o).giveShared n = (s.giveShared n).besides a o :=
  s.besides_setShared a o _

@[simp] theorem besides_creditAcct (port x sh hd : Nat) :
    (s.besides a o).creditAcct port x sh hd = (s.creditAcct port x sh hd).besides a o := by
  rw [State.creditAcct, State.creditAcct, besides_modPort, besides_giveShared]

@[simp] theorem besides_freeStaging (plat port : Nat) (acct : Option Nat) (c : Charge) :
    (s.besides a o).freeStaging plat port acct c = (s.freeStaging plat port acct c).besides a o := by
  unfold State.freeStaging State.moveStaging
  extract_lets u v w give u' v' w'
  have hv : v = v'.besides a o := rfl
  have hw : w = w'.besides a o := by
    unfold w w'
    cases acct
    · exact hv
    · rw [hv]
      rfl
  clear_value w w'
  rw [hw, besides_sharedUsed, besides_setShared, ite_besides]

@[simp] theorem besides_settleImage (plat no : Nat) : (s.besides a o).settleImage plat no = (s.settleImage plat no).besides a o := by
  simp only [State.settleImage, besides_pendingOf, besides_dropImage, ite_besides]

@[simp] theorem besides_chargeCapture (no : Nat) : (s.besides a o).chargeCapture no = (s.chargeCapture no).besides a o := by
  rw [State.chargeCapture, State.chargeCapture, besides_ref]
  cases s.ref no <;> simp only [besides_setRef, besides_takeShared, ite_besides]

/-- A step that answers something beside its state works the same too. -/
def besidesFst {β : Type} (x : State × β) : State × β := (x.1.besides a o, x.2)

@[simp] theorem besides_release (x : Copy) : (s.besides a o).release x = besidesFst a o (s.release x) := by
  unfold State.release
  rw [besides_port, besides_ref]
  dsimp only
  cases x.pool with
  | reservation => simp only [besides_setQueue, besides_chargeCapture, ite_besides, besidesFst]
  | shared => simp only [besides_setQueue, besides_giveShared, besides_chargeCapture, ite_besides, besidesFst]
  | fixed => rfl
  | account =>
    cases s.ref x.frame.no with
    | none => rfl
    | some r =>
      dsimp only
      by_cases h : r.copies ≤ 1
      · cases r.acct <;>
          simp only [if_pos h, besides_creditAcct, besides_setRef, besides_chargeCapture, besidesFst]
      · simp only [if_neg h, besides_setRef, besidesFst]

/-- A first copy that is charged again takes its capture off the shared pool (R192). -/
def uncap (x : Copy) : State :=
  match s.ref x.frame.no with
  | some r => if x.first && r.capShared then (s.setRef { r with capShared := false }).giveShared r.cells else s
  | none => s

theorem besides_uncap (x : Copy) : (s.besides a o).uncap x = (s.uncap x).besides a o := by
  unfold State.uncap
  rw [besides_ref]
  cases s.ref x.frame.no <;> simp only [besides_setRef, besides_giveShared, ite_besides]

@[simp] theorem besides_recharge (x : Copy) : (s.besides a o).recharge x = (s.recharge x).besides a o := by
  have hres (t : State) (h : x.pool = .reservation) :
      t.recharge x = (t.setQueue x.port x.cls { (t.port x.port).queue x.cls with
        resvUsed := ((t.port x.port).queue x.cls).resvUsed + x.cells }).uncap x := by
    unfold State.recharge
    rw [h]
    rfl
  have hshared (t : State) (h : x.pool = .shared) :
      t.recharge x = ((t.setQueue x.port x.cls { (t.port x.port).queue x.cls with
        sharedUsed := ((t.port x.port).queue x.cls).sharedUsed + x.cells }).takeShared x.cells).uncap x := by
    unfold State.recharge
    rw [h]
    rfl
  cases hp : x.pool with
  | reservation => rw [hres _ hp, hres _ hp, besides_setQueue, besides_uncap, besides_port]
  | shared => rw [hshared _ hp, hshared _ hp, besides_setQueue, besides_takeShared, besides_uncap, besides_port]
  | fixed =>
    unfold State.recharge
    rw [hp]
  | account =>
    unfold State.recharge
    rw [hp]
    dsimp only
    cases x.ref with
    | none =>
      rw [besides_ref]
      cases s.ref x.frame.no <;> simp only [besides_setRef]
    | some old =>
      dsimp only
      cases old.acct with
      | none =>
        dsimp only
        rw [besides_ref]
        cases s.ref x.frame.no <;> simp only [besides_setRef, besides_giveShared, ite_besides]
      | some k =>
        dsimp only
        rw [besides_modPort, besides_takeShared, besides_ref]
        cases State.ref _ x.frame.no <;> simp only [besides_setRef, besides_giveShared, ite_besides]

@[simp] theorem besides_dropCopy (x : Copy) : (s.besides a o).dropCopy x = (s.dropCopy x).besides a o := by
  simp only [State.dropCopy, besides_touchTx, besides_release, besidesFst, besides_ref]
  cases ((s.touchTx x.port).release x).1.ref x.frame.no <;>
    simp only [besides_setRef, besides_settleImage, ite_besides]

/-! ### Queues, credits and frames in transmission -/

@[simp] theorem besides_forwardCreditTo (e c t : Nat) :
    (s.besides a o).forwardCreditTo e c t = (s.forwardCreditTo e c t).besides a o := by
  simp only [State.forwardCreditTo, besides_cbs, besides_port, besides_creditWhen, besides_setQueue, ite_besides]

@[simp] theorem besides_forwardCredit (e c : Nat) : (s.besides a o).forwardCredit e c = (s.forwardCredit e c).besides a o :=
  s.besides_forwardCreditTo a o e c s.fs

@[simp] theorem besides_cutCopies (e c : Nat) (l : List Copy) :
    (s.besides a o).cutCopies e c l = (s.cutCopies e c l).besides a o := by
  rw [State.cutCopies, State.cutCopies, besides_forwardCredit, besides_setCopies]

@[simp] theorem besides_correct (e : Nat) (b : List Byte) (n : Nat) (udp v4 : Bool) (add : Int) :
    (s.besides a o).correct e b n udp v4 add = besidesFst a o (s.correct e b n udp v4 add) := by
  simp only [State.correct, besides_countIf, besidesFst]

@[simp] theorem besides_putTcRec (p : Nat) (r : TcRec) : (s.besides a o).putTcRec p r = (s.putTcRec p r).besides a o := by
  unfold State.putTcRec
  rw [besides_plat]
  dsimp only
  split <;> simp only [besides_count, besides_modPlat]

theorem ite_besidesFst {β : Type} {c : Prop} {i : Decidable c} [Decidable c] (x y : State × β) :
    @ite _ c i (besidesFst a o x) (besidesFst a o y) = besidesFst a o (if c then x else y) := by
  by_cases h : c
  · rw [if_pos h, if_pos h]
  · rw [if_neg h, if_neg h]

@[simp] theorem besides_tcApply (f : Frame) (e cross : Nat) (shift : Int) (b : List Byte) :
    (s.besides a o).tcApply f e cross shift b = besidesFst a o (s.tcApply f e cross shift b) := by
  have pair (t : State) (l : List Byte) : (t.besides a o, l) = besidesFst a o (t, l) := rfl
  unfold State.tcApply
  simp only [besides_cfgAt, besides_epochWhen, besides_outer, besides_residence, besides_reg, besides_plat]
  cases (s.outer f).ptp with
  | none => rfl
  | some n =>
    dsimp only
    cases Cfg.tcDomain _ _ with
    | none => rfl
    | some i =>
      dsimp only
      cases List.find? _ _ <;>
        simp only [besides_putTcRec, besides_count, besides_correct, besides_modPlat, pair, ite_besidesFst]

@[simp] theorem besides_stampTx (e : Nat) : (s.besides a o).stampTx e = (s.stampTx e).besides a o := by
  unfold State.stampTx
  rw [besides_port]
  cases (s.port e).tx with
  | none => rfl
  | some t =>
    dsimp only
    cases t.copy with
    | none => rfl
    | some x => simp only [besides_tcApply, besidesFst, besides_modPort, ite_besides]

@[simp] theorem besides_stampDue (e now : Nat) : (s.besides a o).stampDue e now = (s.stampDue e now).besides a o := by
  unfold State.stampDue
  rw [besides_port]
  cases (s.port e).tx <;> simp only [besides_stampTx, ite_besides]

@[simp] theorem besides_postTxts (e : Nat) (t : TxFrame) (err : Bool) :
    (s.besides a o).postTxts e t err = (s.postTxts e t err).besides a o := by
  unfold State.postTxts
  split
  · rfl
  · simp only [besides_rf, besides_orReg, besides_count, besides_cfgAt, besides_epochWhen, besides_stampFine, besides_setReg,
      besides_setRf, ite_besides]

@[simp] theorem besides_endTx (e : Nat) (t : TxFrame) (fin : Nat) : (s.besides a o).endTx e t fin = (s.endTx e t fin).besides a o := by
  unfold State.endTx
  rw [besides_bit]
  cases t.copy <;> simp only [besides_forwardCredit, besides_setQueue, besides_modPort, besides_port]

@[simp] theorem besides_flushQueue (e : Nat) (l : List Copy) :
    (s.besides a o).flushQueue e l = (s.flushQueue e l).besides a o := by
  induction l generalizing s with
  | nil => rfl
  | cons x l ih => rw [State.flushQueue, State.flushQueue, besides_dropCopy, besides_count, besides_count, ih]

@[simp] theorem besides_flushPort (e : Nat) : (s.besides a o).flushPort e = (s.flushPort e).besides a o := by
  refine foldl_besides (fun s c => ?_) _ s
  rw [besides_port]
  dsimp only
  cases (((s.port e).macQ)[c]?).getD none with
  | none => simp only [besides_port, besides_cutCopies, besides_flushQueue]
  | some t =>
    dsimp only
    cases t.copy <;>
      simp only [besides_forwardCredit, besides_modPort, besides_count, besides_port, besides_cutCopies, besides_flushQueue]

@[simp] theorem besides_undoRise (e : Nat) : (s.besides a o).undoRise e = besidesFst a o (s.undoRise e) := by
  unfold State.undoRise
  rw [besides_port]
  rcases (s.port e).cut with _ | ⟨t, cur, raised⟩
  · rfl
  · have pair (t : State) (l : Bool) : (t.besides a o, l) = besidesFst a o (t, l) := rfl
    simp only [besides_modPort, besides_fs, besides_uncountPort, ite_besides, pair, ite_besidesFst]

@[simp] theorem besides_undoUnderrun (e : Nat) : (s.besides a o).undoUnderrun e = (s.undoUnderrun e).besides a o := by
  unfold State.undoUnderrun
  rw [besides_undoRise]
  rcases s.undoRise e with ⟨t, _ | _⟩ <;> simp only [besidesFst, besides_uncountPort, besides_countPort]

@[simp] theorem besides_abortTx (e : Nat) : (s.besides a o).abortTx e = (s.abortTx e).besides a o := by
  unfold State.abortTx
  simp only [besides_fs, besides_stampDue, besides_port]
  cases ((s.stampDue e s.fs).port e).tx <;>
    simp only [besides_undoUnderrun, besides_undoRise, besidesFst, besides_endTx, besides_countPort, besides_postTxts]

@[simp] theorem besides_abortRx (e : Nat) : (s.besides a o).abortRx e = (s.abortRx e).besides a o := by
  unfold State.abortRx
  rw [besides_port]
  cases (s.port e).rx <;> simp only [besides_freeStaging, besides_modPort, besides_countPort]

@[simp] theorem besides_returnUntimed (e : Nat) : (s.besides a o).returnUntimed e = (s.returnUntimed e).besides a o := by
  refine foldl_besides (fun s c => ?_) _ s
  rw [besides_port]
  cases (((s.port e).macQ)[c]?).getD none with
  | none => rfl
  | some t =>
    dsimp only
    cases t.copy <;>
      simp only [besides_modPort, besides_recharge, besides_setCopies, besides_port, ite_besides]

@[simp] theorem besides_linkChanged (e : Nat) : (s.besides a o).linkChanged e = (s.linkChanged e).besides a o := by
  simp only [State.linkChanged, besides_orReg, ite_besides]

/-! ### Tables -/

@[simp] theorem besides_deleteEntry (t i : Nat) : (s.besides a o).deleteEntry t i = (s.deleteEntry t i).besides a o := rfl

@[simp] theorem besides_workLater (p : Nat) (w : TableWork) : (s.besides a o).workLater p w = (s.workLater p w).besides a o := rfl

@[simp] theorem besides_unspread (origin : Nat) (key : List Nat) (p : Nat) :
    (s.besides a o).unspread origin key p = (s.unspread origin key p).besides a o := by
  unfold State.unspread
  rw [besides_lookup]
  cases s.lookup p key <;> simp only [besides_tb, besides_tf, besides_deleteEntry, ite_besides]

@[simp] theorem besides_dropCopies (origin : Nat) (key l : List Nat) :
    (s.besides a o).dropCopies origin key l = (s.dropCopies origin key l).besides a o := by
  induction l generalizing s with
  | nil => rfl
  | cons p l ih =>
    rw [State.dropCopies, State.dropCopies, besides_tableWaits, besides_workLater, besides_unspread, ite_besides, ite_besides, ih]

@[simp] theorem besides_deleteWhere (p : Nat) (sel : Nat → Bool) :
    (s.besides a o).deleteWhere p sel = besidesFst a o (s.deleteWhere p sel) := by
  simp only [State.deleteWhere, besides_macIndices, besides_tb, besides_entry, besidesFst]
  rw [foldl_besides]
  intro s i
  rw [besides_deleteEntry, besides_count]

/-- The entries deleted from several tables, and the origins whose copies go with them. -/
def deleteAcross (sel : State → Nat → Nat → Bool) (ps : List Nat) (x : State × List (Nat × List Nat)) :
    State × List (Nat × List Nat) :=
  ps.foldl (fun x p => ((x.1.deleteWhere p (sel x.1 p)).1, x.2 ++ (x.1.deleteWhere p (sel x.1 p)).2)) x

theorem deleteAll_eq (ps : List Nat) (sel : State → Nat → Nat → Bool) :
    s.deleteAll ps sel
      = (deleteAcross sel ps (s, [])).2.foldl (fun s o => s.dropCopies o.1 o.2 (List.range 8)) (deleteAcross sel ps (s, [])).1 := rfl

theorem besides_deleteAll (ps : List Nat) (sel : State → Nat → Nat → Bool) (h : ∀ t : State, sel (t.besides a o) = sel t) :
    (s.besides a o).deleteAll ps sel = (s.deleteAll ps sel).besides a o := by
  have across (l : List Nat) (x : State × List (Nat × List Nat)) :
      deleteAcross sel l (besidesFst a o x) = besidesFst a o (deleteAcross sel l x) := by
    induction l generalizing x with
    | nil => rfl
    | cons p l ih =>
      refine Eq.trans ?_ (ih _)
      simp only [deleteAcross, List.foldl_cons, besidesFst, h, besides_deleteWhere]
  have hx : deleteAcross sel ps (s.besides a o, []) = besidesFst a o (deleteAcross sel ps (s, [])) := across ps (s, [])
  rw [deleteAll_eq, deleteAll_eq, hx]
  exact foldl_besides (fun s (x : Nat × List Nat) => s.besides_dropCopies a o x.1 x.2 _) _ _

@[simp] theorem besides_deleteEverywhere (d n : Nat) :
    (s.besides a o).deleteEverywhere d n = (s.deleteEverywhere d n).besides a o := by
  unfold State.deleteEverywhere
  dsimp only
  rw [foldl_besides (fun s p => s.besides_workLater a o p _)]
  exact besides_deleteAll _ a o _ _ fun t => rfl

@[simp] theorem besides_forgetPort (n : Nat) : (s.besides a o).forgetPort n = (s.forgetPort n).besides a o := by
  rw [State.forgetPort, State.forgetPort, besides_lastMemberOf, besides_deleteEverywhere,
    foldl_besides (fun s g => s.besides_deleteEverywhere a o 1 g)]

@[simp] theorem besides_expireHold (e : Nat) : (s.besides a o).expireHold e = (s.expireHold e).besides a o := by
  simp only [State.expireHold, besides_flushPort, besides_modPort, besides_fs, besides_orReg, besides_forgetPort]

@[simp] theorem besides_portDown (e ms : Nat) : (s.besides a o).portDown e ms = (s.portDown e ms).besides a o := by
  simp only [State.portDown, besides_port, besides_abortRx, besides_abortTx, besides_returnUntimed, besides_modPort, besides_fs,
    besides_linkChanged, besides_expireHold, ite_besides]

end State

end Sys2Proof.Machine

/-! PROOFS. The Coupler's link, health frames sent, silence, and partner resets (R270 to R283). -/

namespace Sys2Proof.Machine

/-! ### The twin state changes without regard to what keeps the switch awake -/

namespace State

variable (s : State) (a : AoSt) (o : List Out)

theorem besides_openRecovery : (s.besides a o).openRecovery = s.openRecovery.besides a o := by
  have h (t : State) (p : PsfSt) : (t.besides a o).setWindows p = (t.setWindows p).besides a o := by
    have hw : (t.besides a o).windowOpen = t.windowOpen := rfl
    have hor : ({ t.besides a o with psf := p } : State).orReg .psfIntStat 0 2
      = (({ t with psf := p } : State).orReg .psfIntStat 0 2).besides a o := rfl
    unfold State.setWindows
    dsimp only
    rw [hw, hor]
    exact ite_besides a o ({ t with psf := p } : State) _
  simp only [State.openRecovery, besides_cfg, besides_fs, h]
  exact ite_besides a o s _

theorem besides_portUp (e v : Nat) : (s.besides a o).portUp e v = (s.portUp e v).besides a o := by
  simp only [State.portUp, besides_port, besides_modPort, besides_fs, besides_linkChanged, ite_besides]

/-- The twin state alone. -/
def inTwin (st : Nat) : State :=
  { s with red := { s.red with state := st, stateSince := s.fs, goodCount := 0, resetAsked := false } }

/-- A member that becomes paired, or ceases to be (R274, R165). -/
def operate (now : Bool) : State :=
  let s := ((s.setRf .glbMode 0 12 12 (b2n now)).orReg .redIntStat 0 1).openRecovery
  if now then s.portUp 520 10 else s.portDown 520 (s.holdMs 520)

theorem setTwin_eq (st : Nat) :
    s.setTwin st = if st = s.red.state then s
      else if s.paired = decide (st = 3) then s.inTwin st else (s.inTwin st).operate (decide (st = 3)) := rfl

theorem besides_operate (now : Bool) : (s.besides a o).operate now = (s.operate now).besides a o := by
  simp only [State.operate, besides_setRf, besides_orReg, besides_openRecovery, besides_portUp, besides_portDown, besides_holdMs,
    ite_besides]

theorem besides_setTwin (st : Nat) : (s.besides a o).setTwin st = (s.setTwin st).besides a o := by
  have hred : (s.besides a o).red = s.red := (rfl)
  have hp : (s.besides a o).paired = s.paired := (rfl)
  have hin : (s.besides a o).inTwin st = (s.inTwin st).besides a o := rfl
  simp only [setTwin_eq, hred, hp, hin, besides_operate, ite_besides]

variable {f : State → State} (h : ∀ s a o, f (s.besides a o) = (f s).besides a o)
include h

/-- What works the same besides other causes and outputs keeps its own. -/
theorem ao_of_besides : (f s).ao = s.ao := by
  have := h s s.ao s.out
  exact (congrArg State.ao this :)

/-- That the chip-level blocks were stirred before makes no difference. -/
theorem bare_stir_of_besides : (f s.stir).bare = (f s).bare := by
  unfold State.stir
  split
  · have hs : ({ s with ao := { s.ao with chipIdle := none } } : State) = s.besides { s.ao with chipIdle := none } s.out := rfl
    rw [hs, h, ← s.ao_of_besides h]
    rfl
  · rfl

/-- What was put out before makes no difference. -/
theorem bare_emit_of_besides (x : Out) : (f (s.emit x)).bare = (f s).bare := by
  have hs : s.emit x = s.besides s.ao (x :: s.out) := rfl
  rw [hs, h, ← s.ao_of_besides h]
  rfl

end State

/-! ### The Coupler's link -/

/-- The Coupler's link as it stands once all lanes have lock (R270). -/
def State.cplLocked (s : State) : State :=
  { s with red := { s.red with cplLink := true, cplLock := 0xFF, cplAligned := 0xFF, seen := 0 } }.orReg .redIntStat 0 4

theorem State.cplUp_comes {s : State} (hl : s.red.cplLink = false) (hc : s.pairedCfg = true) :
    s.cplUp = (s.stir.cplLocked).setTwin 2 := by
  have hn : ¬ (s.red.cplLink = true ∨ ¬ s.pairedCfg = true) := by simp [hl, hc]
  have hred : s.stir.red = s.red := by
    obtain ⟨a, h⟩ := s.stir_shape
    rw [h]
  unfold State.cplUp State.cplLocked
  rw [if_neg hn, hred]

theorem State.besides_cplUp (s : State) (a : AoSt) (o : List Out) :
    ((s.besides a o).cplLocked).setTwin 2 = ((s.cplLocked).setTwin 2).besides a o := s.cplLocked.besides_setTwin a o 2

/-- R270, R274: the Coupler's link comes up and goes down. -/
theorem couplerLink : Rules.CouplerLink := by
  intro s hr
  refine ⟨fun hl hc => ?_, fun h => ?_, fun hl => ?_, fun hl => ?_⟩
  · have up : completes .couplerLinkUp s s.cplUp := completes_event rfl rfl hr (by rw [hl, hc]; rfl)
    rw [State.cplUp_comes hl hc] at up
    exact completes_of_bare up (s.bare_stir_of_besides (f := fun s => s.cplLocked.setTwin 2) State.besides_cplUp)
  · refine completes_not_event rfl rfl ?_
    rcases h with h | h
    · rw [h]
      rfl
    · rw [h, Bool.and_false]
  · exact completes_not_event rfl rfl hl
  · have down : completes .couplerLinkDown s s.cplDown := completes_event rfl rfl hr hl
    intro t u
    have heq : s.cplDown = u.setPort 520 { u.port 520 with tx := none } := by
      unfold State.cplDown
      rw [if_neg (by rw [hl]; simp)]
      have hu : (if s.red.state = 4 ∧ s.red.resetUntil.isNone then t else t.setTwin 1) = u := by
        simp only [Option.isNone_iff_eq_none]
        rfl
      rw [← hu]
      rfl
    rw [heq] at down
    exact down

/-- R273: health frames sent. -/
theorem healthFramesSent : Rules.HealthFramesSent := by
  intro s hr
  have send : completes .healthFrameSend s s.sendHealth := completes_event rfl rfl hr rfl
  refine ⟨fun hd ht => ?_, fun h => ?_⟩
  · rw [State.sendHealth, if_pos ⟨hd, by rw [ht]; rfl⟩] at send
    exact send
  · rw [State.sendHealth, if_neg fun ⟨hd, ht⟩ => h.elim (fun h => by simp [h] at hd) fun h => h (Option.isNone_iff_eq_none.mp ht)]
      at send
    exact send

/-! ### Silence, and partner resets -/

section
variable {s : State}

theorem State.twinSilent_elsewhere (h2 : s.red.state ≠ 2) (h3 : s.red.state ≠ 3) : s.twinSilent = s := by
  unfold State.twinSilent
  exact if_neg fun ⟨h, _⟩ => h.elim h2 h3

theorem State.twinSilent_falls {since : Nat} (hs : s.red.state = 2 ∨ s.red.state = 3)
    (he : max s.red.lastHealth (if s.red.state = 2 then s.red.stateSince else 0) = since) :
    (since + 4000000000 ≤ s.fs → s.twinSilent = { s.setTwin 5 with red := { (s.setTwin 5).red with seen := 0 } })
      ∧ (s.fs < since + 4000000000 → s.twinSilent = s) := by
  subst he
  refine ⟨fun h => ?_, fun h => ?_⟩
  · unfold State.twinSilent
    exact if_pos ⟨hs, h⟩
  · unfold State.twinSilent
    exact if_neg fun ⟨_, hle⟩ => absurd hle (Nat.not_le.mpr h)

end

/-- R274, R283: silence, and partner resets. -/
theorem partnerSilenceAndReset : Rules.PartnerSilenceAndReset := by
  intro s src asks
  have hasks (timed : Bool) : s.startResets timed = asks timed := rfl
  have reset (hs : s.takes src) : completes (.resetPartner src) s (s.resetPartner src) :=
    completes_go (id := .redTwinCtrl) (i := 0) rfl rfl hs rfl (by decide) (by decide) rfl rfl rfl (by cases src <;> decide)
      (by decide) rfl
  refine ⟨fun hr => ?_, fun hs h => ?_, fun hs h => ?_⟩
  · have silent : completes .partnerSilent s s.twinSilent := completes_event rfl rfl hr rfl
    have request : completes .resetRequestSend s s.sendResetReq := completes_event rfl rfl hr rfl
    refine ⟨fun h2 h3 => ?_, fun h3 h => ?_, fun h3 h => ?_, fun h2 h => ?_, fun h2 h => ?_, fun h => ?_, fun h => ?_, fun h => ?_,
      fun t ht h => ?_, fun t ht h htx hreq => ?_⟩
    · rw [State.twinSilent_elsewhere h2 h3] at silent
      exact silent
    · rw [(State.twinSilent_falls (.inr h3) (by rw [h3]; exact Nat.max_zero _)).1 h] at silent
      exact silent
    · rw [(State.twinSilent_falls (.inr h3) (by rw [h3]; exact Nat.max_zero _)).2 h] at silent
      exact silent
    · rw [(State.twinSilent_falls (.inl h2) (by rw [if_pos h2])).1 h] at silent
      exact silent
    · rw [(State.twinSilent_falls (.inl h2) (by rw [if_pos h2])).2 h] at silent
      exact silent
    · exact completes_event rfl rfl hr h
    · exact completes_not_event rfl rfl h
    · unfold State.sendResetReq at request
      rw [h] at request
      exact request
    · unfold State.sendResetReq at request
      rw [ht] at request
      dsimp only at request
      rw [if_pos h] at request
      exact request
    · unfold State.sendResetReq at request
      rw [ht] at request
      dsimp only at request
      rw [if_neg (Nat.not_le.mpr h), if_pos ⟨by rw [htx]; rfl, hreq⟩] at request
      exact request
  · have := reset hs
    rw [State.resetPartner, if_pos h] at this
    exact this
  · have := reset hs
    rw [State.resetPartner, if_neg h] at this
    exact this

/-- Settles O30: what a Coupler coming up has stirred does not show in what it leaves. -/
theorem twinLinkAndResets : Obligations.TwinLinkAndResets := ⟨couplerLink, healthFramesSent, partnerSilenceAndReset⟩

end Sys2Proof.Machine

/-! PROOFS. Frames that end on the wire, low-power idle, links and holds (R53 to R60, R200, R202). -/

namespace Sys2Proof.Machine

namespace State

variable (s : State) (a : AoSt) (o : List Out)

@[simp] theorem besides_countSent (e : Nat) (t : TxFrame) : (s.besides a o).countSent e t = (s.countSent e t).besides a o := by
  simp only [State.countSent, besides_count, besides_countN, ite_besides]

@[simp] theorem besides_raiseCur (e fin : Nat) : (s.besides a o).raiseCur e fin = (s.raiseCur e fin).besides a o := by
  simp only [State.raiseCur, besides_port, besides_modPort, besides_countPort, besides_orReg, ite_besides]

variable {f : State → State} (h : ∀ s a o, f (s.besides a o) = (f s).besides a o)
include h

/-- What works the same besides other outputs puts none out. -/
theorem out_emit_of_besides (x : Out) : (f (s.emit x)).out = x :: s.out := by
  have hs : s.emit x = s.besides s.ao (x :: s.out) := rfl
  rw [hs, h]
  rfl

end State

/-- An event that puts something out. -/
theorem completes_says {c : Instr} {s t u : State} {x : Out} {can : Bool} (he : exec c s = event c can s t) (hw : c.wf = true)
    (hr : s.running = true) (hc : can = true) (hx : x ∈ t.out) (hb : t.bare = u.bare) :
    ∃ v, exec c s = .next v ∧ x ∈ v.out ∧ v.bare = u.bare :=
  ⟨_, exec_out he hw (by rw [hr, hc]; rfl), (State.says_fin s t).mem hx, (State.bare_fin s t).trans hb⟩

/-! ### Underruns -/

section
variable {s : State} {e sent : Nat} {t : TxFrame} (ht : ((s.stampDue e s.fs).port e).tx = some t)
include ht

theorem State.underrun_ended (hb : t.bad = true) :
    s.underrun e sent = if ((s.stampDue e s.fs).port e).cut.isSome then s.stampDue e s.fs
      else (s.stampDue e s.fs).raiseCur e ((s.stampDue e s.fs).lastBit e t.start t.bytes.length) := by
  unfold State.underrun
  dsimp only
  rw [ht]
  dsimp only
  rw [if_pos hb]

/-- What an underrun leaves beside the frame's end on the wire (R53, R54). -/
theorem State.underrun_cuts (hb : t.bad = false) :
    let cut := endInverted e (t.bytes.take sent)
    let fin := (s.stampDue e s.fs).lastBit e t.start cut.length
    s.underrun e sent
      = ((((((s.stampDue e s.fs).endTx e t fin).countPort e 39 1).postTxts e t true).emit (.wire e cut true)).perf (egressPlat e) 13
          (perfPort e) none 1).raiseCur e fin := by
  unfold State.underrun
  dsimp only
  rw [ht]
  dsimp only
  rw [if_neg (by rw [hb]; simp)]

end

/-- R53, R54, R60: underruns. -/
theorem underruns : Rules.Underruns := by
  intro s e sent t0 t he hr h0 u ht tally cut leaves ended cur marked raised
  have hwf : (Instr.txUnderrun e sent).wf = true := by simpa [Instr.wf, isMac] using he
  have hsend : (s.port e).sending = t0.copy.isSome := by
    unfold PortSt.sending
    rw [h0]
  have acts (hc : t0.copy ≠ none) : (s.port e).sending = true := hsend.trans (Option.isSome_iff_ne_none.mpr hc)
  refine ⟨fun hc => completes_not_event rfl hwf (by rw [hsend, hc]; rfl), fun hc hb => ?_, fun hc hb hcut => ?_, fun hc hb hcut => ?_⟩
  · have hraise : (if e < 512 then raised.orReg .platTxstartChg (e / 32) (2 ^ (e % 32)) else raised) = ended.raiseCur e (leaves cut.length) :=
      rfl
    have comm (s : State) (a : AoSt) (o : List Out) :
        ((s.besides a o).perf (egressPlat e) 13 (perfPort e) none 1).raiseCur e (leaves cut.length)
          = ((s.perf (egressPlat e) 13 (perfPort e) none 1).raiseCur e (leaves cut.length)).besides a o := by
      rw [State.besides_perf, State.besides_raiseCur]
    obtain ⟨x, hx, hended⟩ : ∃ x : State, s.underrun e sent
        = ((x.emit (.wire e cut true)).perf (egressPlat e) 13 (perfPort e) none 1).raiseCur e (leaves cut.length)
          ∧ x.perf (egressPlat e) 13 (perfPort e) none 1 = ended := ⟨_, State.underrun_cuts ht hb, rfl⟩
    rw [hraise, ← hended]
    refine completes_says (t := s.underrun e sent) rfl hwf hr (acts hc) ?_ ?_
    · rw [hx, x.out_emit_of_besides
        (f := fun s => (s.perf (egressPlat e) 13 (perfPort e) none 1).raiseCur e (leaves cut.length)) comm]
      exact List.mem_cons_self
    · rw [hx]
      exact x.bare_emit_of_besides
        (f := fun s => (s.perf (egressPlat e) 13 (perfPort e) none 1).raiseCur e (leaves cut.length)) comm _
  · have := completes_event (c := .txUnderrun e sent) (t := s.underrun e sent) rfl hwf hr (acts hc)
    rw [State.underrun_ended ht hb, if_pos (Option.isSome_iff_ne_none.mpr hcut)] at this
    exact this
  · have := completes_event (c := .txUnderrun e sent) (t := s.underrun e sent) rfl hwf hr (acts hc)
    rw [State.underrun_ended ht hb, if_neg (by rw [hcut]; simp)] at this
    exact this

/-! ### Frames that end -/

theorem State.completeTx_ends {s : State} {e : Nat} {x : TxFrame} (hx : ((s.stampTx e).port e).tx = some x) :
    let y := (s.stampTx e).endTx e x ((s.stampTx e).lastBit e x.start x.bytes.length)
    s.completeTx e = ((if x.bad then y else y.countSent e x).postTxts e x x.bad).emit (.wire e x.bytes x.bad) := by
  unfold State.completeTx
  dsimp only
  rw [hx]

section
variable {s : State} {e : Nat} {t : TxFrame} (ht : (s.port e).tx = some t)
include ht

theorem State.noteFirst_noted (h : s.boot.first = true ∨ t.copy = none ∨ t.bad = true) : s.noteFirst e = s := by
  have hno : s.boot.first = true ∨ ¬ (s.port e).sendingWhole = true := by
    rcases h with h | h | h
    · exact .inl h
    · exact .inr (by rw [PortSt.sendingWhole, ht]; simp [h])
    · exact .inr (by rw [PortSt.sendingWhole, ht]; simp [h])
  unfold State.noteFirst
  rw [if_pos hno]

theorem State.noteFirst_first (hf : s.boot.first = false) (hc : t.copy ≠ none) (hb : t.bad = false) :
    s.noteFirst e =
      { (s.setReg .bootTFirst 0 (Word.ofNat ((s.fs - s.boot.riseAt) / fsPerMs))).orReg .bootIntStat 0 2 with
        boot := { s.boot with first := true } } := by
  have hno : ¬ (s.boot.first = true ∨ ¬ (s.port e).sendingWhole = true) := by
    rw [PortSt.sendingWhole, ht]
    simp [hf, hb, Option.isSome_iff_ne_none.mpr hc]
  unfold State.noteFirst
  rw [if_neg hno]
  rfl

end

/-- R60, R305, R433: frames that end. -/
theorem framesEnd : Rules.FramesEnd := by
  intro s e t he hr ht gone done
  have hwf : (Instr.txFrameComplete e).wf = true := by simpa [Instr.wf, isMac] using he
  have hover : s.txOver e = decide gone := by
    unfold State.txOver
    rw [ht]
    rfl
  have ends {n : State} (hg : gone) (hn : s.noteFirst e = n) : done n := by
    intro x hx y
    have heq := State.completeTx_ends hx
    rw [← hn] at heq
    refine completes_says (t := (s.noteFirst e).completeTx e) rfl hwf hr (hover.trans (decide_eq_true hg)) ?_ ?_
    · rw [heq]
      exact List.mem_cons_self
    · rw [heq, hn]
      exact State.bare_emit _ _
  exact ⟨fun hg => completes_not_event rfl hwf (hover.trans (decide_eq_false hg)),
    fun hg h => ends hg (State.noteFirst_noted ht h), fun hg hf hc hb => ends hg (State.noteFirst_first ht hf hc hb)⟩

/-- R54, R60: an underrun that a link down overtakes. -/
theorem underrunOvertaken : Rules.UnderrunOvertaken := by
  intro s e fin cur raised he hcut c b back
  have hun (x : State) (slot : Nat) : x.uncountPort e slot = back x slot := if_pos he
  have hcount (x : State) : x.countPort e 40 1 = x.countN .plat e 40 1 := if_pos he
  have hrise : s.undoRise e = if fin ≤ s.fs then (c, false) else (if raised then b.uncountPort e 53 else b, true) := by
    unfold State.undoRise
    rw [hcut]
    rfl
  refine ⟨fun h => ?_, fun h => ?_⟩
  · unfold State.undoUnderrun
    rw [hrise, if_pos h]
  · unfold State.undoUnderrun
    rw [hrise, if_neg (Nat.not_le.mpr h)]
    dsimp only
    rw [hun, hun, hcount]

/-! ### Low-power idle -/

/-- R57, R58, R225, R450: low-power idle. -/
theorem lowPowerIdle : Rules.LowPowerIdle := by
  intro s e he hr p
  have hwf (c : Instr) (h : c = .lpiEntry e ∨ c = .lpiLeadWake e ∨ c = .receiveLpiChange e true ∨ c = .receiveLpiChange e false) :
      c.wf = true := by
    rcases h with rfl | rfl | rfl | rfl <;> exact decide_eq_true he
  refine ⟨fun h => completes_not_event rfl (hwf _ (by simp)) h, fun h => completes_event rfl (hwf _ (by simp)) hr h,
    fun h => completes_not_event rfl (hwf _ (by simp)) h, fun h => completes_event rfl (hwf _ (by simp)) hr h,
    fun h on => completes_not_event rfl (hwf _ (by cases on <;> simp)) h, fun h hl => ?_, fun h => ?_⟩
  · have := completes_event (c := .receiveLpiChange e true) (t := s.rxLpi e true) rfl (hwf _ (by simp)) hr h
    unfold State.rxLpi State.countIf at this
    rw [show (s.port e).rxLpi = false from hl] at this
    have hport : (s.count .plat e 24).port e = p := congrArg (fun l : Store PortSt => Store.get ({} : PortSt) l e) (s.count_ports .plat e 24)
    rw [← hport]
    exact this
  · exact completes_event (c := .receiveLpiChange e false) (t := s.rxLpi e false) rfl (hwf _ (by simp)) hr h

/-! ### Links and holds -/

/-- R59, R60, R186, R200, R202: a line port's link. -/
theorem links : Rules.Links := by
  intro s e he hr p
  have hwf (lf rf : Bool) : (Instr.linkDown e lf rf).wf = true := decide_eq_true he
  have hchg (x : State) : x.linkChanged e = x.orReg .platLinkChg (e / 32) (2 ^ (e % 32)) := if_pos he
  have down (lf rf : Bool) (h : s.seesFaults e = true) := completes_event (c := .linkDown e lf rf)
    (t := (s.portDown e (s.holdMs e)).modPort e fun p => { p with localFault := lf, remoteFault := rf }) rfl (hwf lf rf) hr h
  refine ⟨fun v hv h => ?_, fun v hv hl h => ?_, fun lf rf hl h => ?_, fun lf rf hl he' hp => ?_, fun lf rf hl => ?_⟩
  · refine completes_not_event rfl (by simp [Instr.wf, isLine_of_lt he, hv]) ?_
    rcases h with h | h
    · rw [show (s.port e).link = true from h]
      exact Bool.and_false _
    · rw [h]
      rfl
  · have up := completes_event (c := .linkUp e v) (t := s.portUp e v) rfl (by simp [Instr.wf, isLine_of_lt he, hv]) hr
      (by rw [h, show (s.port e).link = false from hl]; rfl)
    unfold State.portUp at up
    rw [if_neg (by rw [show (s.port e).link = false from hl]; simp)] at up
    dsimp only at up
    rw [hchg] at up
    exact up
  · refine completes_not_event rfl (hwf lf rf) ?_
    unfold State.seesFaults
    rw [show (s.port e).link = false from hl]
    rcases h with h | h <;> simp [h]
  · have := down lf rf (by unfold State.seesFaults; simp [he', hp])
    unfold State.portDown at this
    rw [if_neg (by rw [show (s.port e).link = false from hl]; simp)] at this
    exact this
  · have hdown := down lf rf (by unfold State.seesFaults; rw [show (s.port e).link = true from hl]; rfl)
    intro a q d d'
    have hfs : a.fs = s.fs := State.fs_of_apart (by simp only [a, State.apart_returnUntimed, State.apart_abortTx, State.apart_abortRx])
    have heq : s.portDown e (s.holdMs e) = d' := by
      unfold State.portDown
      rw [if_pos hl]
      dsimp only
      rw [hchg, show (((s.abortRx e).abortTx e).returnUntimed e).fs = s.fs from hfs]
      rfl
    rw [heq] at hdown
    exact hdown

/-- R200, R202: holds. -/
theorem holds : Rules.Holds := by
  intro s e he hr p
  have hwf : (Instr.holdExpiry e).wf = true := by simpa [Instr.wf, isMac] using he
  have hwfc {c : Nat} (hc : c < 8) : (Instr.deadlineDrop e c).wf = true := by simpa [Instr.wf, isMac, hc] using he
  refine ⟨fun h => ⟨?_, fun c hc => ?_⟩, fun t h => ⟨fun hlt => ?_, fun hle => ?_, fun c hc => ?_⟩⟩
  · exact completes_not_event rfl hwf (by rw [show (s.port e).hold = none from h])
  · exact completes_not_event rfl (hwfc hc) (by rw [show (s.port e).hold = none from h]; rfl)
  · exact completes_not_event rfl hwf (by rw [show (s.port e).hold = some t from h]; exact decide_eq_false (Nat.not_le.mpr hlt))
  · intro f f'
    have := completes_event (c := .holdExpiry e) (t := s.expireHold e) rfl hwf hr
      (by rw [show (s.port e).hold = some t from h]; exact decide_eq_true hle)
    have hfs : f.fs = s.fs := State.fs_of_apart (s.apart_flushPort e)
    have heq : s.expireHold e = (f'.orReg .tmIntStat 0 2).forgetPort e := by
      unfold State.expireHold
      dsimp only
      rw [show (s.flushPort e).fs = s.fs from hfs]
      rfl
    rw [heq] at this
    exact this
  · have late := completes_event (c := .deadlineDrop e c) (t := s.dropLate e c ((p.queue c).copies.length)) rfl (hwfc hc) hr
      (by rw [show (s.port e).hold = some t from h]; rfl)
    refine ⟨late, fun x rest d hq hd hle => ?_⟩
    have hsame : s.dropLate e c ((p.queue c).copies.length) = s := by
      rw [hq, List.length_cons, State.dropLate, show ((s.port e).queue c).copies = x :: rest from hq]
      dsimp only
      rw [hd]
      exact if_neg (Nat.not_lt.mpr hle)
    rw [hsame] at late
    exact late

/-- Settles O59, by what a frame leaves at its end, at an underrun or as its link goes down. -/
theorem wireAndLinks : Obligations.WireAndLinks :=
  ⟨underruns, framesEnd, underrunOvertaken, lowPowerIdle, links, holds⟩

end Sys2Proof.Machine

/-! PROOFS. What the data plane leaves of the words of the Signal Box: a register that it does not write reads on as it did, where
its store is canonical, or where it lists the register's word. -/

namespace Sys2Proof.Machine

/-- A write at another key leaves the reading of a key that is listed, whatever the order of the list. -/
theorem Store.get_set_listed {α : Type} [DecidableEq α] {m : Store α} {e : α} {c k : Nat} (hc : Store.get e m c ≠ e) (hk : c ≠ k)
    (d v : α) : Store.get e (Store.set d m k v) c = Store.get e m c := by
  unfold Store.set
  split
  · induction m with
    | nil => exact absurd rfl hc
    | cons x r ih =>
      obtain ⟨j, u⟩ := x
      simp only [Store.get] at hc
      rw [Store.del]
      by_cases hcj : c = j
      · rw [if_neg (by omega : ¬ k = j)]
        split <;> simp only [Store.get, if_pos hcj]
      · have hlt : ¬ c < j := fun h => hc (by rw [if_neg hcj, if_pos h])
        rw [if_neg hcj, if_neg hlt] at hc
        split
        · simp only [Store.get, if_neg hcj, if_neg hlt]
        · split
          · rfl
          · simp only [Store.get, if_neg hcj, if_neg hlt, ih hc]
  · induction m with
    | nil => exact absurd rfl hc
    | cons x r ih =>
      obtain ⟨j, u⟩ := x
      simp only [Store.get] at hc
      rw [Store.put]
      by_cases hcj : c = j
      · rw [if_neg (by omega : ¬ k = j)]
        split
        · simp only [Store.get, if_neg hk, if_neg (by omega : ¬ c < k)]
        · simp only [Store.get, if_pos hcj]
      · have hlt : ¬ c < j := fun h => hc (by rw [if_neg hcj, if_pos h])
        rw [if_neg hcj, if_neg hlt] at hc
        split
        · simp only [Store.get, if_neg hk, if_neg (by omega : ¬ c < k), if_neg hcj, if_neg hlt]
        · split
          · simp only [Store.get, if_neg hk, if_neg (by omega : ¬ c < k)]
          · simp only [Store.get, if_neg hcj, if_neg hlt, ih hc]

/-- A register that the data plane does not write. -/
def RegId.ofPlane (id : RegId) : Bool := id ≠ .safStat && id ≠ .safLifeHalts && id ≠ .safCfg

/-- A fact about a state that is of its register words alone, and that no write of another register than `reg` ends. -/
structure Steady where
  /-- The fact. -/
  holds : State → Prop
  /-- The register whose writes may end it. -/
  reg : RegId
  box : reg.ofPlane = false
  same : ∀ {s t : State}, holds s → t.regs = s.regs → holds t
  write : ∀ {s : State} {id : RegId} {i : Nat} {w : Word}, id ≠ reg → holds s → holds (s.setReg id i w)

namespace Steady

/-- A register's word in a canonical store. -/
def reads (id : RegId) (h : id.ofPlane = false) (i : Nat) (w : Word) : Steady where
  holds s := regsCanonical s.regs ∧ s.reg id i = w
  reg := id
  box := h
  same h e := by
    unfold State.reg
    rw [e]
    exact h
  write hne h := ⟨State.regsCanonical_setReg h.1 _ _ _, (State.reg_setReg_ne h.1 _ (.inl hne.symm)).trans h.2⟩

/-- A word that is not the register's cold one, in any store. -/
def warm (id : RegId) (h : id.ofPlane = false) (i : Nat) (w : Word) : Steady where
  holds s := s.reg id i = w ∧ w ≠ coldWord id i
  reg := id
  box := h
  same h e := by
    unfold State.reg
    rw [e]
    exact h
  write hne h := by
    refine ⟨(Store.get_set_listed ?_ (regKey_ne (.inl hne.symm)) ..).trans h.1, h.2⟩
    rw [← h.1] at h
    exact h.2

variable {K : Steady} {s : State}

theorem plane {id : RegId} (h : K.holds s) (i : Nat) (w : Word) (hid : id.ofPlane = true := by rfl) : K.holds (s.setReg id i w) :=
  K.write (fun e => by rw [e, K.box] at hid; exact Bool.false_ne_true hid) h

/-! ### Words, counters, ports and cells -/

@[simp] theorem setPort (h : K.holds s) (n : Nat) (p : PortSt) : K.holds (s.setPort n p) := K.same h rfl
@[simp] theorem modPort (h : K.holds s) (n : Nat) (f : PortSt → PortSt) : K.holds (s.modPort n f) := K.same h rfl
@[simp] theorem setPlat (h : K.holds s) (n : Nat) (p : Plat) : K.holds (s.setPlat n p) := K.same h rfl
@[simp] theorem modPlat (h : K.holds s) (n : Nat) (f : Plat → Plat) : K.holds (s.modPlat n f) := K.same h rfl
@[simp] theorem setQueue (h : K.holds s) (e c : Nat) (q : Queue) : K.holds (s.setQueue e c q) := K.same h rfl
@[simp] theorem setCopies (h : K.holds s) (e c : Nat) (l : List Copy) : K.holds (s.setCopies e c l) := K.same h rfl
@[simp] theorem setRef (h : K.holds s) (r : CellRef) : K.holds (s.setRef r) := K.same h rfl
@[simp] theorem emit (h : K.holds s) (o : Out) : K.holds (s.emit o) := K.same h rfl
@[simp] theorem touchTx (h : K.holds s) (e : Nat) : K.holds (s.touchTx e) := K.same h rfl
@[simp] theorem dropImage (h : K.holds s) (p no : Nat) : K.holds (s.dropImage p no) := K.same h rfl
@[simp] theorem notePerf (h : K.holds s) (p k n : Nat) (w : Bool) : K.holds (s.notePerf p k n w) := K.same h rfl
@[simp] theorem passEnded (h : K.holds s) (f : Frame) : K.holds (s.passEnded f) := K.same h rfl
@[simp] theorem setWin (h : K.holds s) (n : Nat) (x : RecWin) : K.holds (s.setWin n x) := K.same h rfl
@[simp] theorem rankImage (h : K.holds s) (f : Frame) (n : Nat) : K.holds (s.rankImage f n) := K.same h rfl
@[simp] theorem setPps (h : K.holds s) (n : Nat) (x : PpsOut) : K.holds (s.setPps n x) := K.same h rfl

/-- No half-range bit is the Signal Box's own. -/
theorem halfBit_ofPlane {b : CntBank} {u i j bit : Nat} {id : RegId} (h : halfBit b u i = some (id, j, bit)) :
    id.ofPlane = true := by
  cases b <;> simp only [halfBit, Option.some.injEq, Prod.mk.injEq, reduceCtorEq] at h <;> obtain ⟨rfl, -, -⟩ := h <;> rfl

@[simp] theorem setCounter (h : K.holds s) (b : CntBank) (u i v : Nat) : K.holds (s.setCounter b u i v) := by
  rw [State.setCounter_eq]
  have half : K.holds { s with regs := s.halfRegs b u i v } := by
    unfold State.halfRegs
    split
    · exact h
    · split
      · next hb => exact K.same (plane h _ _ (halfBit_ofPlane hb)) rfl
      · exact h
  exact K.same half rfl

@[simp] theorem countN (h : K.holds s) (b : CntBank) (u i n : Nat) : K.holds (s.countN b u i n) := by
  rw [State.countN]
  exact setCounter h ..

@[simp] theorem count (h : K.holds s) (b : CntBank) (u i : Nat) : K.holds (s.count b u i) := by
  rw [State.count]
  exact countN h ..

/-- What holds either way. -/
@[simp] theorem ite {c : Prop} [Decidable c] {t : State} (h : K.holds s) (h' : K.holds t) : K.holds (if c then s else t) := by
  split
  · exact h
  · exact h'

@[simp] theorem countIf (h : K.holds s) (c : Bool) (b : CntBank) (u i : Nat) : K.holds (s.countIf c b u i) := by
  unfold State.countIf
  exact ite (count h b u i) h

theorem foldl {β : Type} {f : State → β → State} (hf : ∀ {s} b, K.holds s → K.holds (f s b)) (l : List β) {s : State}
    (h : K.holds s) : K.holds (l.foldl f s) := by
  induction l generalizing s with
  | nil => exact h
  | cons b l ih => exact ih (hf b h)

@[simp] theorem perfBump (h : K.holds s) (p k n : Nat) : K.holds (s.perfBump p k n) := by
  obtain ⟨⟨lo, hi, i⟩, hr⟩ : ∃ r, perfRegs p k = r := ⟨_, rfl⟩
  have hids : lo.ofPlane = true ∧ hi.ofPlane = true := by
    unfold perfRegs at hr
    split at hr <;> cases hr <;> exact ⟨rfl, rfl⟩
  rw [State.perfBump_eq s p k n hr]
  have hset (v : Nat) {t : State} (ht : K.holds t) : K.holds (t.setPerf48 lo hi i v) := plane (plane ht _ _ hids.1) _ _ hids.2
  have hwrap (v lim : Nat) {t : State} (ht : K.holds t) : K.holds (t.perfWraps p k v lim) := by
    have hovf : K.holds (t.orReg .platPerfOvf p (2 ^ k)) := plane ht ..
    unfold State.perfWraps
    exact ite ht (ite hovf (ite hovf (modPlat (plane hovf (id := .platPerfCtrl) ..) _ _)))
  exact ite h (hwrap _ _ (hset _ (notePerf h ..)))

@[simp] theorem perf (h : K.holds s) (p ev : Nat) (port cls : Option Nat) (n : Nat) : K.holds (s.perf p ev port cls n) := by
  unfold State.perf
  exact ite h (foldl (fun k h => ite (perfBump h p k n) h) _ h)

@[simp] theorem agg (h : K.holds s) (i n : Nat) : K.holds (s.agg i n) := by
  unfold State.agg
  refine ite ?_ h
  exact plane (id := .perfAggHi) (plane (id := .perfAggLo) h ..) ..

@[simp] theorem setShared (h : K.holds s) (n : Nat) : K.holds (s.setShared n) := by
  unfold State.setShared
  extract_lets before t free low alarm
  have ht : K.holds t := K.same h rfl
  have hlow : K.holds low := ite (plane (id := .tmPoolLow) ht ..) ht
  exact ite (plane (id := .tmIntStat) hlow ..) hlow

@[simp] theorem takeShared (h : K.holds s) (n : Nat) : K.holds (s.takeShared n) := setShared h _
@[simp] theorem giveShared (h : K.holds s) (n : Nat) : K.holds (s.giveShared n) := setShared h _

@[simp] theorem creditAcct (h : K.holds s) (port x sh hd : Nat) : K.holds (s.creditAcct port x sh hd) :=
  giveShared (modPort h ..) _

@[simp] theorem moveStaging (h : K.holds s) (plat port : Nat) (acct : Option Nat) (c : Charge) (take : Nat) :
    K.holds (s.moveStaging plat port acct c take) := by
  unfold State.moveStaging
  extract_lets t u v give
  have hu : K.holds u := K.same h rfl
  have hv : K.holds v := by
    unfold v
    split
    · exact modPort hu ..
    · exact hu
  exact ite hv (setShared hv _)

@[simp] theorem unstage (h : K.holds s) (f : Frame) (n : Nat) : K.holds (s.unstage f n) := moveStaging h ..
@[simp] theorem freeFrame (h : K.holds s) (f : Frame) : K.holds (s.freeFrame f) := unstage h ..
@[simp] theorem settleImage (h : K.holds s) (plat no : Nat) : K.holds (s.settleImage plat no) := by
  unfold State.settleImage
  exact ite h (dropImage h ..)

@[simp] theorem chargeCapture (h : K.holds s) (no : Nat) : K.holds (s.chargeCapture no) := by
  unfold State.chargeCapture
  split
  · exact ite (takeShared (setRef h _) _) h
  · exact h

@[simp] theorem freeCapture (h : K.holds s) (no : Nat) : K.holds (s.freeCapture no) := by
  unfold State.freeCapture
  split
  · exact h
  · exact setRef (ite (giveShared h _) h) _

@[simp] theorem release (h : K.holds s) (x : Copy) : K.holds (s.release x).1 := by
  unfold State.release
  dsimp only
  cases x.pool with
  | reservation => exact ite (chargeCapture (setQueue h ..) _) (setQueue h ..)
  | shared => exact ite (chargeCapture (giveShared (setQueue h ..) _) _) (giveShared (setQueue h ..) _)
  | fixed => exact h
  | account =>
    cases s.ref x.frame.no with
    | none => exact h
    | some r =>
      dsimp only
      split
      · cases r.acct with
        | none => exact chargeCapture (setRef h _) _
        | some a => exact chargeCapture (setRef (creditAcct h ..) _) _
      · exact setRef h _

@[simp] theorem dropCopy (h : K.holds s) (x : Copy) : K.holds (s.dropCopy x) := by
  have hr : K.holds ((s.touchTx x.port).release x).1 := release (touchTx h _) x
  unfold State.dropCopy
  dsimp only
  split
  · exact hr
  · split
    · exact settleImage (setRef hr _) ..
    · exact settleImage hr ..

/-! ### Queues, credits and frames in transmission -/

@[simp] theorem forwardCredit (h : K.holds s) (e c : Nat) : K.holds (s.forwardCredit e c) := by
  unfold State.forwardCredit State.forwardCreditTo
  exact ite (setQueue h ..) h

@[simp] theorem cutCopies (h : K.holds s) (e c : Nat) (l : List Copy) : K.holds (s.cutCopies e c l) :=
  setCopies (forwardCredit h e c) ..

@[simp] theorem link (h : K.holds s) (x : Copy) : K.holds (s.link x) :=
  perf (count (setCopies (forwardCredit h ..) ..) ..) ..

@[simp] theorem correct (h : K.holds s) (e : Nat) (b : List Byte) (o : Nat) (udp v4 : Bool) (add : Int) :
    K.holds (s.correct e b o udp v4 add).1 := countIf h ..

@[simp] theorem putTcRec (h : K.holds s) (p : Nat) (r : TcRec) : K.holds (s.putTcRec p r) := by
  unfold State.putTcRec
  dsimp only
  split
  · exact count (modPlat (count h ..) ..) ..
  · exact count (modPlat h ..) ..

@[simp] theorem tcApply (h : K.holds s) (f : Frame) (e cross : Nat) (shift : Int) (b : List Byte) :
    K.holds (s.tcApply f e cross shift b).1 := by
  unfold State.tcApply
  extract_lets c r
  split
  · exact h
  · extract_lets o p tcEn
    split
    · exact h
    · split
      · exact h
      · extract_lets
        split
        · split
          · exact putTcRec h ..
          · exact correct (count h ..) ..
        · split
          · exact correct (count h ..) ..
          · split
            · split
              · exact count h ..
              · exact correct (count (modPlat h ..) ..) ..
            · exact h

@[simp] theorem stampDue (h : K.holds s) (e now : Nat) : K.holds (s.stampDue e now) := by
  have stampTx : K.holds (s.stampTx e) := by
    unfold State.stampTx
    dsimp only
    split
    · exact h
    · split
      · exact ite (modPort (tcApply h ..) ..) h
      · exact h
  unfold State.stampDue
  repeat' split
  · exact stampTx
  all_goals exact h

@[simp] theorem cutTx (h : K.holds s) (e : Nat) : K.holds (s.cutTx e) := by
  unfold State.cutTx
  dsimp only
  split
  · exact stampDue h ..
  · exact K.same (stampDue h e s.fs) rfl

end Steady

end Sys2Proof.Machine

/-! PROOFS. The fail-silent halt: what it does to ports, pins and the Signal Box's words (R470 to R474, R478). -/

namespace Sys2Proof.Machine

/-! ### Ports one by one -/

/-- A key that a store does not list reads the default. -/
theorem Store.get_unlisted {α : Type} (d : α) {m : Store α} {k : Nat} (h : ∀ x ∈ m, x.1 ≠ k) : Store.get d m k = d := by
  induction m with
  | nil => rfl
  | cons x r ih =>
    obtain ⟨j, u⟩ := x
    have hj : k ≠ j := fun e => h (j, u) List.mem_cons_self e.symm
    simp only [Store.get, if_neg hj, ih fun x hx => h x (List.mem_cons_of_mem _ hx)]
    exact ite_self _

namespace State

variable {s : State}

theorem port_setPort_self (h : s.ports.wf {} = true) (n : Nat) (p : PortSt) : (s.setPort n p).port n = p :=
  Store.get_set_self _ _ _ _ h

theorem port_setPort_ne (h : s.ports.wf {} = true) {n m : Nat} (hm : m ≠ n) (p : PortSt) : (s.setPort n p).port m = s.port m :=
  Store.get_set_ne _ _ _ hm h

theorem wf_setPort (h : s.ports.wf {} = true) (n : Nat) (p : PortSt) : (s.setPort n p).ports.wf {} = true :=
  Store.wf_set _ _ _ _ h

/-- What changes one port at most. -/
def onlyPort (e : Nat) (s t : State) : Prop :=
  s.ports.wf {} = true → t.ports.wf {} = true ∧ ∀ n, n ≠ e → t.port n = s.port n

theorem onlyPort_of_ports {e : Nat} {t : State} (h : t.ports = s.ports) : onlyPort e s t := by
  intro hw
  refine ⟨by rw [h]; exact hw, fun n _ => ?_⟩
  unfold State.port
  rw [h]

theorem onlyPort.trans {e : Nat} {t u : State} (h : onlyPort e s t) (h' : onlyPort e t u) : onlyPort e s u := fun hw =>
  ⟨(h' (h hw).1).1, fun n hn => ((h' (h hw).1).2 n hn).trans ((h hw).2 n hn)⟩

theorem onlyPort_modPort (e : Nat) (f : PortSt → PortSt) : onlyPort e s (s.modPort e f) := fun hw =>
  ⟨wf_setPort hw e _, fun _ hn => port_setPort_ne hw hn _⟩

theorem tcApply_ports (s : State) (f : Frame) (e cross : Nat) (shift : Int) (b : List Byte) :
    (s.tcApply f e cross shift b).1.ports = s.ports := by
  have put (s : State) (p : Nat) (r : TcRec) : (s.putTcRec p r).ports = s.ports := by
    unfold State.putTcRec
    dsimp only
    split
    · exact (State.count_ports ..).trans (s.count_ports ..)
    · exact State.count_ports ..
  have corr (s : State) (e : Nat) (b : List Byte) (o : Nat) (udp v4 : Bool) (add : Int) :
      (s.correct e b o udp v4 add).1.ports = s.ports := by
    change (s.countIf _ _ _ _).ports = _
    unfold State.countIf
    split
    · exact State.count_ports ..
    · rfl
  unfold State.tcApply
  extract_lets c r
  split
  · rfl
  · extract_lets o p tcEn
    split
    · rfl
    · split
      · rfl
      · extract_lets
        split
        · split
          · exact put ..
          · exact (corr ..).trans (s.count_ports ..)
        · split
          · exact (corr ..).trans (s.count_ports ..)
          · split
            · split
              · exact s.count_ports ..
              · exact (corr ..).trans (State.count_ports ..)
            · rfl

theorem onlyPort_stampDue (e now : Nat) : onlyPort e s (s.stampDue e now) := by
  have stampTx : onlyPort e s (s.stampTx e) := by
    unfold State.stampTx
    dsimp only
    split
    · exact onlyPort_of_ports rfl
    · split
      · split
        · exact (onlyPort_of_ports (s.tcApply_ports ..)).trans (onlyPort_modPort e _)
        · exact onlyPort_of_ports rfl
      · exact onlyPort_of_ports rfl
  unfold State.stampDue
  split
  · split
    · exact stampTx
    · exact onlyPort_of_ports rfl
  · exact onlyPort_of_ports rfl

/-- A frame in transmission that has crossed no stamp point is not stamped. -/
theorem stampDue_early {e now : Nat} {t : TxFrame} (h : (s.port e).tx = some t) (hc : now ≤ t.cross) : s.stampDue e now = s := by
  unfold State.stampDue
  rw [h]
  exact if_neg (Nat.not_lt.mpr hc)

theorem stampDue_idle {e now : Nat} (h : (s.port e).tx = none) : s.stampDue e now = s := by
  unfold State.stampDue
  rw [h]

/-! ### Frames cut -/

theorem cutTx_none {e : Nat} (h : ((s.stampDue e s.fs).port e).tx = none) : s.cutTx e = s.stampDue e s.fs := by
  unfold State.cutTx
  dsimp only
  rw [h]

theorem cutTx_some {e : Nat} {t : TxFrame} (h : ((s.stampDue e s.fs).port e).tx = some t) :
    s.cutTx e = (({ s.stampDue e s.fs with free := (s.stampDue e s.fs).free + 1 } : State).modPort e fun p => { p with tx := none }).emit
      (.wire e (endInverted e (t.bytes.take (Config.freeValue (s.stampDue e s.fs).free % (t.bytes.length + 1)))) true) := by
  unfold State.cutTx
  dsimp only
  rw [h]
  rfl

theorem onlyPort_cutTx (e : Nat) : onlyPort e s (s.cutTx e) := by
  cases h : ((s.stampDue e s.fs).port e).tx with
  | none =>
    rw [cutTx_none h]
    exact onlyPort_stampDue e s.fs
  | some t =>
    rw [cutTx_some h]
    exact (onlyPort_stampDue e s.fs).trans (onlyPort_modPort (s := s.stampDue e s.fs) e fun p => { p with tx := none })

theorem cutTx_tx (hw : s.ports.wf {} = true) (e : Nat) : ((s.cutTx e).port e).tx = none := by
  cases h : ((s.stampDue e s.fs).port e).tx with
  | none => rw [cutTx_none h, h]
  | some t =>
    rw [cutTx_some h]
    exact congrArg PortSt.tx (port_setPort_self (s := { s.stampDue e s.fs with free := (s.stampDue e s.fs).free + 1 })
      (onlyPort_stampDue e s.fs hw).1 e _)

@[simp] theorem apart_cutTx (s : State) (e : Nat) : (s.cutTx e).apart = s.apart := by
  cases h : ((s.stampDue e s.fs).port e).tx with
  | none => rw [cutTx_none h, apart_stampDue]
  | some t =>
    rw [cutTx_some h]
    exact s.apart_stampDue e s.fs

end State

/-- R53, R470: what a halt sends for a frame that was in transmission. -/
theorem haltCutsFrames : Rules.HaltCutsFrames := by
  intro s e t hw ht hc
  have hstamp := State.stampDue_early ht hc
  have hcut := State.cutTx_some (s := s) (e := e) (t := t) (by rw [hstamp, ht])
  rw [hstamp] at hcut
  refine ⟨Config.freeValue s.free % (t.bytes.length + 1), Nat.lt_succ_iff.mp (Nat.mod_lt _ (Nat.succ_pos _)), State.cutTx_tx hw e, ?_⟩
  rw [hcut]
  rfl

/-! ### Lanes, outputs and pins -/

/-- A line port in electrical idle (R470). -/
def PortSt.idled (p : PortSt) : PortSt := { p with link := false, speed := 0, txLpi := false, rxLpi := false, rx := none }

namespace State

variable {s : State}

/-- The line ports of a list in electrical idle. -/
def idlePorts (s : State) (l : List (Nat × PortSt)) : State :=
  l.foldl (fun s x => if x.1 < 512 then s.modPort x.1 PortSt.idled else s) s

theorem idlePorts_port (l : List (Nat × PortSt)) (hw : s.ports.wf {} = true) (n : Nat) :
    (s.idlePorts l).port n = if n < 512 ∧ ∃ x ∈ l, x.1 = n then (s.port n).idled else s.port n := by
  induction l generalizing s with
  | nil => exact (if_neg (by simp)).symm
  | cons x l ih =>
    unfold idlePorts at ih ⊢
    rw [List.foldl_cons]
    by_cases hx : x.1 < 512
    · rw [if_pos hx, ih (s := s.modPort x.1 PortSt.idled) (wf_setPort hw _ _)]
      by_cases hn : n = x.1
      · subst hn
        have hself : (s.modPort x.1 PortSt.idled).port x.1 = (s.port x.1).idled := port_setPort_self hw _ _
        rw [hself, if_pos (⟨hx, x, List.mem_cons_self, rfl⟩ : x.1 < 512 ∧ ∃ y ∈ x :: l, y.1 = x.1)]
        split
        · rfl
        · rfl
      · have hne : (s.modPort x.1 PortSt.idled).port n = s.port n := port_setPort_ne hw hn _
        rw [hne]
        refine ite_congr (propext ?_) (fun _ => rfl) fun _ => rfl
        simp [Ne.symm hn]
    · rw [if_neg hx, ih hw]
      refine ite_congr (propext ?_) (fun _ => rfl) fun _ => rfl
      simp only [List.mem_cons, exists_eq_or_imp]
      constructor
      · exact fun ⟨h, h'⟩ => ⟨h, .inr h'⟩
      · exact fun ⟨h, h'⟩ => ⟨h, h'.resolve_left fun e => hx (e ▸ h)⟩

theorem idleLanes_eq (s : State) :
    s.idleLanes = { s.idlePorts s.ports with
      red := { (s.idlePorts s.ports).red with cplLink := false, cplLock := 0, cplAligned := 0 } } := rfl

theorem apart_idlePorts (s : State) (l : List (Nat × PortSt)) : (s.idlePorts l).apart = s.apart :=
  foldl_keeps (g := State.apart) (fun s x => by split <;> rfl) _ _

theorem port_unlisted {n : Nat} (h : ¬ ∃ x ∈ s.ports, x.1 = n) : s.port n = {} :=
  Store.get_unlisted _ fun x hx e => h ⟨x, hx, e⟩

theorem idleLanes_port (hw : s.ports.wf {} = true) (n : Nat) :
    s.idleLanes.port n = if n < 512 then (s.port n).idled else s.port n := by
  rw [idleLanes_eq]
  refine (idlePorts_port s.ports hw n).trans ?_
  by_cases hn : n < 512
  · rw [if_pos hn]
    by_cases hl : ∃ x ∈ s.ports, x.1 = n
    · exact if_pos ⟨hn, hl⟩
    · rw [if_neg fun h => hl h.2, port_unlisted hl]
      rfl
  · rw [if_neg hn, if_neg fun h => hn h.1]

end State

/-- R470: what a halt does to a line port. -/
theorem haltIdlesLanes : Rules.HaltIdlesLanes := by
  intro s
  refine ⟨?_, fun hw n hn => ?_, fun hw n hn => ?_⟩
  · have hred : (s.idlePorts s.ports).red = s.red := (congrArg State.red (s.apart_idlePorts s.ports) :)
    rw [State.idleLanes_eq]
    dsimp only
    rw [hred]
  · rw [State.idleLanes_port hw, if_pos hn]
    rfl
  · rw [State.idleLanes_port hw, if_neg (Nat.not_lt.mpr hn)]

end Sys2Proof.Machine

/-! PROOFS. The fail-silent halt as a whole (R470 to R474, R478). -/

namespace Sys2Proof.Machine

namespace State

variable {s : State}

/-! ### The 1PPS outputs -/

/-- One 1PPS output at its idle level. -/
def idleOne (s : State) (n : Nat) : State :=
  if (s.pps n).pulse.isSome then (s.setPps n { s.pps n with pulse := none }).emit (.pin (ppsName n) (s.pps n).low) else s

theorem idlePps_eq (s : State) : s.idlePps = (((s.idleOne 0).idleOne 1).idleOne 2).idleOne 3 := rfl

theorem pps_setPps_ne {n m : Nat} (h : m ≠ n) (x : PpsOut) : (s.setPps n x).pps m = s.pps m := by
  unfold State.pps State.setPps
  dsimp only
  rw [List.getElem?_set_ne h.symm]

/-- What one output going idle leaves: its pulse over and its level put out, the others as they were. -/
theorem idleOne_spec (s : State) (n : Nat) :
    ((s.idleOne n).pps n).pulse = none ∧ (∀ m, m ≠ n → (s.idleOne n).pps m = s.pps m) ∧ s.Says (s.idleOne n)
      ∧ ((s.pps n).pulse ≠ none → Out.pin (ppsName n) (s.pps n).low ∈ (s.idleOne n).out) := by
  unfold idleOne
  split
  · next h =>
    have hlt : n < s.time.pps.length := by
      refine Nat.lt_of_not_le fun hge => ?_
      have hnone : s.pps n = {} := by
        unfold State.pps
        rw [List.getElem?_eq_none hge]
        rfl
      rw [hnone] at h
      exact Bool.false_ne_true h
    refine ⟨?_, fun m hm => pps_setPps_ne hm _, List.suffix_cons _ _, fun _ => List.mem_cons_self⟩
    unfold State.pps State.emit State.setPps
    dsimp only
    rw [List.getElem?_set_self hlt]
    rfl
  · next h => exact ⟨by simpa using h, fun _ _ => rfl, State.says_refl s, fun hp => absurd (Option.isSome_iff_ne_none.mpr hp) h⟩

/-- What the 1PPS outputs going idle leave. -/
theorem idlePps_spec (s : State) {n : Nat} (hn : n < 4) :
    (s.idlePps.pps n).pulse = none ∧ ((s.pps n).pulse ≠ none → Out.pin (ppsName n) (s.pps n).low ∈ s.idlePps.out) := by
  rw [idlePps_eq]
  obtain ⟨p0, n0, -, o0⟩ := s.idleOne_spec 0
  obtain ⟨p1, n1, s1, o1⟩ := (s.idleOne 0).idleOne_spec 1
  obtain ⟨p2, n2, s2, o2⟩ := ((s.idleOne 0).idleOne 1).idleOne_spec 2
  obtain ⟨p3, n3, s3, o3⟩ := (((s.idleOne 0).idleOne 1).idleOne 2).idleOne_spec 3
  rcases eq_of_lt_four hn with rfl | rfl | rfl | rfl
  · exact ⟨by rw [n3 0 (by omega), n2 0 (by omega), n1 0 (by omega), p0],
      fun h => ((s1.trans s2).trans s3).mem (o0 h)⟩
  · rw [n0 1 (by omega)] at o1
    exact ⟨by rw [n3 1 (by omega), n2 1 (by omega), p1], fun h => (s2.trans s3).mem (o1 h)⟩
  · rw [n1 2 (by omega), n0 2 (by omega)] at o2
    exact ⟨by rw [n3 2 (by omega), p2], fun h => s3.mem (o2 h)⟩
  · rw [n2 3 (by omega), n1 3 (by omega), n0 3 (by omega)] at o3
    exact ⟨p3, o3⟩

/-- What the 1PPS outputs going idle change. -/
theorem idlePps_shape (s : State) : ∃ p o, s.idlePps = { s with time := { s.time with pps := p }, out := o } := by
  have one (s : State) (n : Nat) : ∃ p o, s.idleOne n = { s with time := { s.time with pps := p }, out := o } := by
    unfold idleOne
    split
    · exact ⟨_, _, rfl⟩
    · exact ⟨s.time.pps, s.out, rfl⟩
  obtain ⟨p0, o0, h0⟩ := one s 0
  obtain ⟨p1, o1, h1⟩ := one (s.idleOne 0) 1
  obtain ⟨p2, o2, h2⟩ := one ((s.idleOne 0).idleOne 1) 2
  obtain ⟨p3, o3, h3⟩ := one (((s.idleOne 0).idleOne 1).idleOne 2) 3
  rw [idlePps_eq, h3, h2, h1, h0]
  exact ⟨p3, o3, rfl⟩

/-! ### The halt in parts -/

/-- The fault latched, its record and notices still to come. -/
def latched (s : State) (code : Nat) (detail : List Word) (injected : Bool) : State :=
  { s.setReg .safStat 0 (Word.ofNat (2 ^ 31 + code % 65536)) with saf := { s.saf with
      resetMax := s.cfg.f .redTwinCfg 0 23 20
      halting := some { code := code % 65536, detail := detail.take (namedWords (code % 65536)), injected := injected, at_ := s.fs
                        mono := s.mono, tb0 := s.tbNow 0, notify := s.paired && s.red.cplLink } } }

/-- Every frame in transmission cut. -/
def cutAll (s : State) : State := s.ports.foldl (fun s x => s.cutTx x.1) s

/-- Lanes, 1PPS outputs and pins idle (R470). -/
def idled (s : State) : State :=
  { s.idleLanes.idlePps with upd := { s.upd with rstLow := none } }.releasePins haltReleases

/-- The halt counted. -/
def haltCounted (s : State) : State := s.setReg .safLifeHalts 0 (s.reg .safLifeHalts 0 + 1)

theorem haltWith_eq {code : Nat} {detail : List Word} {injected : Bool} (h : s.halted = false) :
    s.haltWith code detail injected = (s.latched code detail injected).cutAll.idled.haltCounted := by
  unfold State.haltWith
  rw [if_neg (by rw [h]; exact Bool.false_ne_true)]
  rfl

theorem apart_cutAll (s : State) : s.cutAll.apart = s.apart :=
  foldl_keeps (g := State.apart) (fun s (x : Nat × PortSt) => s.apart_cutTx x.1) _ _

theorem cutAll_ports (hw : s.ports.wf {} = true) : s.cutAll.ports.wf {} = true ∧ ∀ n, (s.cutAll.port n).tx = none := by
  have fold (l : List (Nat × PortSt)) {t : State} (ht : t.ports.wf {} = true)
      (hl : ∀ n, (t.port n).tx = none ∨ ∃ x ∈ l, x.1 = n) :
      (l.foldl (fun s x => s.cutTx x.1) t).ports.wf {} = true ∧ ∀ n, ((l.foldl (fun s x => s.cutTx x.1) t).port n).tx = none := by
    induction l generalizing t with
    | nil => exact ⟨ht, fun n => (hl n).resolve_right (by simp)⟩
    | cons x l ih =>
      obtain ⟨hwf, hne⟩ := onlyPort_cutTx x.1 ht
      refine ih hwf fun n => ?_
      by_cases hn : n = x.1
      · subst hn
        exact .inl (cutTx_tx ht x.1)
      · rw [hne n hn]
        refine (hl n).imp_right fun ⟨y, hy, he⟩ => ?_
        rcases List.mem_cons.mp hy with rfl | hy
        · exact absurd he.symm hn
        · exact ⟨y, hy, he⟩
  refine fold s.ports hw fun n => ?_
  by_cases h : ∃ x ∈ s.ports, x.1 = n
  · exact .inr h
  · exact .inl (by rw [port_unlisted h])

/-- What going idle changes. -/
theorem idled_shape (s : State) :
    ∃ p o, s.idled = { s.idleLanes with time := { s.idleLanes.time with pps := p }, upd := { s.upd with rstLow := none }, out := o } := by
  obtain ⟨p, o, hp⟩ := s.idleLanes.idlePps_shape
  unfold idled
  rw [hp]
  exact ⟨p, _, rfl⟩

theorem haltCounted_pps (s : State) (n : Nat) : s.haltCounted.pps n = s.pps n := rfl

theorem haltCounted_out (s : State) : s.haltCounted.out = s.out := rfl

theorem idled_pps (s : State) (n : Nat) : s.idled.pps n = s.idleLanes.idlePps.pps n := by
  unfold idled
  generalize s.idleLanes.idlePps = q
  rfl

/-- What going idle puts out. -/
theorem idled_out (s : State) :
    s.idleLanes.idlePps.Says s.idled ∧ ∀ pin, pin ∈ haltReleases → Out.release pin ∈ s.idled.out := by
  refine ⟨⟨[.release "QSPI_IO", .release "I2C", .release "MDIO", .release "MDC", .release "GPIO"], rfl⟩, fun pin hp => ?_⟩
  have hout : s.idled.out = .release "QSPI_IO" :: .release "I2C" :: .release "MDIO" :: .release "MDC" :: .release "GPIO"
      :: s.idleLanes.idlePps.out := rfl
  rw [hout]
  simp only [haltReleases, List.mem_cons, List.not_mem_nil, or_false] at hp
  rcases hp with rfl | rfl | rfl | rfl | rfl <;> simp

/-- What is kept through the steps of a halt after its code is latched, but for its count. -/
theorem steady_halted {K : Steady} (h : K.holds s) : K.holds s.cutAll.idled := by
  have hcut : K.holds s.cutAll := Steady.foldl (fun b h => K.cutTx h b.1) _ h
  have hlane : K.holds s.cutAll.idleLanes := by
    rw [idleLanes_eq]
    exact K.same (Steady.foldl (fun b h => Steady.ite (Steady.modPort h _ _) h) _ hcut) rfl
  obtain ⟨p, o, hp⟩ := s.cutAll.idled_shape
  rw [hp]
  exact K.same hlane rfl

/-- What a halt leaves of the Signal Box's words. -/
theorem haltWith_words {code : Nat} {detail : List Word} {injected : Bool} (hh : s.halted = false) (hc : regsCanonical s.regs) :
    (s.haltWith code detail injected).reg .safStat 0 = Word.ofNat (2 ^ 31 + code % 65536)
      ∧ (s.haltWith code detail injected).reg .safLifeHalts 0 = s.reg .safLifeHalts 0 + 1 := by
  rw [haltWith_eq hh]
  have hstat : (Steady.reads .safStat rfl 0 (Word.ofNat (2 ^ 31 + code % 65536))).holds (s.latched code detail injected).cutAll.idled :=
    steady_halted ⟨regsCanonical_setReg hc _ _ _, reg_setReg_self hc _ _ _⟩
  have hlife : (Steady.reads .safLifeHalts rfl 0 (s.reg .safLifeHalts 0)).holds (s.latched code detail injected).cutAll.idled :=
    steady_halted ⟨regsCanonical_setReg hc _ _ _, reg_setReg_ne hc _ (.inl (by decide))⟩
  generalize (s.latched code detail injected).cutAll.idled = u at hstat hlife
  obtain ⟨hu, hstat⟩ := hstat
  refine ⟨(reg_setReg_ne hu _ (.inl (by decide))).trans hstat, (reg_setReg_self hu _ _ _).trans ?_⟩
  rw [hlife.2]

/-- What a halt leaves of the ports. -/
theorem haltWith_port {code : Nat} {detail : List Word} {injected : Bool} (hh : s.halted = false) (hw : s.ports.wf {} = true) (n : Nat) :
    ((s.haltWith code detail injected).port n).tx = none
      ∧ (n < 512 → ((s.haltWith code detail injected).port n).link = false ∧ ((s.haltWith code detail injected).port n).rx = none) := by
  obtain ⟨hwf, htx⟩ := cutAll_ports (s := s.latched code detail injected) hw
  obtain ⟨p, o, hp⟩ := (s.latched code detail injected).cutAll.idled_shape
  have hu : (s.haltWith code detail injected).port n = (s.latched code detail injected).cutAll.idleLanes.port n := by
    rw [haltWith_eq hh, hp]
    rfl
  rw [hu, idleLanes_port hwf]
  refine ⟨?_, fun hn => ?_⟩
  · split <;> exact htx n
  · rw [if_pos hn]
    exact ⟨rfl, rfl⟩

/-- What a halt leaves of the rest. -/
theorem haltWith_rest {code : Nat} {detail : List Word} {injected : Bool} (hh : s.halted = false) :
    (s.haltWith code detail injected).red.cplLink = false ∧ (s.haltWith code detail injected).upd.rstLow = none
      ∧ (s.haltWith code detail injected).saf = (s.latched code detail injected).saf
      ∧ (s.haltWith code detail injected).tables = s.tables ∧ (s.haltWith code detail injected).tree = s.tree
      ∧ (s.haltWith code detail injected).epochs = s.epochs ∧ (s.haltWith code detail injected).time.tbs = s.time.tbs := by
  rw [haltWith_eq hh]
  have hc : ((s.latched code detail injected).cutAll.idlePorts (s.latched code detail injected).cutAll.ports).apart
      = (s.latched code detail injected).apart := (apart_idlePorts ..).trans (apart_cutAll _)
  obtain ⟨p, o, hp⟩ := (s.latched code detail injected).cutAll.idled_shape
  rw [hp, idleLanes_eq]
  exact ⟨rfl, rfl, (congrArg State.saf hc :), (congrArg State.tables hc :), (congrArg State.tree hc :), (congrArg State.epochs hc :),
    (congrArg (fun s : State => s.time.tbs) hc :)⟩

/-- What a halt does to the 1PPS outputs, and what it puts out. -/
theorem haltWith_pins {code : Nat} {detail : List Word} {injected : Bool} (hh : s.halted = false) :
    (∀ n, n < 4 → ((s.haltWith code detail injected).pps n).pulse = none)
      ∧ (∀ n, n < 4 → (s.pps n).pulse ≠ none → Out.pin (ppsName n) (s.pps n).low ∈ (s.haltWith code detail injected).out)
      ∧ ∀ pin, pin ∈ haltReleases → Out.release pin ∈ (s.haltWith code detail injected).out := by
  rw [haltWith_eq hh]
  have htime : (s.latched code detail injected).cutAll.idleLanes.time = s.time := by
    have hc : ((s.latched code detail injected).cutAll.idlePorts (s.latched code detail injected).cutAll.ports).apart
        = (s.latched code detail injected).apart := (apart_idlePorts ..).trans (apart_cutAll _)
    rw [idleLanes_eq]
    exact (congrArg State.time hc :)
  generalize (s.latched code detail injected).cutAll = c at htime
  have hpps (n : Nat) : c.idleLanes.pps n = s.pps n := by
    unfold State.pps
    rw [htime]
  obtain ⟨hsays, hrel⟩ := c.idled_out
  rw [haltCounted_out]
  refine ⟨fun n hn => ?_, fun n hn h => hsays.mem ?_, hrel⟩
  · rw [haltCounted_pps, idled_pps]
    exact (c.idleLanes.idlePps_spec hn).1
  · rw [← hpps] at h ⊢
    exact (c.idleLanes.idlePps_spec hn).2 h

end State

/-- A fatal code is of 16 bits. -/
theorem isFatal_lt {code : Nat} (hf : isFatal code = true) : code % 65536 = code := by
  simp only [isFatal, Bool.or_eq_true, decide_eq_true_eq] at hf
  omega

/-- A halt that is complete takes no further fault (R478). -/
theorem State.haltWith_over {s : State} (hh : s.halted = true) (hn : s.saf.halting = none) (code : Nat) (detail : List Word)
    (injected : Bool) : s.haltWith code detail injected = s := by
  unfold State.haltWith
  rw [if_pos hh]
  unfold State.haltAgain
  rw [hn]

/-- A powered switch takes a fatal fault. -/
theorem completes_halt {s : State} {code : Nat} (detail : List Word) (hf : isFatal code = true) (hp : s.powered = true) :
    completes (.halt code detail) s (s.halt code detail) := by
  cases hd : s.detects with
  | true => exact completes_answer rfl hf hd
  | false =>
    have h := completes_idle (c := .halt code detail) (t := s.halt code detail) rfl hf hd
    unfold State.detects at hd
    rw [hp, Bool.true_and, Bool.or_eq_false_iff, Bool.not_eq_false'] at hd
    have hover : s.halt code detail = s := State.haltWith_over hd.1 (by simpa using hd.2) code detail false
    rw [hover]
    exact h

/-- R470, R471: a fatal fault halts the switch. -/
theorem fatalHalt : Rules.FatalHalt := by
  intro s code detail hf hp
  refine ⟨completes_halt detail hf hp, ?_⟩
  intro hh hc hw t
  obtain ⟨hstat, hlife⟩ := State.haltWith_words (code := code) (detail := detail) (injected := false) hh hc
  obtain ⟨hred, hrst, hsaf, htables, htree, hepochs, htbs⟩ := State.haltWith_rest (code := code) (detail := detail) (injected := false) hh
  obtain ⟨hpulse, hlow, hrel⟩ := State.haltWith_pins (code := code) (detail := detail) (injected := false) hh
  have hhalting := congrArg SafSt.halting hsaf
  unfold State.latched at hhalting
  rw [isFatal_lt hf] at hstat hhalting
  exact ⟨hstat, hlife, fun n => (State.haltWith_port hh hw n).1, fun n hn => (State.haltWith_port hh hw n).2 hn, hred, hpulse, hlow,
    hrel, hrst, hhalting, (congrArg SafSt.log hsaf :), htables, htree, hepochs, htbs⟩

/-! ### Further faults -/

section
variable {s : State} {h : Halting} (hh : s.saf.halting = some h)
include hh

theorem State.countSecondary_some :
    s.countSecondary = { s with saf := { s.saf with
      halting := some { h with secondary := min 15 (h.secondary + 1) }
      log := if h.written then
          Store.set [] s.saf.log h.unit (withSecondary (Store.get [] s.saf.log h.unit) (min 15 (h.secondary + 1)))
        else s.saf.log } } := by
  unfold State.countSecondary
  rw [hh]

theorem State.haltAgain_some (code : Nat) (detail : List Word) (injected : Bool) :
    s.haltAgain code detail injected =
      if h.at_ / 800000 ≠ s.fs / 800000 then s.countSecondary
      else if code < h.code then
        { s.setRf .safStat 0 15 0 code with saf := { s.saf with
            halting := some { h with code := code, detail := detail.take (namedWords code), injected := injected } } }
      else s := by
  unfold State.haltAgain
  rw [hh]

end

/-- R473, R474, R478: a fault during a halt. -/
theorem furtherFaults : Rules.FurtherFaults := by
  intro s code detail hf hh
  refine ⟨fun hn => ?_, fun h hs => ?_⟩
  · have hover : s.halt code detail = s := State.haltWith_over hh hn code detail false
    refine ⟨hover, fun hp => ?_⟩
    have := completes_halt detail hf hp
    rw [hover] at this
    exact this
  · intro n counted more
    have hmore : s.countSecondary = more := State.countSecondary_some hs
    have hagain : s.halt code detail = s.haltAgain code detail false := by
      unfold State.halt State.haltWith
      rw [if_pos hh, isFatal_lt hf]
    rw [State.haltAgain_some hs] at hagain
    refine ⟨fun hne => ?_, fun he hle => ?_, fun he hlt => ?_, fun c words inj => ?_⟩
    · rw [hagain, if_pos hne, hmore]
    · rw [hagain, if_neg (fun h => h he), if_neg (Nat.not_lt.mpr hle)]
    · rw [hagain, if_neg (fun h => h he), if_pos hlt]
    · unfold State.logNonFatal
      rw [if_pos hh, hmore]

/-! ### The steps of a halt -/

/-- R282, R286, R470, R471, R478: the steps of a halt. -/
theorem haltSteps : Rules.HaltSteps := by
  intro s h hs now silent notice complete
  have step : s.haltStep =
      if ¬ h.written ∧ s.fs < h.at_ + 1800000000 then s.sendNotices h
      else
        let s := if h.written then s else (s.sendNotices h).writeFault silent
        match h.held with
        | some .pin => s.holdReset
        | some .debug => s.debugReset
        | none =>
          if s.fs < h.at_ + 2000000000 then s
          else h.asked.foldl (fun t frame => t.resetRequest frame)
            { s.orReg .safStat 0 (2 ^ 30) with saf := { s.saf with halting := none } } := by
    unfold State.haltStep
    rw [hs] <;> rfl
  have hfs : ((s.sendNotices h).writeFault silent).fs = s.fs := by
    have write (t : State) : (t.writeFault silent).fs = t.fs := rfl
    rw [write]
    unfold State.sendNotices
    split <;> rfl
  refine ⟨fun hn => ?_, fun hn => ?_, fun hw hlt => ?_, fun hw hle hlt hn => ?_, fun hw hlt hn => ?_, fun hw hle hn => ?_,
    fun hw hn => ?_, fun hw hn => ?_, fun hw => ?_, fun hw hle => ?_⟩
  · unfold State.sendNotices
    rw [if_neg (by rw [hn]; exact Bool.false_ne_true)]
  · unfold State.sendNotices
    rw [if_pos hn]
    rfl
  · rw [step, if_pos ⟨by rw [hw]; exact Bool.false_ne_true, hlt⟩]
  · rw [step, if_neg fun h => absurd h.2 (Nat.not_lt.mpr hle)]
    dsimp only
    rw [hw, hn, if_neg Bool.false_ne_true]
    dsimp only
    rw [hfs, if_pos hlt]
  · rw [step, if_neg fun h => h.1 hw]
    dsimp only
    rw [hn, if_pos hw]
    exact if_pos hlt
  · rw [step, if_neg fun h => h.1 hw]
    dsimp only
    rw [hn, if_pos hw]
    exact if_neg (Nat.not_lt.mpr hle)
  · rw [step, if_neg fun h => h.1 hw]
    dsimp only
    rw [hn, if_pos hw]
  · rw [step, if_neg fun h => h.1 hw]
    dsimp only
    rw [hn, if_pos hw]
  · unfold State.finishRecord
    rw [hs]
    refine if_neg fun h => hw.elim h.1 fun hlt => absurd h.2 (Nat.not_le.mpr hlt)
  · unfold State.finishRecord
    rw [hs]
    exact if_pos ⟨by rw [hw]; exact Bool.false_ne_true, hle⟩

/-! ### The record of a halt -/

theorem overlay_within (p m q new : List Byte) {o : Nat} (ho : p.length = o) (hm : m.length = new.length) :
    overlay (p ++ m ++ q) o new = p ++ new ++ q := by
  subst ho
  unfold overlay
  have h1 : (p ++ m ++ q).take p.length = p := by rw [List.append_assoc, List.take_left]
  have h2 : new.take ((p ++ m ++ q).length - p.length) = new := List.take_of_length_le (by simp; omega)
  have h3 : (p ++ m ++ q).drop (p.length + new.length) = q := by
    rw [← hm, ← List.length_append, List.drop_left]
  rw [h1, h2, h3]

/-- A record with its SECONDARY, whose FLAGS stand after six bytes (R473). -/
theorem withSecondary_record (p q : List Byte) (low sec n c : Nat) (hp : p.length = 6) (hq : q.length = 52) (hlow : low < 16)
    (hs : sec < 16) (hn : n < 16) :
    withSecondary (p ++ leBytes 2 (low + at_ sec 4) ++ q ++ leBytes 4 c) n
      = p ++ leBytes 2 (low + at_ n 4) ++ q ++ leBytes 4 (crc32 (p ++ leBytes 2 (low + at_ n 4) ++ q)) := by
  have flags (k : Nat) (hk : k < 16) : leBytes 2 (low + at_ k 4) = [Byte.ofNat (low + at_ k 4), 0] := by
    have hat : at_ k 4 = k * 16 := Nat.shiftLeft_eq k 4
    have h0 : (low + at_ k 4) / 256 = 0 := Nat.div_eq_of_lt (by omega)
    simp only [leBytes, h0]
    rfl
  have hat : at_ sec 4 = sec * 16 := Nat.shiftLeft_eq sec 4
  have hbyte : le (p ++ leBytes 2 (low + at_ sec 4) ++ q ++ leBytes 4 c) 6 1 % 16 = low := by
    have hslice : sliceZ (p ++ leBytes 2 (low + at_ sec 4) ++ q ++ leBytes 4 c) 6 1 = [Byte.ofNat (low + at_ sec 4)] := by
      have hform : p ++ leBytes 2 (low + at_ sec 4) ++ q ++ leBytes 4 c
          = p ++ [Byte.ofNat (low + at_ sec 4)] ++ (0 :: q ++ leBytes 4 c) := by
        rw [flags sec hs]
        simp
      rw [hform]
      exact Tests.slice_of _ _ _ _ _ hp.symm rfl
    unfold le
    rw [hslice]
    change ((BitVec.ofNat 8 (low + at_ sec 4)).toNat + 256 * 0) % 16 = low
    rw [BitVec.toNat_ofNat]
    omega
  unfold withSecondary
  rw [hbyte, flags sec hs, flags n hn]
  have hone : overlay (p ++ [Byte.ofNat (low + at_ sec 4), 0] ++ q ++ leBytes 4 c) 6 [Byte.ofNat (low + at_ n 4)]
      = p ++ [Byte.ofNat (low + at_ n 4), 0] ++ q ++ leBytes 4 c := by
    have := overlay_within p [Byte.ofNat (low + at_ sec 4)] (0 :: q ++ leBytes 4 c) [Byte.ofNat (low + at_ n 4)] hp rfl
    simpa using this
  have hlen : (p ++ [Byte.ofNat (low + at_ n 4), 0] ++ q).length = 60 := by simp [hp, hq]
  have htake : (p ++ [Byte.ofNat (low + at_ n 4), 0] ++ q ++ leBytes 4 c).take 60 = p ++ [Byte.ofNat (low + at_ n 4), 0] ++ q := by
    rw [← hlen, List.take_left]
  rw [hone]
  dsimp only
  rw [htake]
  have := overlay_within (p ++ [Byte.ofNat (low + at_ n 4), 0] ++ q) (leBytes 4 c) [] (leBytes 4 (crc32 (p ++ [Byte.ofNat (low + at_ n 4), 0] ++ q)))
    hlen (by rw [Tests.leBytes_length, Tests.leBytes_length])
  rw [List.append_nil, List.append_nil] at this
  exact this

/-- What the record of a halt leaves of the log and its index. -/
theorem State.writeFault_log {s : State} (h : Halting) (hc : regsCanonical s.regs) (hl : Store.wf [] s.saf.log = true)
    (hu : 2 ≤ s.rf .safLogIdx 0 31 24) (hu' : s.rf .safLogIdx 0 31 24 ≤ 33) :
    Store.get [] (s.writeFault h).saf.log (s.rf .safLogIdx 0 31 24)
        = s.recordOf h.code (s.logFlags true h.injected + at_ h.secondary 4) h.detail h.mono h.tb0
      ∧ (s.writeFault h).rf .safLogIdx 0 31 24 = if s.rf .safLogIdx 0 31 24 = 33 then 2 else s.rf .safLogIdx 0 31 24 + 1 := by
  generalize hb : s.recordOf h.code (s.logFlags true h.injected + at_ h.secondary 4) h.detail h.mono h.tb0 = b
  generalize hv : s.rf .safLogIdx 0 31 24 = u at hu hu'
  have hlog : ∃ header, (s.writeFault h).saf.log = Store.set [] (Store.set [] s.saf.log u b) (s.saf.headers % 2) header := by
    unfold State.writeFault
    rw [hb, hv]
    unfold State.putRecord
    rw [if_pos rfl, hv]
    exact ⟨_, rfl⟩
  have hreg : (s.writeFault h).reg .safLogIdx 0 = (s.setRf .safLogIdx 0 31 24 (if u = 33 then 2 else u + 1)).reg .safLogIdx 0 := by
    unfold State.writeFault
    rw [hb, hv]
    unfold State.putRecord
    rw [if_pos rfl, hv]
    rfl
  obtain ⟨header, hlog⟩ := hlog
  refine ⟨?_, ?_⟩
  · rw [hlog, Store.get_set_ne _ _ _ (by omega) (Store.wf_set _ _ _ _ hl), Store.get_set_self _ _ _ _ hl]
  · unfold State.rf
    rw [hreg]
    unfold State.setRf
    rw [State.reg_setReg_self hc, fld_setFld _ (by decide) (by split <;> omega)]

/-- R472, R473: the record of a halt. -/
theorem haltRecord : Rules.HaltRecord := by
  intro s h hc hl u t head body hu hu'
  obtain ⟨hlog, hidx⟩ := State.writeFault_log h hc hl hu hu'
  have hrec : s.recordOf h.code (s.logFlags true h.injected + at_ h.secondary 4) h.detail h.mono h.tb0
      = body ++ leBytes 4 (crc32 body) := by
    unfold State.recordOf State.logFlags
    rfl
  rw [hrec] at hlog
  refine ⟨hlog, hidx, rfl, rfl, rfl, rfl, fun n hn => ?_⟩
  intro again hlen hs
  rw [show Store.get [] t.saf.log u = body ++ leBytes 4 (crc32 body) from hlog]
  let low := b2n true + at_ (b2n h.injected) 1 + at_ (b2n (!s.committed)) 2
  let p := leBytes 4 s.saf.seq ++ leBytes 2 h.code
  let r := leBytes 2 s.nodeNo ++ leBytes 2 (s.rf .bootImage 0 31 16) ++ leBytes 8 h.mono ++ leBytes 8 h.tb0
  have hhead : head = p ++ leBytes 2 (low + at_ h.secondary 4) ++ r := by simp only [head, p, low, r, List.append_assoc]
  obtain ⟨w, hw⟩ : ∃ w, body = head ++ w := ⟨_, rfl⟩
  have hp : p.length = 6 := by simp only [p, List.length_append, Tests.leBytes_length]
  have hlow : low < 16 := by
    have hb (b : Bool) : b2n b ≤ 1 := by cases b <;> decide
    have h1 := hb h.injected
    have h2 := hb (!s.committed)
    have e1 : at_ (b2n h.injected) 1 = b2n h.injected * 2 := Nat.shiftLeft_eq _ _
    have e2 : at_ (b2n (!s.committed)) 2 = b2n (!s.committed) * 4 := Nat.shiftLeft_eq _ _
    have e0 : b2n true = 1 := rfl
    omega
  have hbody : body = p ++ leBytes 2 (low + at_ h.secondary 4) ++ (r ++ w) := by rw [hw, hhead, List.append_assoc]
  have hagain : again = p ++ leBytes 2 (low + at_ n 4) ++ (r ++ w) := by
    have htake : head.take 6 = p := by rw [hhead, List.append_assoc, ← hp, List.take_left]
    have hdrop : body.drop 8 = r ++ w := by
      have h8 : (p ++ leBytes 2 (low + at_ h.secondary 4)).length = 8 := by
        rw [List.length_append, Tests.leBytes_length, hp]
      rw [hbody, ← h8, List.drop_left]
    rw [← htake, ← hdrop]
  have hq : (r ++ w).length = 52 := by
    rw [hbody, List.length_append, List.length_append, Tests.leBytes_length, hp] at hlen
    omega
  rw [hagain]
  conv => lhs; rw [hbody]
  exact withSecondary_record p (r ++ w) low h.secondary n _ hp hq hlow hs hn

/-- Settles O52, by what each step of a halt leaves of ports, pins and the Signal Box. -/
theorem failSilentHalt : Obligations.FailSilentHalt :=
  ⟨fatalHalt, haltCutsFrames, haltIdlesLanes, furtherFaults, haltSteps, haltRecord⟩

end Sys2Proof.Machine

/-! PROOFS. What passes, admission, the capture and the fault log leave of the words of the Signal Box. -/

namespace Sys2Proof.Machine

namespace Steady

variable {K : Steady} {s : State}

/-! ### The capture -/

theorem restall (h : K.holds s) : K.holds s.restall := by
  unfold State.restall
  exact K.same (ite (plane (id := .recIntStat) h ..) h) rfl

theorem closeBlock (h : K.holds s) : K.holds s.closeBlock := by
  have shut (size : Nat) : K.holds (s.shutBlock size) := by
    unfold State.shutBlock
    split
    · exact h
    · extract_lets c b b' next t
      exact count (s := t) (K.same h rfl) ..
  unfold State.closeBlock
  exact ite h (restall (shut _))

theorem settleRecording (h : K.holds s) : K.holds s.settleRecording := by
  unfold State.settleRecording
  exact ite (closeBlock h) h

theorem loseRecord (h : K.holds s) (p : Nat) : K.holds (s.loseRecord p) := by
  unfold State.loseRecord
  exact K.same (plane (id := .recIntStat) (count h ..) ..) rfl

theorem takeCapture (h : K.holds s) (f : Frame) (n : Nat) : K.holds (s.takeCapture f n) := by
  unfold State.takeCapture
  extract_lets r t
  have ht : K.holds t := count (setRef h _) ..
  exact ite (unstage ht ..) ht

theorem postCapture (h : K.holds s) (f : Frame) (n : Nat) : K.holds (s.postCapture f n).1 := by
  unfold State.postCapture
  split
  · exact h
  · extract_lets c snap tooFull t
    split
    · exact count h ..
    · split
      · exact count h ..
      · split
        · exact loseRecord h _
        · exact ite (modPlat h ..) (takeCapture (modPlat h ..) ..)

theorem trigger (h : K.holds s) (src fs : Nat) : K.holds (s.trigger src fs) := by
  have mark {t : State} (ht : K.holds t) (w fs : Nat) : K.holds (t.putMarker w fs) := by
    unfold State.putMarker
    exact ite (K.same ht rfl) ht
  have open' {t : State} (ht : K.holds t) (w : Nat) : K.holds (t.openWindow w src fs) := K.same ht rfl
  unfold State.trigger
  extract_lets t
  have ht : K.holds t := count h ..
  split
  · exact mark (count ht ..) ..
  · split
    · exact mark (open' ht _) ..
    · exact mark (t := ((t.count .capt 0 8).fresh).2) (K.same (count ht .capt 0 8) rfl) ..

theorem ruleTrigger (h : K.holds s) (f : Frame) : K.holds (s.ruleTrigger f) := by
  unfold State.ruleTrigger
  split
  · exact h
  · exact ite (trigger h ..) h

/-! ### Admission -/

theorem sendXoff (h : K.holds s) (port a : Nat) : K.holds (s.sendXoff port a) := count (modPort h ..) ..

theorem breach (h : K.holds s) (plat port a : Nat) : K.holds (s.breach plat port a) := by
  unfold State.breach
  extract_lets t prio
  have ht : K.holds t := count h ..
  exact ite ht (plane (id := .tmIntStat) (plane (id := .tmHrBreach) ht ..) ..)

theorem copySourceXoff (h : K.holds s) (plat : Nat) : K.holds (s.copySourceXoff plat) := by
  unfold State.copySourceXoff
  exact ite h (foldl (fun k h => foldl (fun a h => ite h (sendXoff h ..)) _ h) _ (modPlat h ..))

theorem refuse (h : K.holds s) (plat e slot cls : Nat) : K.holds (s.refuse plat e slot cls) := perf (count (count h ..) ..) ..

theorem refuseSdu (h : K.holds s) (f : Frame) (e : Nat) : K.holds (s.refuseSdu f e) := perf (count (count h ..) ..) ..

theorem evict (h : K.holds s) (plat : Nat) (v : Copy) : K.holds (s.evict plat v) :=
  count (count (dropCopy (cutCopies h ..) _) ..) ..

theorem pushout (h : K.holds s) (f : Frame) (e rank : Nat) : K.holds (s.pushout f e rank).1 := by
  unfold State.pushout
  dsimp only
  split
  · exact h
  · exact foldl (fun v h => evict h _ v) _ h

theorem payCells (h : K.holds s) (f : Frame) (first : Bool) (n : Nat) : K.holds (s.payCells f first n) := by
  unfold State.payCells
  exact ite (unstage h ..) (ite h (takeShared h _))

theorem chargeShared (h : K.holds s) (f : Frame) (e : Nat) (first : Bool) : K.holds (s.chargeShared f e first) :=
  payCells (setQueue h ..) ..

theorem admitCopy (h : K.holds s) (f : Frame) (e rank : Nat) (first : Bool) : K.holds (s.admitCopy f e rank first).1 := by
  unfold State.admitCopy
  extract_lets c cfg q
  split
  · exact refuseSdu h ..
  · split
    · exact refuse h ..
    · split
      · exact payCells (setQueue h ..) ..
      · split
        · exact chargeShared h ..
        · have hr : K.holds (if cfg.b .tmClassCfg c 29 = true then s.pushout f e rank else (s, false)).1 := by
            split
            · exact pushout h ..
            · exact h
          split
          next x t room hx =>
            rw [hx] at hr
            split
            · exact chargeShared hr ..
            · exact refuse hr ..

theorem refusePending (h : K.holds s) (no : Nat) : K.holds (s.refusePending no) := by
  unfold State.refusePending
  refine foldl (fun x h => ?_) _ h
  refine foldl (fun c h => ?_) _ h
  exact foldl (fun x h => refuse (release (touchTx h _) x) ..) _ (ite h (cutCopies h ..))

theorem squeeze (h : K.holds s) (plat need : Nat) (l : List CopyImage) : K.holds (s.squeeze plat need l).1 := by
  induction l generalizing s with
  | nil => exact h
  | cons i l ih =>
    unfold State.squeeze
    split
    · exact h
    · split
      · exact ih (dropImage (refusePending h _) ..)
      · exact ih h

theorem addImage (h : K.holds s) (plat : Nat) (i : CopyImage) : K.holds (s.addImage plat i) := copySourceXoff (modPlat h ..) _

theorem copySource (h : K.holds s) (f : Frame) (rank : Nat) (done : Bool) : K.holds (s.copySource f rank done).1 := by
  unfold State.copySource
  extract_lets has
  split
  · exact h
  · split
    · exact count h ..
    · split
      · have hs := squeeze h f.plat f.bytes.length (s.plat f.plat).images
        split
        · next t heq =>
          rw [heq] at hs
          exact count (addImage hs ..) ..
        · next t heq =>
          rw [heq] at hs
          exact hs
      · exact h

theorem admitWants (h : K.holds s) (f : Frame) (rank : Nat) (l : List Want) (k : Nat) : K.holds (s.admitWants f rank l k).1 := by
  induction l generalizing s k with
  | nil => exact h
  | cons w l ih =>
    have ha := admitCopy h f w.port rank (decide (k = 0))
    unfold State.admitWants
    split
    · next t heq =>
      rw [heq] at ha
      exact ih ha _
    · next t pool heq =>
      rw [heq] at ha
      split
      · exact ih (link ha _) _
      · have hc := copySource ha f rank (decide (2 ≤ k) && decide (rank ≤ 3))
        split
        · next u heq' =>
          rw [heq'] at hc
          exact ih (link hc _) _
        · next u heq' =>
          rw [heq'] at hc
          exact ih (refuse (release hc _) ..) _

theorem endStage8 (h : K.holds s) (f : Frame) (n : Nat) : K.holds (s.endStage8 f n) := by
  have hp := postCapture (settleImage h f.plat f.no) f n
  unfold State.endStage8
  split
  next t post heq =>
    rw [heq] at hp
    exact countIf (ite (freeFrame hp _) hp) ..

theorem admitFrame (h : K.holds s) (f : Frame) (rank : Nat) (l : List Want) : K.holds (s.admitFrame f rank l) := by
  have ha := admitWants (rankImage h f rank) f rank l 0
  unfold State.admitFrame
  split
  next t k heq =>
    rw [heq] at ha
    exact endStage8 ha ..

theorem linkWants (h : K.holds s) (f : Frame) (l : List Want) (first : Bool) : K.holds (s.linkWants f l first) := by
  induction l generalizing s first with
  | nil => exact h
  | cons w l ih => exact ih (link h _) _

theorem admitLossless (h : K.holds s) (f : Frame) (l : List Want) : K.holds (s.admitLossless f l) := by
  unfold State.admitLossless
  extract_lets k t u v
  have ht : K.holds t := rankImage h ..
  refine ite (endStage8 ht ..) (endStage8 (linkWants (setRef ?_ _) ..) ..)
  exact ite (copySource ht ..) ht

theorem refuseDown (h : K.holds s) (f : Frame) (l : List Want) : K.holds (s.refuseDown f l).1 := by
  induction l generalizing s with
  | nil => exact h
  | cons w l ih =>
    unfold State.refuseDown
    split
    · exact ih (refuse h ..)
    · exact ih h

theorem refuseLong (h : K.holds s) (f : Frame) (l : List Want) : K.holds (s.refuseLong f l).1 := by
  induction l generalizing s with
  | nil => exact h
  | cons w l ih =>
    unfold State.refuseLong
    split
    · exact ih (refuseSdu h ..)
    · exact ih h

theorem arriveLossless (h : K.holds s) (f : Frame) (l : List Want) (lost : Nat) : K.holds (s.arriveLossless f l lost) := by
  have hl := refuseLong (s := s.refuseGroups f lost) (perf (countN h ..) ..) f l
  unfold State.arriveLossless
  split
  next t wants heq =>
    rw [heq] at hl
    have hd := refuseDown hl f wants
    split
    next u rest heq' =>
      rw [heq'] at hd
      split
      · exact admitLossless hd ..
      · split
        · exact count (modPlat hd ..) ..
        · exact endStage8 (dropImage (breach hd ..) ..) ..

theorem stage8 (h : K.holds s) (r : Ready) : K.holds (s.stage8 r) := by
  unfold State.stage8
  extract_lets t u rank
  have ht : K.holds t := ruleTrigger h _
  have hu : K.holds u := ite (agg (emit ht _) ..) ht
  exact ite (arriveLossless hu ..) (admitFrame hu ..)

theorem frontAdmit (h : K.holds s) (r : Ready) : K.holds (s.frontAdmit r) := by
  have hr (f : Frame) (l : List Nat) : K.holds (s.withReplica f l).1 := by
    unfold State.withReplica
    split
    · exact count h ..
    · exact h
  unfold State.frontAdmit
  exact ite (stage8 (hr ..) _) (stage8 h _)

theorem drain (h : K.holds s) : K.holds s.drain := by
  have held (n : Nat) {s : State} (h : K.holds s) : K.holds (s.drainHeld n) := by
    induction n generalizing s with
    | zero => exact h
    | succ n ih =>
      unfold State.drainHeld
      split
      · exact h
      · exact ih (frontAdmit (modPlat h ..) _)
  exact held _ h

theorem discard (h : K.holds s) (f : Frame) : K.holds (s.discard f) := dropImage (freeFrame (passEnded h f) f) ..

/-! ### The fault log and the halt -/

theorem countSecondary (h : K.holds s) : K.holds s.countSecondary := by
  unfold State.countSecondary
  split <;> exact K.same h rfl

theorem putRecord (h : K.holds s) (fatal : Bool) (b : List Byte) : K.holds (s.putRecord fatal b) := by
  unfold State.putRecord
  extract_lets u f t r
  have ht : K.holds t := K.same h rfl
  have hr : K.holds r := ite (plane (id := .safLogIdx) ht ..) (plane (id := .safLogIdx) ht ..)
  exact K.same hr rfl

theorem logNonFatal (h : K.holds s) (code : Nat) (detail : List Word) (inj : Bool) : K.holds (s.logNonFatal code detail inj) := by
  unfold State.logNonFatal
  refine ite (countSecondary h) ?_
  extract_lets last t
  have hput : K.holds (s.logRecord false code (s.logFlags false inj) detail) := putRecord h ..
  have ht : K.holds t := plane (id := .safIntStat) hput ..
  exact ite (K.same ht rfl) (count h ..)

variable (hstat : K.reg ≠ .safStat) (hlife : K.reg ≠ .safLifeHalts)
include hstat hlife

theorem haltWith (h : K.holds s) (code : Nat) (detail : List Word) (inj : Bool) : K.holds (s.haltWith code detail inj) := by
  cases hh : s.halted with
  | true =>
    unfold State.haltWith
    rw [if_pos hh]
    unfold State.haltAgain
    split
    · exact h
    · exact ite (countSecondary h) (ite (K.same (K.write (id := .safStat) hstat.symm h) rfl) h)
  | false =>
    rw [State.haltWith_eq hh]
    exact K.write hlife.symm (State.steady_halted (K.same (K.write (id := .safStat) hstat.symm h) rfl))

theorem crcFailed (h : K.holds s) (plat port : Nat) (inj : Bool) : K.holds (s.crcFailed plat port inj) := by
  unfold State.crcFailed
  extract_lets t recent f u
  have ht : K.holds t := plane (id := .safIntStat) (count h ..) ..
  have hu : K.holds u := K.same ht rfl
  split
  · exact haltWith hstat hlife hu ..
  · exact logNonFatal (s := u.fresh.2) (K.same hu rfl) ..

theorem spoilCell (h : K.holds s) (c : CellPlace) (k : Nat) : K.holds (s.spoilCell c k) := by
  unfold State.spoilCell
  cases c with
  | source p no => exact K.same h rfl
  | queued e c i => exact setQueue h ..
  | handed e c => exact modPort h ..
  | leaving e =>
    dsimp only
    unfold State.cutLeaving
    split
    · exact h
    · split
      · exact h
      · exact ite (crcFailed hstat hlife (modPort h ..) ..) h

omit hstat hlife in
theorem loseEntry (h : K.holds s) (p : Nat) (q : PlatQueue) (i : Nat) : K.holds (s.loseEntry p q i) := by
  have lost {t : State} (ht : K.holds t) (p : Nat) : K.holds (t.parityLost p false) :=
    logNonFatal (count (s := t.fresh.2) (K.same ht rfl) ..) ..
  have drop {t : State} (ht : K.holds t) (f : Frame) : K.holds (t.entryDrop f) := lost (drain (discard ht f)) _
  unfold State.loseEntry
  extract_lets x
  cases q with
  | intake =>
    dsimp only
    split
    · exact drop (setPlat h ..) _
    · exact h
  | prio =>
    dsimp only
    split
    · exact drop (setPlat h ..) _
    · exact h
  | norm =>
    dsimp only
    split
    · exact drop (setPlat h ..) _
    · exact h
  | learn =>
    dsimp only
    split
    · exact lost (setPlat h ..) _
    · exact h
  | capture =>
    dsimp only
    split
    · exact lost (settleRecording (ite (setPlat h ..) (freeCapture (setPlat h ..) _))) _
    · exact h

end Steady

end Sys2Proof.Machine

/-! PROOFS. O53: the scrubber, the errors of memories, the monitors and the sensors. -/

namespace Sys2Proof.Machine

variable {s : State}

theorem State.guarded_of_awake (ha : s.awake = true) (hp : 1 ≤ s.phase) : s.guarded = true := by
  obtain ⟨hpow, hh⟩ : s.powered = true ∧ s.halted = false := by simpa [State.awake] using ha
  simp [State.guarded, State.detects, hpow, hh, hp]

theorem State.halted_of_awake (ha : s.awake = true) : s.halted = false := by
  obtain ⟨-, hh⟩ : s.powered = true ∧ s.halted = false := by simpa [State.awake] using ha
  exact hh

/-! ### The scrubber -/

theorem State.scrubLine_off {a b : Nat} (h : s.rb .safCfg 0 30 = false ∨ s.rb .aoChipStat 0 31 = true) : s.scrubLine a b = s := by
  refine if_pos ?_
  rcases h with h | h <;> simp [h]

/-- The state in which a scrub read goes on to the next lines. -/
def State.scrubAt (s : State) (single : Bool) : State :=
  { s with saf := { s.saf with injDouble := false, injSingle := single } }.scrubNext

theorem State.scrubLine_on {a b : Nat} (h30 : s.rb .safCfg 0 30 = true) (h31 : s.rb .aoChipStat 0 31 = false)
    (hh : s.halted = false) :
    s.scrubLine a b
      = (((s.scrubAt (s.saf.injSingle && s.saf.injDouble)).scrubFound 0 s.saf.tableLine
          (if s.saf.injDouble then 2 else if s.saf.injSingle then 1 else 0) true).scrubFound 0 s.saf.tableLine a false).scrubFound 1
            s.saf.treeLine b false :=
  if_neg (by simp [h30, h31, hh])

theorem State.scrubAt_eq (single : Bool) :
    s.scrubAt single
      = (let t : State := { s with saf := { s.saf with
          injDouble := false, injSingle := single
          tableLine := if s.saf.tableLine + 1 = 1048576 then 0 else s.saf.tableLine + 1
          treeLine := if s.saf.treeLine + 1 = 393216 then 0 else s.saf.treeLine + 1 } }
        if s.saf.tableLine + 1 = 1048576 then t.count .saf 0 3 else t) := by
  unfold State.scrubAt State.scrubNext State.countIf
  by_cases h : s.saf.tableLine + 1 = 1048576 <;> simp only [h, decide_true, decide_false, if_true, if_false, Bool.false_eq_true]

/-- A pass counted is no write of SAF_CFG: the half-range bit stands in a register of its own. -/
theorem State.reg_safCfg_count_pass : (s.count .saf 0 3).reg .safCfg 0 = s.reg .safCfg 0 := by
  have hhalf (t : State) : (t.orReg .safCntHalf 0 (2 ^ 3)).reg .safCfg 0 = t.reg .safCfg 0 := by
    refine State.reg_setReg_warm_ne (fun he => ?_) (.inl (by decide))
    have hbit := congrArg (bitW · 3) he
    rw [bitW, BitVec.getLsbD_or, show (Word.ofNat (2 ^ 3)).getLsbD 3 = true from by decide, Bool.or_true] at hbit
    exact absurd hbit (by decide)
  have hregs (v : Nat) : regOf (s.halfRegs .saf 0 3 v) .safCfg 0 = s.reg .safCfg 0 := by
    unfold State.halfRegs
    split
    · rfl
    · exact hhalf s
  rw [State.count, State.countN, State.setCounter_eq]
  exact hregs _

theorem State.ecc_scrubAt (single : Bool) : (s.scrubAt single).rb .safCfg 0 31 = s.rb .safCfg 0 31 := by
  rw [State.scrubAt_eq]
  dsimp only
  unfold State.rb
  split
  · rw [State.reg_safCfg_count_pass]
    rfl
  · rfl

/-- An uncorrectable error in a scrubbed line. -/
def State.scrubDies (t : State) (region line : Nat) (injected : Bool) : State :=
  { t with free := t.free + 2 }.haltWith 0x0010
    [Word.ofNat region, Word.ofNat (line * 64 + Config.freeValue t.free % 64), Word.ofNat (Config.freeValue (t.free + 1)), 1] injected

theorem State.scrubFound_clean (region line : Nat) (inj : Bool) : s.scrubFound region line 0 inj = s := if_pos rfl

theorem State.scrubFound_single (region line : Nat) (inj : Bool) (h : s.rb .safCfg 0 31 = true) :
    s.scrubFound region line 1 inj = (s.count .saf 0 0).orReg .safIntStat 0 1 :=
  (if_neg (by decide)).trans (if_pos ⟨rfl, h⟩)

theorem State.scrubFound_fatal (region line : Nat) (inj : Bool) {err : Nat} (h0 : err ≠ 0)
    (h : err ≠ 1 ∨ s.rb .safCfg 0 31 = false) : s.scrubFound region line err inj = s.scrubDies region line inj :=
  (if_neg h0).trans (if_neg (fun hc => h.elim (· hc.1) (fun h31 => by rw [h31] at hc; exact Bool.false_ne_true hc.2)))

theorem lineError_line (double : Bool) : lineError (some ⟨.line, double⟩) = if double then 2 else 1 := rfl

theorem scrubber : Rules.Scrubber := by
  intro s a b ha hp e f next fixed dies
  have hg := State.guarded_of_awake ha hp
  have hh := State.halted_of_awake ha
  have hread {x y : Option MemErr} {t : State} (hw : (Instr.scrubRead x y).wf = true) (h : s.scrub x y = t) :
      completes (.scrubRead x y) s t := h ▸ completes_answer rfl hw hg
  have hnext (single : Bool) : next false single = s.scrubAt single := (State.scrubAt_eq single).symm
  refine ⟨fun hoff => ⟨hread rfl (State.scrubLine_off hoff), hread rfl (State.scrubLine_off hoff)⟩, fun h30 h31 => ?_⟩
  have hline (x y : Nat) := State.scrubLine_on (a := x) (b := y) h30 h31 hh
  have hsome (a : Bool) : (if a = true then 2 else 1) ≠ 0 := by cases a <;> decide
  have hfatal (a : Bool) (h : a = true ∨ s.rb .safCfg 0 31 = false) :
      (if a = true then 2 else 1) ≠ 1 ∨ (s.scrubAt false).rb .safCfg 0 31 = false :=
    h.imp (fun h => by rw [h]; decide) ((State.ecc_scrubAt _).trans ·)
  refine ⟨fun hd hs => ?_, fun hd hs hecc => hread rfl ?_, fun hd => hread rfl ?_⟩
  · have hplain (x y : Nat) : s.scrubLine x y
        = ((s.scrubAt false).scrubFound 0 f.tableLine x false).scrubFound 1 f.treeLine y false := by
      rw [hline, show s.saf.injDouble = false from hd, show s.saf.injSingle = false from hs]
      rfl
    have hclean : s.scrubLine 0 0 = next false false := by
      rw [hplain, State.scrubFound_clean, State.scrubFound_clean, hnext]
    refine ⟨hread rfl hclean, fun hecc => ⟨hread rfl ?_, hread rfl ?_⟩, fun hf => ⟨hread (by cases a <;> rfl) ?_, hread (by cases a <;> rfl) ?_⟩⟩
    · change s.scrubLine 1 0 = _
      rw [hplain, State.scrubFound_single _ _ _ ((State.ecc_scrubAt _).trans hecc), State.scrubFound_clean, hnext]
    · change s.scrubLine 0 1 = _
      rw [hplain, State.scrubFound_clean, State.scrubFound_single _ _ _ ((State.ecc_scrubAt _).trans hecc), hnext]
    · change s.scrubLine (if a then 2 else 1) 0 = _
      rw [hplain, State.scrubFound_fatal _ _ _ (hsome a) (hfatal a hf), State.scrubFound_clean, hnext]
      rfl
    · change s.scrubLine 0 (if a then 2 else 1) = _
      rw [hplain, State.scrubFound_clean, State.scrubFound_fatal _ _ _ (hsome a) (hfatal a hf), hnext]
      rfl
  · change s.scrubLine 0 0 = _
    rw [hline, show s.saf.injDouble = false from hd, show s.saf.injSingle = true from hs, hnext]
    change (((s.scrubAt false).scrubFound 0 _ 1 true).scrubFound 0 _ 0 false).scrubFound 1 _ 0 false = _
    rw [State.scrubFound_clean, State.scrubFound_clean, State.scrubFound_single _ _ _ ((State.ecc_scrubAt _).trans hecc)]
  · change s.scrubLine 0 0 = _
    rw [hline, show s.saf.injDouble = true from hd, Bool.and_true, hnext]
    change (((s.scrubAt f.injSingle).scrubFound 0 _ 2 true).scrubFound 0 _ 0 false).scrubFound 1 _ 0 false = _
    rw [State.scrubFound_clean, State.scrubFound_clean, State.scrubFound_fatal _ _ _ (by decide) (.inl (by decide))]
    rfl

/-! ### Errors outside the line read -/

/-- With the scrubber off nothing is read, whatever an error makes of the other words. -/
theorem scrub_off {t : State} (h30 : s.rb .safCfg 0 30 = false)
    (hw : (Steady.warm .safCfg rfl 0 (s.reg .safCfg 0)).holds t) (a b : Nat) : t.scrubLine a b = t := by
  refine State.scrubLine_off (.inl ?_)
  rw [State.rb, hw.1]
  exact h30

theorem State.corrected_single {t : State} (h : s.rb .safCfg 0 31 = true) :
    s.corrected false t = (s.count .saf 0 0).orReg .safIntStat 0 1 := if_pos ⟨Bool.false_ne_true, h⟩

theorem State.corrected_fatal {t : State} {double : Bool} (h : double = true ∨ s.rb .safCfg 0 31 = false) :
    s.corrected double t = t :=
  if_neg (fun hc => h.elim hc.1 (fun h31 => by rw [h31] at hc; exact Bool.false_ne_true hc.2))

theorem State.memoryError_word (region a : Nat) (double : Bool) :
    s.memoryError region ⟨.word a, double⟩ = s.corrected double ({ s with free := s.free + 1 }.halt 0x0010
      [Word.ofNat region, Word.ofNat a, Word.ofNat (Config.freeValue s.free), 0]) := rfl

theorem State.scrub_second (e : MemErr) : s.scrub none (some e) = (s.memoryError 1 e).scrubLine 0 (lineError (some e)) := rfl

theorem memoryErrors : Rules.MemoryErrors := by
  intro s double p x y q c ha hph h30 hp hx hc at0 fixed free1 v
  have hg := State.guarded_of_awake ha hph
  have hh := State.halted_of_awake ha
  let K := Steady.warm .safCfg rfl 0 (s.reg .safCfg 0)
  have hK : K.holds s := ⟨rfl, fun he => by rw [State.rb, he] at h30; exact absurd h30 (by decide)⟩
  have hstat : K.reg ≠ .safStat := show RegId.safCfg ≠ .safStat by decide
  have hlife : K.reg ≠ .safLifeHalts := show RegId.safCfg ≠ .safLifeHalts by decide
  have hhalt {t : State} (ht : K.holds t) (code : Nat) (d : List Word) : K.holds (t.halt code d) :=
    Steady.haltWith hstat hlife ht ..
  have hfixed : K.holds fixed := Steady.plane (id := .safIntStat) (Steady.count hK ..) ..
  have hfree : K.holds free1 := K.same hK rfl
  have hfirst {m : MemPlace} {t : State} (hw : (Instr.scrubRead (some ⟨m, double⟩) none).wf = true)
      (h : s.memoryError 0 ⟨m, double⟩ = t) (ht : K.holds t) : at0 m t := by
    have hs : s.scrub (some ⟨m, double⟩) none = t := by
      subst h
      exact scrub_off h30 ht ..
    exact hs ▸ completes_answer rfl hw hg
  have hwf {m : MemPlace} (h : MemErr.wf ⟨m, double⟩ = true) : (Instr.scrubRead (some ⟨m, double⟩) none).wf = true := by
    simp [Instr.wf, h]
  have hword : MemErr.wf ⟨.word x, double⟩ = true := decide_eq_true hx
  have hqueue : MemErr.wf ⟨.queue p q x, double⟩ = true := decide_eq_true hp
  have hmram : MemErr.wf ⟨.mram x, double⟩ = true := decide_eq_true (by omega)
  refine ⟨fun hd hecc => ?_, fun hd => ⟨?_, ?_, ?_, ?_, ?_⟩, fun hb => ?_, ?_, fun hd hecc => ?_, fun hd => ?_⟩
  · have hone {t : State} : s.corrected double t = fixed := hd ▸ State.corrected_single hecc
    exact ⟨hfirst (hwf hword) hone hfixed, hfirst (hwf rfl) hone hfixed, hfirst (hwf hc) hone hfixed, hfirst (hwf hqueue) hone hfixed⟩
  · exact hfirst (hwf hword) ((s.memoryError_word ..).trans (State.corrected_fatal hd)) (hhalt hfree ..)
  · have he : s.memoryError 1 ⟨.word x, double⟩ = free1.halt 0x0010 [Word.ofNat 1, Word.ofNat x, v, Word.ofNat 0] :=
      (s.memoryError_word ..).trans (State.corrected_fatal hd)
    have hs := s.scrub_second ⟨.word x, double⟩
    rw [he, scrub_off h30 (hhalt hfree ..)] at hs
    exact hs ▸ completes_answer rfl (by simp [Instr.wf, hword]) hg
  · exact hfirst (hwf rfl) (State.corrected_fatal hd) (hhalt hK ..)
  · refine hfirst (hwf hc) ((State.corrected_fatal hd).trans (if_neg (by simp [hh]))) (Steady.spoilCell hstat hlife hK ..)
  · refine hfirst (hwf hqueue) ((State.corrected_fatal hd).trans (if_neg (by simp [hh]))) (Steady.loseEntry hK ..)
  · exact hfirst (hwf hb) rfl (hhalt hK ..)
  · exact hfirst (hwf (decide_eq_true hp)) (if_neg (by simp [hh])) (K.same hK rfl)
  · exact hfirst (hwf hmram) (if_pos (by simp [hd, hecc])) hK
  · refine hfirst (hwf hmram) ((if_neg ?_).trans (if_neg (by simp [hh]))) ?_
    · rcases hd with h | h <;> simp [h]
    · have hlost : K.holds { s with saf := { s.saf with log := Store.set [] s.saf.log x [] } } := K.same hK rfl
      exact Steady.logNonFatal (Steady.count hlost ..) ..

end Sys2Proof.Machine

/-! PROOFS. O53: cells that go bad, entries lost, the monitors and the sensors. -/

namespace Sys2Proof.Machine

variable {s : State}

theorem cellsAndEntriesLost : Rules.CellsAndEntriesLost := by
  intro s p i hp waits free1 drops
  refine ⟨fun h => ?_, fun e h => ?_, fun f h => ?_, fun f h => ?_, fun f h => ?_, fun h => ?_⟩
  · unfold State.meetCell
    rw [h]
    rfl
  · have hmeet : s.meetCell p = match [e][Config.freeValue s.free % 2]? with
        | some e => (free1.cutReading e).crcFailed p e true
        | none => waits free1 := by
      unfold State.meetCell
      rw [h] <;> rfl
    rcases Nat.mod_two_eq_zero_or_one (Config.freeValue s.free) with hv | hv
    · exact .inr (by rw [hmeet, hv] <;> rfl)
    · exact .inl (by rw [hmeet, hv] <;> rfl)
  all_goals
    unfold State.loseEntry
    dsimp only
    rw [h] <;> rfl

/-! ### Cells that go bad -/

theorem Frame.mem_badCells_spoil {f : Frame} {k : Nat} (h : k < f.cells) : k ∈ (f.spoil k).badCells := by
  rw [Frame.spoil, if_pos h]
  exact List.mem_cons_self

theorem Frame.no_spoil (f : Frame) (k : Nat) : (f.spoil k).no = f.no := by
  unfold Frame.spoil
  split <;> rfl

theorem Frame.cells_spoil (f : Frame) (k : Nat) : (f.spoil k).cells = f.cells := by
  unfold Frame.spoil
  split <;> rfl

/-- What an error in the copy source of frame `no` makes of a frame. -/
def Frame.spoilOf (no k : Nat) (f : Frame) : Frame := if f.no = no then f.spoil k else f

theorem Frame.spoilOf_other {no k : Nat} {f : Frame} (h : f.no ≠ no) : f.spoilOf no k = f := if_neg h

theorem Frame.mem_badCells_spoilOf {no k : Nat} {f : Frame} (hn : (f.spoilOf no k).no = no) (hk : k < (f.spoilOf no k).cells) :
    k ∈ (f.spoilOf no k).badCells := by
  unfold Frame.spoilOf at *
  split at hn
  · next h =>
    rw [if_pos h] at hk ⊢
    exact Frame.mem_badCells_spoil (Frame.cells_spoil f k ▸ hk)
  · next h => exact absurd hn h

/-- What it makes of a copy. -/
def Copy.spoilOf (no k : Nat) (x : Copy) : Copy :=
  if x.frame.no = no && !x.written then { x with frame := x.frame.spoil k } else x

theorem Copy.spoilOf_written {no k : Nat} {x : Copy} (h : x.written = true) : x.spoilOf no k = x := if_neg (by simp [h])

theorem Copy.mem_badCells_spoilOf {no k : Nat} {x : Copy} (hn : (x.spoilOf no k).frame.no = no)
    (hw : (x.spoilOf no k).written = false) (hk : k < (x.spoilOf no k).frame.cells) : k ∈ (x.spoilOf no k).frame.badCells := by
  unfold Copy.spoilOf at *
  split at hn
  · next h =>
    rw [if_pos h] at hk ⊢
    exact Frame.mem_badCells_spoil (Frame.cells_spoil x.frame k ▸ hk)
  · next h =>
    rw [if_neg h] at hw
    exact absurd (by simp [hn, hw]) h

theorem Store.get_map {α : Type} (d : α) (g : α → α) (hg : g d = d) (m : Store α) (k : Nat) :
    Store.get d (m.map fun (j, v) => (j, g v)) k = g (Store.get d m k) := by
  induction m with
  | nil => exact hg.symm
  | cons x m ih =>
    simp only [List.map_cons, Store.get, ih]
    split
    · rfl
    · split
      · exact hg.symm
      · rfl

theorem PortSt.queue_spoilUnwritten (y : PortSt) (no k d : Nat) :
    ((y.spoilUnwritten no k).queue d).copies = (y.queue d).copies.map (Copy.spoilOf no k) := by
  unfold PortSt.queue PortSt.spoilUnwritten
  rw [List.getElem?_map]
  cases y.queues[d]? with
  | none => rfl
  | some q => rfl

theorem State.queue_spoilSource (p no k n d : Nat) :
    (((s.spoilCell (.source p no) k).port n).queue d).copies = ((s.port n).queue d).copies.map (Copy.spoilOf no k) := by
  have hport : (s.spoilCell (.source p no) k).port n = (s.port n).spoilUnwritten no k :=
    Store.get_map ({} : PortSt) (PortSt.spoilUnwritten · no k) rfl s.ports n
  rw [hport, PortSt.queue_spoilUnwritten]

theorem PortSt.queue_setQueue {y : PortSt} {c : Nat} (h : c < y.queues.length) (q : Queue) : (y.setQueue c q).queue c = q := by
  simp only [PortSt.queue, PortSt.setQueue, List.getElem?_set_self h, Option.getD_some]

theorem badCells : Rules.BadCells := by
  intro s e c i k p no hwf
  refine ⟨fun hp => ?_, fun x he hc hx hw => ?_, fun t x ht hx hb => ?_⟩
  · intro t
    have hplat : t.plat p = (s.plat p).spoil no k := State.plat_setPlat hp
    refine ⟨fun f hf hn hk => ?_, fun f hf hn => ?_, fun n d x hx hn hw hk => ?_, fun n d x hx hw => ?_⟩
    · have hf : f ∈ ((s.plat p).intake ++ (s.plat p).prio ++ (s.plat p).norm).map (Frame.spoilOf no k) := by
        rw [hplat] at hf
        rw [List.map_append, List.map_append]
        exact hf
      obtain ⟨g, -, rfl⟩ := List.mem_map.mp hf
      exact Frame.mem_badCells_spoilOf hn hk
    · rw [hplat]
      exact List.mem_map.mpr ⟨f, hf, Frame.spoilOf_other hn⟩
    · rw [State.queue_spoilSource] at hx
      obtain ⟨y, -, rfl⟩ := List.mem_map.mp hx
      exact Copy.mem_badCells_spoilOf hn hw hk
    · rw [State.queue_spoilSource]
      exact List.mem_map.mpr ⟨x, hx, Copy.spoilOf_written hw⟩
  · have hq : ((s.spoilCell (.queued e c i) k).port e).queue c
        = { (s.port e).queue c with copies := ((s.port e).queue c).copies.modify i fun x =>
            if x.written then { x with frame := x.frame.spoil k } else x } := by
      unfold State.spoilCell State.setQueue State.modPort
      dsimp only
      rw [State.port_setPort_self hwf, PortSt.queue_setQueue hc]
    rw [hq]
    simp [hx, hw]
  · have hcut : s.spoilCell (.leaving e) k = if (!t.bad) = true ∧ s.firstUnsent e t x ≤ k ∧ k < x.cells then
          (s.modPort e fun p => { p with tx := some (t.cutAt e k) }).crcFailed (egressPlat e) e false else s := by
      unfold State.spoilCell State.cutLeaving
      dsimp only
      simp only [ht, hx]
    rw [hcut, hb]
    refine ⟨fun h1 h2 => if_pos ⟨rfl, h1, h2⟩, fun h => if_neg ?_⟩
    rintro ⟨-, h1, h2⟩
    omega

end Sys2Proof.Machine

/-! PROOFS. O53: the clock monitors, the self-test and the sensors. -/

namespace Sys2Proof.Machine

variable {s : State}

/-! ### The clock monitors -/

theorem clockMonitors : Rules.ClockMonitors := by
  intro s
  have hrun (h : s.awake = true) (hp : 1 ≤ s.phase) (hv : s.boot.vao = true) {t : State} {l : List Nat} (ht : s.clockWindow l = t) :
      completes (.clockMonitorWindow l) s t := by
    obtain ⟨hpow, -⟩ : s.powered = true ∧ s.halted = false := by simpa [State.awake] using h
    have hrest : (!s.powered || decide (s.phase = 0)) = false := by simp [hpow]; omega
    have he : (if (!s.powered || decide (s.phase = 0)) = true then s.refRuns ((l[3]?).getD 0) else s.clockWindow l) = t := by
      rw [hrest]
      exact ht
    exact he ▸ completes_answer rfl rfl (by simp [hv, State.guarded_of_awake h hp])
  have hrest (h : s.powered = false ∨ s.phase = 0) (hv : s.boot.vao = true) {t : State} {l : List Nat}
      (ht : s.refRuns ((l[3]?).getD 0) = t) : completes (.clockMonitorWindow l) s t := by
    have hr : (!s.powered || decide (s.phase = 0)) = true := by rcases h with h | h <;> simp [h]
    have he : (if (!s.powered || decide (s.phase = 0)) = true then s.refRuns ((l[3]?).getD 0) else s.clockWindow l) = t := by
      rw [hr]
      exact ht
    exact he ▸ completes_answer rfl rfl (by rw [hv, hr]; rfl)
  refine ⟨fun ha hp hv l => ?_, fun h hv l => ⟨fun h0 => hrest h hv ?_, fun h0 => ?_⟩, ?_, fun ha hp => ?_⟩
  · intro bad t1 t
    have hfind : s.clockWindow l = match (List.range 4).find? fun m => decide (2 ≤ (bad[m]?).getD 0) with
        | some m => t.halt 0x0002 [Word.ofNat m, Word.ofNat ((l[m]?).getD 0)]
        | none => t := rfl
    refine ⟨fun hlow => hrun ha hp hv ?_, fun m hm h2 hlow => hrun ha hp hv ?_⟩
    · have hn : ((List.range 4).find? fun m => decide (2 ≤ (bad[m]?).getD 0)) = none := by
        rw [List.find?_eq_none]
        intro m hm
        have := hlow m (List.mem_range.mp hm)
        simpa using this
      rw [hfind, hn]
    · have hn : ((List.range 4).find? fun m => decide (2 ≤ (bad[m]?).getD 0)) = some m :=
        List.find?_range_eq_some.mpr ⟨decide_eq_true h2, List.mem_range.mpr hm, fun k hk => by
          have := hlow k hk
          simpa using this⟩
      rw [hfind, hn]
  · rw [State.refRuns, State.refWindow, if_pos h0]
    cases s.boot.waiting with
    | none => rfl
    | some straps => rfl
  · intro t
    have hstop : s.refWindow ((l[3]?).getD 0) = t := if_neg h0
    refine ⟨fun hw => hrest h hv ?_, fun straps hw => hrest h hv ?_⟩
    · rw [State.refRuns, hstop, show t.boot.waiting = none from hw]
    · rw [State.refRuns, hstop, show t.boot.waiting = some straps from hw]
      rfl
  · simp [State.timeRuns]
  · have hg := State.guarded_of_awake ha hp
    exact ⟨completes_answer (t := s) rfl rfl hg, fun m => completes_answer (t := s.halt 0x0060 [Word.ofNat m, 0]) rfl rfl hg⟩

/-! ### The sensors -/

/-- What a reading of the junction sensors makes of the state, before a limit is judged. -/
def State.heated (s : State) (temps : List Int) (i : Nat) (v : Int) : State :=
  let t := s.setReg .safTemp 0 (Word.ofNat (at_ i 28 + unsigned 10 v))
  let t := if 2 * (t.rf .safCfg 0 23 16 : Int) ≤ v then t.orReg .safIntStat 0 8 else t
  { t with saf := { t.saf with
      lowest := temps.foldl min v
      hourMax := some (match t.saf.hourMax with | some m => max m v | none => v) } }

theorem State.heated_fs (temps : List Int) (i : Nat) (v : Int) : (s.heated temps i v).fs = s.fs := by
  unfold State.heated
  dsimp only
  split <;> rfl

theorem State.heated_railOut (temps : List Int) (i : Nat) (v : Int) : (s.heated temps i v).saf.railOut = s.saf.railOut := by
  unfold State.heated
  dsimp only
  split <;> rfl

/-- A rail's time outside its limits, after a reading. -/
theorem State.getElem?_railsOut (rails : List Int) {r : Nat} (hr : r < 6) :
    (s.railsOut rails)[r]? = some (match rails[r]? with
      | none => (s.saf.railOut[r]?).getD none
      | some mv => if decide (mv < ((railLimits r).1 : Int)) || decide (((railLimits r).2 : Int) < mv) then
          some (((s.saf.railOut[r]?).getD none).getD s.fs) else none) := by
  unfold State.railsOut
  rw [List.getElem?_map, List.getElem?_range hr] <;> rfl

/-- The state with its rails read. -/
def State.railed (s u : State) (rails : List Int) : State := { u with saf := { u.saf with railOut := s.railsOut rails } }

/-- Whether a rail read has been outside its limits for 1 µs. -/
def State.railTrips (s : State) (rails : List Int) (r : Nat) : Bool :=
  match ((s.railsOut rails)[r]?).getD none with
  | some x => decide (x + railTripFs ≤ s.fs)
  | none => false

/-- A rail outside its limits. -/
def railIsOut (rails : List Int) (r : Nat) : Prop :=
  (rails[r]?).getD 0 < ((railLimits r).1 : Int) ∨ ((railLimits r).2 : Int) < (rails[r]?).getD 0

theorem State.railsOut_unread {rails : List Int} {r : Nat} (hr : r < 6) (hl : rails.length ≤ r) :
    (s.railsOut rails)[r]? = some ((s.saf.railOut[r]?).getD none) := by
  rw [State.getElem?_railsOut rails hr, List.getElem?_eq_none hl]

theorem State.railsOut_within {rails : List Int} {r : Nat} (hr : r < 6) (hl : r < rails.length) (ho : ¬ railIsOut rails r) :
    (s.railsOut rails)[r]? = some none := by
  rw [State.getElem?_railsOut rails hr]
  unfold railIsOut at ho
  rw [List.getElem?_eq_getElem hl] at ho ⊢
  exact congrArg some (if_neg (by simpa using ho))

theorem State.railsOut_beyond {rails : List Int} {r : Nat} (hr : r < 6) (hl : r < rails.length) (ho : railIsOut rails r) :
    (s.railsOut rails)[r]? = some (some (((s.saf.railOut[r]?).getD none).getD s.fs)) := by
  rw [State.getElem?_railsOut rails hr]
  unfold railIsOut at ho
  rw [List.getElem?_eq_getElem hl] at ho ⊢
  exact congrArg some (if_pos (by simpa using ho))

theorem State.railTrips_iff {rails : List Int} {r : Nat} (hr : r < 6) (hl : r < rails.length) :
    s.railTrips rails r = true
      ↔ ∃ since, s.saf.railOut[r]? = some (some since) ∧ since + railTripFs ≤ s.fs ∧ railIsOut rails r := by
  unfold State.railTrips
  by_cases ho : railIsOut rails r
  · rw [State.railsOut_beyond hr hl ho]
    have hpos : ¬ s.fs + railTripFs ≤ s.fs := by
      have : 0 < railTripFs := by decide
      omega
    rcases s.saf.railOut[r]? with - | - | since <;> simp [ho, hpos]
  · rw [State.railsOut_within hr hl ho]
    simp [ho]

/-- The limits judged: the lowest junction that is too hot, else the lowest rail that trips. -/
def State.judgeSensors (s t : State) (temps rails : List Int) : State :=
  match (List.range temps.length).find? fun i => decide (2 * (t.rf .safCfg 0 15 8 : Int) ≤ (temps[i]?).getD 0) with
  | some i => t.halt 0x0050 [Word.ofNat i, Word.ofNat (unsigned 32 ((temps[i]?).getD 0))]
  | none =>
    match (List.range (min 6 rails.length)).find? (s.railTrips rails) with
    | some r => t.halt 0x0051 [Word.ofNat r, Word.ofNat (unsigned 32 ((rails[r]?).getD 0))]
    | none => t

theorem State.readSensors_eq {temps : List Int} (rails : List Int) {i : Nat} {v : Int} (h : hottest temps 0 = some (i, v)) :
    s.readSensors temps rails = s.judgeSensors (s.railed (s.heated temps i v) rails) temps rails := by
  have hout : (s.heated temps i v).railsOut rails = s.railsOut rails := by
    unfold State.railsOut
    rw [State.heated_fs, State.heated_railOut]
  have hraw : s.readSensors temps rails
      = let t := (s.heated temps i v).railed (s.heated temps i v) rails
        (s.heated temps i v).judgeSensors t temps rails := by
    unfold State.readSensors
    rw [h] <;> rfl
  rw [hraw]
  have htrip : (s.heated temps i v).railTrips rails = s.railTrips rails := by
    funext r
    unfold State.railTrips
    rw [hout, State.heated_fs]
  unfold State.judgeSensors State.railed
  rw [htrip, hout]

theorem sensors : Rules.Sensors := by
  intro s temps rails i v hp hhot out t0 t1 t tripped
  have hread {u : State} (h : s.judgeSensors t temps rails = u) : completes (.sensorRead temps rails) s u := by
    have he : s.readSensors temps rails = u := (State.readSensors_eq rails hhot).trans h
    exact he ▸ completes_answer rfl rfl hp
  have hcool (h : ∀ k, k < temps.length → (temps[k]?).getD 0 < 2 * (t.rf .safCfg 0 15 8 : Int)) :
      ((List.range temps.length).find? fun i => decide (2 * (t.rf .safCfg 0 15 8 : Int) ≤ (temps[i]?).getD 0)) = none := by
    rw [List.find?_eq_none]
    intro k hk
    simpa using h k (List.mem_range.mp hk)
  refine ⟨fun r hr => ⟨State.railsOut_unread hr, State.railsOut_within hr, State.railsOut_beyond hr⟩, fun k hk hhigh hlow => hread ?_,
    fun hall => ⟨fun hno => hread ?_, fun r h6 hr htrip hlow => hread ?_⟩⟩
  · have hn : ((List.range temps.length).find? fun i => decide (2 * (t.rf .safCfg 0 15 8 : Int) ≤ (temps[i]?).getD 0)) = some k :=
      List.find?_range_eq_some.mpr ⟨decide_eq_true hhigh, List.mem_range.mpr hk, fun j hj => by simpa using hlow j hj⟩
    rw [State.judgeSensors, hn]
  · have hn : (List.range (min 6 rails.length)).find? (s.railTrips rails) = none := by
      rw [List.find?_eq_none]
      intro r hr ht
      have hr := List.mem_range.mp hr
      exact hno r (by omega) (by omega) ((State.railTrips_iff (by omega) (by omega)).mp ht)
    rw [State.judgeSensors, hcool hall, hn]
  · have hn : (List.range (min 6 rails.length)).find? (s.railTrips rails) = some r :=
      List.find?_range_eq_some.mpr ⟨(State.railTrips_iff h6 hr).mpr htrip, List.mem_range.mpr (by omega), fun j hj => by
        have := mt (State.railTrips_iff (by omega) (by omega)).mp (hlow j hj)
        simpa using this⟩
    rw [State.judgeSensors, hcool hall, hn]

/-- Settles O53, rule by rule: with the scrubber off an error is met and nothing is read after it, since no fault writes SAF_CFG. -/
theorem scrubberAndMonitors : Obligations.ScrubberAndMonitors :=
  ⟨scrubber, memoryErrors, cellsAndEntriesLost, badCells, clockMonitors, sensors⟩

end Sys2Proof.Machine

/-! PROOFS. O60: SPI, the unmask of a vector, the refresh, a halt, the wrap of a counter and the canonical forms after reset. -/

namespace Sys2Proof.Machine

variable {s : State}

theorem canonicalAtReset : Rules.CanonicalAtReset := by
  unfold Rules.CanonicalAtReset regsCanonical
  decide

/-! ### SPI -/

theorem beNat_beBytes {a : Nat} (h : a < 2 ^ 32) : beNat (beBytes 4 a) = a := by
  simp [beNat, beBytes, leBytes, Byte.ofNat]
  omega

theorem regAddr_lt {b : Blk} (hb : b.ok = true) {off : Nat} (ho : off < 0x10000) : regAddr b .normal off < 2 ^ 32 :=
  Nat.lt_trans (regAddr_normal b off hb ho).1 (by decide)

/-- An SPI READ sees an interrupt enable as it stands. -/
theorem State.busRead_enable {b : Blk} {off : Nat} {id : RegId} {i : Nat} (hb : b.ok = true) (ho : off < 0x10000) (h4 : off % 4 = 0)
    (hr : s.regAt b off = some (id, i, false)) (hid : id ∈ enables) (hs : s.opens .spi b) :
    s.busRead .spi (regAddr b .normal off) = s.reg id i := by
  have hshown : ∀ id ∈ enables, id.aocMask = 0 ∧ id.woMask = 0 ∧ id ≠ .glbCommitStat := by decide
  obtain ⟨haoc, hwo, hne⟩ := hshown id hid
  have hstat : s.statusBits id i = 0 := by
    simp only [enables, List.mem_cons, List.not_mem_nil, or_false] at hid
    rcases hid with rfl | rfl | rfl | rfl | rfl | rfl | rfl | rfl | rfl | rfl | rfl | rfl | rfl | rfl | rfl <;> rfl
  have hfull : s.fullReg id i = s.reg id i := by
    have hm : id ∈ enables ++ latches := List.mem_append_left _ hid
    have hnot : ~~~Word.ofNat 0 = BitVec.allOnes 32 := by decide
    rw [State.fullReg, (interrupt_ungrouped hm s i).2, hstat, hwo, hnot, BitVec.and_allOnes]
    exact BitVec.or_zero
  have hword : s.word .spi id i = s.reg id i := by
    rw [State.word, if_neg hne, State.readReg, if_pos (.inl haoc), hfull]
  obtain ⟨haw, hopen, hreach⟩ := hs
  obtain ⟨hpow, hhalt⟩ : s.powered = true ∧ s.halted = false := by simpa [State.awake] using haw
  have h4' := regAddr_mod b .normal off h4
  unfold State.busRead
  rw [if_neg (by simp [h4', hpow, hreach]), decodeAddr_regAddr b .normal off hb ho]
  simp only [hr]
  rw [if_neg (by simp [hhalt]), if_neg, if_neg (by simp), hword]
  rintro ⟨-, hc, hboot, -⟩
  rcases hopen with h | h | h
  · exact hc h
  · exact absurd h (by decide)
  · exact hboot h

theorem spiCompletes : Rules.SpiCompletes := by
  intro s b off id i v hb ho h4 hr hid hs hph m
  obtain ⟨a, ha⟩ : ∃ a, a = regAddr b .normal off := ⟨_, rfl⟩
  have hbe : beNat (beBytes 4 a) = a := beNat_beBytes (ha ▸ regAddr_lt hb ho)
  obtain ⟨a0, a1, a2, a3, hbytes⟩ : ∃ a0 a1 a2 a3, beBytes 4 a = [a0, a1, a2, a3] := ⟨_, _, _, _, rfl⟩
  rw [← ha, hbytes]
  rw [hbytes] at hbe
  obtain ⟨hwrite, -, -, -, -, hread⟩ := spiTransactions s a0 a1 a2 a3 [] v 1
  rw [hbe] at hwrite hread
  have hm : id ∈ enables ++ latches := List.mem_append_left _ hid
  have hplain := s.plain_interrupt .spi i hm
  obtain ⟨-, -, -, hrwl, hne, -, -⟩ := interrupt_masks hm
  have hnamed : View.normal.touched v &&& m ≠ 0 := by rwa [View.touched_normal]
  refine ⟨?_, ?_⟩
  · rw [ha, State.busWrite_run s .spi b .normal off _ id i false v (regAddr_mod b .normal off h4)
      (decodeAddr_regAddr b .normal off hb ho) hr nofun hs,
      Access.run_act _ s hrwl (interrupt_ungrouped hm s i).1 (.inl (by rwa [State.access, hplain.writable])),
      Access.act_interrupt hm, hplain.store v hnamed] at hwrite
    exact hwrite
  · obtain ⟨hpow, -⟩ : s.powered = true ∧ s.halted = false := by simpa [State.awake] using hs.1
    obtain ⟨t, he, hbare, hout⟩ := hread hpow (.inl hph)
    have hreg : s.busRead .spi a = s.reg id i := ha ▸ State.busRead_enable hb ho h4 hr hid hs
    rw [← hreg]
    exact ⟨t, he, hbare, hout⟩

/-! ### The unmask of a vector -/

/-- A vector without a pending bit has none after the command, unless its source became active in it. -/
theorem State.fin_unpended {t : State} {v : Nat} (ha : t.active v = s.active v) (h : t.host.pend.testBit v = false) :
    (s.fin t).host.pend.testBit v = false := by
  have hk : (if s.phase = 2 then t else s.keepOlder t).host = t.host := by split <;> rfl
  have hact : (if s.phase = 2 then t else s.keepOlder t).watchQuiet.active v = s.active v := by
    rw [← ha]
    refine State.active_bare ((State.bare_watchQuiet _).trans ?_) v
    split <;> simp
  have fold (u : State) (hu : u.active v = s.active v) (l : List Nat) : ∀ w : State, w.host.pend.testBit v = false →
      (l.foldl (fun w v => if u.active v then (if s.active v then w else w.sendVector v) else w.dropPending v) w).host.pend.testBit v
        = false := by
    induction l with
    | nil => exact fun w hw => hw
    | cons v' l ih =>
      intro w hw
      refine ih _ ?_
      dsimp only
      by_cases hv : v' = v
      · have hdrop : w.dropPending v = w := by rw [State.dropPending, if_neg (by simp [bitOf, hw])]
        rw [hv, hu, hdrop]
        split
        · exact hw
        · exact hw
      · split
        · split
          · exact hw
          · exact (w.sendVector_pend hv).trans hw
        · exact (w.dropPending_pend hv).trans hw
  unfold State.fin
  simp only [State.pinChange_host]
  refine fold _ hact _ _ ?_
  rw [State.watchQuiet_host, hk]
  exact h

theorem State.fin_msix (t : State) : (s.fin t).host.msix = t.host.msix := by
  have fold (u : State) (l : List Nat) : ∀ w : State,
      (l.foldl (fun w v => if u.active v then (if s.active v then w else w.sendVector v) else w.dropPending v) w).host.msix
        = w.host.msix := by
    induction l with
    | nil => exact fun w => rfl
    | cons v l ih =>
      intro w
      rw [List.foldl_cons, ih]
      unfold State.sendVector State.dropPending
      split
      · split
        · rfl
        · split <;> rfl
      · split <;> rfl
  have hk : (if s.phase = 2 then t else s.keepOlder t).host = t.host := by split <;> rfl
  unfold State.fin
  simp only [State.pinChange_host]
  refine (fold _ _ _).trans ?_
  rw [State.watchQuiet_host, hk]

theorem unmaskCompletes : Rules.UnmaskCompletes := by
  intro s v hv ha hl
  obtain ⟨a, haddr⟩ : ∃ a, a = 0x3F00000 + 16 * v + 12 := ⟨_, rfl⟩
  have hw : (Instr.msixUnmask v).wf = true := decide_eq_true hv
  have he : exec (.msixUnmask v) s = Machine.access (.msixUnmask v) s (s.bus .pcie a 0) := by
    rw [haddr]
    rfl
  have hbus := (s.bus_unmask haddr hv ha hl).trans (s.msixWrite_unmask haddr hv)
  obtain ⟨u, hu0⟩ : ∃ u, u = s.bus .pcie a 0 := ⟨_, rfl⟩
  rw [← hu0] at he hbus
  have hmask : Store.get 1 (s.unmasked v).host.msix (v * 4 + 3) = 0 := by
    have hset : (s.unmasked v).host.msix = s.host.msix.put (v * 4 + 3) 0 := by
      rw [State.unmasked, Store.set, if_neg (by decide)]
    rw [hset]
    exact Store.get_put_self ..
  have hu : Store.get 1 u.host.msix (v * 4 + 3) = 0 ∧ u.host.pend.testBit v = false ∧ u.regs = s.regs
      ∧ (bitOf s.host.pend v = true → s.active v = true → Out.msix v ∈ u.out) := by
    rw [hbus]
    by_cases hp : bitOf s.host.pend v = true
    · have hbit : s.host.pend.testBit v = true := hp
      have hclear : (s.cleared v).host.pend.testBit v = false := by simp [State.cleared, hbit]
      rw [if_pos hp, s.active_cleared]
      split
      · exact ⟨hmask, hclear, rfl, fun _ _ => List.mem_cons_self⟩
      · next hact => exact ⟨hmask, hclear, rfl, fun _ h => absurd h hact⟩
    · rw [if_neg hp]
      exact ⟨hmask, by simpa [bitOf, State.unmasked] using hp, rfl, fun h => absurd h hp⟩
  obtain ⟨hum, hup, hur, huo⟩ := hu
  have hub : u.bare = (s.unmasked v).bare := by
    rw [hbus]
    split
    · split
      · exact State.bare_emit ..
      · rfl
    · rfl
  have hua : u.active v = s.active v :=
    (State.active_bare hub v).trans (State.active_congr (s := s.unmasked v) (t := s) rfl rfl v)
  refine ⟨_, exec_out he hw rfl, (congrArg (Store.get 1 · (v * 4 + 3)) (s.fin_msix u)).trans hum, State.fin_unpended hua hup, ?_,
    fun hp hact => (State.says_fin s u).mem (huo hp hact)⟩
  exact (State.bare_regs (State.bare_fin s u)).trans hur

/-! ### The refresh of the always-on copies -/

theorem State.refreshed_apart (l : List (RegId × Nat)) : ∀ s : State,
    (l.foldl State.refreshOne s).regs = s.regs ∧ (l.foldl State.refreshOne s).tables = s.tables
      ∧ (l.foldl State.refreshOne s).ports = s.ports ∧ (l.foldl State.refreshOne s).epochs = s.epochs
      ∧ (l.foldl State.refreshOne s).time = s.time := by
  induction l with
  | nil => exact fun s => ⟨rfl, rfl, rfl, rfl, rfl⟩
  | cons r l ih => exact fun s => ih (s.refreshOne r)

/-- The trims shown, one after another. -/
theorem State.showTrims_spec (l : List Nat) : ∀ s : State, regsCanonical s.regs →
    let t := l.foldl (fun s k => s.setReg .timeTbTrim k (Word.ofNat (unsigned 32 (s.tbTrim k)))) s
    t.tables = s.tables ∧ t.ports = s.ports ∧ t.epochs = s.epochs ∧ t.time = s.time
      ∧ ∀ k, k ∈ l ∨ s.reg .timeTbTrim k = Word.ofNat (unsigned 32 (s.tbTrim k)) →
          t.reg .timeTbTrim k = Word.ofNat (unsigned 32 (s.tbTrim k)) := by
  induction l with
  | nil => exact fun s hc => ⟨rfl, rfl, rfl, rfl, fun k h => h.resolve_left nofun⟩
  | cons j l ih =>
    intro s hc
    obtain ⟨h1, h2, h3, h4, h5⟩ := ih (s.setReg .timeTbTrim j (Word.ofNat (unsigned 32 (s.tbTrim j))))
      (State.regsCanonical_setReg hc ..)
    refine ⟨h1, h2, h3, h4, fun k hk => h5 k ?_⟩
    by_cases hj : k = j
    · subst hj
      exact .inr (State.reg_setReg_self hc ..)
    · rcases hk with hk | hk
      · exact .inl ((List.mem_cons.mp hk).resolve_left hj)
      · exact .inr ((State.reg_setReg_ne hc _ (.inr hj)).trans hk)

/-- What a refresh leaves: the trims shown, and everything but registers and copies. -/
theorem State.refreshAoc_leaves (hc : regsCanonical s.regs) :
    s.refreshAoc.ao.wrote = [] ∧ s.refreshAoc.tables = s.tables ∧ s.refreshAoc.ports = s.ports ∧ s.refreshAoc.epochs = s.epochs
      ∧ s.refreshAoc.time = s.time
      ∧ ∀ k, k < 8 → s.refreshAoc.reg .timeTbTrim k = Word.ofNat (unsigned 32 (s.tbTrim k)) := by
  obtain ⟨hregs, htab, hports, hep, htime⟩ := State.refreshed_apart aocCopies s
  have hr := s.refreshAoc_eq
  have htrims (k : Nat) : (aocCopies.foldl State.refreshOne s).tbTrim k = s.tbTrim k := by
    rw [State.tbTrim, State.tbSegs, htime]
    rfl
  generalize aocCopies.foldl State.refreshOne s = u at *
  obtain ⟨htab', hports', hep', htime', htrim⟩ := State.showTrims_spec (List.range 8) u (by rw [hregs]; exact hc)
  rw [hr]
  refine ⟨rfl, htab'.trans htab, hports'.trans hports, hep'.trans hep, htime'.trans htime, fun k hk => ?_⟩
  rw [← htrims]
  exact htrim k (.inl (List.mem_range.mpr hk))

theorem refreshCompletes : Rules.RefreshCompletes := by
  intro s hp hc
  obtain ⟨t, he, hb, -⟩ := completes_answer (c := .aocCopyRefresh) (t := s.refreshAoc) rfl rfl hp
  obtain ⟨hw, htab, hports, hep, htime, htrim⟩ := State.refreshAoc_leaves hc
  generalize s.refreshAoc = u at *
  refine ⟨t, he, (congrArg (fun v : State => v.ao.wrote) hb :).trans hw,
    fun k hk => (State.bare_reg hb .timeTbTrim k).trans (htrim k hk), ?_, ?_, ?_, ?_⟩
  · exact (congrArg State.tables hb :).trans htab
  · exact (State.bare_ports hb).trans hports
  · exact (congrArg State.epochs hb :).trans hep
  · exact (congrArg State.time hb :).trans htime

/-! ### A halt -/

theorem haltCompletes : Rules.HaltCompletes := by
  intro s code detail hf ha hc hw
  obtain ⟨hpow, hh⟩ : s.powered = true ∧ s.halted = false := by simpa [State.awake] using ha
  obtain ⟨t, he, hb, -⟩ := completes_halt detail hf hpow
  obtain ⟨hstat, -⟩ := State.haltWith_words (code := code) (detail := detail) (injected := false) hh hc
  obtain ⟨hcpl, -, -, htab, -, hep, htb⟩ := State.haltWith_rest (code := code) (detail := detail) (injected := false) hh
  rw [isFatal_lt hf] at hstat
  have hreg : t.reg .safStat 0 = (s.haltWith code detail false).reg .safStat 0 :=
    congrArg (regOf · .safStat 0) (State.bare_regs hb :)
  refine ⟨t, he, hreg.trans hstat, ?_, fun n hn => ?_, ?_, ?_, ?_⟩
  · exact (congrArg (fun u : State => u.red.cplLink) hb).trans hcpl
  · have hport : t.port n = (s.haltWith code detail false).port n := State.bare_port hb n
    rw [hport]
    exact ((State.haltWith_port hh hw n).2 hn).1
  · exact (congrArg State.tables hb).trans htab
  · exact (congrArg State.epochs hb).trans hep
  · exact (congrArg (fun u : State => u.time.tbs) hb).trans htb

/-! ### The wrap of a performance counter -/

section
variable (p n : Nat)

/-- A wrapped counter with its overflow bit. -/
def State.wrapped (s : State) (p n : Nat) : State :=
  (((s.notePerf p n 1 true).setReg (perfRegs p n).1 (perfRegs p n).2.2 0).setReg (perfRegs p n).2.1 (perfRegs p n).2.2 0).orReg
    .platPerfOvf p (2 ^ n)

/-- FREEZE set in a state. -/
def State.frozen (s : State) (p fs : Nat) : State := (s.orReg .platPerfCtrl p (2 ^ 30)).modPlat p fun x => { x with frozeAt := some fs }

theorem perfRegs_ne : (perfRegs p n).1 ≠ (perfRegs p n).2.1 ∧ (perfRegs p n).1 ≠ .platPerfOvf ∧ (perfRegs p n).2.1 ≠ .platPerfOvf
    ∧ (perfRegs p n).1 ≠ .platPerfCtrl ∧ (perfRegs p n).2.1 ≠ .platPerfCtrl := by
  unfold perfRegs
  split <;> simp

/-- The words of a wrapped counter. -/
theorem State.wrapped_words (hc : regsCanonical s.regs) :
    regsCanonical (s.wrapped p n).regs ∧ (s.wrapped p n).perf48 (perfRegs p n).1 (perfRegs p n).2.1 (perfRegs p n).2.2 = 0
      ∧ (s.wrapped p n).reg .platPerfCtrl p = s.reg .platPerfCtrl p := by
  obtain ⟨hlh, hlo, hho, hlc, hhc⟩ := perfRegs_ne p n
  unfold State.wrapped State.orReg
  have h1 : regsCanonical (s.notePerf p n 1 true).regs := hc
  have hreg : (s.notePerf p n 1 true).reg .platPerfCtrl p = s.reg .platPerfCtrl p := rfl
  generalize s.notePerf p n 1 true = u at *
  generalize perfRegs p n = r at *
  have h2 := State.regsCanonical_setReg h1 r.1 r.2.2 0
  have h3 := State.regsCanonical_setReg h2 r.2.1 r.2.2 0
  generalize (((u.setReg r.1 r.2.2 0).setReg r.2.1 r.2.2 0).reg .platPerfOvf p ||| Word.ofNat (2 ^ n)) = w
  refine ⟨State.regsCanonical_setReg h3 .., ?_, ?_⟩
  · rw [State.perf48, State.rf, State.reg_setReg_ne h3 _ (.inl hlo), State.reg_setReg_ne h2 _ (.inl hlh), State.reg_setReg_self h1,
      State.reg_setReg_ne h3 _ (.inl hho), State.reg_setReg_self h2]
    rfl
  · rw [State.reg_setReg_ne h3 _ (.inl (by decide)), State.reg_setReg_ne h2 _ (.inl hhc.symm),
      State.reg_setReg_ne h1 _ (.inl hlc.symm)]
    exact hreg

variable {n} in
theorem State.wrapped_ovf (hc : regsCanonical s.regs) (hn : n ≤ 8) : (s.wrapped p n).rb .platPerfOvf p n = true := by
  have hwc := State.regsCanonical_setReg (State.regsCanonical_setReg (s := s.notePerf p n 1 true) hc (perfRegs p n).1
    (perfRegs p n).2.2 0) (perfRegs p n).2.1 (perfRegs p n).2.2 0
  have hbit : bitW (Word.ofNat (2 ^ n)) n = true := by
    exact (by decide : ∀ n < 9, bitW (Word.ofNat (2 ^ n)) n = true) n (Nat.lt_succ_of_le hn)
  rw [State.wrapped, State.orReg, State.rb, State.reg_setReg_self hwc, bitW, BitVec.getLsbD_or,
    show (Word.ofNat (2 ^ n)).getLsbD n = true from hbit, Bool.or_true]

end

theorem wrapCompletes : Rules.WrapCompletes := by
  intro s p n hp hn hrun hc lo hi i hon hclk hmax hd
  have hcount := (counterWritesAndWraps s .firmware p n 0 hp hn).2 hrun
  obtain ⟨t, he, hb, -⟩ := hcount.2.1 hon hclk hmax hd
  obtain ⟨hwc, hzero, hctrl⟩ := State.wrapped_words p n hc
  have hovf := State.wrapped_ovf p hc hn
  have hb : t.bare = (if (s.wrapped p n).rb .platPerfCtrl p 29 = true ∧ (s.wrapped p n).rb .platPerfCtrl p 30 = false then
      (s.wrapped p n).frozen p s.fs else s.wrapped p n).bare := hb
  generalize s.wrapped p n = u at *
  refine ⟨t, he, ?_⟩
  have reads (id : RegId) (j : Nat) (hid : id ≠ .platPerfCtrl) : t.reg id j = u.reg id j := by
    rw [State.bare_reg hb]
    split
    · exact State.reg_setReg_ne hwc _ (.inl hid)
    · rfl
  obtain ⟨-, -, -, hlc, hhc⟩ := perfRegs_ne p n
  refine ⟨?_, ?_, fun hfrz => ?_⟩
  · rw [State.perf48, State.rf, reads _ _ hlc, reads _ _ hhc]
    exact hzero
  · rw [State.rb, reads _ _ (by decide)]
    exact hovf
  · rw [State.rb, State.bare_reg hb]
    split
    · change bitW ((u.orReg .platPerfCtrl p (2 ^ 30)).reg .platPerfCtrl p) 30 = true
      rw [State.orReg, State.reg_setReg_self hwc, bitW, BitVec.getLsbD_or,
        show (Word.ofNat (2 ^ 30)).getLsbD 30 = true from by decide, Bool.or_true]
    · next hno =>
      have h29 : u.rb .platPerfCtrl p 29 = true := by
        rw [State.rb, hctrl]
        exact hfrz
      exact Bool.of_not_eq_false fun h30 => hno ⟨h29, h30⟩

end Sys2Proof.Machine

/-! PROOFS. O60: the edge of a commit, by what its settings read afterwards (R21, R24). -/

namespace Sys2Proof.Machine

section
variable {α : Type} [DecidableEq α] {d : Nat → α}

theorem Store.lt_of_mem_wfD {m : Store α} {j k : Nat} {w : α} (h : Store.wfD d (some j) m = true) (hm : (k, w) ∈ m) : j < k := by
  induction m generalizing j with
  | nil => exact absurd hm nofun
  | cons e r ih =>
    obtain ⟨i, u⟩ := e
    obtain ⟨hlo, -, hr⟩ := Store.wfD_cons.mp h
    rcases List.mem_cons.mp hm with he | hm
    · obtain ⟨rfl, -⟩ := Prod.mk.inj he
      exact hlo j rfl
    · exact Nat.lt_trans (hlo j rfl) (ih hr hm)

/-- A canonical store reads what it lists. -/
theorem Store.get_of_mem_wfD {m : Store α} {lo : Option Nat} {k : Nat} {w : α} (h : Store.wfD d lo m = true) (hm : (k, w) ∈ m) (c : α) :
    Store.get c m k = w := by
  induction m generalizing lo with
  | nil => exact absurd hm nofun
  | cons e r ih =>
    obtain ⟨i, u⟩ := e
    obtain ⟨-, -, hr⟩ := Store.wfD_cons.mp h
    rcases List.mem_cons.mp hm with he | hm
    · obtain ⟨rfl, rfl⟩ := Prod.mk.inj he
      exact if_pos rfl
    · have hlt := Store.lt_of_mem_wfD hr hm
      rw [Store.get, if_neg (by omega), if_neg (by omega)]
      exact ih hr hm

/-- Keys that a filter by key lets pass read the same in a canonical store. -/
theorem Store.get_filter_wfD {m : Store α} (h : Store.wfD d none m = true) {f : Nat × α → Bool} {k : Nat} (hf : ∀ w, f (k, w) = true)
    (c : α) : Store.get c (m.filter f) k = Store.get c m k := by
  by_cases hm : ∃ w, (k, w) ∈ m
  · obtain ⟨w, hm⟩ := hm
    rw [Store.get_of_mem_wfD h hm, Store.get_of_mem_wfD (Store.wfD_filter f h) (List.mem_filter.mpr ⟨hm, hf w⟩)]
  · have hno : ∀ x ∈ m, x.1 ≠ k := fun x hx he => hm ⟨x.2, he ▸ hx⟩
    rw [Store.get_unlisted c hno, Store.get_unlisted c fun x hx => hno x (List.mem_filter.mp hx).1]

/-- The words of a store put into another. -/
def Store.putAll (m l : Store α) : Store α := l.foldl (fun m x => Store.put m x.1 x.2) m

omit [DecidableEq α] in
theorem Store.get_putAll_unlisted {l : Store α} {k : Nat} (h : ∀ x ∈ l, x.1 ≠ k) (c : α) (m : Store α) :
    Store.get c (m.putAll l) k = Store.get c m k := by
  induction l generalizing m with
  | nil => rfl
  | cons x l ih =>
    refine (ih (fun y hy => h y (List.mem_cons_of_mem _ hy)) _).trans ?_
    exact Store.get_put_ne c m x.2 (h x List.mem_cons_self).symm

theorem Store.get_putAll_listed {l : Store α} {lo : Option Nat} (hl : Store.wfD d lo l = true) {k : Nat} {w : α} (hm : (k, w) ∈ l) (c : α)
    (m : Store α) : Store.get c (m.putAll l) k = w := by
  induction l generalizing m lo with
  | nil => exact absurd hm nofun
  | cons x l ih =>
    obtain ⟨j, u⟩ := x
    obtain ⟨-, -, hr⟩ := Store.wfD_cons.mp hl
    rcases List.mem_cons.mp hm with he | hm
    · obtain ⟨rfl, rfl⟩ := Prod.mk.inj he
      refine (Store.get_putAll_unlisted (l := l) (fun y hy he => ?_) c (m.put k w)).trans (Store.get_put_self c m k w)
      exact Nat.lt_irrefl k (Store.lt_of_mem_wfD hr (he ▸ hy : (k, y.2) ∈ l))
    · exact ih hr hm _

end

variable {s : State}

theorem State.afterCommit_eq (s : State) (gs : List Nat) :
    s.afterCommit gs = Store.putAll ((s.epochs.headD []).filter fun x => match groupOfKey x.1 with | some g => !gs.contains g | none => false)
      (s.regs.filter fun x => match groupOfKey x.1 with | some g => gs.contains g | none => false) := rfl

/-- The settings after a commit: those of its groups as staged, the others as they were. -/
theorem State.afterCommit_reads (hc : regsCanonical s.regs) (he : regsCanonical (s.epochs.headD [])) {gs : List Nat} {id : RegId}
    {i g : Nat} (hg : groupOf id i = some g) :
    regOf (s.afterCommit gs) id i = if g ∈ gs then s.reg id i else s.cfg id i := by
  have hk : groupOfKey (regKey id i) = some g := (groupOfKey_regKey id i).trans hg
  unfold regOf
  rw [State.afterCommit_eq]
  split
  · next hin =>
    by_cases hm : ∃ w, (regKey id i, w) ∈ s.regs
    · obtain ⟨w, hm⟩ := hm
      have hread : s.reg id i = w := Store.get_of_mem_wfD hc hm _
      rw [hread]
      exact Store.get_putAll_listed (Store.wfD_filter _ hc) (List.mem_filter.mpr ⟨hm, by simp [hk, hin]⟩) _ _
    · have hno : ∀ x ∈ s.regs, x.1 ≠ regKey id i := fun x hx h => hm ⟨x.2, h ▸ hx⟩
      have hread : s.reg id i = coldWord id i := Store.get_unlisted _ hno
      rw [hread, Store.get_putAll_unlisted fun x hx => hno x (List.mem_filter.mp hx).1]
      refine Store.get_unlisted _ fun x hx h => ?_
      have := (List.mem_filter.mp hx).2
      rw [h, hk] at this
      simp [hin] at this
  · next hout =>
    rw [Store.get_putAll_unlisted fun x hx h => ?_]
    · exact Store.get_filter_wfD he (fun w => by simp [hk, hout]) _
    · have := (List.mem_filter.mp hx).2
      rw [h, hk] at this
      simp [hout] at this

theorem commitEdgeCompletes : Rules.CommitEdgeCompletes := by
  intro s hr hc he
  refine ⟨fun hb ht hh => by simp [State.edgeDue, hb, ht, hh], fun hdue => ?_⟩
  obtain ⟨t, hexec, hbare, -⟩ := completes_event (c := .commitEdge) (t := s.commitEdge) rfl rfl hr hdue
  refine ⟨t, hexec, (congrArg State.commit hbare :).trans rfl, fun id i g hg => ?_⟩
  have hep : t.epochs = s.afterCommit s.commit.groups :: s.epochs := (congrArg State.epochs hbare :).trans s.commitEdge_epochs
  have hcfg : t.cfg id i = regOf (s.afterCommit s.commit.groups) id i := by
    rw [State.cfg, hep]
    rfl
  rw [hcfg, State.afterCommit_reads hc he hg]

end Sys2Proof.Machine

/-! PROOFS. O60: the starts of frames, by what their port holds afterwards (R51, R53, R210). -/

namespace Sys2Proof.Machine

namespace State

variable {s : State}

theorem perf_ports (s : State) (p ev : Nat) (port cls : Option Nat) (n : Nat) : (s.perf p ev port cls n).ports = s.ports := by
  have bump (s : State) (k : Nat) : (s.perfBump p k n).ports = s.ports := by
    unfold State.perfBump
    split
    · rfl
    · obtain ⟨lo, hi, i⟩ := perfRegs p k
      dsimp -zeta only
      extract_lets v t u
      have ht : t.ports = s.ports := (State.setPerf48_ports ..).trans (State.modPlat_ports ..)
      have hu : u.ports = s.ports := (State.setReg_ports ..).trans ht
      clear_value t u
      repeat' split
      · exact ht
      · exact hu
      · exact hu
      · exact (State.modPlat_ports ..).trans ((State.setReg_ports ..).trans hu)
  unfold State.perf
  split
  · rfl
  · exact foldl_keeps (g := State.ports) (fun s k => by split <;> simp [bump]) _ _

theorem agg_ports (s : State) (i n : Nat) : (s.agg i n).ports = s.ports := by
  unfold State.agg
  split
  · exact State.setPerf48_ports ..
  · rfl

/-- A port with a link after a change reads as changed, in any store. -/
theorem port_modPort_linked {e : Nat} {f : PortSt → PortSt} (h : (f (s.port e)).link = true) :
    (s.modPort e f).port e = f (s.port e) := by
  have hne : f (s.port e) ≠ {} := fun he => by rw [he] at h; exact absurd h (by decide)
  have hset : (s.modPort e f).ports = s.ports.put e (f (s.port e)) := if_neg hne
  rw [State.port, hset]
  exact Store.get_put_self ..

theorem stampDue_linked {e : Nat} (now : Nat) {t : TxFrame} (hl : (s.port e).link = true) (ht : (s.port e).tx = some t) :
    ((s.stampDue e now).port e).macQ = (s.port e).macQ
      ∧ ∃ y, ((s.stampDue e now).port e).tx = some y ∧ y.start = t.start ∧ y.copy = t.copy := by
  have same {u : State} (h : u.port e = s.port e) : (u.port e).macQ = (s.port e).macQ
      ∧ ∃ y, (u.port e).tx = some y ∧ y.start = t.start ∧ y.copy = t.copy := by
    rw [h]
    exact ⟨rfl, t, ht, rfl, rfl⟩
  have stamp : ((s.stampTx e).port e).macQ = (s.port e).macQ
      ∧ ∃ y, ((s.stampTx e).port e).tx = some y ∧ y.start = t.start ∧ y.copy = t.copy := by
    unfold State.stampTx
    rw [ht]
    dsimp only
    split
    · next x hx =>
      split
      · have hp := s.tcApply_ports x.frame e t.cross t.shift t.bytes
        generalize s.tcApply x.frame e t.cross t.shift t.bytes = r at hp
        have hport : r.1.port e = s.port e := by rw [State.port, hp, State.port]
        rw [port_modPort_linked (by rw [hport]; exact hl), hport]
        exact ⟨rfl, _, rfl, rfl, rfl⟩
      · exact same rfl
    · exact same rfl
  unfold State.stampDue
  rw [ht]
  dsimp only
  split
  · exact stamp
  · exact same rfl

/-- A start leaves its frame in transmission from the start's instant, and its place in the transmit queues free. -/
theorem startTx_linked {e : Nat} (c start : Nat) (f : TxFrame) (hl : (s.port e).link = true) :
    (((s.startTx e c start f).port e).macQ[c]?).getD none = none
      ∧ ∃ y, ((s.startTx e c start f).port e).tx = some y ∧ y.start = start ∧ y.copy = f.copy := by
  unfold State.startTx
  extract_lets s1 n s2 b dur s3 q s4
  have hcredit : ((s.forwardCreditTo e c start).port e).link = true := by
    unfold State.forwardCreditTo
    split
    · unfold State.setQueue
      rw [port_modPort_linked hl]
      exact hl
    · exact hl
  have h2 : s2.ports = (s.forwardCreditTo e c start).ports := (agg_ports ..).trans ((perf_ports ..).trans (perf_ports ..))
  have hl2 : (s2.port e).link = true := by
    rw [State.port, h2]
    exact hcredit
  clear_value s2 b
  have h3 : s3.port e = _ := port_modPort_linked hl2
  have h4 : s4.port e = (s3.port e).setQueue c _ := port_modPort_linked (s := s3) (by rw [h3]; exact hl2)
  have hl4 : (s4.port e).link = true := by rw [h4, h3]; exact hl2
  have hq4 : (s4.port e).macQ = (s2.port e).macQ.set c none := by rw [h4, h3]; rfl
  have ht4 := congrArg PortSt.tx (h4.trans (by rw [h3]))
  clear_value s4
  obtain ⟨hmac, y, hy, hstart, hcopy⟩ := stampDue_linked s4.fs hl4 ht4
  refine ⟨?_, y, hy, hstart, hcopy⟩
  rw [hmac, hq4, List.getElem?_set, if_pos rfl]
  split <;> rfl

theorem checkStart_sound {t : State} {e cells : Nat} (h : s.cellsSound e = true) : s.checkStart t e cells = t := by
  unfold State.checkStart
  dsimp only
  split
  · rw [h]
    rfl
  · rfl

/-- The cells of a start that suffice for the frame suffice for its copy. -/
theorem mayStart_of_cells {p : PortSt} {cells : Nat} {f : TxFrame} (h : ∀ x, f.copy = some x → min p.cur x.cells ≤ cells) :
    p.mayStart cells (match f.copy with | some x => x.cells | none => 0) = true := by
  refine decide_eq_true ?_
  cases hf : f.copy with
  | none => exact Nat.le_trans (Nat.min_le_right ..) (Nat.zero_le _)
  | some x => exact h x hf

/-- Nothing of the switch's own goes before a frame. -/
theorem aheadWaits_free {e : Nat} (hp : (s.port e).pauseTx = []) (hh : e = 520 → s.healthDue = false) : s.aheadWaits e = false := by
  rw [State.aheadWaits, hp]
  by_cases he : e = 520
  · simp [hh he]
  · simp [he]

end State

variable {s : State}

theorem isMac_of {e : Nat} (h : e < 512 ∨ e = 520) : isMac e = true := by
  rcases h with h | h <;> simp [isMac, h]

theorem frameStartCompletes : Rules.FrameStartCompletes := by
  intro s e c cells f he hr hs hl ht hp hh hn hc
  have hstart : s.frameStart e cells = s.startTx e c s.fs f := by
    unfold State.frameStart
    dsimp only
    rw [if_neg (by simp [hl, ht, State.aheadWaits_free hp hh]), hn]
    exact if_pos (State.mayStart_of_cells hc)
  obtain ⟨t, hexec, hb, -⟩ := completes_event (c := .frameStart e cells) (can := true)
    (t := s.checkStart (s.frameStart e cells) e cells) rfl (isMac_of he) hr rfl
  rw [State.checkStart_sound hs, hstart] at hb
  obtain ⟨hmac, y, hy, hat, hcopy⟩ := State.startTx_linked c s.fs f hl
  have hport := State.bare_port hb e
  exact ⟨t, y, hexec, hport ▸ hy, hat, hcopy, hport ▸ hmac⟩

theorem projectedStartCompletes : Rules.ProjectedStartCompletes := by
  intro s e c cells at0 f he hr hs hj hle hpause hhit hl ht hp hh hw hc
  have hstart : s.projectedStart e cells = s.startTx e c at0 f := by
    unfold State.projectedStart
    dsimp only
    rw [hj]
    dsimp only
    rw [if_neg (Nat.not_lt.mpr hle), if_neg]
    simp only [hpause, hhit, hl, ht, State.aheadWaits_free hp hh, Option.isSome_none, decide_eq_false (Nat.not_lt.mpr hw),
      Bool.not_true, Bool.false_or, Bool.or_false, Bool.not_eq_true, Bool.not_eq_false']
    exact State.mayStart_of_cells hc
  obtain ⟨t, hexec, hb, -⟩ := completes_event (c := .projectedStart e cells) (can := true)
    (t := s.checkStart (s.projectedStart e cells) e cells) rfl (isMac_of he) hr rfl
  rw [State.checkStart_sound hs, hstart] at hb
  obtain ⟨hmac, y, hy, hat, hcopy⟩ := State.startTx_linked c at0 f hl
  have hport := State.bare_port hb e
  exact ⟨t, y, hexec, hport ▸ hy, hat, hcopy, hport ▸ hmac⟩

end Sys2Proof.Machine

/-! PROOFS. O60: transmission selection, by what its port holds afterwards (R206, R207). -/

namespace Sys2Proof.Machine

/-! ### What a port has queued and handed -/

/-- What a port has queued and handed to its MAC, and its Timetable. -/
def PortSt.lanes (p : PortSt) : List (List Copy) × List (Option TxFrame) × GateSeq := (p.queues.map Queue.copies, p.macQ, p.tt)

theorem PortSt.copies_eq (p : PortSt) (k : Nat) : (p.queue k).copies = (p.lanes.1[k]?).getD [] := by
  unfold PortSt.queue PortSt.lanes
  rw [List.getElem?_map]
  cases p.queues[k]? <;> rfl

theorem PortSt.lanes_setQueue {p : PortSt} {k : Nat} {q : Queue} (h : q.copies = (p.queue k).copies) : (p.setQueue k q).lanes = p.lanes := by
  have hmap : (p.queues.set k q).map Queue.copies = p.queues.map Queue.copies := by
    rw [List.map_set]
    by_cases hk : k < p.queues.length
    · rw [h, PortSt.queue, List.getElem?_eq_getElem hk, Option.getD_some]
      exact List.ext_getElem? fun j => by
        rw [List.getElem?_set]
        split
        · next hj =>
          subst hj
          rw [List.length_map, if_pos hk, List.getElem?_map, List.getElem?_eq_getElem hk]
          rfl
        · rfl
    · exact List.set_eq_of_length_le (by simpa using hk)
  exact congrArg (fun l => (l, p.macQ, p.tt)) hmap

namespace State

variable {s t : State} {e : Nat}

/-- A change that leaves what port `e` has queued and handed. -/
def keepsLanes (e : Nat) (s t : State) : Prop := s.ports.wf {} = true → t.ports.wf {} = true ∧ (t.port e).lanes = (s.port e).lanes

theorem keepsLanes.trans {u : State} (h : keepsLanes e s t) (h' : keepsLanes e t u) : keepsLanes e s u := fun hw =>
  ⟨(h' (h hw).1).1, (h' (h hw).1).2.trans (h hw).2⟩

theorem keepsLanes_of_ports (h : t.ports = s.ports) : keepsLanes e s t := fun hw => by
  unfold State.port
  rw [h]
  exact ⟨hw, rfl⟩

theorem keepsLanes_modPort (n : Nat) {f : PortSt → PortSt} (h : (f (s.port n)).lanes = (s.port n).lanes) : keepsLanes e s (s.modPort n f) := by
  intro hw
  refine ⟨wf_setPort hw n _, ?_⟩
  by_cases he : e = n
  · subst he
    rw [State.modPort, port_setPort_self hw]
    exact h
  · rw [State.modPort, port_setPort_ne hw he]

theorem keepsLanes_setQueue (n k : Nat) {q : Queue} (h : q.copies = ((s.port n).queue k).copies) : keepsLanes e s (s.setQueue n k q) :=
  keepsLanes_modPort n (PortSt.lanes_setQueue h)

theorem keepsLanes_ite {c : Prop} [Decidable c] {u : State} (ht : keepsLanes e s t) (hu : keepsLanes e s u) :
    keepsLanes e s (if c then t else u) := by
  split
  · exact ht
  · exact hu

theorem keepsLanes_refl : keepsLanes e s s := keepsLanes_of_ports rfl

theorem countIf_ports (s : State) (c : Bool) (b : CntBank) (u i : Nat) : (s.countIf c b u i).ports = s.ports := by
  unfold State.countIf
  split
  · exact s.count_ports ..
  · rfl

theorem countPort_ports (s : State) (e slot n : Nat) : (s.countPort e slot n).ports = s.ports := by
  unfold State.countPort
  split
  · exact s.countN_ports ..
  · rfl

theorem keepsLanes_setShared (n : Nat) : keepsLanes e s (s.setShared n) := by
  unfold State.setShared
  extract_lets before t free u alarm
  have hu : u.ports = s.ports := by
    unfold u
    split <;> rfl
  clear_value u
  refine keepsLanes_ite (keepsLanes_of_ports hu) (keepsLanes_of_ports hu)

theorem keepsLanes_setRef (r : CellRef) : keepsLanes e s (s.setRef r) := keepsLanes_of_ports rfl

theorem keepsLanes_giveShared (h : keepsLanes e s t) (n : Nat) : keepsLanes e s (t.giveShared n) := h.trans (keepsLanes_setShared _)

theorem keepsLanes_chargeCapture (no : Nat) : keepsLanes e s (s.chargeCapture no) := by
  unfold State.chargeCapture
  split
  · next r hr =>
    have hset := keepsLanes_setRef (e := e) (s := s) { r with capShared := true }
    exact keepsLanes_ite (hset.trans (keepsLanes_setShared _)) keepsLanes_refl
  · exact keepsLanes_refl

theorem keepsLanes_release (x : Copy) : keepsLanes e s (s.release x).1 := by
  have charged {t : State} {c : Prop} [Decidable c] (h : keepsLanes e s t) :
      keepsLanes e s (if c then t.chargeCapture x.frame.no else t) :=
    keepsLanes_ite (h.trans (keepsLanes_chargeCapture _)) h
  unfold State.release
  extract_lets q
  cases x.pool with
  | reservation => exact charged (keepsLanes_setQueue _ _ rfl)
  | shared =>
    have hset : keepsLanes e s (s.setQueue x.port x.cls { q with sharedUsed := q.sharedUsed - x.cells }) := keepsLanes_setQueue _ _ rfl
    exact charged (keepsLanes_giveShared hset _)
  | fixed => exact keepsLanes_refl
  | account =>
    dsimp only
    split
    · exact keepsLanes_refl
    · next r hr =>
      split
      · refine keepsLanes.trans (keepsLanes.trans ?_ (keepsLanes_setRef _)) (keepsLanes_chargeCapture _)
        split
        · next a ha =>
          have hset : keepsLanes e s (s.modPort r.port fun p => p.setAcct a { p.acct a with
              shared := (p.acct a).shared - r.acctShared, head := (p.acct a).head - r.acctHead }) := keepsLanes_modPort _ rfl
          exact keepsLanes_giveShared hset _
        · exact keepsLanes_refl
      · exact keepsLanes_setRef _

theorem keepsLanes_forwardCredit (n c : Nat) : keepsLanes e s (s.forwardCredit n c) := by
  unfold State.forwardCredit State.forwardCreditTo
  exact keepsLanes_ite (keepsLanes_setQueue _ _ rfl) keepsLanes_refl

theorem keepsLanes_chargeBuckets (n c l : Nat) : keepsLanes e s (s.chargeBuckets n c l) := by
  unfold State.chargeBuckets
  extract_lets need q t
  have ht : keepsLanes e s t := keepsLanes_ite (keepsLanes_setQueue n c rfl) keepsLanes_refl
  have hmod : keepsLanes e t (t.modPort n fun p => { p with bucket := { tokens := t.portTokens n - need, last := t.mono } }) :=
    keepsLanes_modPort n rfl
  exact keepsLanes_ite (ht.trans hmod) ht

/-- What taking the head of a queue leaves of its port. -/
theorem takeCopy_lanes {c : Nat} {x y : Copy} {rest : List Copy} (hw : s.ports.wf {} = true) (hq : ((s.port e).queue c).copies = y :: rest) :
    (s.takeCopy e c x).1.ports.wf {} = true
      ∧ (((s.takeCopy e c x).1.port e).queue c).copies = rest
      ∧ ((s.takeCopy e c x).1.port e).macQ = (s.port e).macQ ∧ ((s.takeCopy e c x).1.port e).tt = (s.port e).tt := by
  unfold State.takeCopy
  extract_lets s1 s2 q late s3
  have h2 : keepsLanes e s s2 := ((keepsLanes_forwardCredit e c).trans (keepsLanes_chargeBuckets e c _)).trans
    (keepsLanes_of_ports (s1.count_ports ..))
  clear_value s2
  obtain ⟨hw2, hl2⟩ := h2 hw
  have hq2 : q.copies = y :: rest := by
    rw [← hq, PortSt.copies_eq (s.port e), ← hl2]
    exact PortSt.copies_eq ..
  have hlen : c < (s2.port e).queues.length := by
    refine Nat.lt_of_not_le fun hle => ?_
    have hnone : q = {} := by
      unfold q PortSt.queue
      rw [List.getElem?_eq_none hle]
      rfl
    rw [hnone] at hq2
    exact absurd hq2 nofun
  have h3 : s3.port e = (s2.port e).setQueue c { q with copies := q.copies.drop 1, maxDelay := max q.maxDelay late } :=
    port_setPort_self hw2 e _
  have hw3 : s3.ports.wf {} = true := wf_setPort hw2 e _
  clear_value s3
  obtain ⟨hw4, hl4⟩ := keepsLanes_release (e := e) x hw3
  refine ⟨hw4, ?_, ?_, ?_⟩
  · rw [PortSt.copies_eq, hl4, ← PortSt.copies_eq, h3, PortSt.queue_setQueue hlen]
    exact congrArg (List.drop 1) hq2
  · exact (congrArg (fun l => l.2.1) hl4).trans ((congrArg PortSt.macQ h3).trans (congrArg (fun l => l.2.1) hl2))
  · exact (congrArg (fun l => l.2.2) hl4).trans ((congrArg PortSt.tt h3).trans (congrArg (fun l => l.2.2) hl2))

theorem apart_takeCopy (c : Nat) (x : Copy) : (s.takeCopy e c x).1.apart = s.apart := by
  have hcharge (t : State) (l : Nat) : (t.chargeBuckets e c l).apart = t.apart := by
    unfold State.chargeBuckets
    extract_lets need q u
    have hu : u.apart = t.apart := by
      unfold u
      split
      · exact t.apart_setQueue _ _ _
      · rfl
    clear_value u
    split
    · exact (u.apart_modPort _ _).trans hu
    · exact hu
  unfold State.takeCopy
  extract_lets s1 s2 q late s3
  exact (s3.apart_release x).trans ((s2.apart_setQueue _ _ _).trans ((s1.apart_count ..).trans ((hcharge ..).trans (s.apart_forwardCredit ..))))

/-- The head of a queue handed to the MAC of an untimed port. -/
theorem handCopy_hands {c : Nat} {x : Copy} {rest : List Copy} (hw : s.ports.wf {} = true)
    (hq : ((s.port e).queue c).copies = x :: rest) (ht : (s.port e).timed = false) (hm : c < (s.port e).macQ.length)
    (hlen : e < 512 → (s.edit x.frame e).bytes.length + 4 ≤ s.cfg.maxFrame e) :
    (((s.handCopy e c x).port e).queue c).copies = rest
      ∧ ∃ y, ((s.handCopy e c x).port e).macQ[c]? = some (some y) ∧ y.copy.map (·.frame) = some x.frame ∧ y.projected = none := by
  obtain ⟨hw1, hc1, hm1, ht1⟩ := takeCopy_lanes (x := x) hw hq
  have hf := s.takeCopy_frame e c x
  have hep := epochs_of_apart (s.apart_takeCopy c x (e := e))
  unfold State.handCopy
  extract_lets l p ed
  generalize s.takeCopy e c x = r at *
  obtain ⟨s1, x1⟩ := r
  dsimp -zeta only at hw1 hc1 hm1 ht1 hf hep ⊢
  extract_lets s2 s3 timed s4 u v
  have hp3 : s3.ports = s1.ports := (s2.countIf_ports ..).trans (s1.countIf_ports ..)
  have hep3 : s3.epochs = s.epochs := (epochs_of_apart ((s2.apart_countIf ..).trans (s1.apart_countIf ..))).trans hep
  have hport3 : s3.port e = s1.port e := by rw [State.port, hp3, State.port]
  have htimed : timed = false := by
    unfold timed
    rw [hport3, PortSt.timed, ht1]
    exact ht
  have h4 : s4 = s3 := if_neg (by rw [htimed]; exact Bool.false_ne_true)
  have hup : u.ports = s1.ports := by
    unfold u
    rw [h4]
    split
    · exact (s3.countPort_ports ..).trans hp3
    · exact hp3
  have huport : u.port e = s1.port e := by rw [State.port, hup, State.port]
  have hv : v.copy.map (·.frame) = some x.frame ∧ v.projected = none :=
    ⟨congrArg some hf, if_neg (by rw [htimed]; exact Bool.false_ne_true)⟩
  have hfits : ¬ (e < 512 ∧ s4.cfg.maxFrame e < ed.bytes.length + 4) := by
    rintro ⟨he, hlt⟩
    rw [h4, State.cfg, hep3] at hlt
    exact absurd (hlen he) (Nat.not_le.mpr hlt)
  clear_value u v s4
  rw [if_neg hfits, State.modPort, port_setPort_self (by rw [hup]; exact hw1), huport]
  refine ⟨hc1, v, ?_, hv⟩
  dsimp only
  rw [hm1, List.getElem?_set_self hm]

/-! ### The class selected -/

theorem dropLateHeads_unheld {c : Nat} (n : Nat) (h : ∀ x rest, ((s.port e).queue c).copies = x :: rest → x.held = false) :
    s.dropLateHeads e c n = s := by
  cases n with
  | zero => rfl
  | succ n =>
    unfold State.dropLateHeads
    split
    · rfl
    · next x rest hx =>
      split
      · exact if_neg (by simp [h x rest hx])
      · rfl

/-- Of an untimed port the highest class that has a copy is selected where its head may go. -/
theorem selectFrom_highest {c : Nat} {x : Copy} {rest : List Copy} {ready : State → Nat → Copy → Bool}
    (hq : ((s.port e).queue c).copies = x :: rest) (hx : x.held = false) (hwr : x.written = true) (hready : ready s c x = true)
    (ht : (s.port e).timed = false) (hsh : s.shaperAllows e c (s.txLen x.frame e) = true) :
    ∀ l : List Nat, l.Pairwise (· > ·) → c ∈ l → (∀ k ∈ l, c < k → ((s.port e).queue k).copies = []) →
      s.selectFrom e ready l = (s, some c) := by
  intro l
  induction l with
  | nil => exact fun _ h => absurd h nofun
  | cons k l ih =>
    intro hl hc hempty
    obtain ⟨hk, hl⟩ := List.pairwise_cons.mp hl
    unfold State.selectFrom
    by_cases hkc : k = c
    · subst hkc
      have hsame : s.dropLateHeads e k ((s.port e).queue k).copies.length = s :=
        dropLateHeads_unheld _ fun y r hy => by
          obtain ⟨rfl, -⟩ := List.cons.inj (hq.symm.trans hy)
          exact hx
      rw [hsame]
      dsimp only
      split
      · next h => exact absurd (hq.symm.trans h) nofun
      · next y r h =>
        obtain ⟨rfl, -⟩ := List.cons.inj (hq.symm.trans h)
        rw [if_neg (by simp [hwr, hready, ht, hsh]), if_neg (by simp [ht])]
    · have hcl : c ∈ l := (List.mem_cons.mp hc).resolve_left fun h => hkc h.symm
      have hnone := hempty k List.mem_cons_self (hk c hcl)
      have hsame : s.dropLateHeads e k ((s.port e).queue k).copies.length = s :=
        dropLateHeads_unheld _ fun y r hy => by rw [hnone] at hy; exact absurd hy nofun
      rw [hsame]
      dsimp only
      split
      · exact ih hl hcl fun j hj => hempty j (List.mem_cons_of_mem _ hj)
      · next y r h => exact absurd (hnone.symm.trans h) nofun

end State

variable {s : State}

theorem selectionCompletes : Rules.SelectionCompletes := by
  intro s e c bufs x rest he hc hr hw hl hh hrun ht hm hfree habove hq hx hwr hsh hlen
  have hselect : s.select e = s.handCopy e c x := by
    have hfrom := State.selectFrom_highest (ready := fun s c _ => ((((s.port e).macQ)[c]?).getD none).isNone) hq hx hwr
      (by simp [hfree]) ht hsh highFirst (by decide) ((by decide : ∀ c < 8, c ∈ highFirst) c hc)
      (fun k hk hlt => habove k hlt ((by decide : ∀ k ∈ highFirst, k < 8) k hk))
    unfold State.select
    dsimp only
    rw [if_neg, show s.selectFrom e _ [7, 6, 5, 4, 3, 2, 1, 0] = (s, some c) from hfrom]
    · dsimp only
      split
      · next y r h =>
        obtain ⟨rfl, -⟩ := List.cons.inj (hq.symm.trans h)
        rfl
      · next h => exact absurd (hq.symm.trans h) nofun
    · simpa [hl, hh, ht] using hrun
  have h528 : ¬ 528 ≤ e := by omega
  have hegress : isEgress e = true := by
    rcases he with h | h <;> simp [isEgress, h]
  obtain ⟨t, hexec, hb, -⟩ := completes_event (c := .transmissionSelection e bufs) (can := e < 528 || !s.retained)
    (t := if 528 ≤ e then s.hostSelect (e - 528) bufs else s.select e) rfl hegress hr (by simp; omega)
  rw [if_neg h528, hselect] at hb
  obtain ⟨hcopies, y, hy, hframe, hproj⟩ := State.handCopy_hands hw hq ht (by rw [hm]; exact hc) hlen
  have hport := State.bare_port hb e
  exact ⟨t, y, hexec, by rw [hport]; exact hcopies, by rw [hport]; exact hy, hframe, hproj⟩

/-- Settles O60, rule by rule: each command's condition holds under its premises, and what it leaves is read from its next state. -/
theorem commandsComplete : Obligations.CommandsComplete :=
  ⟨canonicalAtReset, commitEdgeCompletes, selectionCompletes, frameStartCompletes, projectedStartCompletes, spiCompletes,
    unmaskCompletes, refreshCompletes, haltCompletes, wrapCompletes⟩

end Sys2Proof.Machine
